-- ==== Sys2Proof/Word.lean ====
section
/-!
DEFINITION. The word types of the model: the 64-bit word of the array, the 72-bit codeword
of R467, bytes, and the sparse map that holds every indexed store.
-/

namespace Sys2Proof

/-- A 64-bit word (R27). -/
abbrev Word := BitVec 64

/-- A SEC-DED (72,64) codeword (R467): data d[63:0] in bits [63:0], check bits c[7:0] in
bits [71:64]. -/
abbrev Code := BitVec 72

/-- One byte. -/
abbrev Byte := BitVec 8

/-- A store indexed by numbers, held as a list of (key, value) pairs in strictly rising key
order with no pair equal to the store's default; a key that is not listed reads the default. -/
abbrev SMap (β : Type) := List (Nat × β)

end Sys2Proof
end

