-- ==== Sys2Proof/Syntax.lean ====
section
/-!
DEFINITION. The commands of the block, one constructor for every row of the spec's opcode table: what a register or
memory access, a line, a protocol partner or the passing of time does to the device. An operand is what the row leaves
to the outside: the unit, the value written, the data that arrive, upsets of stored bits.
-/

namespace Sys2Proof

/-- A cell for the command that an operation issues there: physical cabinet, physical column and row, the bits that
have upset in the RAM word it reads, and those in the word of the FIFO it reads. -/
structure CellRef where
  p : Nat
  pcol : Nat
  row : Nat
  ramErr : Code
  inErr : Code
  deriving DecidableEq, Repr

/-- What a stop injects (R136, R149): a response or a request that waits at it, an item of an outbound FIFO, of a
converter channel's receive FIFO, of a DMA channel, of a radio link or of a span flow, or an agent's request. -/
inductive InjSrc where
  | rsp
  | req
  | fifo (k : Nat)
  | conv (k : Nat)
  | dma (c : Nat)
  | radio (l : Nat)
  | span
  | agent (ty ddev dstop tag size xhdr addr : Nat) (data : List Word)
  deriving DecidableEq, Repr

/-- A command. -/
inductive Instr where
  /-- POWER_ON_RESET (R106): the banks' sensed levels, two bits a bank. -/
  | powerOnReset (vsel : Nat)
  /-- RESET_RELEASE (R312): the rising edge of PORST_N or WARMRST_N with the straps' levels. -/
  | resetRelease (sel : Nat) (pull : Bool)
  /-- WARM_RESET (R311). -/
  | warmReset (pin : Bool)
  /-- POWER_GOOD_LOSS (R456): the device is held as by a low PORST_N. -/
  | powerGoodLoss
  /-- GENERIC_REGISTER_WRITE (R5).  -/
  | genericRegisterWrite (m a n v : Nat)
  /-- RC_FIELD_READ (R8): a read of `n` bytes at address `a` of register space by any master. -/
  | rcFieldRead (m a n : Nat)
  /-- PLL_LOSS_OF_LOCK (R11). -/
  | pllLossOfLock (k : Nat)
  /-- PLL_RELOCK (R11). -/
  | pllRelock (k : Nat)
  /-- TICK_EDGE (R13, R15): the edge, with the answers that it completes. -/
  | tickEdge
  /-- TICK_GUARD (R24). -/
  | tickGuard
  /-- TICK_SOURCE_EDGE (R18): only an external source is compared. -/
  | tickSourceEdge (err : Int)
  /-- TICK_EDGE_MISSED (R19). -/
  | tickEdgeMissed
  /-- TICK_LEN_WRITE (R21). -/
  | tickLenWrite (v : Nat)
  /-- TICK_SOURCE_WRITE (R20). -/
  | tickSourceWrite (v : Nat)
  /-- REALIGNMENT_TICK (R20): how many cycles after the tick's own length each pin's edge comes. -/
  | realignmentTick (sysref tickIn : Nat)
  /-- TICK_COUNT_READ (R26). -/
  | tickCountRead
  /-- SLOT_START (R94). -/
  | slotStart (p : Nat)
  /-- DRAWER_FETCH (R87), with the upset bits of the three stored words. -/
  | drawerFetch (p pcol row : Nat) (e0 e1 e2 : Code)
  /-- NOP (R38, opcode 0x00). -/
  | nop (r : CellRef)
  /-- MOV (R38, opcode 0x01). -/
  | mov (r : CellRef)
  /-- AND (R38, opcode 0x02). -/
  | and (r : CellRef)
  /-- OR (R38, opcode 0x03). -/
  | or (r : CellRef)
  /-- XOR (R38, opcode 0x04). -/
  | xor (r : CellRef)
  /-- ANDN (R38, opcode 0x05). -/
  | andn (r : CellRef)
  /-- SHL (R38, opcode 0x06). -/
  | shl (r : CellRef)
  /-- SHR (R38, opcode 0x07). -/
  | shr (r : CellRef)
  /-- SHUF (R38, opcode 0x08). -/
  | shuf (r : CellRef)
  /-- SEL (R38, opcode 0x09). -/
  | sel (r : CellRef)
  /-- ADD (R38, opcode 0x10). -/
  | add (r : CellRef)
  /-- SUB (R38, opcode 0x11). -/
  | sub (r : CellRef)
  /-- NEG (R38, opcode 0x12). -/
  | neg (r : CellRef)
  /-- ABS (R38, opcode 0x13). -/
  | abs (r : CellRef)
  /-- MAX (R38, opcode 0x14). -/
  | max (r : CellRef)
  /-- MIN (R38, opcode 0x15). -/
  | min (r : CellRef)
  /-- CMPGT (R38, opcode 0x16). -/
  | cmpgt (r : CellRef)
  /-- CMPEQ (R38, opcode 0x17). -/
  | cmpeq (r : CellRef)
  /-- MUL (R38, opcode 0x18). -/
  | mul (r : CellRef)
  /-- MUL_RESULT_LANDING (R55). -/
  | mulResultLanding (p pcol row : Nat)
  /-- MAC4 (R38, opcode 0x20). -/
  | mac4 (r : CellRef)
  /-- MSU4 (R38, opcode 0x21). -/
  | msu4 (r : CellRef)
  /-- DOT4 (R38, opcode 0x22). -/
  | dot4 (r : CellRef)
  /-- MAC32 (R38, opcode 0x23). -/
  | mac32 (r : CellRef)
  /-- CMAC (R38, opcode 0x24). -/
  | cmac (r : CellRef)
  /-- CMACJ (R38, opcode 0x25). -/
  | cmacj (r : CellRef)
  /-- MAC_ADD_STAGE (R47). -/
  | macAddStage (p pcol row : Nat)
  /-- XL_EXTRACTION (R54). -/
  | xlExtraction (p pcol row : Nat)
  /-- CLRA (R38, opcode 0x26). -/
  | clra (r : CellRef)
  /-- CLRF (R38, opcode 0x27). -/
  | clrf (r : CellRef)
  /-- EXTRACT (R38, opcode 0x28). -/
  | extract (r : CellRef)
  /-- NORM (R38, opcode 0x30). -/
  | norm (r : CellRef)
  /-- EXP (R38, opcode 0x31). -/
  | exp (r : CellRef)
  /-- BEXP (R38, opcode 0x32). -/
  | bexp (r : CellRef)
  /-- BNORM (R38, opcode 0x33). -/
  | bnorm (r : CellRef)
  /-- MIN2 (R38, opcode 0x34). -/
  | min2 (r : CellRef)
  /-- MSEL (R38, opcode 0x35). -/
  | msel (r : CellRef)
  /-- CROT (R38, opcode 0x36). -/
  | crot (r : CellRef)
  /-- LUT (R38, opcode 0x37). -/
  | lut (r : CellRef)
  /-- RAM_WRITE_BACK (R75). -/
  | ramWriteBack (p pcol row : Nat)
  /-- RAM_PATROL_READ (R77). -/
  | ramPatrolRead (p pcol row : Nat) (err : Code)
  /-- CONFIG_PORT_RAM_ACCESS (R74). -/
  | configPortRamAccess (p pcol row a : Nat) (wr : Bool) (w : Word) (err : Code)
  /-- SCALE_SUB_WRITE (R52). -/
  | scaleSubWrite (p amount : Nat)
  /-- RAM_CE_SUB_WRITE (R80). -/
  | ramCeSubWrite (p amount : Nat)
  /-- RAM_LAST_CLEAR (R80). -/
  | ramLastClear (p : Nat)
  /-- CFG_FAULT_CLEAR (R115): writing 1 to VALID clears the record and arms the register. -/
  | cfgFaultClear (p : Nat)
  /-- PLAN_SELECT_WRITE (R97). -/
  | planSelectWrite (p v : Nat)
  /-- DOOR_BUFFER_DRAIN (R102). -/
  | doorBufferDrain (p port : Nat)
  /-- BORDER_WORD_ARRIVAL (R104). -/
  | borderWordArrival (p i : Nat)
  /-- DRAIN_WINDOW_END (R169). -/
  | drainWindowEnd (p : Nat)
  /-- CAPTURE_ARM_WRITE (R113): `mm` for a writer that is Kaluno in machine mode. -/
  | captureArmWrite (p v : Nat) (mm : Bool)
  /-- CAPTURE_SNAPSHOT (R114). -/
  | captureSnapshot (p : Nat)
  /-- FIFO_WRITE (R119).  -/
  | fifoWrite (k : Nat) (w : Word) (st en : Bool) (len prio : Nat) (poison : Bool)
  /-- FIFO_READ (R125): the answer's status is 1 where RVALID is low, 2 where RPOISON is high. -/
  | fifoRead (k : Nat) (err : Code)
  /-- FIFO_FREE_SWAP (R121). -/
  | fifoFreeSwap (k : Nat)
  /-- FIFO_FLUSH (R128). -/
  | fifoFlush (k : Nat)
  /-- FIFO_MODE_WRITE (R133): the owner writes SWAP, and PRIO and ILENM1 of FIFO_WFRAME where it writes that too. -/
  | fifoModeWrite (k : Nat) (v : Nat × Option (Nat × Nat))
  /-- FIFO_PEAK_READ (R127). -/
  | fifoPeakRead (k : Nat)
  /-- PACKET_INJECT (R144): `errs` are the upset bits of the words read from a FIFO. -/
  | packetInject (st : Nat) (x : InjSrc) (errs : List Code)
  /-- FLIT_FORWARD (R145). -/
  | flitForward (net st out : Nat) (errs : List Code) (sbErr : Nat)
  /-- ESCAPE_ENTRY (R146). -/
  | escapeEntry (net st port : Nat)
  /-- PACKET_EJECT (R158). -/
  | packetEject (net st port ln : Nat)
  /-- STREAM_REORDER_WRITE (R153): FIFOs by R117, inlets as `inletKey`, span frames as 131,072 + device. -/
  | streamReorderWrite (k : Nat)
  /-- SEQ_GAP_TIMEOUT (R154). -/
  | seqGapTimeout (k : Nat)
  /-- REQUEST_TIMEOUT (R159). -/
  | requestTimeout (st : Nat)
  /-- ROUTER_MODE_WRITE (R161). -/
  | routerModeWrite (st mode : Nat)
  /-- BYPASS_SWITCH_CLOSE (R160). -/
  | bypassSwitchClose (st : Nat)
  /-- ROUTER_INTERNAL_FAULT (R162). -/
  | routerInternalFault (st : Nat)
  /-- TEST_ABORT_BY_PACKET (R166). -/
  | testAbortByPacket (st : Nat)
  /-- NOC_CFG_WRITE (R171). -/
  | nocCfgWrite (reorder drain req : Nat)
  /-- JESD_LINK_ENABLE (R186): JPT_LINK_CFG is written with EN = 1. -/
  | jesdLinkEnable (j n v : Nat)
  /-- JESD_LINK_DISABLE (R186): JPT_LINK_CFG is written with EN = 0. -/
  | jesdLinkDisable (j n v : Nat)
  /-- JESD_RETRAIN (R186): RETRAIN is written with the other fields as they stand. -/
  | jesdRetrain (j n : Nat)
  /-- JESD_CDR_LOCK (R186). -/
  | jesdCdrLock (j n : Nat)
  /-- JESD_BLOCK_LOCK (R186). -/
  | jesdBlockLock (j n : Nat)
  /-- JESD_FRAME_LOCK (R186). -/
  | jesdFrameLock (j n : Nat) (ilas : Option Nat) (skew : Nat)
  /-- JESD_RELEASE (R185); `lat` is the latency measured. -/
  | jesdRelease (j n lat : Nat)
  /-- JESD_BRINGUP_TIMEOUT (R186): REASON names the state. -/
  | jesdBringupTimeout (j n : Nat)
  /-- JESD_LOCK_LOSS (R186). -/
  | jesdLockLoss (j n lane : Nat)
  /-- SYSREF_ARM (R183). -/
  | sysrefArm (j : Nat)
  /-- SYSREF_EDGE (R183): its device clock cycle, and the multiframe clocks' period in such cycles. -/
  | sysrefEdge (j : Nat) (at_ : Nat × Nat)
  /-- RX_SAMPLE_WORD (R177). -/
  | rxSampleWord (j p : Nat) (smp : List (List Nat)) (hdr crc : Nat)
  /-- TX_SAMPLE_READ (R178). -/
  | txSampleRead (j p : Nat) (e0 e1 : Code)
  /-- ETH_PORT_ENABLE (R192): CPT_PORT_CFG is written with EN = 1. -/
  | ethPortEnable (n v : Nat)
  /-- ETH_LINK_DOWN (R194); `mid` says that a frame was in transmission. -/
  | ethLinkDown (n : Nat) (mid : Bool)
  /-- RX_FRAME (R193). -/
  | rxFrame (n : Nat) (l : List Byte) (err : Bool) (fec : Nat)
  /-- LEXICON_LOOKUP (R206): `up` are upset bits of stored half-entries. -/
  | lexiconLookup (up : List (Nat × Code))
  /-- TX_FRAME (R194). -/
  | txFrame (n : Nat)
  /-- TOD_STEP_WRITE (R196). -/
  | todStepWrite (v : Nat)
  /-- TOD_READ (R196). -/
  | todRead
  /-- TXTS_READ (R199). -/
  | txtsRead (n : Nat)
  /-- LEX_SEARCH (R208). -/
  | lexSearch (loc : Nat) (up : List (Nat × Code))
  /-- LEX_INSERT (R209). -/
  | lexInsert (loc : Nat) (up : List (Nat × Code))
  /-- LEX_DELETE (R208). -/
  | lexDelete (loc : Nat) (up : List (Nat × Code))
  /-- LEX_UPDATE (R208). -/
  | lexUpdate (loc : Nat) (up : List (Nat × Code))
  /-- LEX_READ (R208). -/
  | lexRead (loc : Nat) (up : List (Nat × Code))
  /-- LEX_READ_CLEAR_HIT (R208). -/
  | lexReadClearHit (loc : Nat) (up : List (Nat × Code))
  /-- LEX_PORT_CFG_WRITE (R210). -/
  | lexPortCfgWrite (i v : Nat)
  /-- MIRROR_CONFIRM (R210). -/
  | mirrorConfirm
  /-- MIRROR_TIMEOUT (R210). -/
  | mirrorTimeout
  /-- LEX_PATROL (R211). -/
  | lexPatrol (up : List (Nat × Code))
  /-- LEX_ROW_SPARE (R212). -/
  | lexRowSpare
  /-- SEGMENT_ARRIVAL (R203): inlets 0 to 3, and inlet 4 of port 0. -/
  | segmentArrival (k d : Nat)
  /-- BUDGET_WORD (R218). -/
  | budgetWord (k : Nat)
  /-- BUDGET_DEADLINE (R220). -/
  | budgetDeadline (ue : List Nat)
  /-- CLIENT_SELECTION (R217).  -/
  | clientSelection (span : Bool) (id : Nat) (ue : List Nat)
  /-- QMG_POOL_WRITE (R214). -/
  | qmgPoolWrite (isBase : Bool) (v : Nat)
  /-- BUDGET_DL_WRITE (R220). -/
  | budgetDlWrite (v : Nat)
  /-- QMG_LINK_ENABLE (R220). -/
  | qmgLinkEnable (l : Nat) (en : Bool) (maxb : Nat)
  /-- GDDR_LINE_READ (R232): the line's words are the answer's bytes, status 2 where one is poisoned. -/
  | gddrLineRead (line : Nat) (up : List (Nat × Code)) (edc : List Nat)
  /-- GDDR_LINE_WRITE (R231): sixteen words with their poison marks. -/
  | gddrLineWrite (line : Nat) (ws : List (Word × Bool)) (edc : List Nat)
  /-- GDDR_PARTIAL_WRITE (R240). -/
  | gddrPartialWrite (line off : Nat) (b : List Byte) (pois : Bool) (up : List (Nat × Code)) (edc : List Nat)
  /-- GDM_FAIL_WRITE (R235). -/
  | gdmFailWrite (d : Nat)
  /-- GDM_REBUILD_WRITE (R237). -/
  | gdmRebuildWrite
  /-- GDDR_REBUILD_DONE (R237). -/
  | gddrRebuildDone
  /-- GDDR_ROW_SPARE (R238). -/
  | gddrRowSpare
  /-- GDDR_PATROL (R239). -/
  | gddrPatrol (up : List (Nat × Code)) (edc : List Nat)
  /-- DMA_PI_WRITE (R244). A write of DMA_IDX.PI (R244). -/
  | dmaPiWrite (c v : Nat)
  /-- DMA_DESC_FETCH (R244). -/
  | dmaDescFetch (c : Nat) (host : List Word)
  /-- DMA_DESC_COMPLETE (R242): the statuses an answer can bring are 3 to 7 and 9. -/
  | dmaDescComplete (c st moved : Nat) (ext : List Byte) (pois : Bool)
  /-- DMA_ABORT (R246). -/
  | dmaAbort (c moved : Nat) (ext : List Byte) (pois : Bool)
  /-- DMA_RESUME (R246). -/
  | dmaResume (c : Nat)
  /-- SPAN_LINK_ENABLE (R256): SPN_LINK_CFG is written with EN = 1. -/
  | spanLinkEnable (k v : Nat)
  /-- SPAN_LINK_DISABLE (R256): EN is written 0, the other fields as they stand. -/
  | spanLinkDisable (k : Nat)
  /-- SPAN_RETRAIN (R256): RETRAIN is written with the other fields as they stand. -/
  | spanRetrain (k : Nat)
  /-- SPAN_FEC_LOCK (R256). -/
  | spanFecLock (k : Nat)
  /-- SPAN_IDENT_RECEIVED (R256): the neighbour's device number, port and width. -/
  | spanIdentReceived (k dev port width : Nat)
  /-- SPAN_TRAIN_TIMEOUT (R256). -/
  | spanTrainTimeout (k : Nat)
  /-- SPAN_LANE_LOCK_LOSS (R258). -/
  | spanLaneLockLoss (n : Nat)
  /-- SPAN_FRAME_RECEIVED (R253). -/
  | spanFrameReceived (n x fec : Nat)
  /-- SPAN_NAK_RECEIVED (R253): the sender resends from the named number; frames before it have arrived. -/
  | spanNakReceived (n seq : Nat)
  /-- SPAN_RESEND_TIMEOUT (R253). -/
  | spanResendTimeout (n : Nat)
  /-- SPAN_SWITCH_ROUTE (R260): one grant of output `o`, links 0-7, stops 125 and 127 as 8 and 9. -/
  | spanSwitchRoute (net o : Nat)
  /-- MARKER_SEND (R265). -/
  | markerSend (k dep : Nat)
  /-- MARKER_RECEIVED (R266). -/
  | markerReceived (k prio dev hops n len : Nat) (depart : Int) (tod : Nat) (crcBad : Bool) (arr : Int)
  /-- SPAN_CALIBRATION (R267): a CAL goes out on the timing lane of an UP link. -/
  | spanCalibration (k : Nat)
  /-- ECHO_RECEIVED (R267). -/
  | echoReceived (k t u : Nat)
  /-- MASTER_LOSS_TIMEOUT (R268). -/
  | masterLossTimeout
  /-- LOAD_GO (R295). -/
  | loadGo (staged : Nat)
  /-- LOAD_WRITE_PHASE (R299).  -/
  | loadWritePhase (bad : List Nat)
  /-- LOAD_ABORT (R302). -/
  | loadAbort
  /-- COMPAT_LOAD_GO (R303). -/
  | compatLoadGo (staged : Nat)
  /-- COMPAT_RECORD (R305). -/
  | compatRecord
  /-- COMPAT_CFG_WRITE (R303). -/
  | compatCfgWrite (v : Nat)
  /-- RECOVERY_RELOAD (R408): `bad` for a reload in which a write fails (R301). -/
  | recoveryReload (bad : Bool)
  /-- BOOT_ATTEMPT (R316). -/
  | bootAttempt
  /-- BOOT_DONE_WRITE (R316). -/
  | bootDoneWrite
  /-- BOOT_FAIL_WRITE (R316). -/
  | bootFailWrite (v : Nat)
  /-- BOOT_WATCHDOG_EXPIRY (R316): the attempt fails with cause 10. -/
  | bootWatchdogExpiry
  /-- BACKOFF_WAIT_END (R317). -/
  | backoffWaitEnd
  /-- STARTUP_STEP (R319). -/
  | startupStep (p : Nat)
  /-- PIN_CFG_WRITE (R328). -/
  | pinCfgWrite (n v : Nat)
  /-- PIN_CLAIM_WRITE (R328). -/
  | pinClaimWrite (n v : Nat)
  /-- LOAD_FAILS_SUB_WRITE (R329). -/
  | loadFailsSubWrite (n : Nat)
  /-- LOCKSTEP_MISMATCH (R335). -/
  | lockstepMismatch (q : Nat)
  /-- PAIR_MAP_WRITE (R336): `mm` for machine mode; a write of another master has no effect. -/
  | pairMapWrite (k v : Nat) (mm : Bool)
  /-- PAIR_RUN_WRITE (R331): RUN of SYS_PAIR_STAT is written. -/
  | pairRunWrite (q : Nat) (on : Bool)
  /-- SRAM_SECRET_WRITE (R339): a tag can only be set. -/
  | sramSecretWrite (v : Nat)
  /-- SRAM_PATROL (R340). -/
  | sramPatrol (err : Code)
  /-- THREAD_DESC_WRITE (R341).  -/
  | threadDescWrite (t : Nat) (w : Word) (mm : Bool)
  /-- SCH_POST_WRITE (R342). -/
  | schPostWrite (t : Nat)
  /-- EVENT_LINE_POST (R342). -/
  | eventLinePost (e : Nat)
  /-- TICK_LIST_RELEASE (R343). -/
  | tickListRelease
  /-- CYCLE_LIST_RELEASE (R343). -/
  | cycleListRelease
  /-- SCH_TAKE (R344). -/
  | schTake (k cc : Nat)
  /-- THREAD_DISPATCH (R346). -/
  | threadDispatch
  /-- SCH_COMPLETE (R345); `cc` is the CCLK cycles the job ran since its dispatch. -/
  | schComplete (k t cc : Nat)
  /-- SCH_YIELD (R345). -/
  | schYield (k t cc : Nat)
  /-- SCH_SLEEP (R345). -/
  | schSleep (k t delay cc : Nat)
  /-- SCH_STOP (R345). -/
  | schStop (k t cc : Nat)
  /-- DEADLINE_MISS (R350). -/
  | deadlineMiss (t : Nat)
  /-- BUDGET_OVERRUN (R351): the scheduler counts `cc` further cycles of the thread in service. -/
  | budgetOverrun (k cc : Nat)
  /-- MBX_REQUEST_WRITE (R356): one write of `b` at byte `a` of the window of mailbox `m`. -/
  | mbxRequestWrite (m a : Nat) (b : List Byte)
  /-- MBX_DOORBELL_WRITE (R355). -/
  | mbxDoorbellWrite (v : Nat)
  /-- MBX_TAKE (R361): `ext` is what comes from outside the device for the command. -/
  | mbxTake (ext : List Byte)
  /-- MBX_RSP_ACK (R355): the bits written 1 clear. -/
  | mbxRspAck (v : Nat)
  /-- SPI_READ (R357). -/
  | spiRead (a n : Nat)
  /-- SPI_WRITE (R357): an address that is no multiple of 4 begins no aligned group at it, and nothing is written.
  -/
  | spiWrite (a : Nat) (b : List Byte)
  /-- SPI_STATUS (R357): the byte is the answer. -/
  | spiStatus
  /-- EVT_CI_WRITE (R372). -/
  | evtCiWrite (v : Nat)
  /-- SYS_IDENTIFY (R367). -/
  | sysIdentify (m : Nat)
  /-- SYS_STATUS (R367). -/
  | sysStatus (m : Nat)
  /-- SYS_ATTEST (R367). -/
  | sysAttest (m : Nat) (nonce : List Byte)
  /-- SYS_RESET (R367). -/
  | sysReset (m delay : Nat)
  /-- SYS_SENSORS (R367). -/
  | sysSensors (m : Nat)
  /-- SYS_KEY_REVOKE (R367). -/
  | sysKeyRevoke (m slot auth : Nat) (pk sig : List Byte)
  /-- SYS_SVN_RAISE (R367). -/
  | sysSvnRaise (m which svn auth : Nat) (pk sig : List Byte)
  /-- CAB_LOAD (R368): `ext` is what the mover reads in host memory. -/
  | cabLoad (m src compat cofs addr n : Nat) (ext : List Byte)
  /-- CAB_UNLOAD (R367). -/
  | cabUnload (m l : Nat)
  /-- CAB_HOLD (R367). -/
  | cabHold (m l : Nat)
  /-- CAB_RUN (R367). -/
  | cabRun (m l plan : Nat)
  /-- CAB_DRAIN (R367). -/
  | cabDrain (m l : Nat)
  /-- CAB_POWER (R367). -/
  | cabPower (m l on : Nat)
  /-- CAB_RELOCATE (R367). -/
  | cabRelocate (m l target : Nat)
  /-- CAB_PLAN (R367). -/
  | cabPlan (m l plan : Nat)
  /-- CAB_CAPTURE (R367). -/
  | cabCapture (m l mode ofs tick : Nat)
  /-- CAB_READBACK (R367). -/
  | cabReadback (m l col row sec : Nat)
  /-- CAB_STATUS (R367). -/
  | cabStatus (m l : Nat)
  /-- TICK_GET (R367). -/
  | tickGet (m : Nat)
  /-- TICK_SET_LEN (R367). -/
  | tickSetLen (m len : Nat)
  /-- TICK_SET_SOURCE (R367). -/
  | tickSetSource (m src tol : Nat)
  /-- TICK_ALIGN (R367). -/
  | tickAlign (m : Nat)
  /-- TICK_OUTPUT (R367). -/
  | tickOutput (m en : Nat)
  /-- NET_RING_STATUS (R367). -/
  | netRingStatus (m ring : Nat)
  /-- NET_ROUTER (R367). -/
  | netRouter (m st mode : Nat)
  /-- NET_LOAD (R367). -/
  | netLoad (m st : Nat)
  /-- NET_BOOKINGS (R367). -/
  | netBookings (m st : Nat)
  /-- NET_COUNTERS (R367). -/
  | netCounters (m st : Nat)
  /-- NET_TIMERS (R367). -/
  | netTimers (m req drain reorder : Nat)
  /-- PORT_JESD_CFG (R367). -/
  | portJesdCfg (m j n cfg rel q path : Nat)
  /-- PORT_JESD_ENABLE (R367). -/
  | portJesdEnable (m j n en : Nat)
  /-- PORT_JESD_SYSREF (R367). -/
  | portJesdSysref (m j : Nat)
  /-- PORT_JESD_STATUS (R367). -/
  | portJesdStatus (m j : Nat)
  /-- PORT_ETH_CFG (R367). -/
  | portEthCfg (m n v : Nat)
  /-- PORT_ETH_STATUS (R367). -/
  | portEthStatus (m n : Nat)
  /-- PORT_TOD (R367). -/
  | portTod (m op v : Nat)
  /-- PORT_TXTS (R367). -/
  | portTxts (m n most : Nat)
  /-- PORT_SYNCE (R367). -/
  | portSynce (m o v : Nat)
  /-- PORT_SPAN_CFG (R367). -/
  | portSpanCfg (m k v : Nat)
  /-- PORT_SPAN_STATUS (R367). -/
  | portSpanStatus (m k : Nat)
  /-- PORT_SPAN_ROUTE (R367). -/
  | portSpanRoute (m d v : Nat)
  /-- PORT_SPAN_SYS (R367). -/
  | portSpanSys (m sys tick rclk : Nat)
  /-- FLOW_LEX (R367). -/
  | flowLex (m op loc ent : Nat)
  /-- FLOW_LEX_PORT (R367). -/
  | flowLexPort (m i v : Nat)
  /-- FLOW_SET (R367). -/
  | flowSet (m f desc : Nat)
  /-- FLOW_GET (R367). -/
  | flowGet (m f : Nat)
  /-- FLOW_LINK (R367). -/
  | flowLink (m l v : Nat)
  /-- FLOW_QM_CFG (R367). -/
  | flowQmCfg (m cfg base cells : Nat)
  /-- MEM_STATUS (R367). -/
  | memStatus (m : Nat)
  /-- MEM_FAIL (R367). -/
  | memFail (m d : Nat)
  /-- MEM_RETRAIN (R367). -/
  | memRetrain (m : Nat)
  /-- MEM_REBUILD (R367). -/
  | memRebuild (m : Nat)
  /-- MEM_SPARE_GET (R367). -/
  | memSpareGet (m d from_ : Nat)
  /-- MEM_SPARE_SET (R367). -/
  | memSpareSet (m d : Nat) (es : List Nat)
  /-- MEM_DMA_STATUS (R367). -/
  | memDmaStatus (m c : Nat)
  /-- SCH_THREAD_SET (R367). -/
  | schThreadSet (m t desc : Nat)
  /-- SCH_THREAD_GET (R367). -/
  | schThreadGet (m t : Nat)
  /-- SCH_THREAD_DEL (R367). -/
  | schThreadDel (m t : Nat)
  /-- SCH_ADMIT_TEST (R352, R367): threads with their descriptors. -/
  | schAdmitTest (m : Nat) (ts : List (Nat × Nat))
  /-- SCH_POST (R367). -/
  | schPost (m t : Nat)
  /-- SCH_STATUS (R367). -/
  | schStatus (m : Nat)
  /-- FLT_RECORDS (R367). -/
  | fltRecords (m from_ : Nat)
  /-- FLT_ACK (R367). -/
  | fltAck (m src : Nat)
  /-- FLT_INJECT (R367). -/
  | fltInject (m src chk count : Nat)
  /-- FLT_RECOVER (R367). -/
  | fltRecover (m k id : Nat)
  /-- FLT_CONFIG (R367). -/
  | fltConfig (m quiet mode : Nat)
  /-- TEST_CALENDAR_GET (R367). -/
  | testCalendarGet (m : Nat)
  /-- TEST_CALENDAR_SET (R367). -/
  | testCalendarSet (m scrub slice cmp gap : Nat)
  /-- TEST_RESULTS (R367). -/
  | testResults (m k id : Nat)
  /-- TEST_RUN (R367): `res` is the result, 0 PASS, 1 FAIL, 2 INCOMPLETE. -/
  | testRun (m k id res : Nat)
  /-- LOG_READ (R367). -/
  | logRead (m from_ most : Nat)
  /-- LOG_INFO (R367). -/
  | logInfo (m : Nat)
  /-- BUR_IDENTIFY (R367). -/
  | burIdentify (m : Nat)
  /-- BUR_TOTALS (R367). -/
  | burTotals (m from_ n : Nat)
  /-- BUR_STATEMENT (R367). -/
  | burStatement (m index : Nat)
  /-- BUR_AUDIT (R367). -/
  | burAudit (m from_ most : Nat)
  /-- BUR_STATUS (R367). -/
  | burStatus (m : Nat)
  /-- FW_STATUS (R367, R370). -/
  | fwStatus (m : Nat)
  /-- FW_BEGIN (R367, R370). -/
  | fwBegin (m : Nat)
  /-- FW_DATA (R367, R370). -/
  | fwData (m part ofs : Nat) (b : List Byte)
  /-- FW_WRITE (R367, R370): `ext` is what the mover reads in host memory. -/
  | fwWrite (m part src addr ofs n : Nat) (ext : List Byte)
  /-- FW_COPY (R367, R370). -/
  | fwCopy (m part : Nat)
  /-- FW_VERIFY (R367, R370). -/
  | fwVerify (m part n : Nat)
  /-- FW_ACTIVATE (R367, R370). -/
  | fwActivate (m trial reset : Nat)
  /-- FW_COMMIT (R367, R370). -/
  | fwCommit (m up : Nat)
  /-- FW_ROLLBACK (R367, R370). -/
  | fwRollback (m : Nat)
  /-- FW_TRIAL_EXPIRY (R370). -/
  | fwTrialExpiry
  /-- FW_PUSH_BEGIN (R367, R370). -/
  | fwPushBegin (m n : Nat)
  /-- FW_PUSH_DATA (R367, R370). -/
  | fwPushData (m ofs : Nat) (b : List Byte)
  /-- FW_PUSH_END (R367, R370). -/
  | fwPushEnd (m : Nat)
  /-- BUREAU_TAP_EVENT (R377): the engine takes an event; a source held by a full buffer goes on. -/
  | bureauTapEvent (tap : Nat)
  /-- BUREAU_MIRROR_RECORD (R385). -/
  | bureauMirrorRecord
  /-- STATEMENT_ISSUE (R380); `oscUs` is the interval as the Bureau oscillator measured it. -/
  | statementIssue (oscUs : Nat)
  /-- STATEMENT_STORED (R380). -/
  | statementStored
  /-- SEAL_CHANGE (R388). -/
  | sealChange (isOpen : Bool)
  /-- TAMPER_EDGE (R389). -/
  | tamperEdge
  /-- WARRANT_PARAM (R390). -/
  | warrantParam (len : Nat)
  /-- WARRANT_TRATY_BEGIN (R394). -/
  | warrantTratyBegin (len : Nat)
  /-- WARRANT_TRATY_DATA (R394). -/
  | warrantTratyData (len : Nat)
  /-- WARRANT_CLEAR_TAMPER (R389). -/
  | warrantClearTamper (len : Nat)
  /-- WARRANT_ARCHIVE (R387). -/
  | warrantArchive (len : Nat)
  /-- WARRANT_STATEMENT_NOW (R380). -/
  | warrantStatementNow (len : Nat)
  /-- VDD_BUR_RESTORE (R394). -/
  | vddBurRestore
  /-- BUREAU_FAULT (R394). -/
  | bureauFault (kind : Nat)
  /-- FAULT_EVENT (R403). -/
  | faultEvent
  /-- FLT_SRC_ACK_WRITE (R401). -/
  | fltSrcAckWrite (src v : Nat)
  /-- QUIET_PERIOD_END (R407). -/
  | quietPeriodEnd
  /-- FLT_INJ_ARM (R411). -/
  | fltInjArm (src chk count : Nat) (cont dbl : Bool)
  /-- FLT_INJ_STOP (R411). -/
  | fltInjStop (src : Nat)
  /-- FLT_RAISE_GO (R415): `mm` for a control pair in machine mode; a write of another master has no effect. -/
  | fltRaiseGo (k v : Nat) (mm : Bool)
  /-- FLT_FIRST_CLEAR (R417): VALID is written 1. -/
  | fltFirstClear
  /-- FLT_CI_WRITE (R405). -/
  | fltCiWrite (v : Nat)
  /-- FLT_UNIT_SUB_WRITE (R417). -/
  | fltUnitSubWrite (k id n : Nat)
  /-- SCRUB_WALK_START (R421). -/
  | scrubWalkStart
  /-- SCRUB_WORD_READ (R422), with the upset bits of the stored word. -/
  | scrubWordRead (err : Code)
  /-- SCRUB_QUEUE_REPAIR (R424). -/
  | scrubQueueRepair (err : Code)
  /-- SCRUB_HEARTBEAT (R419): the primary's progress goes to the standby. -/
  | scrubHeartbeat
  /-- SCRUB_TAKEOVER (R419). -/
  | scrubTakeover
  /-- VOTE_DISAGREEMENT (R423). -/
  | voteDisagreement (kind p : Nat)
  /-- SCR_CFG_WRITE (R421). -/
  | scrCfgWrite (v : Nat)
  /-- BST_CFG_WRITE (R442). -/
  | bstCfgWrite (v : Nat)
  /-- GAP_STEP_START (R425). -/
  | gapStepStart (p : Nat)
  /-- SHADOW_COPY_DONE (R427). -/
  | shadowCopyDone (p : Nat)
  /-- SHADOW_MISMATCH (R431). -/
  | shadowMismatch (p : Nat)
  /-- BIST_SLICE_START (R434). -/
  | bistSliceStart
  /-- BIST_SLICE_END (R435). -/
  | bistSliceEnd (u : Nat) (full sig : Bool) (rows fifos : List (Nat × Nat))
  /-- BIST_SLICE_ABORT (R437): the gap column is never preempted. -/
  | bistSliceAbort (u : Nat)
  /-- TEST_UNLOCK (R438). -/
  | testUnlock
  /-- TEST_UNLOCK_SIGNATURE (R439). -/
  | testUnlockSignature (pk sig : List Byte)
  /-- PCI_WIN_WRITE (R450): the windows of BAR0. -/
  | pciWinWrite (w v : Nat)
  /-- PCIE_WINDOW_ACCESS (R450). -/
  | pcieWindowAccess (o n : Nat) (wr : Option (List Byte))
  /-- AVS_REQUEST (R454). -/
  | avsRequest (mv : Nat)
  /-- AVS_ALERT (R454): STATUS_WORD is read once and the event recorded. -/
  | avsAlert
  /-- AVS_NO_ANSWER (R454). -/
  | avsNoAnswer
  /-- VCORE_UNDERVOLTAGE (R454). -/
  | vcoreUndervoltage (mv : Nat)
  /-- THERMAL_THRESHOLD (R458). -/
  | thermalThreshold
  /-- SENSOR_POLL (R441, R458): the sixteen temperatures in 0.1 °C and the two voltages in mV are converted. -/
  | sensorPoll (temps : List Int) (vcore vsram : Nat)
  /-- ETH_LINK_UP (R224): the PCS of an enabled port aligns and its FEC locks. -/
  | ethLinkUp (n : Nat)
  /-- PLL_LOCK (R310). -/
  | pllLock
  /-- GDDR7_TRAINING (R227, R235): the devices that failed training. -/
  | gddr7Training (bad : List Nat)
  /-- LEAVING_DONE (R163). -/
  | leavingDone (st : Nat)
  /-- TELEMETRY_MSG (R441). -/
  | telemetryMsg (st ddev dstop code : Nat) (data : List Word)
  /-- REFRESH (R441): stored data stay; the time of the last refresh is kept. -/
  | refresh
  /-- COEFFICIENT_UPDATE (R441) of a lane: the new coefficient is free. -/
  | coefficientUpdate (lane : Nat)
  /-- BOUNDARY_SCAN (R321).  -/
  | boundaryScan (drive : Option (List (Nat × Nat)))
  deriving DecidableEq, Repr

end Sys2Proof
end

