-- ==== Sys2Proof/Decode.lean ====
section
/-!
DEFINITION. Commands as words. The opcode table gives no row any bits: a command reaches the block as an access, an
event or a message, not as a coded word. So no word spells a command.
-/

namespace Sys2Proof

/-- The command that a word spells by the table's bits: none, since no row has bits. -/
def decodeTableWord (_nbits _w : Nat) : Option Instr := none

end Sys2Proof
end

