-- ==== Sys2Proof/Machine/Crypto.lean ====
section
/-!
DEFINITION. The cryptographic functions the spec names: SHAKE256 (FIPS 202), KMAC256 (SP 800-185),
the verification of Ed448 and Ed448ph signatures (RFC 8032), AES-256 (FIPS 197) and key unwrap (RFC 3394).
-/

namespace Sys2Proof
namespace Machine

/-! ### Bytes and numbers -/

/-- The number a byte list spells, least significant byte first. -/
def leNat : List Byte → Nat
  | [] => 0
  | b :: r => b.toNat + 256 * leNat r

/-- The `n` bytes of a number, least significant first. -/
def leBytes : Nat → Nat → List Byte
  | 0, _ => []
  | n + 1, v => BitVec.ofNat 8 v :: leBytes n (v / 256)

/-- The bytes of a string. -/
def strBytes (s : String) : List Byte := s.toList.map (fun c => BitVec.ofNat 8 c.toNat)

/-! ### SHAKE256 -/

/-- The register that FIPS 202 takes the round constants' bits from: one step, with taps 8, 6, 5, 4 and 0. -/
def rcStep (r : Nat) : Nat := if r < 128 then 2 * r else (2 * r) ^^^ 0x171

/-- Bits 2^j - 1 of a round constant for the `n` highest j below 7, and the register after them. -/
def rcBits : Nat → Nat → Nat × Nat
  | 0, r => (0, r)
  | n + 1, r =>
    let q := rcBits n (rcStep r)
    ((if r % 2 = 1 then 2 ^ (2 ^ (6 - n) - 1) else 0) + q.1, q.2)

/-- The constants of `n` rounds from a register. -/
def roundConsts : Nat → Nat → List Word
  | 0, _ => []
  | n + 1, r => BitVec.ofNat 64 (rcBits 7 r).1 :: roundConsts n (rcBits 7 r).2

/-- The walk of rho and pi over `n` lanes from column `x`, row `y`, after `t` lanes: where a lane goes, where it comes
from, and how far it turns, the triangular numbers. -/
def laneWalk : Nat → Nat → Nat → Nat → List (Nat × Nat × Nat)
  | 0, _, _, _ => []
  | n + 1, t, x, y =>
    let z := (2 * x + 3 * y) % 5
    (y + 5 * z, x + 5 * y, (t + 1) * (t + 2) / 2 % 64) :: laneWalk n (t + 1) y z

/-- Where each lane of the state comes from, and its turn; lane 0 stays. -/
def laneMoves : List (Nat × Nat) :=
  (List.range 25).map (fun i => (((laneWalk 24 0 1 0).find? (fun e => e.1 = i)).map (fun e => e.2)).getD (0, 0))

/-- A plane of five lanes turned left by `n` places. -/
def planeTurn (n : Nat) (r : List Word) : List Word := r.drop n ++ r.take n

/-- The five planes of a state. -/
def planes (a : List Word) : List (List Word) := (List.range 5).map (fun y => (a.drop (5 * y)).take 5)

/-- Theta: every plane takes the parities of the columns beside it. -/
def thetaMix (a : List Word) : List Word :=
  let par := (planes a).foldl (List.zipWith (· ^^^ ·)) (List.replicate 5 0)
  let eff := List.zipWith (fun l r => l ^^^ r.rotateLeft 1) (planeTurn 4 par) (planeTurn 1 par)
  (planes a).flatMap (List.zipWith (· ^^^ ·) eff)

/-- Chi of one plane. -/
def planeChi (r : List Word) : List Word :=
  List.zipWith (· ^^^ ·) r (List.zipWith (fun p q => ~~~p &&& q) (planeTurn 1 r) (planeTurn 2 r))

/-- One round: theta, rho with pi, chi, and the round's constant into lane 0. -/
def permRound (a : List Word) (rc : Word) : List Word :=
  let m := thetaMix a
  (planes (laneMoves.map (fun e => (m.getD e.1 0).rotateLeft e.2))).flatMap planeChi |>.modifyHead (· ^^^ rc)

/-- The permutation of SHAKE256, 24 rounds. -/
def keccakF (a : List Word) : List Word := (roundConsts 24 1).foldl permRound a

/-- Adds a block of bytes into the state. -/
def absorbBlock (a : List Word) (blk : List Byte) : List Word :=
  a.zipIdx.map (fun e => e.1 ^^^ BitVec.ofNat 64 (leNat ((blk.drop (8 * e.2)).take 8)))

/-- Absorbs whole blocks of 136 bytes. -/
def absorb : Nat → List Byte → List Word → List Word
  | 0, _, a => a
  | n + 1, m, a => absorb n (m.drop 136) (keccakF (absorbBlock a (m.take 136)))

/-- Squeezes `n` blocks. -/
def squeeze : Nat → List Word → List Byte
  | 0, _ => []
  | n + 1, a => ((a.take 17).flatMap (fun w => leBytes 8 w.toNat)) ++ squeeze n (keccakF a)

/-- The sponge with rate 136: `sfx` holds the domain bits and the first padding bit. -/
def sponge (sfx : Nat) (m : List Byte) (n : Nat) : List Byte :=
  let z := 135 - m.length % 136
  let pad : List Byte := if z = 0 then [BitVec.ofNat 8 (sfx + 128)]
    else BitVec.ofNat 8 sfx :: (List.replicate (z - 1) 0 ++ [0x80])
  let p := m ++ pad
  (squeeze ((n + 135) / 136) (absorb (p.length / 136) p (List.replicate 25 0))).take n

/-- SHAKE256 with `n` bytes of output. -/
def shake256 (m : List Byte) (n : Nat) : List Byte := sponge 0x1F m n

/-! ### KMAC256 -/

/-- The bytes of a length, most significant first, at least one. -/
def lenBytes (v : Nat) : List Byte :=
  if v < 256 then [BitVec.ofNat 8 v]
  else if v < 65536 then [BitVec.ofNat 8 (v / 256), BitVec.ofNat 8 v]
  else [BitVec.ofNat 8 (v / 65536), BitVec.ofNat 8 (v / 256), BitVec.ofNat 8 v]

/-- left_encode. -/
def leftEnc (v : Nat) : List Byte := BitVec.ofNat 8 (lenBytes v).length :: lenBytes v

/-- right_encode. -/
def rightEnc (v : Nat) : List Byte := lenBytes v ++ [BitVec.ofNat 8 (lenBytes v).length]

/-- encode_string. -/
def encStr (m : List Byte) : List Byte := leftEnc (8 * m.length) ++ m

/-- bytepad to a multiple of 136. -/
def bytePad (m : List Byte) : List Byte :=
  let x := leftEnc 136 ++ m
  x ++ List.replicate ((136 - x.length % 136) % 136) 0

/-- KMAC256 of `m` under key `k` with customisation `c` and `n` bytes of output. -/
def kmac256 (k m c : List Byte) (n : Nat) : List Byte :=
  sponge 0x04 (bytePad (encStr (strBytes "KMAC") ++ encStr c) ++ bytePad (encStr k) ++ m ++ rightEnc (8 * n)) n

/-! ### Ed448 -/

/-- The field prime. -/
def edP : Nat := 2 ^ 448 - 2 ^ 224 - 1

/-- The group order. -/
def edL : Nat := 2 ^ 446 - 13818066809895115352007386748515426880336692474882178609894547503885

/-- The curve constant d = -39081. -/
def edD : Nat := edP - 39081

/-- Power by squaring over the low `n` bits of `e`, from the highest. -/
def powModBits (p b e : Nat) : Nat → Nat → Nat
  | 0, acc => acc
  | n + 1, acc => powModBits p b e n (let q := acc * acc % p; if e.testBit n then q * b % p else q)

/-- b^e mod p for e below 2^448. -/
def powMod (p b e : Nat) : Nat := powModBits p b e 448 1

/-- A point in projective form. -/
structure EdPt where
  x : Nat
  y : Nat
  z : Nat
  deriving DecidableEq, Repr

/-- Addition (RFC 8032, 5.2.4). -/
def edAdd (a b : EdPt) : EdPt :=
  let p := edP
  let aa := a.z * b.z % p
  let bb := aa * aa % p
  let c := a.x * b.x % p
  let d := a.y * b.y % p
  let e := edD * (c * d % p) % p
  let f := (bb + p - e) % p
  let g := (bb + e) % p
  let h := (a.x + a.y) * (b.x + b.y) % p
  ⟨aa * f % p * ((h + 2 * p - c - d) % p) % p, aa * g % p * ((d + p - c) % p) % p, f * g % p⟩

/-- The multiple of a point over the low `n` bits of `k`, from the highest. -/
def edMulBits (q : EdPt) (k : Nat) : Nat → EdPt → EdPt
  | 0, acc => acc
  | n + 1, acc => edMulBits q k n (let d := edAdd acc acc; if k.testBit n then edAdd d q else d)

/-- k · q. -/
def edMul (k : Nat) (q : EdPt) : EdPt := edMulBits q k 448 ⟨0, 1, 1⟩

/-- Equality of points. -/
def edEq (a b : EdPt) : Bool := a.x * b.z % edP = b.x * a.z % edP && a.y * b.z % edP = b.y * a.z % edP

/-- The base point. -/
def edB : EdPt :=
  ⟨224580040295924300187604334099896036246789641632564134246125461686950415467406032909029192869357953282578032075146446173674602635247710,
   298819210078481492676017930443930673437544040154080242095928241372331506189835876003536878655418784733982303233503462500531545062832660, 1⟩

/-- Decoding of a 57-byte point (RFC 8032, 5.2.3). -/
def edDecode (l : List Byte) : Option EdPt :=
  let v := leNat l
  let y := v % 2 ^ 455
  let sg := v / 2 ^ 455 % 2
  if l.length != 57 || edP ≤ y then none
  else
    let p := edP
    let u := (y * y + p - 1) % p
    let w := (edD * (y * y % p) + p - 1) % p
    let u3 := u * u % p * u % p
    let t := u3 * u % p * u % p * (w * w % p * w % p) % p
    let x := u3 * w % p * powMod p t ((p - 3) / 4) % p
    if w * (x * x % p) % p != u then none
    else if x = 0 ∧ sg = 1 then none
    else some ⟨if x % 2 = sg then x else p - x, y, 1⟩

/-- Verification of an Ed448 (ph false) or Ed448ph (ph true) signature with a context. -/
def edVerify (ph : Bool) (ctx pk msg sig : List Byte) : Bool :=
  let m := if ph then shake256 msg 64 else msg
  let dom := strBytes "SigEd448" ++ [if ph then 1 else 0, BitVec.ofNat 8 ctx.length] ++ ctx
  let r := sig.take 57
  let sc := leNat (sig.drop 57)
  match edDecode pk, edDecode r with
  | some a, some q =>
    let k := leNat (shake256 (dom ++ r ++ pk ++ m) 114) % edL
    sig.length = 114 && sc < edL &&
      edEq (edMul 4 (edMul sc edB)) (edMul 4 (edAdd q (edMul k a)))
  | _, _ => false

/-! ### AES-256 (FIPS 197), its counter mode and key wrap (RFC 3394) -/

/-- Multiplication in GF(2^8) modulo x^8 + x^4 + x^3 + x + 1, over the low `n` bits of `b`. -/
def gmul : Nat → Nat → Nat → Nat
  | 0, _, _ => 0
  | n + 1, a, b =>
    let x := if a < 128 then 2 * a else (2 * a) % 256 ^^^ 0x1B
    (if b % 2 = 1 then a else 0) ^^^ gmul n x (b / 2)

/-- The product of two bytes. -/
def gm (a b : Nat) : Nat := gmul 8 a b

/-- The inverse in GF(2^8), a^254; 0 for 0. -/
def ginv (a : Nat) : Nat :=
  let a2 := gm a a
  let a4 := gm a2 a2
  let a8 := gm a4 a4
  let a16 := gm a8 a8
  let a32 := gm a16 a16
  let a64 := gm a32 a32
  gm (gm a64 a64) (gm a64 (gm a32 (gm a16 (gm a8 (gm a4 a2)))))

/-- A byte rotated left. -/
def rotl8 (a k : Nat) : Nat := (a * 2 ^ k % 256) + a / 2 ^ (8 - k)

/-- The S-box. -/
def aesS (a : Nat) : Nat :=
  let b := ginv a
  b ^^^ rotl8 b 1 ^^^ rotl8 b 2 ^^^ rotl8 b 3 ^^^ rotl8 b 4 ^^^ 0x63

/-- The inverse S-box. -/
def aesSi (a : Nat) : Nat := ginv (rotl8 a 1 ^^^ rotl8 a 3 ^^^ rotl8 a 6 ^^^ 5)

/-- The exclusive or of two byte lists. -/
def xorL (a b : List Nat) : List Nat := List.zipWith (· ^^^ ·) a b

/-- The words of the key schedule, latest first, from the eight words of the key. -/
def aesExpand : Nat → Nat → Nat → List (List Nat) → List (List Nat)
  | 0, _, _, l => l
  | n + 1, i, rc, l =>
    let t := l.headD []
    let w8 := l.getD 7 []
    if i % 8 = 0 then
      let r := (t.drop 1 ++ t.take 1).map aesS
      aesExpand n (i + 1) (gm rc 2) (xorL w8 (xorL r [rc, 0, 0, 0]) :: l)
    else if i % 8 = 4 then aesExpand n (i + 1) rc (xorL w8 (t.map aesS) :: l)
    else aesExpand n (i + 1) rc (xorL w8 t :: l)

/-- Four bytes at a time. -/
def quads : Nat → List Nat → List (List Nat)
  | 0, _ => []
  | n + 1, l => l.take 4 :: quads n (l.drop 4)

/-- The fifteen round keys of a 32-byte key, 16 bytes each. -/
def aesKeys (key : List Byte) : List (List Nat) :=
  let w := (aesExpand 52 8 1 (quads 8 (key.map (fun b => b.toNat))).reverse).reverse
  (List.range 15).map (fun r => (w.drop (4 * r)).take 4 |>.flatten)

/-- ShiftRows on a state in column order. -/
def shiftRows (a : List Nat) : List Nat := (List.range 16).map (fun i => a.getD ((i + 4 * (i % 4)) % 16) 0)

/-- The inverse of ShiftRows. -/
def unshiftRows (a : List Nat) : List Nat := (List.range 16).map (fun i => a.getD ((i + 12 * (i % 4)) % 16) 0)

/-- One column times the circulant matrix of four coefficients. -/
def mixCol (c : List Nat) (a : List Nat) : List Nat :=
  (List.range 4).map (fun r => (List.range 4).foldl (fun x k => x ^^^ gm (c.getD ((k + 4 - r) % 4) 0) (a.getD k 0)) 0)

/-- MixColumns with a coefficient row. -/
def mixCols (c : List Nat) (a : List Nat) : List Nat := (quads 4 a).flatMap (mixCol c)

/-- Rounds of the cipher after the first key. -/
def aesRounds : List (List Nat) → List Nat → List Nat
  | [], a => a
  | [k], a => xorL (shiftRows (a.map aesS)) k
  | k :: r, a => aesRounds r (xorL (mixCols [2, 3, 1, 1] (shiftRows (a.map aesS))) k)

/-- AES-256 of a block under the round keys. -/
def aesEnc (ks : List (List Nat)) (a : List Nat) : List Nat :=
  match ks with
  | [] => a
  | k :: r => aesRounds r (xorL a k)

/-- Inverse rounds, the keys from the last but one down. -/
def aesUnrounds : List (List Nat) → List Nat → List Nat
  | [], a => a
  | [k], a => xorL ((unshiftRows a).map aesSi) k
  | k :: r, a => aesUnrounds r (mixCols [14, 11, 13, 9] (xorL ((unshiftRows a).map aesSi) k))

/-- The inverse cipher. -/
def aesDec (ks : List (List Nat)) (a : List Nat) : List Nat :=
  match ks.reverse with
  | [] => a
  | k :: r => aesUnrounds r (xorL a k)

/-- One step of the unwrap of RFC 3394: `t` counts down, `a` is the check register. -/
def unwrapSteps (ks : List (List Nat)) (n : Nat) : Nat → List Nat → List (List Nat) → List Nat × List (List Nat)
  | 0, a, r => (a, r)
  | t + 1, a, r =>
    let i := t % n
    let tb := ((leBytes 8 (t + 1)).map (fun b => b.toNat)).reverse
    let b := aesDec ks (xorL a tb ++ r.getD i [])
    unwrapSteps ks n t (b.take 8) (r.set i (b.drop 8))

/-- AES key unwrap of 40 bytes: the 32 bytes, or none where the integrity check fails. -/
def aesUnwrap (kek c : List Byte) : Option (List Byte) :=
  let w := c.map (fun b => b.toNat)
  let r := (List.range 4).map (fun i => (w.drop (8 + 8 * i)).take 8)
  let q := unwrapSteps (aesKeys kek) 4 24 (w.take 8) r
  if q.1 = List.replicate 8 0xA6 then some (q.2.flatten.map (fun x => BitVec.ofNat 8 x)) else none

/-- The 16 bytes of key stream of counter block `b` (R289): the nonce, then `b` as four bytes, most
significant first. -/
def ctrBlock (ks : List (List Nat)) (nonce : List Nat) (b : Nat) : List Nat :=
  aesEnc ks (nonce ++ [b / 2 ^ 24 % 256, b / 65536 % 256, b / 256 % 256, b % 256])

end Machine
end Sys2Proof
end

