-- ==== Sys2Proof/Config.lean ====
section
/-!
DEFINITION. The constants of one device or board that the spec leaves open, and the free values:
each is opaque, so that no proof can see what it is. A free value that may differ each time is
applied to the counter `State.free`.
-/

namespace Sys2Proof

/-- The block's error code of a fault record (R404 names the field; the spec lists no codes), by
source and the model's own number of the event. DESIGN CHOICE, free and so safe: notes/assumptions/7. -/
opaque Config.blockCode : Nat → Nat → Nat

/-- What fixes the board's ACLK frequency. DESIGN CHOICE, free and so safe: notes/assumptions/8. -/
opaque Config.aclkChoice : Nat

/-- The board's ACLK frequency in kHz: R10 gives only its upper bound, 1.50 GHz. -/
def Config.aclkKHz : Nat := Config.aclkChoice % 1500000 + 1

/-- A choice that the spec leaves open, by the draw number. DESIGN CHOICE, free and so safe: notes/assumptions/6. -/
opaque Config.choice : Nat → Nat

/-- The value of a word that the spec leaves undefined, by the draw number. DESIGN CHOICE, free and so safe: notes/assumptions/6. -/
opaque Config.freeWord : Nat → BitVec 64

/-- What the fuses hold as the device's serial number. DEDUCED, free and so safe: notes/assumptions/145. -/
opaque Config.serialFuses : BitVec 64

/-- The device's serial number. -/
def Config.serial : Nat := Config.serialFuses.toNat

/-- The identity that the Bureau's OTP holds (R381). DESIGN CHOICE, free and so safe: notes/assumptions/90. -/
opaque Config.burBid : Nat

/-- The signature the Bureau makes over a sheet's signed bytes with its key (R381, R383). DESIGN CHOICE, free and so safe: notes/assumptions/90. -/
opaque Config.burSign : List Byte → List Byte

/-- The Bureau's public key BPK (R383). DESIGN CHOICE, free and so safe: notes/assumptions/90. -/
opaque Config.burPublicKey : List Byte

/-- The Bureau audit key (R384: derived from the Bureau OTP secret, how is not stated). DESIGN CHOICE, free and so safe: notes/assumptions/90. -/
opaque Config.burAuditKey : List Byte

/-- The Traty-key digest in Bureau OTP (R394). DESIGN CHOICE, free and so safe: notes/assumptions/136. -/
opaque Config.burTratyKey : List Byte

/-- Whether a Traty image carries a good signature of its own, given the Traty-key digest (R394: the
image's layout is not stated). DESIGN CHOICE, free and so safe: notes/assumptions/136. -/
opaque Config.tratySigned : List Byte → List Byte → Bool

/-- The TVER in a Traty image's header (R394: the image's layout is not stated). DESIGN CHOICE, free and so safe: notes/assumptions/136. -/
opaque Config.tratyHeader : List Byte → Nat

/-- The version of the Traty image at delivery. DESIGN CHOICE, free and so safe: notes/assumptions/136. -/
opaque Config.tratyVersion : Nat

/-- The digest of the Traty image at delivery. DESIGN CHOICE, free and so safe: notes/assumptions/136. -/
opaque Config.tratyDigest : List Byte

/-- The bank of a GDDR7 line (R230: the same on every device; the address layout is not stated). DESIGN CHOICE, free and so safe: notes/assumptions/73. -/
opaque Config.gddrBank : Nat → Nat

/-- The row of a GDDR7 line. DESIGN CHOICE, free and so safe: notes/assumptions/73. -/
opaque Config.gddrRow : Nat → Nat

/-- 32 random bytes that the device draws (R438), by the draw number. DESIGN CHOICE, free and so safe: notes/assumptions/91. -/
opaque Config.random : Nat → BitVec 256

/-- The attestation public key AKEY (R367). DESIGN CHOICE, free and so safe: notes/assumptions/90. -/
opaque Config.attestKey : List Byte

/-- The signature under AKEY over the attestation bytes (R367). DESIGN CHOICE, free and so safe: notes/assumptions/90. -/
opaque Config.attestSign : List Byte → List Byte

/-- The level outside the device on a GPIO pin it does not drive, by the draw number and the pin. DESIGN CHOICE, free and so safe: notes/assumptions/35. -/
opaque Config.pinExt : Nat → Nat → Bool

/-- Where a Kaluno image's 64-byte header states the image's bytes, seal included, as a 32-bit number, least significant
byte first (R315: the header's layout is not stated). DESIGN CHOICE, free and so safe: notes/assumptions/103. -/
opaque Config.fwLengthAt : Fin 61

/-- Bytes of a Kaluno image, seal included, from its header. -/
def Config.fwLength (h : List Byte) : Nat :=
  ((h.drop Config.fwLengthAt).take 4).foldr (fun b n => b.toNat + 256 * n) 0

/-- The byte of a Kaluno image's header, the four of its length apart, that tells the part that the image was built for,
and what stands there in an image for the AXR-24 (R3 refuses such an image; what tells it is not stated). DESIGN CHOICE:
notes/assumptions/157. -/
opaque Config.fwPartAt : Fin 60
opaque Config.fwPartOther : Byte

/-- Whether a Kaluno image's header says that it was built for the AXR-24. -/
def Config.fwOther (h : List Byte) : Bool :=
  (h.take Config.fwLengthAt ++ h.drop (Config.fwLengthAt + 4))[Config.fwPartAt.val]? = some Config.fwPartOther

/-- The key slot that a Kaluno image names, from its header. DESIGN CHOICE, free and so safe: notes/assumptions/103. -/
opaque Config.fwSlot : List Byte → Nat

/-- The SVN of a Kaluno image, from its header. DESIGN CHOICE, free and so safe: notes/assumptions/103. -/
opaque Config.fwSvn : List Byte → Nat

/-- The version of a Kaluno image, from its header. DESIGN CHOICE, free and so safe: notes/assumptions/103. -/
opaque Config.fwVersion : List Byte → Nat

/-- Bytes of the configuration flash (the spec gives no size). DESIGN CHOICE, free and so safe: notes/assumptions/12. -/
opaque Config.flashSize : Nat

/-- The byte at an address of the boot ROM (R338: its code is not stated). DESIGN CHOICE, free and so safe: notes/assumptions/106. -/
opaque Config.bootRom : Nat → Byte

end Sys2Proof
end

