-- ==== Sys2Proof/Machine/Ecc.lean ====
section
/-!
DEFINITION. The SEC-DED (72,64) code of R467: the columns h(i), encoding, the syndrome, and the
judgement of a read; CRC-16/0x1021 and CRC-32C as the chapters that use them state.
-/

namespace Sys2Proof
namespace Machine

/-- The number of set bits of a 7-bit value. -/
def pop7 (n : Nat) : Nat :=
  (n % 2) + (n / 2 % 2) + (n / 4 % 2) + (n / 8 % 2) + (n / 16 % 2) + (n / 32 % 2) + (n / 64 % 2)

/-- The columns h(0) to h(63) of R467: the 7-bit values with at least two bits set, ascending. -/
def eccCols : List Nat := ((List.range 128).filter (fun n => 2 ≤ pop7 n)).take 64

/-- The mask of the data bits whose column has bit `k` set. -/
def eccMask (k : Nat) : BitVec 64 :=
  (eccCols.zipIdx).foldl (fun a e => if e.1.testBit k then a ||| (1#64 <<< e.2) else a) 0

/-- The masks of the check bits c[0] to c[6]. -/
def eccMasks : List (BitVec 64) := (List.range 7).map eccMask

/-- Parity of a bit vector by halving: the XOR of its low `n` bits. -/
def parityN {w : Nat} (x : BitVec w) : Nat → Bool
  | 0 => false
  | n + 1 => (x.getLsbD n) != (parityN x n)

/-- Parity (XOR of all bits). -/
def parity {w : Nat} (x : BitVec w) : Bool := parityN x w

/-- c[6:0] of a data word as a number (R467). -/
def eccLow (d : BitVec 64) : Nat :=
  (eccMasks.zipIdx).foldl (fun a e => if parity (d &&& e.1) then a + 2 ^ e.2 else a) 0

/-- The codeword a write stores (R467). -/
def eccEnc (d : BitVec 64) : Code :=
  let c := BitVec.ofNat 7 (eccLow d)
  let c7 := parity d != parity c
  (BitVec.ofBool c7 ++ c ++ d : BitVec 72)

/-- The data bits of a codeword. -/
def eccData (c : Code) : BitVec 64 := c.extractLsb' 0 64

/-- The syndrome s[7:0] of a codeword as read (R467). -/
def eccSyn (c : Code) : Nat :=
  let low := (eccLow (eccData c)) ^^^ (c.extractLsb' 64 7).toNat
  low + (if parity c then 128 else 0)

/-- The judgement of a read (R467). -/
inductive Verdict where
  | clean (d : BitVec 64)
  | fixed (d : BitVec 64)
  | poison
  | bad
  deriving DecidableEq, Repr

/-- The judgement of R467's table for a codeword as read: the first row that applies. -/
def eccJudge (c : Code) : Verdict :=
  let s := eccSyn c
  let d := eccData c
  if s = 0 then .clean d
  else if s = 0xFF then .poison
  else if s < 128 then .bad
  else
    match eccCols.findIdx? (fun h => h = s - 128) with
    | some i => .fixed (d ^^^ (1#64 <<< i))
    | none =>
      if s = 128 ∨ s = 129 ∨ s = 130 ∨ s = 132 ∨ s = 136 ∨ s = 144 ∨ s = 160 ∨ s = 192 then .fixed d
      else .bad

/-- The codeword of stored poison (R233): the check bits c[6:0] of the data inverted, the overall
bit as the parity of the word makes it read syndrome 0xFF. -/
def eccPoison (d : BitVec 64) : Code := eccEnc d ^^^ (0x7F#72 <<< 64)

/-- One bit of CRC-16, polynomial 0x1021, most significant bit first. -/
def crc16Bit (c : Nat) (b : Bool) : Nat :=
  let top := (c / 32768 % 2 = 1)
  let sh := (c * 2) % 65536
  if top != b then sh ^^^ 0x1021 else sh

/-- CRC-16 over the low `n` bits of `x`, the highest of them first. -/
def crc16Bits (x : Nat) : Nat → Nat → Nat
  | 0, c => c
  | n + 1, c => crc16Bits x n (crc16Bit c (x.testBit n))

/-- One bit of the non-reflected CRC-32C (polynomial 0x1EDC6F41), most significant bit first. -/
def crc32cBit (c : Nat) (b : Bool) : Nat :=
  let top := (c / 2147483648 % 2 = 1)
  let sh := (c * 2) % 4294967296
  if top != b then sh ^^^ 0x1EDC6F41 else sh

/-- Non-reflected CRC-32C over the low `n` bits of `x`, the highest of them first. -/
def crc32cBits (x : Nat) : Nat → Nat → Nat
  | 0, c => c
  | n + 1, c => crc32cBits x n (crc32cBit c (x.testBit n))

/-- One shift of the reflected CRC-32C (polynomial 0x82F63B78). -/
def crc32rBit (c : Nat) : Nat := if c % 2 = 1 then (c / 2) ^^^ 0x82F63B78 else c / 2

/-- `n` shifts of the reflected CRC-32C. -/
def crc32rBits : Nat → Nat → Nat
  | 0, c => c
  | n + 1, c => crc32rBits n (crc32rBit c)

/-- Reflected CRC-32C over a list of bytes from the value `c`. -/
def crc32rBytes : List Byte → Nat → Nat
  | [], c => c
  | b :: r, c => crc32rBytes r (crc32rBits 8 (c ^^^ b.toNat))

/-- CRC-32C of a byte list: start value and final inversion of all ones, bits reflected. -/
def crc32c (l : List Byte) : Nat := (crc32rBytes l 0xFFFFFFFF) ^^^ 0xFFFFFFFF

end Machine
end Sys2Proof
end

