-- ==== Sys2Proof/Machine/Regs.lean ====
section
/-!
DEFINITION. The register fields of the device, one constant a field, taken from the
register tables of the spec (each docstring names the file): its number, its register,
its low bit and width, its access code (R5) and the reset value the spec states.
Fields whose reset the spec does not give as a number (fuse, strap, pin, sensed, or an
instance number) are handled by `Fld.resetAt`.
-/

namespace Sys2Proof
namespace Machine

/-- The access codes of R5. -/
inductive Acc where
  | ro | rw | wo | w1c | w1s | rc | rws
  deriving DecidableEq, Repr

/-- A register field: number, register number, low bit, width, access code, stated reset. -/
structure Fld where
  id : Nat
  reg : Nat
  lo : Nat
  width : Nat
  acc : Acc
  reset : Nat
  deriving DecidableEq, Repr


/-- SYS_TICK_CFG, 32 bits (01_device_and_tick.md). -/
def R_SYS_TICK_CFG : Nat := 0

/-- SYS_TICK_CNT, 64 bits (01_device_and_tick.md). -/
def R_SYS_TICK_CNT : Nat := 1

/-- SYS_TICK_OFS, 32 bits (01_device_and_tick.md). -/
def R_SYS_TICK_OFS : Nat := 2

/-- SYS_TICK_STAT, 32 bits (01_device_and_tick.md). -/
def R_SYS_TICK_STAT : Nat := 3

/-- CAB_ARITH_STAT, 32 bits (02_cell_datapath.md). -/
def R_CAB_ARITH_STAT : Nat := 4

/-- CAB_SCALE_EVENTS, 32 bits (02_cell_datapath.md). -/
def R_CAB_SCALE_EVENTS : Nat := 5

/-- CAB_SCALE_SUB, 32 bits (02_cell_datapath.md). -/
def R_CAB_SCALE_SUB : Nat := 6

/-- CAB_RAM_CE, 32 bits (03_cell_memory_and_addressing.md). -/
def R_CAB_RAM_CE : Nat := 7

/-- CAB_RAM_CE_SUB, 32 bits (03_cell_memory_and_addressing.md). -/
def R_CAB_RAM_CE_SUB : Nat := 8

/-- CAB_RAM_LAST, 64 bits (03_cell_memory_and_addressing.md). -/
def R_CAB_RAM_LAST : Nat := 9

/-- CAB_RAM_SPARE, 32 bits (03_cell_memory_and_addressing.md). -/
def R_CAB_RAM_SPARE : Nat := 10

/-- CAB_STATE, 32 bits (04_drawers_tick_plans_and_cabinets.md). -/
def R_CAB_STATE : Nat := 11

/-- CAB_PLAN_SEL, 32 bits (04_drawers_tick_plans_and_cabinets.md). -/
def R_CAB_PLAN_SEL : Nat := 12

/-- CAB_DRAWER_VALID, 32 bits (04_drawers_tick_plans_and_cabinets.md). -/
def R_CAB_DRAWER_VALID : Nat := 13

/-- CAB_GAP, 32 bits (04_drawers_tick_plans_and_cabinets.md). -/
def R_CAB_GAP : Nat := 14

/-- CAB_DOOR_STAT, 64 bits (04_drawers_tick_plans_and_cabinets.md). -/
def R_CAB_DOOR_STAT : Nat := 15

/-- CAB_CFG_FAULT, 64 bits (04_drawers_tick_plans_and_cabinets.md). -/
def R_CAB_CFG_FAULT : Nat := 16

/-- CAB_CAPTURE_CTL, 32 bits (04_drawers_tick_plans_and_cabinets.md). -/
def R_CAB_CAPTURE_CTL : Nat := 17

/-- CAB_CAPTURE_TICK, 64 bits (04_drawers_tick_plans_and_cabinets.md). -/
def R_CAB_CAPTURE_TICK : Nat := 18

/-- CAB_PLAN_STAT, 64 bits (04_drawers_tick_plans_and_cabinets.md). -/
def R_CAB_PLAN_STAT : Nat := 19

/-- CAB_PLAN_A, 32 bits (04_drawers_tick_plans_and_cabinets.md). -/
def R_CAB_PLAN_A : Nat := 20

/-- CAB_PLAN_B, 32 bits (04_drawers_tick_plans_and_cabinets.md). -/
def R_CAB_PLAN_B : Nat := 21

/-- CFG_CAB_MAP, 32 bits (04_drawers_tick_plans_and_cabinets.md). -/
def R_CFG_CAB_MAP : Nat := 22

/-- FIFO_MODE, 32 bits (05_stream_fifos.md). -/
def R_FIFO_MODE : Nat := 23

/-- FIFO_LEVEL, 32 bits (05_stream_fifos.md). -/
def R_FIFO_LEVEL : Nat := 24

/-- FIFO_PEAK, 32 bits (05_stream_fifos.md). -/
def R_FIFO_PEAK : Nat := 25

/-- FIFO_ERR, 64 bits (05_stream_fifos.md). -/
def R_FIFO_ERR : Nat := 26

/-- FIFO_EVT, 64 bits (05_stream_fifos.md). -/
def R_FIFO_EVT : Nat := 27

/-- FIFO_CTL, 32 bits (05_stream_fifos.md). -/
def R_FIFO_CTL : Nat := 28

/-- FIFO_WFRAME, 32 bits (05_stream_fifos.md). -/
def R_FIFO_WFRAME : Nat := 29

/-- FIFO_SPARE, 32 bits (05_stream_fifos.md). -/
def R_FIFO_SPARE : Nat := 30

/-- NOC_RTR_CTL, 32 bits (06_ring_network.md). -/
def R_NOC_RTR_CTL : Nat := 31

/-- NOC_RTR_ERR, 64 bits (06_ring_network.md). -/
def R_NOC_RTR_ERR : Nat := 32

/-- NOC_LINK_LOAD, 64 bits (06_ring_network.md). -/
def R_NOC_LINK_LOAD : Nat := 33

/-- NOC_STOP_STAT, 64 bits (06_ring_network.md). -/
def R_NOC_STOP_STAT : Nat := 34

/-- NOC_STOP_EVT, 64 bits (06_ring_network.md). -/
def R_NOC_STOP_EVT : Nat := 35

/-- NOC_BOOK, 64 bits (06_ring_network.md). -/
def R_NOC_BOOK : Nat := 36

/-- NOC_CFG, 64 bits (06_ring_network.md). -/
def R_NOC_CFG : Nat := 37

/-- NOC_RING_STAT, 32 bits (06_ring_network.md). -/
def R_NOC_RING_STAT : Nat := 38

/-- JPT_LINK_CFG, 64 bits (07_converter_ports.md). -/
def R_JPT_LINK_CFG : Nat := 39

/-- JPT_LINK_STAT, 64 bits (07_converter_ports.md). -/
def R_JPT_LINK_STAT : Nat := 40

/-- JPT_LINK_REL, 64 bits (07_converter_ports.md). -/
def R_JPT_LINK_REL : Nat := 41

/-- JPT_PATH_CFG, 64 bits (07_converter_ports.md). -/
def R_JPT_PATH_CFG : Nat := 42

/-- JPT_SYSREF, 32 bits (07_converter_ports.md). -/
def R_JPT_SYSREF : Nat := 43

/-- JPT_LANE_ERR, 64 bits (07_converter_ports.md). -/
def R_JPT_LANE_ERR : Nat := 44

/-- JPT_PATH_ERR, 64 bits (07_converter_ports.md). -/
def R_JPT_PATH_ERR : Nat := 45

/-- CPT_PORT_CFG, 64 bits (08_client_ports_lexicon_and_queues.md). -/
def R_CPT_PORT_CFG : Nat := 46

/-- CPT_PORT_CNT, 64 bits (08_client_ports_lexicon_and_queues.md). -/
def R_CPT_PORT_CNT : Nat := 47

/-- CPT_TXTS, 64 bits (08_client_ports_lexicon_and_queues.md). -/
def R_CPT_TXTS : Nat := 48

/-- CPT_TOD_SEC, 64 bits (08_client_ports_lexicon_and_queues.md). -/
def R_CPT_TOD_SEC : Nat := 49

/-- CPT_TOD_NS, 64 bits (08_client_ports_lexicon_and_queues.md). -/
def R_CPT_TOD_NS : Nat := 50

/-- CPT_TOD_INC, 64 bits (08_client_ports_lexicon_and_queues.md). -/
def R_CPT_TOD_INC : Nat := 51

/-- CPT_TOD_STEP, 64 bits (08_client_ports_lexicon_and_queues.md). -/
def R_CPT_TOD_STEP : Nat := 52

/-- CPT_SYNCE, 32 bits (08_client_ports_lexicon_and_queues.md). -/
def R_CPT_SYNCE : Nat := 53

/-- LEX_DATA_LO, 64 bits (08_client_ports_lexicon_and_queues.md). -/
def R_LEX_DATA_LO : Nat := 54

/-- LEX_DATA_HI, 64 bits (08_client_ports_lexicon_and_queues.md). -/
def R_LEX_DATA_HI : Nat := 55

/-- LEX_CMD, 64 bits (08_client_ports_lexicon_and_queues.md). -/
def R_LEX_CMD : Nat := 56

/-- LEX_ERR, 64 bits (08_client_ports_lexicon_and_queues.md). -/
def R_LEX_ERR : Nat := 57

/-- LEX_PORT_CFG, 64 bits (08_client_ports_lexicon_and_queues.md). -/
def R_LEX_PORT_CFG : Nat := 58

/-- QMG_CFG, 64 bits (08_client_ports_lexicon_and_queues.md). -/
def R_QMG_CFG : Nat := 59

/-- QMG_POOL, 64 bits (08_client_ports_lexicon_and_queues.md). -/
def R_QMG_POOL : Nat := 60

/-- QMG_POOL_BASE, 64 bits (08_client_ports_lexicon_and_queues.md). -/
def R_QMG_POOL_BASE : Nat := 61

/-- QMG_LINK_CFG, 64 bits (08_client_ports_lexicon_and_queues.md). -/
def R_QMG_LINK_CFG : Nat := 62

/-- QMG_LINK_STAT, 64 bits (08_client_ports_lexicon_and_queues.md). -/
def R_QMG_LINK_STAT : Nat := 63

/-- GDM_CFG, 64 bits (09_gddr7_memory_and_dma.md). -/
def R_GDM_CFG : Nat := 64

/-- GDM_STAT, 32 bits (09_gddr7_memory_and_dma.md). -/
def R_GDM_STAT : Nat := 65

/-- GDM_CTL, 32 bits (09_gddr7_memory_and_dma.md). -/
def R_GDM_CTL : Nat := 66

/-- GDM_ERR, 64 bits (09_gddr7_memory_and_dma.md). -/
def R_GDM_ERR : Nat := 67

/-- GDM_LAST, 64 bits (09_gddr7_memory_and_dma.md). -/
def R_GDM_LAST : Nat := 68

/-- GDM_DEV_ERR, 64 bits (09_gddr7_memory_and_dma.md). -/
def R_GDM_DEV_ERR : Nat := 69

/-- DMA_CH_CFG, 64 bits (09_gddr7_memory_and_dma.md). -/
def R_DMA_CH_CFG : Nat := 70

/-- DMA_RING_BASE, 64 bits (09_gddr7_memory_and_dma.md). -/
def R_DMA_RING_BASE : Nat := 71

/-- DMA_IDX, 32 bits (09_gddr7_memory_and_dma.md). -/
def R_DMA_IDX : Nat := 72

/-- DMA_CH_STAT, 64 bits (09_gddr7_memory_and_dma.md). -/
def R_DMA_CH_STAT : Nat := 73

/-- DMA_CH_CTL, 32 bits (09_gddr7_memory_and_dma.md). -/
def R_DMA_CH_CTL : Nat := 74

/-- SPN_SYS, 64 bits (10_span_links_and_systems.md). -/
def R_SPN_SYS : Nat := 75

/-- SPN_TICK, 64 bits (10_span_links_and_systems.md). -/
def R_SPN_TICK : Nat := 76

/-- SPN_TICK_STAT, 32 bits (10_span_links_and_systems.md). -/
def R_SPN_TICK_STAT : Nat := 77

/-- SPN_RCLK, 32 bits (10_span_links_and_systems.md). -/
def R_SPN_RCLK : Nat := 78

/-- SPN_LINK_CFG, 64 bits (10_span_links_and_systems.md). -/
def R_SPN_LINK_CFG : Nat := 79

/-- SPN_LINK_STAT, 64 bits (10_span_links_and_systems.md). -/
def R_SPN_LINK_STAT : Nat := 80

/-- SPN_LINK_ERR, 64 bits (10_span_links_and_systems.md). -/
def R_SPN_LINK_ERR : Nat := 81

/-- SPN_CAL, 64 bits (10_span_links_and_systems.md). -/
def R_SPN_CAL : Nat := 82

/-- SPN_ROUTE, 32 bits (10_span_links_and_systems.md). -/
def R_SPN_ROUTE : Nat := 83

/-- CFG_LOAD_CTL, 64 bits (11_configuration_streams.md). -/
def R_CFG_LOAD_CTL : Nat := 84

/-- CFG_LOAD_STAT, 64 bits (11_configuration_streams.md). -/
def R_CFG_LOAD_STAT : Nat := 85

/-- CFG_LOAD_ID, 64 bits (11_configuration_streams.md). -/
def R_CFG_LOAD_ID : Nat := 86

/-- CFG_STAGE, 64 bits (11_configuration_streams.md). -/
def R_CFG_STAGE : Nat := 87

/-- CFG_COMPAT, 64 bits (11_configuration_streams.md). -/
def R_CFG_COMPAT : Nat := 88

/-- CFG_KEY_STAT, 64 bits (11_configuration_streams.md). -/
def R_CFG_KEY_STAT : Nat := 89

/-- CFG_IMG_ID, 64 bits (11_configuration_streams.md). -/
def R_CFG_IMG_ID : Nat := 90

/-- SYS_BOOT_STAT, 64 bits (12_startup_and_pins.md). -/
def R_SYS_BOOT_STAT : Nat := 91

/-- SYS_BOOT_CTL, 32 bits (12_startup_and_pins.md). -/
def R_SYS_BOOT_CTL : Nat := 92

/-- SYS_LOAD_FAILS, 32 bits (12_startup_and_pins.md). -/
def R_SYS_LOAD_FAILS : Nat := 93

/-- SYS_LOAD_FAILS_SUB, 32 bits (12_startup_and_pins.md). -/
def R_SYS_LOAD_FAILS_SUB : Nat := 94

/-- PIN_CFG, 32 bits (12_startup_and_pins.md). -/
def R_PIN_CFG : Nat := 95

/-- PIN_CLAIM, 32 bits (12_startup_and_pins.md). -/
def R_PIN_CLAIM : Nat := 96

/-- PIN_OUT, 32 bits (12_startup_and_pins.md). -/
def R_PIN_OUT : Nat := 97

/-- PIN_OE, 32 bits (12_startup_and_pins.md). -/
def R_PIN_OE : Nat := 98

/-- PIN_IN, 32 bits (12_startup_and_pins.md). -/
def R_PIN_IN : Nat := 99

/-- PIN_BANK_STAT, 32 bits (12_startup_and_pins.md). -/
def R_PIN_BANK_STAT : Nat := 100

/-- PIN_LOADSTAT, 32 bits (12_startup_and_pins.md). -/
def R_PIN_LOADSTAT : Nat := 101

/-- CAB_STARTUP, 32 bits (12_startup_and_pins.md). -/
def R_CAB_STARTUP : Nat := 102

/-- SYS_PAIR_MAP, 32 bits (13_control_complex_and_scheduler.md). -/
def R_SYS_PAIR_MAP : Nat := 103

/-- SYS_PAIR_STAT, 32 bits (13_control_complex_and_scheduler.md). -/
def R_SYS_PAIR_STAT : Nat := 104

/-- SYS_SRAM_SECRET, 64 bits (13_control_complex_and_scheduler.md). -/
def R_SYS_SRAM_SECRET : Nat := 105

/-- SYS_SRAM_ERR, 64 bits (13_control_complex_and_scheduler.md). -/
def R_SYS_SRAM_ERR : Nat := 106

/-- SCH_CFG, 32 bits (13_control_complex_and_scheduler.md). -/
def R_SCH_CFG : Nat := 107

/-- SCH_POST, 32 bits (13_control_complex_and_scheduler.md). -/
def R_SCH_POST : Nat := 108

/-- SCH_STAT, 64 bits (13_control_complex_and_scheduler.md). -/
def R_SCH_STAT : Nat := 109

/-- SCH_EVT_BIND, 32 bits (13_control_complex_and_scheduler.md). -/
def R_SCH_EVT_BIND : Nat := 110

/-- SCH_FLOW, 32 bits (13_control_complex_and_scheduler.md). -/
def R_SCH_FLOW : Nat := 111

/-- MBX_DOORBELL, 32 bits (14_service_interface.md). -/
def R_MBX_DOORBELL : Nat := 112

/-- MBX_RSP_RDY, 32 bits (14_service_interface.md). -/
def R_MBX_RSP_RDY : Nat := 113

/-- MBX_BUSY, 32 bits (14_service_interface.md). -/
def R_MBX_BUSY : Nat := 114

/-- MBX_STAT, 64 bits (14_service_interface.md). -/
def R_MBX_STAT : Nat := 115

/-- MBX_EVT_IDX, 32 bits (14_service_interface.md). -/
def R_MBX_EVT_IDX : Nat := 116

/-- MBX_EVT_CTL, 32 bits (14_service_interface.md). -/
def R_MBX_EVT_CTL : Nat := 117

/-- MBX_CFG, 32 bits (14_service_interface.md). -/
def R_MBX_CFG : Nat := 118

/-- BUR_STAT, 64 bits (15_bureau.md). -/
def R_BUR_STAT : Nat := 119

/-- BUR_TRAIL, 64 bits (15_bureau.md). -/
def R_BUR_TRAIL : Nat := 120

/-- BUR_CFG, 64 bits (15_bureau.md). -/
def R_BUR_CFG : Nat := 121

/-- BUR_WARRANT_CTL, 32 bits (15_bureau.md). -/
def R_BUR_WARRANT_CTL : Nat := 122

/-- BUR_WARRANT_STAT, 64 bits (15_bureau.md). -/
def R_BUR_WARRANT_STAT : Nat := 123

/-- FLT_STATUS, 64 bits (16_fault_collection.md). -/
def R_FLT_STATUS : Nat := 124

/-- FLT_MODE, 64 bits (16_fault_collection.md). -/
def R_FLT_MODE : Nat := 125

/-- FLT_CFG, 64 bits (16_fault_collection.md). -/
def R_FLT_CFG : Nat := 126

/-- FLT_STATE, 64 bits (16_fault_collection.md). -/
def R_FLT_STATE : Nat := 127

/-- FLT_REC_IDX, 64 bits (16_fault_collection.md). -/
def R_FLT_REC_IDX : Nat := 128

/-- FLT_SRC, 64 bits (16_fault_collection.md). -/
def R_FLT_SRC : Nat := 129

/-- FLT_INJ, 32 bits (16_fault_collection.md). -/
def R_FLT_INJ : Nat := 130

/-- FLT_RAISE_ADDR, 64 bits (16_fault_collection.md). -/
def R_FLT_RAISE_ADDR : Nat := 131

/-- FLT_RAISE, 64 bits (16_fault_collection.md). -/
def R_FLT_RAISE : Nat := 132

/-- FLT_UNIT, 32 bits (16_fault_collection.md). -/
def R_FLT_UNIT : Nat := 133

/-- FLT_UNIT_SUB, 32 bits (16_fault_collection.md). -/
def R_FLT_UNIT_SUB : Nat := 134

/-- SCR_CFG, 32 bits (17_scrub_self_test_and_spares.md). -/
def R_SCR_CFG : Nat := 135

/-- SCR_STAT, 64 bits (17_scrub_self_test_and_spares.md). -/
def R_SCR_STAT : Nat := 136

/-- SCR_ERR, 64 bits (17_scrub_self_test_and_spares.md). -/
def R_SCR_ERR : Nat := 137

/-- BST_CFG, 64 bits (17_scrub_self_test_and_spares.md). -/
def R_BST_CFG : Nat := 138

/-- BST_CAB, 64 bits (17_scrub_self_test_and_spares.md). -/
def R_BST_CAB : Nat := 139

/-- BST_PASS_TICK, 64 bits (17_scrub_self_test_and_spares.md). -/
def R_BST_PASS_TICK : Nat := 140

/-- PCI_WIN0, 64 bits (19_address_map_and_register_index.md). -/
def R_PCI_WIN0 : Nat := 141

/-- PCI_WIN1, 64 bits (19_address_map_and_register_index.md). -/
def R_PCI_WIN1 : Nat := 142

/-- SYS_TICK_CFG.TICK_OUT_EN [31] RW. -/
def SYS_TICK_CFG_TICK_OUT_EN : Fld := ⟨0, 0, 31, 1, .rw, 1⟩

/-- SYS_TICK_CFG.SRC [30:29] RW. -/
def SYS_TICK_CFG_SRC : Fld := ⟨1, 0, 29, 2, .rw, 0⟩

/-- SYS_TICK_CFG.OFS_SHIFT [26:24] RO. -/
def SYS_TICK_CFG_OFS_SHIFT : Fld := ⟨2, 0, 24, 3, .ro, 0⟩

/-- SYS_TICK_CFG.TOL [23:20] RW. -/
def SYS_TICK_CFG_TOL : Fld := ⟨3, 0, 20, 4, .rw, 4⟩

/-- SYS_TICK_CFG.TICK_LEN [19:0] RW. -/
def SYS_TICK_CFG_TICK_LEN : Fld := ⟨4, 0, 0, 20, .rw, 1500⟩

/-- SYS_TICK_CNT.COUNT [63:0] RO. -/
def SYS_TICK_CNT_COUNT : Fld := ⟨5, 1, 0, 64, .ro, 0⟩

/-- SYS_TICK_OFS.OFFSET [15:0] RO. -/
def SYS_TICK_OFS_OFFSET : Fld := ⟨6, 2, 0, 16, .ro, 0⟩

/-- SYS_TICK_STAT.HOLDOVER [31] RO. -/
def SYS_TICK_STAT_HOLDOVER : Fld := ⟨7, 3, 31, 1, .ro, 0⟩

/-- SYS_TICK_STAT.LEN_REFUSED [30] W1C. -/
def SYS_TICK_STAT_LEN_REFUSED : Fld := ⟨8, 3, 30, 1, .w1c, 0⟩

/-- SYS_TICK_STAT.ALIGN_PENDING [29] RO. -/
def SYS_TICK_STAT_ALIGN_PENDING : Fld := ⟨9, 3, 29, 1, .ro, 0⟩

/-- SYS_TICK_STAT.PHASE_ERR [23:16] RO. -/
def SYS_TICK_STAT_PHASE_ERR : Fld := ⟨10, 3, 16, 8, .ro, 0⟩

/-- SYS_TICK_STAT.MISSED [15:0] RC. -/
def SYS_TICK_STAT_MISSED : Fld := ⟨11, 3, 0, 16, .rc, 0⟩

/-- CAB_ARITH_STAT.SAT_ANY [31] RO. -/
def CAB_ARITH_STAT_SAT_ANY : Fld := ⟨12, 4, 31, 1, .ro, 0⟩

/-- CAB_ARITH_STAT.RESC_ANY [30] RO. -/
def CAB_ARITH_STAT_RESC_ANY : Fld := ⟨13, 4, 30, 1, .ro, 0⟩

/-- CAB_ARITH_STAT.SCALE_TICK [15:0] RO. -/
def CAB_ARITH_STAT_SCALE_TICK : Fld := ⟨14, 4, 0, 16, .ro, 0⟩

/-- CAB_SCALE_EVENTS.COUNT [31:0] RO. -/
def CAB_SCALE_EVENTS_COUNT : Fld := ⟨15, 5, 0, 32, .ro, 0⟩

/-- CAB_SCALE_SUB.AMOUNT [31:0] WO. -/
def CAB_SCALE_SUB_AMOUNT : Fld := ⟨16, 6, 0, 32, .wo, 0⟩

/-- CAB_RAM_CE.COUNT [31:0] RO. -/
def CAB_RAM_CE_COUNT : Fld := ⟨17, 7, 0, 32, .ro, 0⟩

/-- CAB_RAM_CE_SUB.AMOUNT [31:0] WO. -/
def CAB_RAM_CE_SUB_AMOUNT : Fld := ⟨18, 8, 0, 32, .wo, 0⟩

/-- CAB_RAM_LAST.VALID [63] W1C. -/
def CAB_RAM_LAST_VALID : Fld := ⟨19, 9, 63, 1, .w1c, 0⟩

/-- CAB_RAM_LAST.UE [62] RO. -/
def CAB_RAM_LAST_UE : Fld := ⟨20, 9, 62, 1, .ro, 0⟩

/-- CAB_RAM_LAST.SYNDROME [24:17] RO. -/
def CAB_RAM_LAST_SYNDROME : Fld := ⟨21, 9, 17, 8, .ro, 0⟩

/-- CAB_RAM_LAST.PCOL [16:12] RO. -/
def CAB_RAM_LAST_PCOL : Fld := ⟨22, 9, 12, 5, .ro, 0⟩

/-- CAB_RAM_LAST.ROW [11:9] RO. -/
def CAB_RAM_LAST_ROW : Fld := ⟨23, 9, 9, 3, .ro, 0⟩

/-- CAB_RAM_LAST.ADDR [8:0] RO. -/
def CAB_RAM_LAST_ADDR : Fld := ⟨24, 9, 0, 9, .ro, 0⟩

/-- CAB_RAM_SPARE.FULL [24:16] RO. -/
def CAB_RAM_SPARE_FULL : Fld := ⟨25, 10, 16, 9, .ro, 0⟩

/-- CAB_RAM_SPARE.USED [8:0] RO. -/
def CAB_RAM_SPARE_USED : Fld := ⟨26, 10, 0, 9, .ro, 0⟩

/-- CAB_STATE.CAP_GRANT [31] RO. -/
def CAB_STATE_CAP_GRANT : Fld := ⟨27, 11, 31, 1, .ro, 0⟩

/-- CAB_STATE.RELOC [30] RO. -/
def CAB_STATE_RELOC : Fld := ⟨28, 11, 30, 1, .ro, 0⟩

/-- CAB_STATE.FENCED [29] RO. -/
def CAB_STATE_FENCED : Fld := ⟨29, 11, 29, 1, .ro, 1⟩

/-- CAB_STATE.FFRST [28] RO. -/
def CAB_STATE_FFRST : Fld := ⟨30, 11, 28, 1, .ro, 1⟩

/-- CAB_STATE.SAFE_HELD [27] RO. -/
def CAB_STATE_SAFE_HELD : Fld := ⟨31, 11, 27, 1, .ro, 0⟩

/-- CAB_STATE.LOGICAL [22:16] RO. -/
def CAB_STATE_LOGICAL : Fld := ⟨32, 11, 16, 7, .ro, 127⟩

/-- CAB_STATE.DRAIN_TO [9:8] RO. -/
def CAB_STATE_DRAIN_TO : Fld := ⟨33, 11, 8, 2, .ro, 0⟩

/-- CAB_STATE.STATE [3:0] RO. -/
def CAB_STATE_STATE : Fld := ⟨34, 11, 0, 4, .ro, 0⟩

/-- CAB_PLAN_SEL.REFUSED [31] W1C. -/
def CAB_PLAN_SEL_REFUSED : Fld := ⟨35, 12, 31, 1, .w1c, 0⟩

/-- CAB_PLAN_SEL.PEND [2] RO. -/
def CAB_PLAN_SEL_PEND : Fld := ⟨36, 12, 2, 1, .ro, 0⟩

/-- CAB_PLAN_SEL.REQ [1] RW. -/
def CAB_PLAN_SEL_REQ : Fld := ⟨37, 12, 1, 1, .rw, 0⟩

/-- CAB_PLAN_SEL.CUR [0] RO. -/
def CAB_PLAN_SEL_CUR : Fld := ⟨38, 12, 0, 1, .ro, 0⟩

/-- CAB_DRAWER_VALID.VALID [15:1] RO. -/
def CAB_DRAWER_VALID_VALID : Fld := ⟨39, 13, 1, 15, .ro, 0⟩

/-- CAB_DRAWER_VALID.HOLD [0] RO. -/
def CAB_DRAWER_VALID_HOLD : Fld := ⟨40, 13, 0, 1, .ro, 1⟩

/-- CAB_GAP.PARKED [8] RO. -/
def CAB_GAP_PARKED : Fld := ⟨41, 14, 8, 1, .ro, 0⟩

/-- CAB_GAP.POS [4:0] RO. -/
def CAB_GAP_POS : Fld := ⟨42, 14, 0, 5, .ro, 16⟩

/-- CAB_DOOR_STAT.OPEN [63] RO. -/
def CAB_DOOR_STAT_OPEN : Fld := ⟨43, 15, 63, 1, .ro, 0⟩

/-- CAB_DOOR_STAT.FAULT_CLOSE [62] RO. -/
def CAB_DOOR_STAT_FAULT_CLOSE : Fld := ⟨44, 15, 62, 1, .ro, 0⟩

/-- CAB_DOOR_STAT.OVERRUN [47:32] RC. -/
def CAB_DOOR_STAT_OVERRUN : Fld := ⟨45, 15, 32, 16, .rc, 0⟩

/-- CAB_DOOR_STAT.CLOSED_DROP [31:0] RC. -/
def CAB_DOOR_STAT_CLOSED_DROP : Fld := ⟨46, 15, 0, 32, .rc, 0⟩

/-- CAB_CFG_FAULT.VALID [63] W1C. -/
def CAB_CFG_FAULT_VALID : Fld := ⟨47, 16, 63, 1, .w1c, 0⟩

/-- CAB_CFG_FAULT.CLASS [62:61] RO. -/
def CAB_CFG_FAULT_CLASS : Fld := ⟨48, 16, 61, 2, .ro, 0⟩

/-- CAB_CFG_FAULT.KIND [60] RO. -/
def CAB_CFG_FAULT_KIND : Fld := ⟨49, 16, 60, 1, .ro, 0⟩

/-- CAB_CFG_FAULT.COUNT [47:32] RC. -/
def CAB_CFG_FAULT_COUNT : Fld := ⟨50, 16, 32, 16, .rc, 0⟩

/-- CAB_CFG_FAULT.WORD [13:12] RO. -/
def CAB_CFG_FAULT_WORD : Fld := ⟨51, 16, 12, 2, .ro, 0⟩

/-- CAB_CFG_FAULT.DRAWER [11:8] RO. -/
def CAB_CFG_FAULT_DRAWER : Fld := ⟨52, 16, 8, 4, .ro, 0⟩

/-- CAB_CFG_FAULT.LCOL [7:4] RO. -/
def CAB_CFG_FAULT_LCOL : Fld := ⟨53, 16, 4, 4, .ro, 0⟩

/-- CAB_CFG_FAULT.ROW [2:0] RO. -/
def CAB_CFG_FAULT_ROW : Fld := ⟨54, 16, 0, 3, .ro, 0⟩

/-- CAB_CAPTURE_CTL.ARMED [31] RO. -/
def CAB_CAPTURE_CTL_ARMED : Fld := ⟨55, 17, 31, 1, .ro, 0⟩

/-- CAB_CAPTURE_CTL.DONE [30] W1C. -/
def CAB_CAPTURE_CTL_DONE : Fld := ⟨56, 17, 30, 1, .w1c, 0⟩

/-- CAB_CAPTURE_CTL.REFUSED [29] W1C. -/
def CAB_CAPTURE_CTL_REFUSED : Fld := ⟨57, 17, 29, 1, .w1c, 0⟩

/-- CAB_CAPTURE_CTL.CANCELLED [28] W1C. -/
def CAB_CAPTURE_CTL_CANCELLED : Fld := ⟨58, 17, 28, 1, .w1c, 0⟩

/-- CAB_CAPTURE_CTL.ARM [26] WO. -/
def CAB_CAPTURE_CTL_ARM : Fld := ⟨59, 17, 26, 1, .wo, 0⟩

/-- CAB_CAPTURE_CTL.MODE [20] RW. -/
def CAB_CAPTURE_CTL_MODE : Fld := ⟨60, 17, 20, 1, .rw, 0⟩

/-- CAB_CAPTURE_CTL.OFFSET [19:0] RW. -/
def CAB_CAPTURE_CTL_OFFSET : Fld := ⟨61, 17, 0, 20, .rw, 0⟩

/-- CAB_CAPTURE_TICK.TICK [63:0] RW. -/
def CAB_CAPTURE_TICK_TICK : Fld := ⟨62, 18, 0, 64, .rw, 0⟩

/-- CAB_PLAN_STAT.B_ADM [63] RO. -/
def CAB_PLAN_STAT_B_ADM : Fld := ⟨63, 19, 63, 1, .ro, 0⟩

/-- CAB_PLAN_STAT.A_ADM [62] RO. -/
def CAB_PLAN_STAT_A_ADM : Fld := ⟨64, 19, 62, 1, .ro, 0⟩

/-- CAB_PLAN_STAT.B_SLOTS [61:56] RO. -/
def CAB_PLAN_STAT_B_SLOTS : Fld := ⟨65, 19, 56, 6, .ro, 0⟩

/-- CAB_PLAN_STAT.A_SLOTS [55:50] RO. -/
def CAB_PLAN_STAT_A_SLOTS : Fld := ⟨66, 19, 50, 6, .ro, 0⟩

/-- CAB_PLAN_STAT.B_SUM [39:20] RO. -/
def CAB_PLAN_STAT_B_SUM : Fld := ⟨67, 19, 20, 20, .ro, 0⟩

/-- CAB_PLAN_STAT.A_SUM [19:0] RO. -/
def CAB_PLAN_STAT_A_SUM : Fld := ⟨68, 19, 0, 20, .ro, 0⟩

/-- CAB_PLAN_A.DRAWER [19:16] RO. -/
def CAB_PLAN_A_DRAWER : Fld := ⟨69, 20, 16, 4, .ro, 0⟩

/-- CAB_PLAN_A.LEN [15:0] RO. -/
def CAB_PLAN_A_LEN : Fld := ⟨70, 20, 0, 16, .ro, 0⟩

/-- CAB_PLAN_B.DRAWER [19:16] RO. -/
def CAB_PLAN_B_DRAWER : Fld := ⟨71, 21, 16, 4, .ro, 0⟩

/-- CAB_PLAN_B.LEN [15:0] RO. -/
def CAB_PLAN_B_LEN : Fld := ⟨72, 21, 0, 16, .ro, 0⟩

/-- CFG_CAB_MAP.RELOCATED [7] RO. -/
def CFG_CAB_MAP_RELOCATED : Fld := ⟨73, 22, 7, 1, .ro, 0⟩

/-- CFG_CAB_MAP.PHYS [6:0] RO. -/
def CFG_CAB_MAP_PHYS : Fld := ⟨74, 22, 0, 7, .ro, 0⟩

/-- FIFO_MODE.REFUSED [31] W1C. -/
def FIFO_MODE_REFUSED : Fld := ⟨75, 23, 31, 1, .w1c, 0⟩

/-- FIFO_MODE.ORDER_PEND [5] RO. -/
def FIFO_MODE_ORDER_PEND : Fld := ⟨76, 23, 5, 1, .ro, 0⟩

/-- FIFO_MODE.ORDER_REQ [4] RW. -/
def FIFO_MODE_ORDER_REQ : Fld := ⟨77, 23, 4, 1, .rw, 0⟩

/-- FIFO_MODE.ORDER [3] RO. -/
def FIFO_MODE_ORDER : Fld := ⟨78, 23, 3, 1, .ro, 0⟩

/-- FIFO_MODE.SWAP [0] RW. -/
def FIFO_MODE_SWAP : Fld := ⟨79, 23, 0, 1, .rw, 0⟩

/-- FIFO_LEVEL.OPEN [31] RO. -/
def FIFO_LEVEL_OPEN : Fld := ⟨80, 24, 31, 1, .ro, 0⟩

/-- FIFO_LEVEL.SKIP [30] RO. -/
def FIFO_LEVEL_SKIP : Fld := ⟨81, 24, 30, 1, .ro, 0⟩

/-- FIFO_LEVEL.RBANK [29] RO. -/
def FIFO_LEVEL_RBANK : Fld := ⟨82, 24, 29, 1, .ro, 0⟩

/-- FIFO_LEVEL.ITEMS [26:16] RO. -/
def FIFO_LEVEL_ITEMS : Fld := ⟨83, 24, 16, 11, .ro, 0⟩

/-- FIFO_LEVEL.WORDS [10:0] RO. -/
def FIFO_LEVEL_WORDS : Fld := ⟨84, 24, 0, 11, .ro, 0⟩

/-- FIFO_PEAK.PEAK [10:0] RC. -/
def FIFO_PEAK_PEAK : Fld := ⟨85, 25, 0, 11, .rc, 0⟩

/-- FIFO_ERR.PROTO [47:32] RC. -/
def FIFO_ERR_PROTO : Fld := ⟨86, 26, 32, 16, .rc, 0⟩

/-- FIFO_ERR.POISON [31:16] RC. -/
def FIFO_ERR_POISON : Fld := ⟨87, 26, 16, 16, .rc, 0⟩

/-- FIFO_ERR.CE [15:0] RC. -/
def FIFO_ERR_CE : Fld := ⟨88, 26, 0, 16, .rc, 0⟩

/-- FIFO_EVT.SKIPPED [47:32] RC. -/
def FIFO_EVT_SKIPPED : Fld := ⟨89, 27, 32, 16, .rc, 0⟩

/-- FIFO_EVT.READ_CUT [31:16] RC. -/
def FIFO_EVT_READ_CUT : Fld := ⟨90, 27, 16, 16, .rc, 0⟩

/-- FIFO_EVT.FLUSH_PARTIAL [15:0] RC. -/
def FIFO_EVT_FLUSH_PARTIAL : Fld := ⟨91, 27, 0, 16, .rc, 0⟩

/-- FIFO_CTL.FLUSH [0] WO. -/
def FIFO_CTL_FLUSH : Fld := ⟨92, 28, 0, 1, .wo, 0⟩

/-- FIFO_WFRAME.EN [11] RO. -/
def FIFO_WFRAME_EN : Fld := ⟨93, 29, 11, 1, .ro, 0⟩

/-- FIFO_WFRAME.PRIO [10:8] RW. -/
def FIFO_WFRAME_PRIO : Fld := ⟨94, 29, 8, 3, .rw, 0⟩

/-- FIFO_WFRAME.ILENM1 [5:0] RW. -/
def FIFO_WFRAME_ILENM1 : Fld := ⟨95, 29, 0, 6, .rw, 0⟩

/-- FIFO_SPARE.BANK1 [6:4] RO. -/
def FIFO_SPARE_BANK1 : Fld := ⟨96, 30, 4, 3, .ro, 0⟩

/-- FIFO_SPARE.BANK0 [2:0] RO. -/
def FIFO_SPARE_BANK0 : Fld := ⟨97, 30, 0, 3, .ro, 0⟩

/-- NOC_RTR_CTL.REFUSED [31] W1C. -/
def NOC_RTR_CTL_REFUSED : Fld := ⟨98, 31, 31, 1, .w1c, 0⟩

/-- NOC_RTR_CTL.UNAVAIL [30] RO. -/
def NOC_RTR_CTL_UNAVAIL : Fld := ⟨99, 31, 30, 1, .ro, 0⟩

/-- NOC_RTR_CTL.STATE [10:8] RO. -/
def NOC_RTR_CTL_STATE : Fld := ⟨100, 31, 8, 3, .ro, 0⟩

/-- NOC_RTR_CTL.MODE [1:0] RW. -/
def NOC_RTR_CTL_MODE : Fld := ⟨101, 31, 0, 2, .rw, 0⟩

/-- NOC_RTR_ERR.CE [63:48] RC. -/
def NOC_RTR_ERR_CE : Fld := ⟨102, 32, 48, 16, .rc, 0⟩

/-- NOC_RTR_ERR.UE_DATA [47:32] RC. -/
def NOC_RTR_ERR_UE_DATA : Fld := ⟨103, 32, 32, 16, .rc, 0⟩

/-- NOC_RTR_ERR.HDR_DROP [31:16] RC. -/
def NOC_RTR_ERR_HDR_DROP : Fld := ⟨104, 32, 16, 16, .rc, 0⟩

/-- NOC_RTR_ERR.CRC_DROP [15:0] RC. -/
def NOC_RTR_ERR_CRC_DROP : Fld := ⟨105, 32, 0, 16, .rc, 0⟩

/-- NOC_LINK_LOAD.VNEG [63:48] RO. -/
def NOC_LINK_LOAD_VNEG : Fld := ⟨106, 33, 48, 16, .ro, 0⟩

/-- NOC_LINK_LOAD.VPOS [47:32] RO. -/
def NOC_LINK_LOAD_VPOS : Fld := ⟨107, 33, 32, 16, .ro, 0⟩

/-- NOC_LINK_LOAD.NEG [31:16] RO. -/
def NOC_LINK_LOAD_NEG : Fld := ⟨108, 33, 16, 16, .ro, 0⟩

/-- NOC_LINK_LOAD.POS [15:0] RO. -/
def NOC_LINK_LOAD_POS : Fld := ⟨109, 33, 0, 16, .ro, 0⟩

/-- NOC_STOP_STAT.FENCE_ERR [63:48] RC. -/
def NOC_STOP_STAT_FENCE_ERR : Fld := ⟨110, 34, 48, 16, .rc, 0⟩

/-- NOC_STOP_STAT.FENCE_RSP [47:32] RC. -/
def NOC_STOP_STAT_FENCE_RSP : Fld := ⟨111, 34, 32, 16, .rc, 0⟩

/-- NOC_STOP_STAT.FENCE_DISC [31:16] RC. -/
def NOC_STOP_STAT_FENCE_DISC : Fld := ⟨112, 34, 16, 16, .rc, 0⟩

/-- NOC_STOP_STAT.TIMEOUT [15:0] RC. -/
def NOC_STOP_STAT_TIMEOUT : Fld := ⟨113, 34, 0, 16, .rc, 0⟩

/-- NOC_STOP_EVT.LATE_RSP [63:48] RC. -/
def NOC_STOP_EVT_LATE_RSP : Fld := ⟨114, 35, 48, 16, .rc, 0⟩

/-- NOC_STOP_EVT.SEQ_SKIP [47:32] RC. -/
def NOC_STOP_EVT_SEQ_SKIP : Fld := ⟨115, 35, 32, 16, .rc, 0⟩

/-- NOC_STOP_EVT.SEQ_STALE [31:16] RC. -/
def NOC_STOP_EVT_SEQ_STALE : Fld := ⟨116, 35, 16, 16, .rc, 0⟩

/-- NOC_STOP_EVT.MISDIR [15:0] RC. -/
def NOC_STOP_EVT_MISDIR : Fld := ⟨117, 35, 0, 16, .rc, 0⟩

/-- NOC_BOOK.VALID [63] RO. -/
def NOC_BOOK_VALID : Fld := ⟨118, 36, 63, 1, .ro, 0⟩

/-- NOC_BOOK.DKIND [62] RO. -/
def NOC_BOOK_DKIND : Fld := ⟨119, 36, 62, 1, .ro, 0⟩

/-- NOC_BOOK.DEST [61:54] RO. -/
def NOC_BOOK_DEST : Fld := ⟨120, 36, 54, 8, .ro, 0⟩

/-- NOC_BOOK.DFIFO [53:51] RO. -/
def NOC_BOOK_DFIFO : Fld := ⟨121, 36, 51, 3, .ro, 0⟩

/-- NOC_BOOK.FLITS [47:28] RO. -/
def NOC_BOOK_FLITS : Fld := ⟨122, 36, 28, 20, .ro, 0⟩

/-- NOC_BOOK.SEQ [15:0] RO. -/
def NOC_BOOK_SEQ : Fld := ⟨123, 36, 0, 16, .ro, 0⟩

/-- NOC_CFG.REFUSED [63] W1C. -/
def NOC_CFG_REFUSED : Fld := ⟨124, 37, 63, 1, .w1c, 0⟩

/-- NOC_CFG.REORDER_TO [39:32] RW. -/
def NOC_CFG_REORDER_TO : Fld := ⟨125, 37, 32, 8, .rw, 2⟩

/-- NOC_CFG.DRAIN [31:24] RW. -/
def NOC_CFG_DRAIN : Fld := ⟨126, 37, 24, 8, .rw, 16⟩

/-- NOC_CFG.REQ_TO [15:0] RW. -/
def NOC_CFG_REQ_TO : Fld := ⟨127, 37, 0, 16, .rw, 64⟩

/-- NOC_RING_STAT.DEGRADED [31] RO. -/
def NOC_RING_STAT_DEGRADED : Fld := ⟨128, 38, 31, 1, .ro, 0⟩

/-- NOC_RING_STAT.OVERBOOKED [30] RO. -/
def NOC_RING_STAT_OVERBOOKED : Fld := ⟨129, 38, 30, 1, .ro, 0⟩

/-- NOC_RING_STAT.FAILED_STOP [23:16] RO. -/
def NOC_RING_STAT_FAILED_STOP : Fld := ⟨130, 38, 16, 8, .ro, 255⟩

/-- NOC_RING_STAT.BYPASS_STOP [7:0] RO. -/
def NOC_RING_STAT_BYPASS_STOP : Fld := ⟨131, 38, 0, 8, .ro, 255⟩

/-- JPT_LINK_CFG.EN [63] RW. -/
def JPT_LINK_CFG_EN : Fld := ⟨132, 39, 63, 1, .rw, 0⟩

/-- JPT_LINK_CFG.ENC [62] RW. -/
def JPT_LINK_CFG_ENC : Fld := ⟨133, 39, 62, 1, .rw, 0⟩

/-- JPT_LINK_CFG.SUB1 [61] RW. -/
def JPT_LINK_CFG_SUB1 : Fld := ⟨134, 39, 61, 1, .rw, 1⟩

/-- JPT_LINK_CFG.SCR [60] RW. -/
def JPT_LINK_CFG_SCR : Fld := ⟨135, 39, 60, 1, .rw, 1⟩

/-- JPT_LINK_CFG.RETRAIN [59] WO. -/
def JPT_LINK_CFG_RETRAIN : Fld := ⟨136, 39, 59, 1, .wo, 0⟩

/-- JPT_LINK_CFG.REFUSED [58] W1C. -/
def JPT_LINK_CFG_REFUSED : Fld := ⟨137, 39, 58, 1, .w1c, 0⟩

/-- JPT_LINK_CFG.LMAP [55:32] RW. -/
def JPT_LINK_CFG_LMAP : Fld := ⟨138, 39, 32, 24, .rw, 16434824⟩

/-- JPT_LINK_CFG.L [31:28] RW. -/
def JPT_LINK_CFG_L : Fld := ⟨139, 39, 28, 4, .rw, 4⟩

/-- JPT_LINK_CFG.M [27:24] RW. -/
def JPT_LINK_CFG_M : Fld := ⟨140, 39, 24, 4, .rw, 2⟩

/-- JPT_LINK_CFG.NP [23:20] RW. -/
def JPT_LINK_CFG_NP : Fld := ⟨141, 39, 20, 4, .rw, 11⟩

/-- JPT_LINK_CFG.N [19:15] RW. -/
def JPT_LINK_CFG_N : Fld := ⟨142, 39, 15, 5, .rw, 12⟩

/-- JPT_LINK_CFG.CS [14:13] RW. -/
def JPT_LINK_CFG_CS : Fld := ⟨143, 39, 13, 2, .rw, 0⟩

/-- JPT_LINK_CFG.FM1 [12:8] RW. -/
def JPT_LINK_CFG_FM1 : Fld := ⟨144, 39, 8, 5, .rw, 2⟩

/-- JPT_LINK_CFG.KEM1 [7:0] RW. -/
def JPT_LINK_CFG_KEM1 : Fld := ⟨145, 39, 0, 8, .rw, 0⟩

/-- JPT_LINK_STAT.LAT [51:32] RO. -/
def JPT_LINK_STAT_LAT : Fld := ⟨146, 40, 32, 20, .ro, 0⟩

/-- JPT_LINK_STAT.LOCK [15:8] RO. -/
def JPT_LINK_STAT_LOCK : Fld := ⟨147, 40, 8, 8, .ro, 0⟩

/-- JPT_LINK_STAT.REASON [7:4] RO. -/
def JPT_LINK_STAT_REASON : Fld := ⟨148, 40, 4, 4, .ro, 0⟩

/-- JPT_LINK_STAT.STATE [3:0] RO. -/
def JPT_LINK_STAT_STATE : Fld := ⟨149, 40, 0, 4, .ro, 0⟩

/-- JPT_LINK_REL.BRINGUP_TO [63:56] RW. -/
def JPT_LINK_REL_BRINGUP_TO : Fld := ⟨150, 41, 56, 8, .rw, 100⟩

/-- JPT_LINK_REL.RBD [23:16] RW. -/
def JPT_LINK_REL_RBD : Fld := ⟨151, 41, 16, 8, .rw, 0⟩

/-- JPT_PATH_CFG.EN [63] RW. -/
def JPT_PATH_CFG_EN : Fld := ⟨152, 42, 63, 1, .rw, 0⟩

/-- JPT_PATH_CFG.DEST [62] RW. -/
def JPT_PATH_CFG_DEST : Fld := ⟨153, 42, 62, 1, .rw, 0⟩

/-- JPT_PATH_CFG.LINK [61] RW. -/
def JPT_PATH_CFG_LINK : Fld := ⟨154, 42, 61, 1, .rw, 0⟩

/-- JPT_PATH_CFG.QEN [60] RW. -/
def JPT_PATH_CFG_QEN : Fld := ⟨155, 42, 60, 1, .rw, 1⟩

/-- JPT_PATH_CFG.RND [59] RW. -/
def JPT_PATH_CFG_RND : Fld := ⟨156, 42, 59, 1, .rw, 1⟩

/-- JPT_PATH_CFG.CI [58:56] RW. -/
def JPT_PATH_CFG_CI : Fld := ⟨157, 42, 56, 3, .rw, 0⟩

/-- JPT_PATH_CFG.CQ [55:53] RW. -/
def JPT_PATH_CFG_CQ : Fld := ⟨158, 42, 53, 3, .rw, 1⟩

/-- JPT_PATH_CFG.PRIO [52:50] RW. -/
def JPT_PATH_CFG_PRIO : Fld := ⟨159, 42, 50, 3, .rw, 0⟩

/-- JPT_PATH_CFG.ILENM1 [49:44] RW. -/
def JPT_PATH_CFG_ILENM1 : Fld := ⟨160, 42, 44, 6, .rw, 39⟩

/-- JPT_PATH_CFG.SPT [43:22] RW. -/
def JPT_PATH_CFG_SPT : Fld := ⟨161, 42, 22, 22, .rw, 4000⟩

/-- JPT_PATH_CFG.TX_DELAY [21:0] RW. -/
def JPT_PATH_CFG_TX_DELAY : Fld := ⟨162, 42, 0, 22, .rw, 0⟩

/-- JPT_SYSREF.ALIGNED [31] RO. -/
def JPT_SYSREF_ALIGNED : Fld := ⟨163, 43, 31, 1, .ro, 0⟩

/-- JPT_SYSREF.ARM [30] WO. -/
def JPT_SYSREF_ARM : Fld := ⟨164, 43, 30, 1, .wo, 0⟩

/-- JPT_SYSREF.OUT_OF_PHASE [29] W1C. -/
def JPT_SYSREF_OUT_OF_PHASE : Fld := ⟨165, 43, 29, 1, .w1c, 0⟩

/-- JPT_SYSREF.PHASE_ERR [23:16] RO. -/
def JPT_SYSREF_PHASE_ERR : Fld := ⟨166, 43, 16, 8, .ro, 0⟩

/-- JPT_SYSREF.TOL [11:8] RW. -/
def JPT_SYSREF_TOL : Fld := ⟨167, 43, 8, 4, .rw, 1⟩

/-- JPT_SYSREF.ODD [7:0] RC. -/
def JPT_SYSREF_ODD : Fld := ⟨168, 43, 0, 8, .rc, 0⟩

/-- JPT_LANE_ERR.HDR [63:48] RC. -/
def JPT_LANE_ERR_HDR : Fld := ⟨169, 44, 48, 16, .rc, 0⟩

/-- JPT_LANE_ERR.CRC [47:32] RC. -/
def JPT_LANE_ERR_CRC : Fld := ⟨170, 44, 32, 16, .rc, 0⟩

/-- JPT_LANE_ERR.LOCK_LOSS [31:16] RC. -/
def JPT_LANE_ERR_LOCK_LOSS : Fld := ⟨171, 44, 16, 16, .rc, 0⟩

/-- JPT_PATH_ERR.OVERRUN [63:48] RC. -/
def JPT_PATH_ERR_OVERRUN : Fld := ⟨172, 45, 48, 16, .rc, 0⟩

/-- JPT_PATH_ERR.CLOSED_DROP [47:32] RC. -/
def JPT_PATH_ERR_CLOSED_DROP : Fld := ⟨173, 45, 32, 16, .rc, 0⟩

/-- JPT_PATH_ERR.TICK_SLIP [31:16] RC. -/
def JPT_PATH_ERR_TICK_SLIP : Fld := ⟨174, 45, 16, 16, .rc, 0⟩

/-- JPT_PATH_ERR.LINK_DROP [15:0] RC. -/
def JPT_PATH_ERR_LINK_DROP : Fld := ⟨175, 45, 0, 16, .rc, 0⟩

/-- CPT_PORT_CFG.EN [63] RW. -/
def CPT_PORT_CFG_EN : Fld := ⟨176, 46, 63, 1, .rw, 0⟩

/-- CPT_PORT_CFG.REFUSED [62] W1C. -/
def CPT_PORT_CFG_REFUSED : Fld := ⟨177, 46, 62, 1, .w1c, 0⟩

/-- CPT_PORT_CFG.MODE [61:59] RW. -/
def CPT_PORT_CFG_MODE : Fld := ⟨178, 46, 59, 3, .rw, 0⟩

/-- CPT_PORT_CFG.PTP_1S [58] RW. -/
def CPT_PORT_CFG_PTP_1S : Fld := ⟨179, 46, 58, 1, .rw, 0⟩

/-- CPT_PORT_CFG.PTP_TRAP [57] RW. -/
def CPT_PORT_CFG_PTP_TRAP : Fld := ⟨180, 46, 57, 1, .rw, 1⟩

/-- CPT_PORT_CFG.UP [56] RO. -/
def CPT_PORT_CFG_UP : Fld := ⟨181, 46, 56, 1, .ro, 0⟩

/-- CPT_PORT_CFG.MAXLEN [45:32] RW. -/
def CPT_PORT_CFG_MAXLEN : Fld := ⟨182, 46, 32, 14, .rw, 9216⟩

/-- CPT_PORT_CFG.PTP_FLOW [13:0] RW. -/
def CPT_PORT_CFG_PTP_FLOW : Fld := ⟨183, 46, 0, 14, .rw, 0⟩

/-- CPT_PORT_CNT.FCS_ERR [63:48] RC. -/
def CPT_PORT_CNT_FCS_ERR : Fld := ⟨184, 47, 48, 16, .rc, 0⟩

/-- CPT_PORT_CNT.LEN_ERR [47:32] RC. -/
def CPT_PORT_CNT_LEN_ERR : Fld := ⟨185, 47, 32, 16, .rc, 0⟩

/-- CPT_PORT_CNT.RX_OVF [31:16] RC. -/
def CPT_PORT_CNT_RX_OVF : Fld := ⟨186, 47, 16, 16, .rc, 0⟩

/-- CPT_PORT_CNT.FEC_UNCORR [15:0] RC. -/
def CPT_PORT_CNT_FEC_UNCORR : Fld := ⟨187, 47, 0, 16, .rc, 0⟩

/-- CPT_TXTS.VALID [63] RC. -/
def CPT_TXTS_VALID : Fld := ⟨188, 48, 63, 1, .rc, 0⟩

/-- CPT_TXTS.OVF [62] RC. -/
def CPT_TXTS_OVF : Fld := ⟨189, 48, 62, 1, .rc, 0⟩

/-- CPT_TXTS.NS [61:32] RC. -/
def CPT_TXTS_NS : Fld := ⟨190, 48, 32, 30, .rc, 0⟩

/-- CPT_TXTS.FRAC [31:16] RC. -/
def CPT_TXTS_FRAC : Fld := ⟨191, 48, 16, 16, .rc, 0⟩

/-- CPT_TXTS.SEQID [15:0] RC. -/
def CPT_TXTS_SEQID : Fld := ⟨192, 48, 0, 16, .rc, 0⟩

/-- CPT_TOD_SEC.SEC [47:0] RO. -/
def CPT_TOD_SEC_SEC : Fld := ⟨193, 49, 0, 48, .ro, 0⟩

/-- CPT_TOD_NS.NS [61:32] RO. -/
def CPT_TOD_NS_NS : Fld := ⟨194, 50, 32, 30, .ro, 0⟩

/-- CPT_TOD_NS.FRAC [31:16] RO. -/
def CPT_TOD_NS_FRAC : Fld := ⟨195, 50, 16, 16, .ro, 0⟩

/-- CPT_TOD_INC.INC [39:0] RW. -/
def CPT_TOD_INC_INC : Fld := ⟨196, 51, 0, 40, .rw, 2863311531⟩

/-- CPT_TOD_STEP.STEP [63:0] WO. -/
def CPT_TOD_STEP_STEP : Fld := ⟨197, 52, 0, 64, .wo, 0⟩

/-- CPT_SYNCE.EN [31] RW. -/
def CPT_SYNCE_EN : Fld := ⟨198, 53, 31, 1, .rw, 0⟩

/-- CPT_SYNCE.PORT [18:16] RW. -/
def CPT_SYNCE_PORT : Fld := ⟨199, 53, 16, 3, .rw, 0⟩

/-- CPT_SYNCE.DIV [15:0] RW. -/
def CPT_SYNCE_DIV : Fld := ⟨200, 53, 0, 16, .rw, 2125⟩

/-- LEX_DATA_LO.DATA [63:0] RW. -/
def LEX_DATA_LO_DATA : Fld := ⟨201, 54, 0, 64, .rw, 0⟩

/-- LEX_DATA_HI.DATA [63:0] RW. -/
def LEX_DATA_HI_DATA : Fld := ⟨202, 55, 0, 64, .rw, 0⟩

/-- LEX_CMD.BUSY [63] RO. -/
def LEX_CMD_BUSY : Fld := ⟨203, 56, 63, 1, .ro, 0⟩

/-- LEX_CMD.STATUS [62:60] RO. -/
def LEX_CMD_STATUS : Fld := ⟨204, 56, 60, 3, .ro, 0⟩

/-- LEX_CMD.MOVES [59:57] RO. -/
def LEX_CMD_MOVES : Fld := ⟨205, 56, 57, 3, .ro, 0⟩

/-- LEX_CMD.OP [23:20] WO. -/
def LEX_CMD_OP : Fld := ⟨206, 56, 20, 4, .wo, 0⟩

/-- LEX_CMD.LOC [18:0] RW. -/
def LEX_CMD_LOC : Fld := ⟨207, 56, 0, 19, .rw, 0⟩

/-- LEX_ERR.CE [63:48] RC. -/
def LEX_ERR_CE : Fld := ⟨208, 57, 48, 16, .rc, 0⟩

/-- LEX_ERR.UE [47:32] RC. -/
def LEX_ERR_UE : Fld := ⟨209, 57, 32, 16, .rc, 0⟩

/-- LEX_ERR.SPARE_USED [22:16] RO. -/
def LEX_ERR_SPARE_USED : Fld := ⟨210, 57, 16, 7, .ro, 0⟩

/-- LEX_PORT_CFG.KTYPE [63:62] RW. -/
def LEX_PORT_CFG_KTYPE : Fld := ⟨211, 58, 62, 2, .rw, 0⟩

/-- LEX_PORT_CFG.DACT [61:60] RW. -/
def LEX_PORT_CFG_DACT : Fld := ⟨212, 58, 60, 2, .rw, 0⟩

/-- LEX_PORT_CFG.DFLOW [59:46] RW. -/
def LEX_PORT_CFG_DFLOW : Fld := ⟨213, 58, 46, 14, .rw, 0⟩

/-- LEX_PORT_CFG.DTENANT [45:34] RW. -/
def LEX_PORT_CFG_DTENANT : Fld := ⟨214, 58, 34, 12, .rw, 0⟩

/-- QMG_CFG.REFUSED [63] W1C. -/
def QMG_CFG_REFUSED : Fld := ⟨215, 59, 63, 1, .w1c, 0⟩

/-- QMG_CFG.COPY_FLOW [61:48] RW. -/
def QMG_CFG_COPY_FLOW : Fld := ⟨216, 59, 48, 14, .rw, 0⟩

/-- QMG_CFG.BUDGET_DL [19:0] RW. -/
def QMG_CFG_BUDGET_DL : Fld := ⟨217, 59, 0, 20, .rw, 750⟩

/-- QMG_POOL.CELLS [57:32] RW. -/
def QMG_POOL_CELLS : Fld := ⟨218, 60, 32, 26, .rw, 0⟩

/-- QMG_POOL.FREE [25:0] RO. -/
def QMG_POOL_FREE : Fld := ⟨219, 60, 0, 26, .ro, 0⟩

/-- QMG_POOL_BASE.BASE [63:20] RW. -/
def QMG_POOL_BASE_BASE : Fld := ⟨220, 61, 20, 44, .rw, 0⟩

/-- QMG_LINK_CFG.EN [63] RW. -/
def QMG_LINK_CFG_EN : Fld := ⟨221, 62, 63, 1, .rw, 0⟩

/-- QMG_LINK_CFG.REFUSED [62] W1C. -/
def QMG_LINK_CFG_REFUSED : Fld := ⟨222, 62, 62, 1, .w1c, 0⟩

/-- QMG_LINK_CFG.BUDGET [47:24] RO. -/
def QMG_LINK_CFG_BUDGET : Fld := ⟨223, 62, 24, 24, .ro, 0⟩

/-- QMG_LINK_CFG.MAXB [23:0] RW. -/
def QMG_LINK_CFG_MAXB : Fld := ⟨224, 62, 0, 24, .rw, 0⟩

/-- QMG_LINK_STAT.SEGDISC [47:32] RC. -/
def QMG_LINK_STAT_SEGDISC : Fld := ⟨225, 63, 32, 16, .rc, 0⟩

/-- QMG_LINK_STAT.MISS [31:16] RC. -/
def QMG_LINK_STAT_MISS : Fld := ⟨226, 63, 16, 16, .rc, 0⟩

/-- QMG_LINK_STAT.LATE [15:0] RC. -/
def QMG_LINK_STAT_LATE : Fld := ⟨227, 63, 0, 16, .rc, 0⟩

/-- GDM_CFG.PATROL_H [47:40] RW. -/
def GDM_CFG_PATROL_H : Fld := ⟨228, 64, 40, 8, .rw, 24⟩

/-- GDM_CFG.DENS [9:8] RW. -/
def GDM_CFG_DENS : Fld := ⟨229, 64, 8, 2, .rw, 1⟩

/-- GDM_CFG.RATE [5:0] RW. -/
def GDM_CFG_RATE : Fld := ⟨230, 64, 0, 6, .rw, 32⟩

/-- GDM_STAT.TRAINED [31] RO. -/
def GDM_STAT_TRAINED : Fld := ⟨231, 65, 31, 1, .ro, 0⟩

/-- GDM_STAT.DEGRADED [30] RO. -/
def GDM_STAT_DEGRADED : Fld := ⟨232, 65, 30, 1, .ro, 0⟩

/-- GDM_STAT.REBUILD [29] RO. -/
def GDM_STAT_REBUILD : Fld := ⟨233, 65, 29, 1, .ro, 0⟩

/-- GDM_STAT.LOST [28] RO. -/
def GDM_STAT_LOST : Fld := ⟨234, 65, 28, 1, .ro, 0⟩

/-- GDM_STAT.FAILED_DEV [26:24] RO. -/
def GDM_STAT_FAILED_DEV : Fld := ⟨235, 65, 24, 3, .ro, 7⟩

/-- GDM_STAT.USABLE [15:0] RO. -/
def GDM_STAT_USABLE : Fld := ⟨236, 65, 0, 16, .ro, 0⟩

/-- GDM_CTL.REFUSED [31] W1C. -/
def GDM_CTL_REFUSED : Fld := ⟨237, 66, 31, 1, .w1c, 0⟩

/-- GDM_CTL.DEV [10:8] RW. -/
def GDM_CTL_DEV : Fld := ⟨238, 66, 8, 3, .rw, 0⟩

/-- GDM_CTL.FAIL [1] WO. -/
def GDM_CTL_FAIL : Fld := ⟨239, 66, 1, 1, .wo, 0⟩

/-- GDM_CTL.REBUILD [0] WO. -/
def GDM_CTL_REBUILD : Fld := ⟨240, 66, 0, 1, .wo, 0⟩

/-- GDM_ERR.UE_LINE [63:48] RC. -/
def GDM_ERR_UE_LINE : Fld := ⟨241, 67, 48, 16, .rc, 0⟩

/-- GDM_ERR.RECON [47:32] RC. -/
def GDM_ERR_RECON : Fld := ⟨242, 67, 32, 16, .rc, 0⟩

/-- GDM_ERR.CE [31:0] RC. -/
def GDM_ERR_CE : Fld := ⟨243, 67, 0, 32, .rc, 0⟩

/-- GDM_LAST.VALID [63] W1C. -/
def GDM_LAST_VALID : Fld := ⟨244, 68, 63, 1, .w1c, 0⟩

/-- GDM_LAST.UE [62] RO. -/
def GDM_LAST_UE : Fld := ⟨245, 68, 62, 1, .ro, 0⟩

/-- GDM_LAST.DEV [61:59] RO. -/
def GDM_LAST_DEV : Fld := ⟨246, 68, 59, 3, .ro, 0⟩

/-- GDM_LAST.KIND [58:56] RO. -/
def GDM_LAST_KIND : Fld := ⟨247, 68, 56, 3, .ro, 0⟩

/-- GDM_LAST.LINE [26:0] RO. -/
def GDM_LAST_LINE : Fld := ⟨248, 68, 0, 27, .ro, 0⟩

/-- GDM_DEV_ERR.EDC_RETRY [63:48] RC. -/
def GDM_DEV_ERR_EDC_RETRY : Fld := ⟨249, 69, 48, 16, .rc, 0⟩

/-- GDM_DEV_ERR.EDC_FAIL [47:32] RC. -/
def GDM_DEV_ERR_EDC_FAIL : Fld := ⟨250, 69, 32, 16, .rc, 0⟩

/-- GDM_DEV_ERR.CE [31:16] RC. -/
def GDM_DEV_ERR_CE : Fld := ⟨251, 69, 16, 16, .rc, 0⟩

/-- GDM_DEV_ERR.SPARE_USED [15:0] RO. -/
def GDM_DEV_ERR_SPARE_USED : Fld := ⟨252, 69, 0, 16, .ro, 0⟩

/-- DMA_CH_CFG.EN [63] RW. -/
def DMA_CH_CFG_EN : Fld := ⟨253, 70, 63, 1, .rw, 0⟩

/-- DMA_CH_CFG.RLOC [62] RW. -/
def DMA_CH_CFG_RLOC : Fld := ⟨254, 70, 62, 1, .rw, 0⟩

/-- DMA_CH_CFG.PRIO [61:60] RW. -/
def DMA_CH_CFG_PRIO : Fld := ⟨255, 70, 60, 2, .rw, 0⟩

/-- DMA_CH_CFG.VEC [59:55] RW. -/
def DMA_CH_CFG_VEC : Fld := ⟨256, 70, 55, 5, .rw, 0⟩

/-- DMA_CH_CFG.REFUSED [54] W1C. -/
def DMA_CH_CFG_REFUSED : Fld := ⟨257, 70, 54, 1, .w1c, 0⟩

/-- DMA_CH_CFG.SIZE [51:48] RW. -/
def DMA_CH_CFG_SIZE : Fld := ⟨258, 70, 48, 4, .rw, 4⟩

/-- DMA_RING_BASE.BASE [63:5] RW. -/
def DMA_RING_BASE_BASE : Fld := ⟨259, 71, 5, 59, .rw, 0⟩

/-- DMA_IDX.CI [31:16] RO. -/
def DMA_IDX_CI : Fld := ⟨260, 72, 16, 16, .ro, 0⟩

/-- DMA_IDX.PI [15:0] RW. -/
def DMA_IDX_PI : Fld := ⟨261, 72, 0, 16, .rw, 0⟩

/-- DMA_CH_STAT.HALT [63] RO. -/
def DMA_CH_STAT_HALT : Fld := ⟨262, 73, 63, 1, .ro, 0⟩

/-- DMA_CH_STAT.BUSY [62] RO. -/
def DMA_CH_STAT_BUSY : Fld := ⟨263, 73, 62, 1, .ro, 0⟩

/-- DMA_CH_STAT.LAST_STATUS [59:56] RO. -/
def DMA_CH_STAT_LAST_STATUS : Fld := ⟨264, 73, 56, 4, .ro, 0⟩

/-- DMA_CH_STAT.POISONED [47:32] RC. -/
def DMA_CH_STAT_POISONED : Fld := ⟨265, 73, 32, 16, .rc, 0⟩

/-- DMA_CH_STAT.DONE [31:0] RC. -/
def DMA_CH_STAT_DONE : Fld := ⟨266, 73, 0, 32, .rc, 0⟩

/-- DMA_CH_CTL.ABORT [1] WO. -/
def DMA_CH_CTL_ABORT : Fld := ⟨267, 74, 1, 1, .wo, 0⟩

/-- DMA_CH_CTL.RESUME [0] WO. -/
def DMA_CH_CTL_RESUME : Fld := ⟨268, 74, 0, 1, .wo, 0⟩

/-- SPN_SYS.REMOTE_EN [63] RW. -/
def SPN_SYS_REMOTE_EN : Fld := ⟨269, 75, 63, 1, .rw, 0⟩

/-- SPN_SYS.JUNCTION [62] RW. -/
def SPN_SYS_JUNCTION : Fld := ⟨270, 75, 62, 1, .rw, 0⟩

/-- SPN_SYS.REFUSED [61] W1C. -/
def SPN_SYS_REFUSED : Fld := ⟨271, 75, 61, 1, .w1c, 0⟩

/-- SPN_SYS.RING [55:51] RW. -/
def SPN_SYS_RING : Fld := ⟨272, 75, 51, 5, .rw, 0⟩

/-- SPN_SYS.DEVNUM [25:16] RW. -/
def SPN_SYS_DEVNUM : Fld := ⟨273, 75, 16, 10, .rw, 0⟩

/-- SPN_TICK.MASTER_EN [63] RW. -/
def SPN_TICK_MASTER_EN : Fld := ⟨274, 76, 63, 1, .rw, 0⟩

/-- SPN_TICK.IS_MASTER [62] RO. -/
def SPN_TICK_IS_MASTER : Fld := ⟨275, 76, 62, 1, .ro, 0⟩

/-- SPN_TICK.PRIO [61:54] RW. -/
def SPN_TICK_PRIO : Fld := ⟨276, 76, 54, 8, .rw, 255⟩

/-- SPN_TICK.LOSS [47:40] RW. -/
def SPN_TICK_LOSS : Fld := ⟨277, 76, 40, 8, .rw, 16⟩

/-- SPN_TICK.LINK [31:29] RO. -/
def SPN_TICK_LINK : Fld := ⟨278, 76, 29, 3, .ro, 0⟩

/-- SPN_TICK.MDEV [28:19] RO. -/
def SPN_TICK_MDEV : Fld := ⟨279, 76, 19, 10, .ro, 0⟩

/-- SPN_TICK.HOPS [18:13] RO. -/
def SPN_TICK_HOPS : Fld := ⟨280, 76, 13, 6, .ro, 0⟩

/-- SPN_TICK_STAT.HEARD [31] RO. -/
def SPN_TICK_STAT_HEARD : Fld := ⟨281, 77, 31, 1, .ro, 0⟩

/-- SPN_TICK_STAT.LEN_MISMATCH [30] W1C. -/
def SPN_TICK_STAT_LEN_MISMATCH : Fld := ⟨282, 77, 30, 1, .w1c, 0⟩

/-- SPN_TICK_STAT.FINE [19:0] RO. -/
def SPN_TICK_STAT_FINE : Fld := ⟨283, 77, 0, 20, .ro, 0⟩

/-- SPN_RCLK.EN [31] RW. -/
def SPN_RCLK_EN : Fld := ⟨284, 78, 31, 1, .rw, 0⟩

/-- SPN_RCLK.PORT [18:16] RW. -/
def SPN_RCLK_PORT : Fld := ⟨285, 78, 16, 3, .rw, 0⟩

/-- SPN_RCLK.DIV [15:0] RW. -/
def SPN_RCLK_DIV : Fld := ⟨286, 78, 0, 16, .rw, 2240⟩

/-- SPN_LINK_CFG.EN [63] RW. -/
def SPN_LINK_CFG_EN : Fld := ⟨287, 79, 63, 1, .rw, 0⟩

/-- SPN_LINK_CFG.REFUSED [62] W1C. -/
def SPN_LINK_CFG_REFUSED : Fld := ⟨288, 79, 62, 1, .w1c, 0⟩

/-- SPN_LINK_CFG.RETRAIN [61] WO. -/
def SPN_LINK_CFG_RETRAIN : Fld := ⟨289, 79, 61, 1, .wo, 0⟩

/-- SPN_LINK_CFG.WIDTH [60:59] RW. -/
def SPN_LINK_CFG_WIDTH : Fld := ⟨290, 79, 59, 2, .rw, 0⟩

/-- SPN_LINK_CFG.TRUNK [58] RW. -/
def SPN_LINK_CFG_TRUNK : Fld := ⟨291, 79, 58, 1, .rw, 0⟩

/-- SPN_LINK_CFG.DL [57] RW. -/
def SPN_LINK_CFG_DL : Fld := ⟨292, 79, 57, 1, .rw, 0⟩

/-- SPN_LINK_CFG.DIR [56] RW. -/
def SPN_LINK_CFG_DIR : Fld := ⟨293, 79, 56, 1, .rw, 0⟩

/-- SPN_LINK_CFG.PEER_CHK [55] RW. -/
def SPN_LINK_CFG_PEER_CHK : Fld := ⟨294, 79, 55, 1, .rw, 0⟩

/-- SPN_LINK_CFG.PEER [54:45] RW. -/
def SPN_LINK_CFG_PEER : Fld := ⟨295, 79, 45, 10, .rw, 0⟩

/-- SPN_LINK_CFG.RTO [39:32] RW. -/
def SPN_LINK_CFG_RTO : Fld := ⟨296, 79, 32, 8, .rw, 30⟩

/-- SPN_LINK_STAT.STATE [63:60] RO. -/
def SPN_LINK_STAT_STATE : Fld := ⟨297, 80, 60, 4, .ro, 0⟩

/-- SPN_LINK_STAT.REASON [59:56] RO. -/
def SPN_LINK_STAT_REASON : Fld := ⟨298, 80, 56, 4, .ro, 0⟩

/-- SPN_LINK_STAT.LANES [55:52] RO. -/
def SPN_LINK_STAT_LANES : Fld := ⟨299, 80, 52, 4, .ro, 0⟩

/-- SPN_LINK_STAT.NBR_DEV [51:42] RO. -/
def SPN_LINK_STAT_NBR_DEV : Fld := ⟨300, 80, 42, 10, .ro, 0⟩

/-- SPN_LINK_STAT.NBR_PORT [41:39] RO. -/
def SPN_LINK_STAT_NBR_PORT : Fld := ⟨301, 80, 39, 3, .ro, 0⟩

/-- SPN_LINK_ERR.REPLAY [63:48] RC. -/
def SPN_LINK_ERR_REPLAY : Fld := ⟨302, 81, 48, 16, .rc, 0⟩

/-- SPN_LINK_ERR.CRC_BAD [47:32] RC. -/
def SPN_LINK_ERR_CRC_BAD : Fld := ⟨303, 81, 32, 16, .rc, 0⟩

/-- SPN_LINK_ERR.FEC_UNCORR [31:16] RC. -/
def SPN_LINK_ERR_FEC_UNCORR : Fld := ⟨304, 81, 16, 16, .rc, 0⟩

/-- SPN_LINK_ERR.DROP [15:0] RC. -/
def SPN_LINK_ERR_DROP : Fld := ⟨305, 81, 0, 16, .rc, 0⟩

/-- SPN_CAL.VALID [63] RO. -/
def SPN_CAL_VALID : Fld := ⟨306, 82, 63, 1, .ro, 0⟩

/-- SPN_CAL.DELAY [23:0] RO. -/
def SPN_CAL_DELAY : Fld := ⟨307, 82, 0, 24, .ro, 0⟩

/-- SPN_ROUTE.VALID [15] RW. -/
def SPN_ROUTE_VALID : Fld := ⟨308, 83, 15, 1, .rw, 0⟩

/-- SPN_ROUTE.RING [14:10] RW. -/
def SPN_ROUTE_RING : Fld := ⟨309, 83, 10, 5, .rw, 0⟩

/-- SPN_ROUTE.ALT_EN [9] RW. -/
def SPN_ROUTE_ALT_EN : Fld := ⟨310, 83, 9, 1, .rw, 0⟩

/-- SPN_ROUTE.ALT [8:6] RW. -/
def SPN_ROUTE_ALT : Fld := ⟨311, 83, 6, 3, .rw, 0⟩

/-- SPN_ROUTE.PRI [5:3] RW. -/
def SPN_ROUTE_PRI : Fld := ⟨312, 83, 3, 3, .rw, 0⟩

/-- CFG_LOAD_CTL.GO [63] WO. -/
def CFG_LOAD_CTL_GO : Fld := ⟨313, 84, 63, 1, .wo, 0⟩

/-- CFG_LOAD_CTL.ABORT [62] WO. -/
def CFG_LOAD_CTL_ABORT : Fld := ⟨314, 84, 62, 1, .wo, 0⟩

/-- CFG_LOAD_CTL.COMPAT [61] WO. -/
def CFG_LOAD_CTL_COMPAT : Fld := ⟨315, 84, 61, 1, .wo, 0⟩

/-- CFG_LOAD_CTL.REFUSED [60] W1C. -/
def CFG_LOAD_CTL_REFUSED : Fld := ⟨316, 84, 60, 1, .w1c, 0⟩

/-- CFG_LOAD_CTL.STAGED [26:0] RW. -/
def CFG_LOAD_CTL_STAGED : Fld := ⟨317, 84, 0, 27, .rw, 0⟩

/-- CFG_LOAD_STAT.PHASE [63:61] RO. -/
def CFG_LOAD_STAT_PHASE : Fld := ⟨318, 85, 61, 3, .ro, 0⟩

/-- CFG_LOAD_STAT.CODE [55:48] RO. -/
def CFG_LOAD_STAT_CODE : Fld := ⟨319, 85, 48, 8, .ro, 0⟩

/-- CFG_LOAD_STAT.SUB [47:44] RO. -/
def CFG_LOAD_STAT_SUB : Fld := ⟨320, 85, 44, 4, .ro, 0⟩

/-- CFG_LOAD_STAT.KIND [43:40] RO. -/
def CFG_LOAD_STAT_KIND : Fld := ⟨321, 85, 40, 4, .ro, 0⟩

/-- CFG_LOAD_STAT.OFFSET [31:0] RO. -/
def CFG_LOAD_STAT_OFFSET : Fld := ⟨322, 85, 0, 32, .ro, 4294967295⟩

/-- CFG_LOAD_ID.SID [63:0] RO. -/
def CFG_LOAD_ID_SID : Fld := ⟨323, 86, 0, 64, .ro, 0⟩

/-- CFG_STAGE.BASE [63:0] RO. -/
def CFG_STAGE_BASE : Fld := ⟨324, 87, 0, 64, .ro, 0⟩

/-- CFG_COMPAT.EN [63] RW. -/
def CFG_COMPAT_EN : Fld := ⟨325, 88, 63, 1, .rw, 0⟩

/-- CFG_COMPAT.FORBID [62] RO. -/
def CFG_COMPAT_FORBID : Fld := ⟨326, 88, 62, 1, .ro, 0⟩

/-- CFG_COMPAT.REFUSED [61] W1C. -/
def CFG_COMPAT_REFUSED : Fld := ⟨327, 88, 61, 1, .w1c, 0⟩

/-- CFG_COMPAT.OFFSET [6:0] RW. -/
def CFG_COMPAT_OFFSET : Fld := ⟨328, 88, 0, 7, .rw, 0⟩

/-- CFG_KEY_STAT.SVN_MIN [63:32] RO. -/
def CFG_KEY_STAT_SVN_MIN : Fld := ⟨329, 89, 32, 32, .ro, 0⟩

/-- CFG_KEY_STAT.KEY_OFF [13] RO. -/
def CFG_KEY_STAT_KEY_OFF : Fld := ⟨330, 89, 13, 1, .ro, 0⟩

/-- CFG_KEY_STAT.ENC_REQ [12] RO. -/
def CFG_KEY_STAT_ENC_REQ : Fld := ⟨331, 89, 12, 1, .ro, 0⟩

/-- CFG_KEY_STAT.REVOKED [7:4] RO. -/
def CFG_KEY_STAT_REVOKED : Fld := ⟨332, 89, 4, 4, .ro, 0⟩

/-- CFG_KEY_STAT.PRESENT [3:0] RO. -/
def CFG_KEY_STAT_PRESENT : Fld := ⟨333, 89, 0, 4, .ro, 0⟩

/-- CFG_IMG_ID.SID [63:0] RO. -/
def CFG_IMG_ID_SID : Fld := ⟨334, 90, 0, 64, .ro, 0⟩

/-- SYS_BOOT_STAT.BOOTSEL [63:61] RO. -/
def SYS_BOOT_STAT_BOOTSEL : Fld := ⟨335, 91, 61, 3, .ro, 0⟩

/-- SYS_BOOT_STAT.PREPULL [60] RO. -/
def SYS_BOOT_STAT_PREPULL : Fld := ⟨336, 91, 60, 1, .ro, 0⟩

/-- SYS_BOOT_STAT.BADSTRAP [59] RO. -/
def SYS_BOOT_STAT_BADSTRAP : Fld := ⟨337, 91, 59, 1, .ro, 0⟩

/-- SYS_BOOT_STAT.SLOT [58:57] RO. -/
def SYS_BOOT_STAT_SLOT : Fld := ⟨338, 91, 57, 2, .ro, 0⟩

/-- SYS_BOOT_STAT.PUSHED [56] RO. -/
def SYS_BOOT_STAT_PUSHED : Fld := ⟨339, 91, 56, 1, .ro, 0⟩

/-- SYS_BOOT_STAT.PHASE [55:53] RO. -/
def SYS_BOOT_STAT_PHASE : Fld := ⟨340, 91, 53, 3, .ro, 0⟩

/-- SYS_BOOT_STAT.CAUSE [52:48] RO. -/
def SYS_BOOT_STAT_CAUSE : Fld := ⟨341, 91, 48, 5, .ro, 0⟩

/-- SYS_BOOT_STAT.LCODE [47:40] RO. -/
def SYS_BOOT_STAT_LCODE : Fld := ⟨342, 91, 40, 8, .ro, 0⟩

/-- SYS_BOOT_STAT.ROUNDS [39:32] RO. -/
def SYS_BOOT_STAT_ROUNDS : Fld := ⟨343, 91, 32, 8, .ro, 0⟩

/-- SYS_BOOT_STAT.WAIT_MS [31:0] RO. -/
def SYS_BOOT_STAT_WAIT_MS : Fld := ⟨344, 91, 0, 32, .ro, 0⟩

/-- SYS_BOOT_CTL.LCODE [23:16] RW. -/
def SYS_BOOT_CTL_LCODE : Fld := ⟨345, 92, 16, 8, .rw, 0⟩

/-- SYS_BOOT_CTL.CAUSE [12:8] RW. -/
def SYS_BOOT_CTL_CAUSE : Fld := ⟨346, 92, 8, 5, .rw, 0⟩

/-- SYS_BOOT_CTL.FAIL [1] WO. -/
def SYS_BOOT_CTL_FAIL : Fld := ⟨347, 92, 1, 1, .wo, 0⟩

/-- SYS_BOOT_CTL.DONE [0] WO. -/
def SYS_BOOT_CTL_DONE : Fld := ⟨348, 92, 0, 1, .wo, 0⟩

/-- SYS_LOAD_FAILS.COUNT [31:0] RO. -/
def SYS_LOAD_FAILS_COUNT : Fld := ⟨349, 93, 0, 32, .ro, 0⟩

/-- SYS_LOAD_FAILS_SUB.AMOUNT [31:0] WO. -/
def SYS_LOAD_FAILS_SUB_AMOUNT : Fld := ⟨350, 94, 0, 32, .wo, 0⟩

/-- PIN_CFG.CAB_OWNED [31] RO. -/
def PIN_CFG_CAB_OWNED : Fld := ⟨351, 95, 31, 1, .ro, 0⟩

/-- PIN_CFG.CAB [30:24] RO. -/
def PIN_CFG_CAB : Fld := ⟨352, 95, 24, 7, .ro, 127⟩

/-- PIN_CFG.PINCFG [23:0] RW. -/
def PIN_CFG_PINCFG : Fld := ⟨353, 95, 0, 24, .rw, 0⟩

/-- PIN_CLAIM.REFUSED [31] W1C. -/
def PIN_CLAIM_REFUSED : Fld := ⟨354, 96, 31, 1, .w1c, 0⟩

/-- PIN_CLAIM.CLAIM [0] RW. -/
def PIN_CLAIM_CLAIM : Fld := ⟨355, 96, 0, 1, .rw, 0⟩

/-- PIN_OUT.LEVEL [23:0] RW. -/
def PIN_OUT_LEVEL : Fld := ⟨356, 97, 0, 24, .rw, 0⟩

/-- PIN_OE.LEVEL [23:0] RW. -/
def PIN_OE_LEVEL : Fld := ⟨357, 98, 0, 24, .rw, 0⟩

/-- PIN_IN.LEVEL [23:0] RO. -/
def PIN_IN_LEVEL : Fld := ⟨358, 99, 0, 24, .ro, 0⟩

/-- PIN_BANK_STAT.VSEL [1:0] RO. -/
def PIN_BANK_STAT_VSEL : Fld := ⟨359, 100, 0, 2, .ro, 0⟩

/-- PIN_LOADSTAT.MODE [31] RW. -/
def PIN_LOADSTAT_MODE : Fld := ⟨360, 101, 31, 1, .rw, 0⟩

/-- PIN_LOADSTAT.VALUE [0] RW. -/
def PIN_LOADSTAT_VALUE : Fld := ⟨361, 101, 0, 1, .rw, 0⟩

/-- CAB_STARTUP.ACTIVE [31] RO. -/
def CAB_STARTUP_ACTIVE : Fld := ⟨362, 102, 31, 1, .ro, 0⟩

/-- CAB_STARTUP.DONE [30] RO. -/
def CAB_STARTUP_DONE : Fld := ⟨363, 102, 30, 1, .ro, 0⟩

/-- CAB_STARTUP.NEXT [29:28] RO. -/
def CAB_STARTUP_NEXT : Fld := ⟨364, 102, 28, 2, .ro, 0⟩

/-- CAB_STARTUP.ORDER [23:16] RO. -/
def CAB_STARTUP_ORDER : Fld := ⟨365, 102, 16, 8, .ro, 120⟩

/-- CAB_STARTUP.WAIT [15:0] RO. -/
def CAB_STARTUP_WAIT : Fld := ⟨366, 102, 0, 16, .ro, 0⟩

/-- SYS_PAIR_MAP.VALID [31] RWS. -/
def SYS_PAIR_MAP_VALID : Fld := ⟨367, 103, 31, 1, .rws, 1⟩

/-- SYS_PAIR_MAP.PHYS [2:0] RWS. -/
def SYS_PAIR_MAP_PHYS : Fld := ⟨368, 103, 0, 3, .rws, 0⟩

/-- SYS_PAIR_STAT.RUN [31] RW. -/
def SYS_PAIR_STAT_RUN : Fld := ⟨369, 104, 31, 1, .rw, 0⟩

/-- SYS_PAIR_STAT.REFUSED [30] W1C. -/
def SYS_PAIR_STAT_REFUSED : Fld := ⟨370, 104, 30, 1, .w1c, 0⟩

/-- SYS_PAIR_STAT.MISMATCH [15:8] RC. -/
def SYS_PAIR_STAT_MISMATCH : Fld := ⟨371, 104, 8, 8, .rc, 0⟩

/-- SYS_PAIR_STAT.STATE [2:0] RWS. -/
def SYS_PAIR_STAT_STATE : Fld := ⟨372, 104, 0, 3, .rws, 0⟩

/-- SYS_SRAM_SECRET.TAG [63:0] W1S. -/
def SYS_SRAM_SECRET_TAG : Fld := ⟨373, 105, 0, 64, .w1s, 0⟩

/-- SYS_SRAM_ERR.UE [63:48] RC. -/
def SYS_SRAM_ERR_UE : Fld := ⟨374, 106, 48, 16, .rc, 0⟩

/-- SYS_SRAM_ERR.CE [47:32] RC. -/
def SYS_SRAM_ERR_CE : Fld := ⟨375, 106, 32, 16, .rc, 0⟩

/-- SYS_SRAM_ERR.LAST [18:0] RO. -/
def SYS_SRAM_ERR_LAST : Fld := ⟨376, 106, 0, 19, .ro, 0⟩

/-- SCH_CFG.PREEMPT_EN [0] RW. -/
def SCH_CFG_PREEMPT_EN : Fld := ⟨377, 107, 0, 1, .rw, 1⟩

/-- SCH_POST.THREAD [11:0] WO. -/
def SCH_POST_THREAD : Fld := ⟨378, 108, 0, 12, .wo, 0⟩

/-- SCH_STAT.REFUSED [63] W1C. -/
def SCH_STAT_REFUSED : Fld := ⟨379, 109, 63, 1, .w1c, 0⟩

/-- SCH_STAT.DL_FULL [55:48] RC. -/
def SCH_STAT_DL_FULL : Fld := ⟨380, 109, 48, 8, .rc, 0⟩

/-- SCH_STAT.BAD_DONE [47:40] RC. -/
def SCH_STAT_BAD_DONE : Fld := ⟨381, 109, 40, 8, .rc, 0⟩

/-- SCH_STAT.POST_IGN [39:32] RC. -/
def SCH_STAT_POST_IGN : Fld := ⟨382, 109, 32, 8, .rc, 0⟩

/-- SCH_STAT.POST_LOST [31:24] RC. -/
def SCH_STAT_POST_LOST : Fld := ⟨383, 109, 24, 8, .rc, 0⟩

/-- SCH_STAT.OVERRUN [23:16] RC. -/
def SCH_STAT_OVERRUN : Fld := ⟨384, 109, 16, 8, .rc, 0⟩

/-- SCH_STAT.MISS [15:0] RC. -/
def SCH_STAT_MISS : Fld := ⟨385, 109, 0, 16, .rc, 0⟩

/-- SCH_EVT_BIND.EN [31] RW. -/
def SCH_EVT_BIND_EN : Fld := ⟨386, 110, 31, 1, .rw, 0⟩

/-- SCH_EVT_BIND.THREAD [11:0] RW. -/
def SCH_EVT_BIND_THREAD : Fld := ⟨387, 110, 0, 12, .rw, 0⟩

/-- SCH_FLOW.HELD [31] RO. -/
def SCH_FLOW_HELD : Fld := ⟨388, 111, 31, 1, .ro, 0⟩

/-- SCH_FLOW.HOLDER [11:0] RO. -/
def SCH_FLOW_HOLDER : Fld := ⟨389, 111, 0, 12, .ro, 0⟩

/-- MBX_DOORBELL.DB [15:0] W1S. -/
def MBX_DOORBELL_DB : Fld := ⟨390, 112, 0, 16, .w1s, 0⟩

/-- MBX_RSP_RDY.RDY [15:0] W1C. -/
def MBX_RSP_RDY_RDY : Fld := ⟨391, 113, 0, 16, .w1c, 0⟩

/-- MBX_BUSY.BUSY [15:0] RO. -/
def MBX_BUSY_BUSY : Fld := ⟨392, 114, 0, 16, .ro, 0⟩

/-- MBX_STAT.WR_DROP [63:48] RC. -/
def MBX_STAT_WR_DROP : Fld := ⟨393, 115, 48, 16, .rc, 0⟩

/-- MBX_STAT.SEQ_ERR [47:32] RC. -/
def MBX_STAT_SEQ_ERR : Fld := ⟨394, 115, 32, 16, .rc, 0⟩

/-- MBX_STAT.CHK_ERR [31:16] RC. -/
def MBX_STAT_CHK_ERR : Fld := ⟨395, 115, 16, 16, .rc, 0⟩

/-- MBX_STAT.REPLAY [15:0] RC. -/
def MBX_STAT_REPLAY : Fld := ⟨396, 115, 0, 16, .rc, 0⟩

/-- MBX_EVT_IDX.PI [31:16] RO. -/
def MBX_EVT_IDX_PI : Fld := ⟨397, 116, 16, 16, .ro, 0⟩

/-- MBX_EVT_IDX.CI [15:0] RW. -/
def MBX_EVT_IDX_CI : Fld := ⟨398, 116, 0, 16, .rw, 0⟩

/-- MBX_EVT_CTL.IRQ_EN [31] RW. -/
def MBX_EVT_CTL_IRQ_EN : Fld := ⟨399, 117, 31, 1, .rw, 1⟩

/-- MBX_EVT_CTL.VEC [25:21] RW. -/
def MBX_EVT_CTL_VEC : Fld := ⟨400, 117, 21, 5, .rw, 16⟩

/-- MBX_EVT_CTL.LOST [15:0] RC. -/
def MBX_EVT_CTL_LOST : Fld := ⟨401, 117, 0, 16, .rc, 0⟩

/-- MBX_CFG.IRQ_EN [31] RW. -/
def MBX_CFG_IRQ_EN : Fld := ⟨402, 118, 31, 1, .rw, 1⟩

/-- MBX_CFG.VEC [25:21] RW. -/
def MBX_CFG_VEC : Fld := ⟨403, 118, 21, 5, .rw, 0⟩

/-- MBX_CFG.GMASK [13:1] RO. -/
def MBX_CFG_GMASK : Fld := ⟨404, 118, 1, 13, .ro, 8191⟩

/-- BUR_STAT.SEAL_OPEN [63] RO. -/
def BUR_STAT_SEAL_OPEN : Fld := ⟨405, 119, 63, 1, .ro, 0⟩

/-- BUR_STAT.TAMPER [62] RO. -/
def BUR_STAT_TAMPER : Fld := ⟨406, 119, 62, 1, .ro, 0⟩

/-- BUR_STAT.TEST_ACCESS [61] RO. -/
def BUR_STAT_TEST_ACCESS : Fld := ⟨407, 119, 61, 1, .ro, 0⟩

/-- BUR_STAT.TIME_SUSPECT [60] RO. -/
def BUR_STAT_TIME_SUSPECT : Fld := ⟨408, 119, 60, 1, .ro, 0⟩

/-- BUR_STAT.COUNT_SUSPECT [59] RO. -/
def BUR_STAT_COUNT_SUSPECT : Fld := ⟨409, 119, 59, 1, .ro, 0⟩

/-- BUR_STAT.NOTICE [55:48] RO. -/
def BUR_STAT_NOTICE : Fld := ⟨410, 119, 48, 8, .ro, 0⟩

/-- BUR_STAT.UNLOGGED [47:32] RO. -/
def BUR_STAT_UNLOGGED : Fld := ⟨411, 119, 32, 16, .ro, 0⟩

/-- BUR_STAT.STMT [24:0] RO. -/
def BUR_STAT_STMT : Fld := ⟨412, 119, 0, 25, .ro, 0⟩

/-- BUR_TRAIL.HEAD_IDX [63:32] RO. -/
def BUR_TRAIL_HEAD_IDX : Fld := ⟨413, 120, 32, 32, .ro, 0⟩

/-- BUR_TRAIL.USED [16:0] RO. -/
def BUR_TRAIL_USED : Fld := ⟨414, 120, 0, 17, .ro, 0⟩

/-- BUR_CFG.TIME_TOL [63:54] RO. -/
def BUR_CFG_TIME_TOL : Fld := ⟨415, 121, 54, 10, .ro, 100⟩

/-- BUR_CFG.ACLK_KHZ [53:33] RO. -/
def BUR_CFG_ACLK_KHZ : Fld := ⟨416, 121, 33, 21, .ro, 1500000⟩

/-- BUR_CFG.STMT_S [16:0] RO. -/
def BUR_CFG_STMT_S : Fld := ⟨417, 121, 0, 17, .ro, 900⟩

/-- BUR_WARRANT_CTL.SUBMIT [11:0] WO. -/
def BUR_WARRANT_CTL_SUBMIT : Fld := ⟨418, 122, 0, 12, .wo, 0⟩

/-- BUR_WARRANT_STAT.BUSY [63] RO. -/
def BUR_WARRANT_STAT_BUSY : Fld := ⟨419, 123, 63, 1, .ro, 0⟩

/-- BUR_WARRANT_STAT.OUTCOME [55:48] RO. -/
def BUR_WARRANT_STAT_OUTCOME : Fld := ⟨420, 123, 48, 8, .ro, 0⟩

/-- BUR_WARRANT_STAT.DROPPED [47:32] RC. -/
def BUR_WARRANT_STAT_DROPPED : Fld := ⟨421, 123, 32, 16, .rc, 0⟩

/-- BUR_WARRANT_STAT.WNUM [31:0] RO. -/
def BUR_WARRANT_STAT_WNUM : Fld := ⟨422, 123, 0, 32, .ro, 0⟩

/-- FLT_STATUS.PEND [63:0] RO. -/
def FLT_STATUS_PEND : Fld := ⟨423, 124, 0, 64, .ro, 0⟩

/-- FLT_MODE.HELD [63:0] RWS. -/
def FLT_MODE_HELD : Fld := ⟨424, 125, 0, 64, .rws, 11240140244986626048⟩

/-- FLT_CFG.LATCH_WIN [63:32] RWS. -/
def FLT_CFG_LATCH_WIN : Fld := ⟨425, 126, 32, 32, .rws, 1000000⟩

/-- FLT_CFG.QUIET [31:0] RWS. -/
def FLT_CFG_QUIET : Fld := ⟨426, 126, 0, 32, .rws, 10000⟩

/-- FLT_STATE.QUIET_LEFT [63:32] RO. -/
def FLT_STATE_QUIET_LEFT : Fld := ⟨427, 127, 32, 32, .ro, 0⟩

/-- FLT_STATE.LATCHED [2] RO. -/
def FLT_STATE_LATCHED : Fld := ⟨428, 127, 2, 1, .ro, 0⟩

/-- FLT_STATE.STATE [1:0] RO. -/
def FLT_STATE_STATE : Fld := ⟨429, 127, 0, 2, .ro, 0⟩

/-- FLT_REC_IDX.LOST [63:48] RC. -/
def FLT_REC_IDX_LOST : Fld := ⟨430, 128, 48, 16, .rc, 0⟩

/-- FLT_REC_IDX.PI [31:16] RO. -/
def FLT_REC_IDX_PI : Fld := ⟨431, 128, 16, 16, .ro, 0⟩

/-- FLT_REC_IDX.CI [15:0] RW. -/
def FLT_REC_IDX_CI : Fld := ⟨432, 128, 0, 16, .rw, 0⟩

/-- FLT_SRC.PEND_HALT [63] W1C. -/
def FLT_SRC_PEND_HALT : Fld := ⟨433, 129, 63, 1, .w1c, 0⟩

/-- FLT_SRC.PEND_F [62] W1C. -/
def FLT_SRC_PEND_F : Fld := ⟨434, 129, 62, 1, .w1c, 0⟩

/-- FLT_SRC.PEND_U [61] W1C. -/
def FLT_SRC_PEND_U : Fld := ⟨435, 129, 61, 1, .w1c, 0⟩

/-- FLT_SRC.PEND_C [60] W1C. -/
def FLT_SRC_PEND_C : Fld := ⟨436, 129, 60, 1, .w1c, 0⟩

/-- FLT_SRC.CLASS [59:58] RO. -/
def FLT_SRC_CLASS : Fld := ⟨437, 129, 58, 2, .ro, 0⟩

/-- FLT_SRC.ESC [47:32] RC. -/
def FLT_SRC_ESC : Fld := ⟨438, 129, 32, 16, .rc, 0⟩

/-- FLT_SRC.U_CNT [31:16] RC. -/
def FLT_SRC_U_CNT : Fld := ⟨439, 129, 16, 16, .rc, 0⟩

/-- FLT_SRC.C_CNT [15:0] RC. -/
def FLT_SRC_C_CNT : Fld := ⟨440, 129, 0, 16, .rc, 0⟩

/-- FLT_INJ.ACTIVE [31] RO. -/
def FLT_INJ_ACTIVE : Fld := ⟨441, 130, 31, 1, .ro, 0⟩

/-- FLT_INJ.REFUSED [30] W1C. -/
def FLT_INJ_REFUSED : Fld := ⟨442, 130, 30, 1, .w1c, 0⟩

/-- FLT_INJ.CONT [29] RW. -/
def FLT_INJ_CONT : Fld := ⟨443, 130, 29, 1, .rw, 0⟩

/-- FLT_INJ.DOUBLE [28] RW. -/
def FLT_INJ_DOUBLE : Fld := ⟨444, 130, 28, 1, .rw, 0⟩

/-- FLT_INJ.ARM [27] WO. -/
def FLT_INJ_ARM : Fld := ⟨445, 130, 27, 1, .wo, 0⟩

/-- FLT_INJ.STOP [26] WO. -/
def FLT_INJ_STOP : Fld := ⟨446, 130, 26, 1, .wo, 0⟩

/-- FLT_INJ.CHECKER [22:16] RW. -/
def FLT_INJ_CHECKER : Fld := ⟨447, 130, 16, 7, .rw, 0⟩

/-- FLT_INJ.COUNT [7:0] RW. -/
def FLT_INJ_COUNT : Fld := ⟨448, 130, 0, 8, .rw, 1⟩

/-- FLT_RAISE_ADDR.ADDR [63:0] RW. -/
def FLT_RAISE_ADDR_ADDR : Fld := ⟨449, 131, 0, 64, .rw, 0⟩

/-- FLT_RAISE.CLASS [63:62] RW. -/
def FLT_RAISE_CLASS : Fld := ⟨450, 132, 62, 2, .rw, 0⟩

/-- FLT_RAISE.GO [61] WO. -/
def FLT_RAISE_GO : Fld := ⟨451, 132, 61, 1, .wo, 0⟩

/-- FLT_RAISE.UKIND [51:48] RW. -/
def FLT_RAISE_UKIND : Fld := ⟨452, 132, 48, 4, .rw, 15⟩

/-- FLT_RAISE.CODE [47:32] RW. -/
def FLT_RAISE_CODE : Fld := ⟨453, 132, 32, 16, .rw, 0⟩

/-- FLT_RAISE.UID [31:16] RW. -/
def FLT_RAISE_UID : Fld := ⟨454, 132, 16, 16, .rw, 0⟩

/-- FLT_UNIT.LATCHED [31] RO. -/
def FLT_UNIT_LATCHED : Fld := ⟨455, 133, 31, 1, .ro, 0⟩

/-- FLT_UNIT.FAULTED [30] RO. -/
def FLT_UNIT_FAULTED : Fld := ⟨456, 133, 30, 1, .ro, 0⟩

/-- FLT_UNIT.RECENT [19:16] RO. -/
def FLT_UNIT_RECENT : Fld := ⟨457, 133, 16, 4, .ro, 0⟩

/-- FLT_UNIT.RCNT [15:0] RO. -/
def FLT_UNIT_RCNT : Fld := ⟨458, 133, 0, 16, .ro, 0⟩

/-- FLT_UNIT_SUB.AMOUNT [15:0] WO. -/
def FLT_UNIT_SUB_AMOUNT : Fld := ⟨459, 134, 0, 16, .wo, 0⟩

/-- SCR_CFG.REFUSED [31] W1C. -/
def SCR_CFG_REFUSED : Fld := ⟨460, 135, 31, 1, .w1c, 0⟩

/-- SCR_CFG.CYCLE_US [19:0] RW. -/
def SCR_CFG_CYCLE_US : Fld := ⟨461, 135, 0, 20, .rw, 10000⟩

/-- SCR_STAT.PRIMARY [63] RO. -/
def SCR_STAT_PRIMARY : Fld := ⟨462, 136, 63, 1, .ro, 0⟩

/-- SCR_STAT.STANDBY_OK [62] RO. -/
def SCR_STAT_STANDBY_OK : Fld := ⟨463, 136, 62, 1, .ro, 1⟩

/-- SCR_STAT.STOPPED [61] RO. -/
def SCR_STAT_STOPPED : Fld := ⟨464, 136, 61, 1, .ro, 0⟩

/-- SCR_STAT.TAKEOVERS [47:32] RC. -/
def SCR_STAT_TAKEOVERS : Fld := ⟨465, 136, 32, 16, .rc, 0⟩

/-- SCR_STAT.LAST_US [31:0] RO. -/
def SCR_STAT_LAST_US : Fld := ⟨466, 136, 0, 32, .ro, 0⟩

/-- SCR_ERR.REWRITE [63:48] RC. -/
def SCR_ERR_REWRITE : Fld := ⟨467, 137, 48, 16, .rc, 0⟩

/-- SCR_ERR.UF [47:32] RC. -/
def SCR_ERR_UF : Fld := ⟨468, 137, 32, 16, .rc, 0⟩

/-- SCR_ERR.CE [31:0] RC. -/
def SCR_ERR_CE : Fld := ⟨469, 137, 0, 32, .rc, 0⟩

/-- BST_CFG.GAP_EN [63] RW. -/
def BST_CFG_GAP_EN : Fld := ⟨470, 138, 63, 1, .rw, 1⟩

/-- BST_CFG.REFUSED [62] W1C. -/
def BST_CFG_REFUSED : Fld := ⟨471, 138, 62, 1, .w1c, 0⟩

/-- BST_CFG.COMPARE [47:32] RW. -/
def BST_CFG_COMPARE : Fld := ⟨472, 138, 32, 16, .rw, 64⟩

/-- BST_CFG.SLICE_US [31:22] RW. -/
def BST_CFG_SLICE_US : Fld := ⟨473, 138, 22, 10, .rw, 20⟩

/-- BST_CFG.STEP_TICKS [21:0] RW. -/
def BST_CFG_STEP_TICKS : Fld := ⟨474, 138, 0, 22, .rw, 100000⟩

/-- BST_CAB.PHASE [63:61] RO. -/
def BST_CAB_PHASE : Fld := ⟨475, 139, 61, 3, .ro, 0⟩

/-- BST_CAB.DIR [60] RO. -/
def BST_CAB_DIR : Fld := ⟨476, 139, 60, 1, .ro, 0⟩

/-- BST_CAB.SUSPECT_V [59] RO. -/
def BST_CAB_SUSPECT_V : Fld := ⟨477, 139, 59, 1, .ro, 0⟩

/-- BST_CAB.SUSPECT [58:54] RO. -/
def BST_CAB_SUSPECT : Fld := ⟨478, 139, 54, 5, .ro, 0⟩

/-- BST_CAB.INCOMPLETE [51:48] RO. -/
def BST_CAB_INCOMPLETE : Fld := ⟨479, 139, 48, 4, .ro, 0⟩

/-- BST_CAB.MISMATCH [47:32] RC. -/
def BST_CAB_MISMATCH : Fld := ⟨480, 139, 32, 16, .rc, 0⟩

/-- BST_CAB.STEPS [31:0] RC. -/
def BST_CAB_STEPS : Fld := ⟨481, 139, 0, 32, .rc, 0⟩

/-- BST_PASS_TICK.TICK [63:0] RO. -/
def BST_PASS_TICK_TICK : Fld := ⟨482, 140, 0, 64, .ro, 0⟩

/-- PCI_WIN0.BASE [63:24] RW. -/
def PCI_WIN0_BASE : Fld := ⟨483, 141, 24, 40, .rw, 0⟩

/-- PCI_WIN0.EN [0] RW. -/
def PCI_WIN0_EN : Fld := ⟨484, 141, 0, 1, .rw, 0⟩

/-- PCI_WIN1.BASE [63:24] RW. -/
def PCI_WIN1_BASE : Fld := ⟨485, 142, 24, 40, .rw, 0⟩

/-- PCI_WIN1.EN [0] RW. -/
def PCI_WIN1_EN : Fld := ⟨486, 142, 0, 1, .rw, 0⟩

/-- Part 0 of the field list. -/
def fldPart0 : List Fld := [SYS_TICK_CFG_TICK_OUT_EN, SYS_TICK_CFG_SRC, SYS_TICK_CFG_OFS_SHIFT, SYS_TICK_CFG_TOL, SYS_TICK_CFG_TICK_LEN, SYS_TICK_CNT_COUNT, SYS_TICK_OFS_OFFSET, SYS_TICK_STAT_HOLDOVER, SYS_TICK_STAT_LEN_REFUSED, SYS_TICK_STAT_ALIGN_PENDING, SYS_TICK_STAT_PHASE_ERR, SYS_TICK_STAT_MISSED, CAB_ARITH_STAT_SAT_ANY, CAB_ARITH_STAT_RESC_ANY, CAB_ARITH_STAT_SCALE_TICK, CAB_SCALE_EVENTS_COUNT, CAB_SCALE_SUB_AMOUNT, CAB_RAM_CE_COUNT, CAB_RAM_CE_SUB_AMOUNT, CAB_RAM_LAST_VALID, CAB_RAM_LAST_UE, CAB_RAM_LAST_SYNDROME, CAB_RAM_LAST_PCOL, CAB_RAM_LAST_ROW, CAB_RAM_LAST_ADDR, CAB_RAM_SPARE_FULL, CAB_RAM_SPARE_USED, CAB_STATE_CAP_GRANT, CAB_STATE_RELOC, CAB_STATE_FENCED, CAB_STATE_FFRST, CAB_STATE_SAFE_HELD, CAB_STATE_LOGICAL, CAB_STATE_DRAIN_TO, CAB_STATE_STATE, CAB_PLAN_SEL_REFUSED, CAB_PLAN_SEL_PEND, CAB_PLAN_SEL_REQ, CAB_PLAN_SEL_CUR, CAB_DRAWER_VALID_VALID]

/-- Part 1 of the field list. -/
def fldPart1 : List Fld := [CAB_DRAWER_VALID_HOLD, CAB_GAP_PARKED, CAB_GAP_POS, CAB_DOOR_STAT_OPEN, CAB_DOOR_STAT_FAULT_CLOSE, CAB_DOOR_STAT_OVERRUN, CAB_DOOR_STAT_CLOSED_DROP, CAB_CFG_FAULT_VALID, CAB_CFG_FAULT_CLASS, CAB_CFG_FAULT_KIND, CAB_CFG_FAULT_COUNT, CAB_CFG_FAULT_WORD, CAB_CFG_FAULT_DRAWER, CAB_CFG_FAULT_LCOL, CAB_CFG_FAULT_ROW, CAB_CAPTURE_CTL_ARMED, CAB_CAPTURE_CTL_DONE, CAB_CAPTURE_CTL_REFUSED, CAB_CAPTURE_CTL_CANCELLED, CAB_CAPTURE_CTL_ARM, CAB_CAPTURE_CTL_MODE, CAB_CAPTURE_CTL_OFFSET, CAB_CAPTURE_TICK_TICK, CAB_PLAN_STAT_B_ADM, CAB_PLAN_STAT_A_ADM, CAB_PLAN_STAT_B_SLOTS, CAB_PLAN_STAT_A_SLOTS, CAB_PLAN_STAT_B_SUM, CAB_PLAN_STAT_A_SUM, CAB_PLAN_A_DRAWER, CAB_PLAN_A_LEN, CAB_PLAN_B_DRAWER, CAB_PLAN_B_LEN, CFG_CAB_MAP_RELOCATED, CFG_CAB_MAP_PHYS, FIFO_MODE_REFUSED, FIFO_MODE_ORDER_PEND, FIFO_MODE_ORDER_REQ, FIFO_MODE_ORDER, FIFO_MODE_SWAP]

/-- Part 2 of the field list. -/
def fldPart2 : List Fld := [FIFO_LEVEL_OPEN, FIFO_LEVEL_SKIP, FIFO_LEVEL_RBANK, FIFO_LEVEL_ITEMS, FIFO_LEVEL_WORDS, FIFO_PEAK_PEAK, FIFO_ERR_PROTO, FIFO_ERR_POISON, FIFO_ERR_CE, FIFO_EVT_SKIPPED, FIFO_EVT_READ_CUT, FIFO_EVT_FLUSH_PARTIAL, FIFO_CTL_FLUSH, FIFO_WFRAME_EN, FIFO_WFRAME_PRIO, FIFO_WFRAME_ILENM1, FIFO_SPARE_BANK1, FIFO_SPARE_BANK0, NOC_RTR_CTL_REFUSED, NOC_RTR_CTL_UNAVAIL, NOC_RTR_CTL_STATE, NOC_RTR_CTL_MODE, NOC_RTR_ERR_CE, NOC_RTR_ERR_UE_DATA, NOC_RTR_ERR_HDR_DROP, NOC_RTR_ERR_CRC_DROP, NOC_LINK_LOAD_VNEG, NOC_LINK_LOAD_VPOS, NOC_LINK_LOAD_NEG, NOC_LINK_LOAD_POS, NOC_STOP_STAT_FENCE_ERR, NOC_STOP_STAT_FENCE_RSP, NOC_STOP_STAT_FENCE_DISC, NOC_STOP_STAT_TIMEOUT, NOC_STOP_EVT_LATE_RSP, NOC_STOP_EVT_SEQ_SKIP, NOC_STOP_EVT_SEQ_STALE, NOC_STOP_EVT_MISDIR, NOC_BOOK_VALID, NOC_BOOK_DKIND]

/-- Part 3 of the field list. -/
def fldPart3 : List Fld := [NOC_BOOK_DEST, NOC_BOOK_DFIFO, NOC_BOOK_FLITS, NOC_BOOK_SEQ, NOC_CFG_REFUSED, NOC_CFG_REORDER_TO, NOC_CFG_DRAIN, NOC_CFG_REQ_TO, NOC_RING_STAT_DEGRADED, NOC_RING_STAT_OVERBOOKED, NOC_RING_STAT_FAILED_STOP, NOC_RING_STAT_BYPASS_STOP, JPT_LINK_CFG_EN, JPT_LINK_CFG_ENC, JPT_LINK_CFG_SUB1, JPT_LINK_CFG_SCR, JPT_LINK_CFG_RETRAIN, JPT_LINK_CFG_REFUSED, JPT_LINK_CFG_LMAP, JPT_LINK_CFG_L, JPT_LINK_CFG_M, JPT_LINK_CFG_NP, JPT_LINK_CFG_N, JPT_LINK_CFG_CS, JPT_LINK_CFG_FM1, JPT_LINK_CFG_KEM1, JPT_LINK_STAT_LAT, JPT_LINK_STAT_LOCK, JPT_LINK_STAT_REASON, JPT_LINK_STAT_STATE, JPT_LINK_REL_BRINGUP_TO, JPT_LINK_REL_RBD, JPT_PATH_CFG_EN, JPT_PATH_CFG_DEST, JPT_PATH_CFG_LINK, JPT_PATH_CFG_QEN, JPT_PATH_CFG_RND, JPT_PATH_CFG_CI, JPT_PATH_CFG_CQ, JPT_PATH_CFG_PRIO]

/-- Part 4 of the field list. -/
def fldPart4 : List Fld := [JPT_PATH_CFG_ILENM1, JPT_PATH_CFG_SPT, JPT_PATH_CFG_TX_DELAY, JPT_SYSREF_ALIGNED, JPT_SYSREF_ARM, JPT_SYSREF_OUT_OF_PHASE, JPT_SYSREF_PHASE_ERR, JPT_SYSREF_TOL, JPT_SYSREF_ODD, JPT_LANE_ERR_HDR, JPT_LANE_ERR_CRC, JPT_LANE_ERR_LOCK_LOSS, JPT_PATH_ERR_OVERRUN, JPT_PATH_ERR_CLOSED_DROP, JPT_PATH_ERR_TICK_SLIP, JPT_PATH_ERR_LINK_DROP, CPT_PORT_CFG_EN, CPT_PORT_CFG_REFUSED, CPT_PORT_CFG_MODE, CPT_PORT_CFG_PTP_1S, CPT_PORT_CFG_PTP_TRAP, CPT_PORT_CFG_UP, CPT_PORT_CFG_MAXLEN, CPT_PORT_CFG_PTP_FLOW, CPT_PORT_CNT_FCS_ERR, CPT_PORT_CNT_LEN_ERR, CPT_PORT_CNT_RX_OVF, CPT_PORT_CNT_FEC_UNCORR, CPT_TXTS_VALID, CPT_TXTS_OVF, CPT_TXTS_NS, CPT_TXTS_FRAC, CPT_TXTS_SEQID, CPT_TOD_SEC_SEC, CPT_TOD_NS_NS, CPT_TOD_NS_FRAC, CPT_TOD_INC_INC, CPT_TOD_STEP_STEP, CPT_SYNCE_EN, CPT_SYNCE_PORT]

/-- Part 5 of the field list. -/
def fldPart5 : List Fld := [CPT_SYNCE_DIV, LEX_DATA_LO_DATA, LEX_DATA_HI_DATA, LEX_CMD_BUSY, LEX_CMD_STATUS, LEX_CMD_MOVES, LEX_CMD_OP, LEX_CMD_LOC, LEX_ERR_CE, LEX_ERR_UE, LEX_ERR_SPARE_USED, LEX_PORT_CFG_KTYPE, LEX_PORT_CFG_DACT, LEX_PORT_CFG_DFLOW, LEX_PORT_CFG_DTENANT, QMG_CFG_REFUSED, QMG_CFG_COPY_FLOW, QMG_CFG_BUDGET_DL, QMG_POOL_CELLS, QMG_POOL_FREE, QMG_POOL_BASE_BASE, QMG_LINK_CFG_EN, QMG_LINK_CFG_REFUSED, QMG_LINK_CFG_BUDGET, QMG_LINK_CFG_MAXB, QMG_LINK_STAT_SEGDISC, QMG_LINK_STAT_MISS, QMG_LINK_STAT_LATE, GDM_CFG_PATROL_H, GDM_CFG_DENS, GDM_CFG_RATE, GDM_STAT_TRAINED, GDM_STAT_DEGRADED, GDM_STAT_REBUILD, GDM_STAT_LOST, GDM_STAT_FAILED_DEV, GDM_STAT_USABLE, GDM_CTL_REFUSED, GDM_CTL_DEV, GDM_CTL_FAIL]

/-- Part 6 of the field list. -/
def fldPart6 : List Fld := [GDM_CTL_REBUILD, GDM_ERR_UE_LINE, GDM_ERR_RECON, GDM_ERR_CE, GDM_LAST_VALID, GDM_LAST_UE, GDM_LAST_DEV, GDM_LAST_KIND, GDM_LAST_LINE, GDM_DEV_ERR_EDC_RETRY, GDM_DEV_ERR_EDC_FAIL, GDM_DEV_ERR_CE, GDM_DEV_ERR_SPARE_USED, DMA_CH_CFG_EN, DMA_CH_CFG_RLOC, DMA_CH_CFG_PRIO, DMA_CH_CFG_VEC, DMA_CH_CFG_REFUSED, DMA_CH_CFG_SIZE, DMA_RING_BASE_BASE, DMA_IDX_CI, DMA_IDX_PI, DMA_CH_STAT_HALT, DMA_CH_STAT_BUSY, DMA_CH_STAT_LAST_STATUS, DMA_CH_STAT_POISONED, DMA_CH_STAT_DONE, DMA_CH_CTL_ABORT, DMA_CH_CTL_RESUME, SPN_SYS_REMOTE_EN, SPN_SYS_JUNCTION, SPN_SYS_REFUSED, SPN_SYS_RING, SPN_SYS_DEVNUM, SPN_TICK_MASTER_EN, SPN_TICK_IS_MASTER, SPN_TICK_PRIO, SPN_TICK_LOSS, SPN_TICK_LINK, SPN_TICK_MDEV]

/-- Part 7 of the field list. -/
def fldPart7 : List Fld := [SPN_TICK_HOPS, SPN_TICK_STAT_HEARD, SPN_TICK_STAT_LEN_MISMATCH, SPN_TICK_STAT_FINE, SPN_RCLK_EN, SPN_RCLK_PORT, SPN_RCLK_DIV, SPN_LINK_CFG_EN, SPN_LINK_CFG_REFUSED, SPN_LINK_CFG_RETRAIN, SPN_LINK_CFG_WIDTH, SPN_LINK_CFG_TRUNK, SPN_LINK_CFG_DL, SPN_LINK_CFG_DIR, SPN_LINK_CFG_PEER_CHK, SPN_LINK_CFG_PEER, SPN_LINK_CFG_RTO, SPN_LINK_STAT_STATE, SPN_LINK_STAT_REASON, SPN_LINK_STAT_LANES, SPN_LINK_STAT_NBR_DEV, SPN_LINK_STAT_NBR_PORT, SPN_LINK_ERR_REPLAY, SPN_LINK_ERR_CRC_BAD, SPN_LINK_ERR_FEC_UNCORR, SPN_LINK_ERR_DROP, SPN_CAL_VALID, SPN_CAL_DELAY, SPN_ROUTE_VALID, SPN_ROUTE_RING, SPN_ROUTE_ALT_EN, SPN_ROUTE_ALT, SPN_ROUTE_PRI, CFG_LOAD_CTL_GO, CFG_LOAD_CTL_ABORT, CFG_LOAD_CTL_COMPAT, CFG_LOAD_CTL_REFUSED, CFG_LOAD_CTL_STAGED, CFG_LOAD_STAT_PHASE, CFG_LOAD_STAT_CODE]

/-- Part 8 of the field list. -/
def fldPart8 : List Fld := [CFG_LOAD_STAT_SUB, CFG_LOAD_STAT_KIND, CFG_LOAD_STAT_OFFSET, CFG_LOAD_ID_SID, CFG_STAGE_BASE, CFG_COMPAT_EN, CFG_COMPAT_FORBID, CFG_COMPAT_REFUSED, CFG_COMPAT_OFFSET, CFG_KEY_STAT_SVN_MIN, CFG_KEY_STAT_KEY_OFF, CFG_KEY_STAT_ENC_REQ, CFG_KEY_STAT_REVOKED, CFG_KEY_STAT_PRESENT, CFG_IMG_ID_SID, SYS_BOOT_STAT_BOOTSEL, SYS_BOOT_STAT_PREPULL, SYS_BOOT_STAT_BADSTRAP, SYS_BOOT_STAT_SLOT, SYS_BOOT_STAT_PUSHED, SYS_BOOT_STAT_PHASE, SYS_BOOT_STAT_CAUSE, SYS_BOOT_STAT_LCODE, SYS_BOOT_STAT_ROUNDS, SYS_BOOT_STAT_WAIT_MS, SYS_BOOT_CTL_LCODE, SYS_BOOT_CTL_CAUSE, SYS_BOOT_CTL_FAIL, SYS_BOOT_CTL_DONE, SYS_LOAD_FAILS_COUNT, SYS_LOAD_FAILS_SUB_AMOUNT, PIN_CFG_CAB_OWNED, PIN_CFG_CAB, PIN_CFG_PINCFG, PIN_CLAIM_REFUSED, PIN_CLAIM_CLAIM, PIN_OUT_LEVEL, PIN_OE_LEVEL, PIN_IN_LEVEL, PIN_BANK_STAT_VSEL]

/-- Part 9 of the field list. -/
def fldPart9 : List Fld := [PIN_LOADSTAT_MODE, PIN_LOADSTAT_VALUE, CAB_STARTUP_ACTIVE, CAB_STARTUP_DONE, CAB_STARTUP_NEXT, CAB_STARTUP_ORDER, CAB_STARTUP_WAIT, SYS_PAIR_MAP_VALID, SYS_PAIR_MAP_PHYS, SYS_PAIR_STAT_RUN, SYS_PAIR_STAT_REFUSED, SYS_PAIR_STAT_MISMATCH, SYS_PAIR_STAT_STATE, SYS_SRAM_SECRET_TAG, SYS_SRAM_ERR_UE, SYS_SRAM_ERR_CE, SYS_SRAM_ERR_LAST, SCH_CFG_PREEMPT_EN, SCH_POST_THREAD, SCH_STAT_REFUSED, SCH_STAT_DL_FULL, SCH_STAT_BAD_DONE, SCH_STAT_POST_IGN, SCH_STAT_POST_LOST, SCH_STAT_OVERRUN, SCH_STAT_MISS, SCH_EVT_BIND_EN, SCH_EVT_BIND_THREAD, SCH_FLOW_HELD, SCH_FLOW_HOLDER, MBX_DOORBELL_DB, MBX_RSP_RDY_RDY, MBX_BUSY_BUSY, MBX_STAT_WR_DROP, MBX_STAT_SEQ_ERR, MBX_STAT_CHK_ERR, MBX_STAT_REPLAY, MBX_EVT_IDX_PI, MBX_EVT_IDX_CI, MBX_EVT_CTL_IRQ_EN]

/-- Part 10 of the field list. -/
def fldPart10 : List Fld := [MBX_EVT_CTL_VEC, MBX_EVT_CTL_LOST, MBX_CFG_IRQ_EN, MBX_CFG_VEC, MBX_CFG_GMASK, BUR_STAT_SEAL_OPEN, BUR_STAT_TAMPER, BUR_STAT_TEST_ACCESS, BUR_STAT_TIME_SUSPECT, BUR_STAT_COUNT_SUSPECT, BUR_STAT_NOTICE, BUR_STAT_UNLOGGED, BUR_STAT_STMT, BUR_TRAIL_HEAD_IDX, BUR_TRAIL_USED, BUR_CFG_TIME_TOL, BUR_CFG_ACLK_KHZ, BUR_CFG_STMT_S, BUR_WARRANT_CTL_SUBMIT, BUR_WARRANT_STAT_BUSY, BUR_WARRANT_STAT_OUTCOME, BUR_WARRANT_STAT_DROPPED, BUR_WARRANT_STAT_WNUM, FLT_STATUS_PEND, FLT_MODE_HELD, FLT_CFG_LATCH_WIN, FLT_CFG_QUIET, FLT_STATE_QUIET_LEFT, FLT_STATE_LATCHED, FLT_STATE_STATE, FLT_REC_IDX_LOST, FLT_REC_IDX_PI, FLT_REC_IDX_CI, FLT_SRC_PEND_HALT, FLT_SRC_PEND_F, FLT_SRC_PEND_U, FLT_SRC_PEND_C, FLT_SRC_CLASS, FLT_SRC_ESC, FLT_SRC_U_CNT]

/-- Part 11 of the field list. -/
def fldPart11 : List Fld := [FLT_SRC_C_CNT, FLT_INJ_ACTIVE, FLT_INJ_REFUSED, FLT_INJ_CONT, FLT_INJ_DOUBLE, FLT_INJ_ARM, FLT_INJ_STOP, FLT_INJ_CHECKER, FLT_INJ_COUNT, FLT_RAISE_ADDR_ADDR, FLT_RAISE_CLASS, FLT_RAISE_GO, FLT_RAISE_UKIND, FLT_RAISE_CODE, FLT_RAISE_UID, FLT_UNIT_LATCHED, FLT_UNIT_FAULTED, FLT_UNIT_RECENT, FLT_UNIT_RCNT, FLT_UNIT_SUB_AMOUNT, SCR_CFG_REFUSED, SCR_CFG_CYCLE_US, SCR_STAT_PRIMARY, SCR_STAT_STANDBY_OK, SCR_STAT_STOPPED, SCR_STAT_TAKEOVERS, SCR_STAT_LAST_US, SCR_ERR_REWRITE, SCR_ERR_UF, SCR_ERR_CE, BST_CFG_GAP_EN, BST_CFG_REFUSED, BST_CFG_COMPARE, BST_CFG_SLICE_US, BST_CFG_STEP_TICKS, BST_CAB_PHASE, BST_CAB_DIR, BST_CAB_SUSPECT_V, BST_CAB_SUSPECT, BST_CAB_INCOMPLETE]

/-- Part 12 of the field list. -/
def fldPart12 : List Fld := [BST_CAB_MISMATCH, BST_CAB_STEPS, BST_PASS_TICK_TICK, PCI_WIN0_BASE, PCI_WIN0_EN, PCI_WIN1_BASE, PCI_WIN1_EN]

/-- Every register field of the spec. -/
def allFlds : List Fld :=
  fldPart0 ++ fldPart1 ++ fldPart2 ++ fldPart3 ++ fldPart4 ++ fldPart5 ++ fldPart6 ++ fldPart7 ++ fldPart8 ++ fldPart9 ++ fldPart10 ++ fldPart11 ++ fldPart12

/-- The 32-bit registers; every other register has 64 bits. -/
def regs32 : List Nat := [0, 2, 3, 4, 5, 6, 7, 8, 10, 11, 12, 13, 14, 17, 20, 21, 22, 23, 24, 25, 28, 29, 30, 31, 38, 43, 53, 65, 66, 72, 74, 77, 78, 83, 92, 93, 94, 95, 96, 97] ++ [98, 99, 100, 101, 102, 103, 104, 107, 108, 110, 111, 112, 113, 114, 116, 117, 118, 122, 130, 133, 134, 135]

/-- The width of a register in bits. -/
def regBits (r : Nat) : Nat := if regs32.contains r then 32 else 64

/-- The home cabinet of a logical cabinet (R109). -/
def homeCab (l : Nat) : Nat := if l < 44 then l else if l < 52 then l + 2 else l + 4

/-- The logical cabinet whose home a physical cabinet is, 0x7F for none (R109). -/
def homeOf (p : Nat) : Nat :=
  if p < 44 then p else if p < 46 then 0x7F else if p < 54 then p - 2 else if p < 56 then 0x7F
  else if p < 100 then p - 4 else 0x7F

/-- The reset value of a field's instance `i`: the number the register table states, or the
rule it names (R109, R331, MBX_CFG's m). -/
def Fld.resetAt (f : Fld) (i : Nat) : Nat :=
  if f.id = CFG_CAB_MAP_PHYS.id then homeCab i
  else if f.id = CAB_STATE_LOGICAL.id then homeOf i
  else if f.id = SYS_PAIR_MAP_PHYS.id then i
  else if f.id = SYS_PAIR_STAT_RUN.id then (if i = 0 then 1 else 0)
  else if f.id = SYS_PAIR_STAT_STATE.id then (if i = 4 then 1 else 0)
  else if f.id = MBX_CFG_VEC.id then i
  else if f.id = PIN_CFG_PINCFG.id then 0x400000
  else f.reset

end Machine
end Sys2Proof
end

