-- ==== Sys2Proof/Machine/SMap.lean ====
section
/-!
DEFINITION. The operations on sparse stores (`SMap`): reading a key, writing a key (which keeps
the canonical form: keys strictly rising, no entry equal to the default), erasing a key, and
the canonical form itself.
-/

namespace Sys2Proof
namespace Machine

variable {β : Type}

/-- The value at key `k`, `d` where none is listed. -/
def smGet (d : β) (m : SMap β) (k : Nat) : β :=
  match m with
  | [] => d
  | e :: r => if e.1 = k then e.2 else smGet d r k

/-- Lists `v` at key `k`, at its place in key order. -/
def smPut (k : Nat) (v : β) (m : SMap β) : SMap β :=
  match m with
  | [] => [(k, v)]
  | e :: r =>
    if k < e.1 then (k, v) :: e :: r
    else if e.1 = k then (k, v) :: r
    else e :: smPut k v r

/-- Removes key `k`. -/
def smErase (k : Nat) (m : SMap β) : SMap β := m.filter (fun e => e.1 != k)

/-- Writes `v` at key `k`: a value equal to the default removes the entry. -/
def smSet [DecidableEq β] (d : β) (k : Nat) (v : β) (m : SMap β) : SMap β :=
  if v = d then smErase k m else smPut k v m

/-- Removes every key from `a` up to but not including `b`. -/
def smClear (a b : Nat) (m : SMap β) : SMap β := m.filter (fun e => e.1 < a || b ≤ e.1)

/-- Maps every listed value; one that becomes the default is no longer listed. -/
def smMap [DecidableEq β] (d : β) (f : Nat → β → β) (m : SMap β) : SMap β :=
  (m.map (fun e => (e.1, f e.1 e.2))).filter (fun e => decide (e.2 ≠ d))

/-- Maps every listed value whose key is from `a` up to but not including `b`. -/
def smMapRange [DecidableEq β] (d : β) (a b : Nat) (f : β → β) (m : SMap β) : SMap β :=
  smMap d (fun k v => if a ≤ k && k < b then f v else v) m

/-- The canonical form: keys strictly rising, no entry equal to the default. -/
abbrev smWf [DecidableEq β] (d : β) (m : SMap β) : Prop :=
  m.Pairwise (fun x y => x.1 < y.1) ∧ ∀ e ∈ m, e.2 ≠ d

end Machine
end Sys2Proof
end

