-- ==== Sys2Proof/Machine/State.lean ====
section
/-!
DEFINITION. The state of the device, as plain data: everything the spec gives the machine that
lasts from one command to the next, the queue of waiting commands, the faults and refusals, and
the state right after power-on reset. Register fields live in `State.regs`; what the registers
do not show lives in one structure a block.
-/

namespace Sys2Proof
namespace Machine

/-! ### Time -/

/-- The tick and the time of day (chapters 01 and 08). -/
structure TimeSt where
  /-- ACLK cycles since power-on reset. -/
  now : Nat := 0
  /-- ACLK cycles outside the tick guard since power-on reset (R151). -/
  ngc : Nat := 0
  /-- The ACLK cycle of the last tick edge. -/
  tickStart : Nat := 0
  /-- SYS_TICK_CNT.COUNT (R15). -/
  tick : Nat := 0
  /-- Tick edges since power-on reset: what the device counts ticks with where no tick number is named,
  so that a count adopted from a master (R15) shifts no duration. -/
  edges : Nat := 0
  /-- The length of the present tick where a warm reset in it has reset TICK_LEN (R14). -/
  lenNow : Option Nat := none
  /-- Hold cycles inserted into the present tick by a realignment (R20). -/
  extra : Nat := 0
  /-- The guard of the present tick has run (R24). -/
  guarded : Bool := false
  /-- A TICK_LEN written and not yet in effect (R21). -/
  lenNext : Option Nat := none
  /-- The insertion of the pending realignment has begun (R20). -/
  inserting : Bool := false
  /-- A further realignment is held until the present one ends (R20). -/
  held : Bool := false
  /-- Source edges have been in phase since the last first miss (R19 step 3). -/
  inPhase : Bool := false
  /-- The tick runs: the ACLK PLLs have locked (R310). -/
  running : Bool := false
  /-- The count that a realignment to a span master adopts (R266). -/
  adopt : Option Nat := none
  /-- Locked active and standby PLLs of the ACLK, CCLK and SCLK pairs, a bit each (R11). -/
  pllA : Nat := 0
  pllB : Nat := 0
  /-- The time of day in units of 2^-32 ns (R196). -/
  tod : Nat := 0
  deriving DecidableEq, Repr

/-! ### The array -/

/-- A cell register with the cycle in which its last write is valid, and the write before it, so
that a reader in the cycle of a write sees the value before it (R37, R90). `iss` is the issue
cycle of the operation that wrote it (R58). -/
structure TReg where
  val : Word := 0
  vc : Nat := 0
  iss : Nat := 0
  pval : Word := 0
  pvc : Nat := 0
  deriving DecidableEq, Repr

/-- An output register of a cell or an inbound door register: value, valid and the cycle from
which both are seen, and the pair seen before it (R90, R91). -/
structure OutReg where
  val : Word := 0
  v : Bool := false
  at_ : Nat := 0
  pval : Word := 0
  pv : Bool := false
  pat : Nat := 0
  deriving DecidableEq, Repr

/-- An accumulator with its block exponent and its two sticky flags (R30). -/
structure AccReg where
  a : BitVec 48 := 0
  e : Nat := 0
  resc : Bool := false
  sat : Bool := false
  deriving DecidableEq, Repr

/-- A drawer in force in a cell: its number, its three words, and whether it runs; a cell whose
context does not run is in its hold drawer (R85, R87). `zin` marks a slot whose fetch failed. -/
structure Ctx where
  no : Nat := 0
  w0 : Word := 0
  w1 : Word := 0
  w2 : Word := 0
  runs : Bool := false
  zin : Bool := false
  deriving DecidableEq, Repr

/-- A result in flight (R55, R57): a MAC-class add due at `iss` + 3, a MUL result due at
`iss` + 3, an XL extraction due at `iss` + 4. A MAC-class job keeps its exact terms (R45). -/
inductive Job where
  | mac (iss : Nat) (ins : Word) (terms : List (Nat × Int)) (ph0 phl : Bool)
  | mul (iss : Nat) (dst : Nat) (v : Word)
  | xl (iss : Nat) (dst : Nat) (v : Word)
  deriving DecidableEq, Repr

/-- A cell (R30, R65, R69, R78, R84). -/
structure Cell where
  y : TReg := {}
  f : TReg := {}
  acc : SMap AccReg := []
  cm : Nat := 0
  bx : Nat := 0
  ci : Nat := 0
  ph : Nat := 0
  ag0 : Nat := 0
  ag1 : Nat := 0
  /-- Output registers: 0-3 neighbour N E S W, 4-7 express N E S W (R84). -/
  outs : SMap OutReg := []
  /-- Local RAM by physical word: 0-511, and 512-519 the two spare rows (R65, R78). -/
  ram : SMap Code := []
  /-- Repaired rows, at most two; entry e uses spare row e (R78). -/
  rep : List Nat := []
  /-- Results in flight, oldest first. -/
  jobs : List Job := []
  /-- The next ACLK cycle in which the cell issues. -/
  t : Nat := 0
  cur : Ctx := {}
  nxt : Ctx := {}
  /-- Configuration words 0-56 (R275, R285). -/
  cfg : SMap Code := []
  /-- Section 25, the capture shadow, words 0-6 (R112). -/
  cap : SMap Word := []
  /-- Next patrol address and the tick of the last patrol read plus one (R77). -/
  pat : Nat := 0
  patTick : Nat := 0
  /-- Corrected words waiting for the write port (R75). -/
  wb : List (Nat × Word) := []
  /-- Rows with one corrected error, and suspect rows (R79). -/
  ceRows : List Nat := []
  susp : List Nat := []
  deriving DecidableEq, Repr

/-- One link record, port record or demand word of a certificate (R286). -/
structure Cert where
  has : Bool := false
  dmask : Nat := 0
  slotSum : Nat := 0
  links : List (Nat × Nat × Nat) := []
  ports : List (Nat × Nat) := []
  demand : List (Nat × Nat × Nat) := []
  deriving DecidableEq, Repr

/-- A cabinet request that waits for the next guard (R106). -/
inductive GReq where
  | none
  | run (plan : Nat)
  | hold
  | drain (toSt : Nat)
  deriving DecidableEq, Repr

/-- A word on its way into a FIFO with its marks and the tick in which it came (R124, R180). -/
structure DWord where
  w : Word
  st : Bool
  en : Bool
  tick : Nat
  deriving DecidableEq, Repr

/-- A relocation in progress (R111). -/
structure Reloc where
  logical : Nat
  dest : Nat
  deriving DecidableEq, Repr

/-- What a physical cabinet holds beside its registers. -/
structure Cab where
  /-- The slot that runs, its first cycle and its length; no slot outside user slots (R94). -/
  slot : Option Nat := none
  slotStart : Nat := 0
  slotLen : Nat := 0
  /-- SCALE events of the present tick (R52). -/
  scaleTick : Nat := 0
  /-- Inventory classes of plan A (keys 0-127) and B (128-255), key + 8 × column + row: 57 codes
  of two bits (R285). -/
  inv : SMap Nat := []
  certA : Cert := {}
  certB : Cert := {}
  /-- Border channel enables (R282). -/
  bcen : Nat := 0
  /-- Door buffers of the outbound FIFO-backed ports: 0-7 ring, 8-11 port block (R102). -/
  dbuf : SMap (List DWord) := []
  /-- Words that entered each door buffer in the present tick (R103). -/
  dcnt : SMap Nat := []
  /-- Words of the present framed item sent, per port (R124). -/
  dfrm : SMap Nat := []
  /-- Inbound border registers W0-3, E0-3, S0-3, N0-3. -/
  bin : SMap OutReg := []
  req : GReq := .none
  /-- The number of the tick by whose guard a drain window ends (R169). -/
  drainEnd : Nat := 0
  reloc : Option Reloc := none
  /-- The plan current when the cabinet faulted or was held by SAFE. -/
  planWas : Nat := 0
  /-- Tick edge at which the last start-up step completed, or the first RUNNING edge. -/
  stepTick : Nat := 0
  firstEdge : Bool := false
  /-- Delays before start-up steps 1, 2, 3 (R283), most significant first. -/
  delays : Nat := 0
  /-- The cabinet has run since its last load (R319). -/
  ran : Bool := false
  /-- The first RUNNING tick after a run, in which ORDER_REQ returns to 0 (R126). -/
  runTick : Nat := 0
  /-- Loaded by an AXR-24 compatibility load: its doors apply no bound (R305). -/
  compat : Bool := false
  /-- Gap step: 0 none, 1 copy, 2 transfer set, 3 compare, 4 test; shadowed logical column. -/
  gapPh : Nat := 0
  gapCol : Nat := 0
  gapEnd : Nat := 0
  gapStart : Nat := 0
  gapSecond : Bool := false
  /-- The SID of the stream last loaded (R294). -/
  sid : Nat := 0
  /-- Pins the cabinet owns (R282). -/
  pins : List Nat := []
  deriving DecidableEq, Repr

/-- The array: cells by (physical cabinet × 17 + physical column) × 8 + row, and cabinets. -/
structure ArraySt where
  cells : SMap Cell := []
  cabs : SMap Cab := []
  deriving DecidableEq, Repr

/-! ### Stream FIFOs -/

/-- A FIFO item (R123): its tag, whether it is poisoned, the tick that its start word carries
(R180), its declared length, its words, and whether a word written beyond its length would poison it. -/
structure FItem where
  prio : Nat
  poison : Bool
  tag : Nat
  decl : Nat
  words : List Code
  ovr : Bool := false
  deriving DecidableEq, Repr

/-- A stream FIFO (R116 to R131): the writing bank's whole items and its open item, the reading
bank's items not yet begun and the item being read. -/
structure Fifo where
  w : List FItem := []
  wopen : Option FItem := none
  /-- The last item ended by count without WEND, so a further word is a protocol error. -/
  ovr : Bool := false
  /-- Words are discarded up to the next WEND (R123). -/
  disc : Bool := false
  /-- The flush skip latch and the declared words left (R129). -/
  skip : Bool := false
  skipLeft : Nat := 0
  r : List FItem := []
  cur : Option FItem := none
  /-- RPOISON is high for the rest of the item being read (R131). -/
  rpois : Bool := false
  rbank : Nat := 0
  /-- RCUT (R118, R128): a flush cut the item being read, and the reader has not had its cycle yet. -/
  rcut : Bool := false
  deriving DecidableEq, Repr

/-! ### Pins -/

/-- A GPIO pin beside PIN_CFG: the last level it drove, and whether it has driven since reset
(R326); what a pin that no one uses keeps driving, none for high-Z (R328). -/
structure PinSt where
  lvl : Bool := false
  drove : Bool := false
  held : Option Bool := none
  deriving DecidableEq, Repr

/-- What the last access that reads answered (the MODEL'S OWN field: the table's rows have no
answer of their own): the data, and the error code of the answer, 0 for none. -/
structure BusSt where
  data : Word := 0
  status : Nat := 0
  bytes : List Byte := []
  deriving DecidableEq, Repr

/-! ### Converter ports -/

/-- A channel of a port block. Receive: up to 64 words held back, the place in the item being
framed, the overrun episode, and whether the block writes into the FIFO, now or from the next tick
(R180, R182). Transmit: the tick and word index of the next word of the FIFO (R180), and the
underrun episode. -/
structure JptCh where
  buf : List DWord := []
  pos : Nat := 0
  ovr : Bool := false
  wr : Bool := false
  arm : Bool := false
  tag : Nat := 0
  item : Nat := 0
  nxt : Nat := 0
  /-- What the item being framed has had written or held back has been dealt with: its rest is not counted again. -/
  cut : Bool := false
  deriving DecidableEq, Repr

/-- A path of a port block: samples since the tick edge, and whether a tick edge has passed since its link was released
(R184); for a transmit path the samples last sent, as (I, Q) codes, and those of the word pair read last (R185). -/
structure JptPath where
  cnt : Nat := 0
  out : List (Nat × Nat) := []
  live : Bool := false
  hold : List (Nat × Nat) := []
  deriving DecidableEq, Repr

/-- The converter ports (chapter 07): channels by 4j + k (receive) and 32 + 4j + k (transmit), paths
by 4j + q, blocks whose SYSREF is armed, blocks that recorded an out-of-phase edge since the arm, and the device clock
cycle of the edge that set a block's multiframe clocks with their period (R183). -/
structure JptSt where
  ch : SMap JptCh := []
  path : SMap JptPath := []
  armed : SMap Bool := []
  oddSeen : SMap Bool := []
  lmfc : SMap (Nat × Nat) := []
  /-- The cycle in which each link's bring-up began (R186). -/
  bringAt : SMap Nat := []
  deriving DecidableEq, Repr

/-! ### The ring network -/

/-- The sideband of a flit (R138), field by field. -/
structure Sb where
  kind : Nat := 0
  booked : Bool := false
  dl : Bool := false
  turned : Bool := false
  dx : Bool := false
  dy : Bool := false
  len : Nat := 0
  hops : Nat := 0
  la : Nat := 0
  ddev : Nat := 0
  dstop : Nat := 0
  poison : Bool := false
  deriving DecidableEq, Repr

/-- A flit (R137): its sideband and four codewords; a head flit's data is the packet header. -/
structure Flit where
  sb : Sb
  data : List Code
  deriving DecidableEq, Repr

/-- A lane of an input port (R143). Port 0 is the stop's injection port. `out` is the output and
lane its packet holds; `esc` marks a packet that has left lane A (R146). -/
structure Lane where
  q : List Flit := []
  out : Option (Nat × Nat) := none
  esc : Bool := false
  /-- The ACLK cycle in which the head came to the front of the lane (R146). -/
  front : Nat := 0
  /-- A packet is passing: its tail has not entered yet. -/
  busy : Bool := false
  /-- Later flits of a dropped packet are discarded up to its tail (R157). -/
  drop : Bool := false
  /-- Later flits of the packet are poisoned (R156). -/
  pois : Bool := false
  deriving DecidableEq, Repr

/-- A packet header and data as an agent hands it over or takes it (R139 to R141); `pois` marks the
data flits that arrived poisoned. -/
structure Pkt where
  ty : Nat
  sdev : Nat := 0
  sstop : Nat := 0
  ddev : Nat := 0
  dstop : Nat := 0
  tag : Nat := 0
  seq : Nat := 0
  status : Nat := 0
  size : Nat := 0
  xhdr : Nat := 0
  addr : Nat := 0
  data : List Word := []
  pois : List Bool := []
  /-- What the HCRC it carries differs by from the good one; 0 for a good header. -/
  hx : Nat := 0
  deriving DecidableEq, Repr

/-- A non-posted request of a stop (R159): its tag, the tick of issue, and whether it timed out. -/
structure Req where
  tag : Nat
  tick : Nat
  timedOut : Bool
  deriving DecidableEq, Repr

/-- The reorder state of an inbound FIFO (R153, R154). -/
structure Seqr where
  /-- The expected SEQ; none while unsynchronised. -/
  exp : Option Nat := none
  early : List Pkt := []
  /-- An item is open at an agent's inlet. -/
  mid : Bool := false
  /-- The tick at which the gap timer started, plus one; 0 stopped. -/
  gap : Nat := 0
  /-- Packets are discarded until the next START. -/
  skipTo : Bool := false
  deriving DecidableEq, Repr

/-- A stop beside its registers. -/
structure Stop where
  reqs : List Req := []
  /-- Response packets of this stop that wait for injection. -/
  rspQ : List Pkt := []
  /-- Request packets of this stop's agent that wait for injection. -/
  reqQ : List Pkt := []
  /-- What the stop has delivered to its agent, latest last. -/
  inbox : List Pkt := []
  /-- The first discard of this fencing or bypass has been recorded (R170). -/
  fenceRec : Bool := false
  /-- Consecutive denials of the injection port, by 5 × network + output (R148). -/
  deny : SMap Nat := []
  /-- The rotating pointers of the outputs, by 5 × network + output. -/
  ptr : SMap Nat := []
  /-- Token buckets of the booking entries in units of 1 / (TICK_LEN - 24) flit, less than full by
  this much at the count of cycles outside the guard (R151). -/
  debt : SMap (Nat × Nat) := []
  /-- Booking entries that have not sent since they were written: the next packet carries RST. -/
  fresh : List Nat := []
  /-- Words sent of the item at the head of an agent's source: link l mod 4, 8 + channel mod 8, 16 span. -/
  sent : SMap Nat := []
  /-- SEQ of the unbooked span streams, by device. -/
  spanSeq : SMap Nat := []
  /-- The rotating pointer over the DMA channels of the stop (R246). -/
  dmaPtr : Nat := 0
  deriving DecidableEq, Repr

/-- The ring network (chapter 06): lanes by ((140 × network + stop) × 5 + port) × 6 + lane, flits
being ejected by the same key, stops, reorder state by FIFO identifier. -/
structure NocSt where
  lanes : SMap Lane := []
  ej : SMap (List Flit) := []
  stops : SMap Stop := []
  seqr : SMap Seqr := []
  deriving DecidableEq, Repr

/-! ### Fault collection -/

/-- An event on an error line (R396, R404). -/
structure FaultEvt where
  src : Nat
  cls : Nat
  code : Nat := 0
  addr : Nat := 0
  master : Nat := 0xFFFFFF
  access : Nat := 0
  ukind : Nat := 0xF
  uid : Nat := 0
  inj : Bool := false
  coinc : Bool := false
  ofs : Nat := 0
  tick : Nat := 0
  deriving DecidableEq, Repr

/-- The fault collector beside its registers (chapter 16). -/
structure FltSt where
  /-- Events on the error lines that the collector has not yet taken. -/
  raised : List FaultEvt := []
  /-- Record ring words by 4 × slot + word, and the next RSEQ. -/
  ring : SMap Word := []
  rseq : Nat := 0
  /-- The four words of FLT_FIRST, none while it is not valid. -/
  first : List Word := []
  /-- The check bits stored with the words of the ring, and with those of FLT_FIRST (R414). -/
  ringChk : SMap (BitVec 8) := []
  firstChk : List (BitVec 8) := []
  /-- Tick of the last U- or F-class event of a source, plus one (R407). -/
  last : SMap Nat := []
  /-- Involved source of a FAULTED unit plus one, by instance of FLT_UNIT. -/
  inv : SMap Nat := []
  /-- Ticks of the recoveries within the latch window, by instance of FLT_UNIT (R410). -/
  recs : SMap (List Nat) := []
  /-- Sources that raised an F-class event since SAFE was entered. -/
  safeSrc : List Nat := []
  deriving DecidableEq, Repr

/-! ### The event log and ring, event lines, the control complex and the scheduler -/

/-- An event as Kaluno notes it (R369, R371). -/
structure Event where
  ev : Nat
  cls : Nat := 0
  eseq : Nat := 0
  tick : Nat := 0
  ofs : Nat := 0
  arg0 : Nat := 0
  arg1 : Nat := 0
  deriving DecidableEq, Repr

/-- The event log, the ring and the interrupts sent (R369, R371). -/
structure EvtSt where
  /-- Events noted, all of them (ESEQ of the next). -/
  next : Nat := 0
  /-- The last 4,096 events, oldest first, and how many were overwritten. -/
  log : List Event := []
  logLost : Nat := 0
  /-- Ring words by 4 × slot + word. -/
  ring : SMap Word := []
  /-- Events lost since the last LOST entry. -/
  lost : Nat := 0
  /-- MSI-X vectors raised, latest last; the host takes them. -/
  msix : List Nat := []
  /-- Posted PCIe writes sent to the host, as address and bytes, latest last. -/
  posted : List (Nat × List Byte) := []
  /-- Event lines with a rising edge that the scheduler has not taken. -/
  lines : List Nat := []
  deriving DecidableEq, Repr

/-- A thread: its descriptor (R341) and what the scheduler keeps of its job (R342 to R351). -/
structure Thr where
  valid : Bool := false
  /-- 0 IDLE, 1 DELAYED, 2 READY, 3 RUNNING, 4 FAULTED. -/
  st : Nat := 0
  band : Nat := 0
  aff : Nat := 0
  periodic : Bool := false
  flowEn : Bool := false
  flow : Nat := 0
  posts : Nat := 0
  misses : Nat := 0
  overruns : Nat := 0
  restart : Bool := false
  period : Nat := 0
  rdlTick : Nat := 0
  rdlOfs : Nat := 0
  budget : Nat := 0
  tag : Nat := 0
  dlTick : Nat := 0
  dlOfs : Nat := 0
  /-- Tick of the last release, plus one; 0 for none. -/
  rel : Nat := 0
  /-- A job runs: released, and not yet COMPLETE or STOP. -/
  job : Bool := false
  svc : Nat := 0
  missed : Bool := false
  ovr : Bool := false
  early : Bool := false
  /-- ACLK cycle in which it last became READY. -/
  ready : Nat := 0
  /-- Its job has been dispatched once as overdue (R346). -/
  odUsed : Bool := false
  deriving DecidableEq, Repr

/-- The scheduler (R342 to R351) and control SRAM (R338 to R340). -/
structure CtlSt where
  thr : SMap Thr := []
  /-- Words 0-2 of SCH_DESC written and waiting for word 3, by 4 × thread + word. -/
  desc : SMap Word := []
  /-- The tick list: due tick and thread, sorted. -/
  tickList : List (Nat × Nat) := []
  /-- The cycle list: due tick, cycle in it and thread, sorted. -/
  cycList : List (Nat × Nat × Nat) := []
  /-- The thread in service plus one, by logical pair. -/
  svc : SMap Nat := []
  /-- Logical pairs blocked in SCH_TAKE with the cycle of their load, longest first. -/
  waiting : List (Nat × Nat) := []
  /-- The last dispatch word a pair's SCH_TAKE returned. -/
  take : SMap Word := []
  /-- Rotating pointers over threads and over pairs. -/
  ptrThr : Nat := 0
  ptrPair : Nat := 0
  /-- Pairs whose preemption interrupt is raised, a bit each. -/
  preempt : Nat := 0
  /-- Control SRAM by 64-bit word, and its patrol pointer. -/
  sram : SMap Code := []
  sramPat : Nat := 0
  deriving DecidableEq, Repr


/-! ### The Bureau (chapter 15) -/

/-- A tap event (R377): tenant, frame length, and the tick in which it happened. -/
structure TapEvt where
  tenant : Nat
  len : Nat
  tick : Nat
  deriving DecidableEq, Repr

/-- An audit record (R384). -/
structure Aud where
  idx : Nat
  ty : Nat
  tick : Nat
  ofs : Nat
  payload : List Byte
  mac : List Byte
  deriving DecidableEq, Repr

/-- A statement (R381): what its 128 sheets carry. -/
structure Stmt where
  no : Nat
  reason : Nat
  flags : Nat
  tver : Nat
  tdigest : List Byte
  tickFrom : Nat
  tickTo : Nat
  len : Nat
  audIdx : Nat
  chain : List Byte
  khz : Nat
  todSec : Nat
  todNs : Nat
  totals : SMap Nat
  deriving DecidableEq, Repr

/-- A Traty download in progress (R394). -/
structure TrDl where
  tver : Nat
  size : Nat
  digest : List Byte
  data : List Byte := []
  deriving DecidableEq, Repr

/-- The Bureau beside its registers. Only VDD_BUR resets it (R373). -/
structure BurSt where
  /-- Counters by 5 × tenant + (IN_B, IN_F, OUT_B, OUT_F, DROP_B) (R376). -/
  cnt : SMap Nat := []
  /-- The part of `cnt` that came from events of the tick that runs. -/
  cur : SMap Nat := []
  /-- Tap buffers: 0 ingress, 1 egress, 2 dropped (R377). -/
  taps : SMap (List TapEvt) := []
  /-- The last tick count and tick length the timebase saw (R378, R379). -/
  lastTick : Nat := 0
  lastLen : Nat := 1500
  /-- Reasons of statements due: 1 TICK_CHANGE, 2 RESTART, 3 PARAM, 4 STATEMENT_NOW. -/
  due : List Nat := []
  /-- The edge at which a restart was seen, and the edge from which the interval runs. -/
  restartAt : Nat := 0
  edge : Nat := 0
  /-- The seal was open in the interval; RESTART is due in the next statement's FLAGS. -/
  sealSeen : Bool := false
  restartFlag : Bool := false
  /-- COUNT_SUSPECT is due in the next statement; it holds until a warrant clears it. -/
  suspNext : Bool := false
  suspHold : Bool := false
  /-- Statements being signed, and the last 128 in flash, oldest first. -/
  issuing : List Stmt := []
  stored : List Stmt := []
  nextStmt : Nat := 0
  /-- The audit trail in flash, oldest first, the next index, and the MAC before the oldest. -/
  trail : List Aud := []
  nextIdx : Nat := 0
  baseMac : List Byte := List.replicate 32 0
  /-- The warrant window (R374). -/
  win : SMap Byte := []
  dl : Option TrDl := none
  /-- The running Traty's version and digest, once one was downloaded. -/
  traty : Option (Nat × List Byte) := none
  deriving DecidableEq, Repr


/-! ### Client ports, lexicon and queue manager (chapter 08) -/

/-- A frame in a receive buffer: its bytes with FCS, the cycle in which its last byte came, and the receive stamp of a
PTP event message (R197). -/
structure RxFrame where
  data : List Byte
  since : Nat
  stamp : Option Nat := none
  deriving DecidableEq, Repr

/-- A frame on its way out of a client port; `counted` frames count as egress (R222). -/
structure TxFrame where
  data : List Byte
  flow : Option Nat := none
  tenant : Nat := 0
  counted : Bool := false
  deriving DecidableEq, Repr

/-- A client port: receive buffer, frames for its MAC, frames of the control complex (R199), and the
two-step stamps as (TOD, sequenceId), and the half
of CPT_TXTS that a 32-bit read of the other half left behind (R9). -/
structure CptPort where
  rx : List RxFrame := []
  tx : List TxFrame := []
  ctl : List TxFrame := []
  stamps : List (Nat × Nat) := []
  half : Option Nat := none
  deriving DecidableEq, Repr

/-- A mirror record on its way to the Bureau and the write it holds (R210). `kind` is 0 for LEX_CMD, 1
for LEX_PORT_CFG, 2 for a lost entry; `st` is 0 sent, 1 in the trail; `since` is when it
was sent. -/
structure Mirror where
  kind : Nat
  op : Nat
  ty : Nat := 0
  key : Nat := 0
  flow : Nat := 0
  old : Nat := 0
  new : Nat := 0
  ix : Nat := 0
  val : Nat := 0
  st : Nat := 0
  since : Nat := 0
  deriving DecidableEq, Repr

/-- The lexicon (R204 to R212): half-entries by 2 × physical entry + half, spare mappings of rows,
spares used per table, rows with a corrected error, rows that want a spare, the patrol pointer, the
mirrors in flight and how the last LEX_PORT_CFG write ended. -/
structure LexSt where
  mem : SMap Code := []
  map : SMap Nat := []
  used : SMap Nat := []
  ceRows : SMap Nat := []
  want : List Nat := []
  pat : Nat := 0
  mir : List Mirror := []
  portEnd : Nat := 0
  /-- Rotating pointer over the twelve sources of R195. -/
  ptr : Nat := 0
  deriving DecidableEq, Repr

/-- A frame in a flow's queue with what its frame record holds (R214), and the pool cells it is stored in. `data` are
the bytes as stored; a send reads them from the cells. `sent` counts the bytes already sent as segments. -/
structure QFrame where
  data : List Byte
  tenant : Nat
  port : Nat
  tick : Nat
  counted : Bool
  stamp : Option Nat := none
  sent : Nat := 0
  cells : List Nat := []
  deriving DecidableEq, Repr

/-- A flow (R213, R215, R221): its descriptor, buckets in units of 2^-8 byte, deficit, queue and
counters; a descriptor that waits for the tick edge. -/
structure Flow where
  en : Bool := false
  faulted : Bool := false
  dtype : Nat := 0
  ddev : Nat := 0
  did : Nat := 0
  cls : Nat := 0
  weight : Nat := 0
  cir : Nat := 0
  eir : Nat := 0
  cbs : Nat := 0
  ebs : Nat := 0
  maxq : Nat := 0
  maxage : Nat := 0
  cB : Nat := 0
  eB : Nat := 0
  deficit : Nat := 0
  q : List QFrame := []
  next : Option Nat := none
  enqF : Nat := 0
  enqB : Nat := 0
  deqF : Nat := 0
  deqB : Nat := 0
  dropF : SMap Nat := []
  dropB : Nat := 0
  deriving DecidableEq, Repr

/-- What a lookup gave: the action, flow and tenant. -/
structure LexHit where
  act : Nat
  flow : Nat
  tenant : Nat
  deriving DecidableEq, Repr

/-- A frame that an inlet builds (R203), the pool cells drawn for it, and whether bytes came while no cell was free. -/
structure InFrame where
  flen : Nat
  data : List Byte
  done : Bool
  port : Nat
  sdev : Nat := 0
  rflow : Nat := 0
  since : Nat := 0
  hit : Option LexHit := none
  cells : List Nat := []
  lost : Bool := false
  deriving DecidableEq, Repr

/-- A word in an inlet of a queue manager port: whether it starts an item, whether it is poisoned, and
the device its packet came from. -/
structure InWord where
  w : Word
  st : Bool
  pois : Bool
  dev : Nat
  deriving DecidableEq, Repr

/-- A radio link of the queue manager: frames being built, the budget candidate of the next tick,
whether the last tick's budget counted, whether this tick's deadline has run, the flow of a split
frame, and items to send, staged for the next tick and free to go. -/
structure QLink where
  build : List InFrame := []
  cand : Option Nat := none
  hadBudget : Bool := false
  fixed : Bool := false
  nextBudget : Nat := 0
  carry : Option Nat := none
  stage : List (List Word) := []
  out : List (List Word) := []
  deriving DecidableEq, Repr

/-- The queue manager: flows, links, inlets by 8 × port + inlet, span frames being looked up, span items
to send, and the flows whose turn it is. -/
structure QmSt where
  flows : SMap Flow := []
  links : SMap QLink := []
  inlet : SMap (List InWord) := []
  span : List InFrame := []
  spanOut : List (Nat × List Word) := []
  turn : SMap Nat := []
  deriving DecidableEq, Repr


/-! ### GDDR7 and the DMA movers (chapter 09) -/

/-- GDDR7: codewords by (line × 5 + device) × 4 + word of its piece; spare rows as (bank, row, spare) by
device; rows that gave a corrected error in this patrol pass and rows that want a spare as (device,
bank, row); times of the last reconstructions by device; the patrol line; whether the failed device
has been retrained and traffic has begun; lines that were written while a rebuild ran. -/
structure GdrSt where
  mem : SMap Code := []
  spare : SMap (List (Nat × Nat × Nat)) := []
  ceRows : List (Nat × Nat × Nat) := []
  want : List (Nat × Nat × Nat) := []
  recon : SMap (List Nat) := []
  pat : Nat := 0
  retrained : Bool := false
  traffic : Bool := false
  fresh : List Nat := []
  /-- A training has ended since reset (R227). -/
  trained : Bool := false
  /-- Spare rows given up when their row was spared again, as (device, bank, spare). -/
  dead : List (Nat × Nat × Nat) := []
  /-- Banks, as (device, bank), whose want of a spare row has been recorded (R238). -/
  full : List (Nat × Nat) := []
  deriving DecidableEq, Repr

/-- An item that waits at a stop's injection port as STREAM packets: its destination, FIFO, tag and
words, each with its poison mark. -/
structure OutItem where
  ddev : Nat
  dstop : Nat
  dcab : Nat
  dfifo : Nat
  prio : Nat
  words : List (Word × Bool)
  deriving DecidableEq, Repr

/-- A DMA channel beside its registers: descriptors fetched ahead with their ring index, items to send,
the SEQ of its unbooked stream and whether its next packet is the first since EN was set (R153). -/
structure DmaCh where
  ahead : List (Nat × Nat) := []
  out : List OutItem := []
  seq : Nat := 0
  rst : Bool := false
  /-- Bytes that the descriptor in progress has moved from its stream, and whether one was poisoned. -/
  moved : Nat := 0
  bad : Bool := false
  /-- The record word of the item at the head of the channel's FIFO has been written (R243). -/
  noted : Bool := false
  /-- The cycle since which the channel's items wait for injection (R246). -/
  since : Nat := 0
  deriving DecidableEq, Repr


/-! ### Span links (chapter 10) -/

/-- A flit on a span: its kind, its POISON mark and its 256 bits. -/
structure SFlit where
  kind : Nat
  pois : Bool
  data : Nat
  deriving DecidableEq, Repr

/-- A packet in the span switch with the fields its frames carry (R252). -/
structure SPkt where
  net : Nat
  slane : Nat := 0
  dir : Nat := 0
  dring : Nat := 0
  ddev : Nat
  flits : List SFlit
  deriving DecidableEq, Repr

/-- A frame in a replay buffer (R253, R254). -/
structure SFrame where
  seq : Nat
  net : Nat
  slane : Nat
  dir : Nat
  dring : Nat
  ddev : Nat
  flit : SFlit
  deriving DecidableEq, Repr

/-- A span lane: in service, unacknowledged frames, next and expected SEQ, whether a NAK stands for the
present gap, resends without progress, packets that have arrived whole, the one arriving, frames sent
and returned by 8 × network + system lane, and frames freed here. -/
structure SpnLane where
  up : Bool := false
  replay : List SFrame := []
  seq : Nat := 0
  exp : Nat := 0
  nak : Bool := false
  tries : Nat := 0
  rx : List SPkt := []
  part : Option SPkt := none
  used : SMap Nat := []
  back : SMap Nat := []
  freed : SMap Nat := []
  /-- Packets that hold credits, by 8 × network + system lane, the newest first: frames, and whether they come from
  the shared pool (R255). -/
  hold : SMap (List (Nat × Bool)) := []
  deriving DecidableEq, Repr

/-- A tick marker (R265). -/
structure Marker where
  prio : Nat
  dev : Nat
  hops : Nat
  n : Nat
  len : Nat
  depart : Int
  tod : Nat
  deriving DecidableEq, Repr

/-- What waits at a lane's transmitter (R252): a DATA frame, a NAK, a marker, a calibration, the answer to a CAL that
came in the given cycle. -/
inductive SOut where
  | data (f : SFrame)
  | nak
  | marker (m : Marker)
  | cal
  | echo (at_ : Nat)
  deriving DecidableEq, Repr

/-- The span switch: lanes, packets that wait at stops 125 and 127 by network, the last marker heard on
each link with its tick, the last tick in which a better master was heard, links whose calibration
runs, ticks of the last marker sent, the last marker sent, denials of the two stops, the rotating
pointers, whether the present episode of drops is recorded,
and the outbound credits in use. -/
structure SpnSt where
  lane : SMap SpnLane := []
  inj : SMap (List SPkt) := []
  heard : SMap (Option (Marker × Nat)) := []
  better : Nat := 0
  cal : SMap Bool := []
  sent : SMap Nat := []
  mark : Option Marker := none
  /-- The phase of the followed marker: whole ACLK cycles of the master's edge after the own one, unsaturated,
  the master's number of that edge, and the own edge (R266). -/
  phase : Option (Int × Nat × Nat) := none
  deny : SMap Nat := []
  ptr : SMap Nat := []
  dropRec : Bool := false
  /-- Frames that wait at each port's transmitter, in order; when it is free, in 1/300,600 ms times the cycles of a
  millisecond; and what left it last with the 352 bits of its frame (R252). -/
  txq : SMap (List SOut) := []
  txAt : SMap Nat := []
  txLast : SMap (Option (SOut × Nat)) := []
  /-- The cycle of each port's last advance of ACK, or of the first frame sent since all were acknowledged (R253). -/
  ackAt : SMap Nat := []
  /-- The tick edge at which each link's last calibration began (R267). -/
  calAt : SMap Nat := []
  /-- The cycle in which each link's training began (R256). -/
  trainAt : SMap Nat := []
  /-- Packets that hold an outbound credit of R261, by (2 × network + span stop) × 140 + stop. -/
  cred : SMap Nat := []
  deriving DecidableEq, Repr



/-! ### Configuration streams (chapter 11) -/

/-- A frame's write (R275, R277): logical cabinet, column, row, section, presence mask and words. -/
structure FrameWr where
  l : Nat
  col : Nat
  row : Nat
  sec : Nat
  mask : Nat
  words : List Word
  deriving DecidableEq, Repr

/-- What a DOORS clause sets (R282): RELOC, border channels, the 16 FIFO settings, the eight booking
entries, and the pins as (pin, PINCFG). -/
structure DoorImg where
  reloc : Bool := false
  bcen : Nat := 0
  fifos : List Nat := []
  books : List Nat := []
  pins : List (Nat × Nat) := []
  deriving DecidableEq, Repr

/-- A clause of a stream (R274 to R286), decoded. A cabinet of 0x7F in `startup` names every cabinet. -/
inductive Cl where
  | frames (w : List FrameWr)
  | fill (l colHi colLo rowHi rowLo smask : Nat)
  | tickplan (l plan : Nat) (slots : List (Nat × Nat))
  | doors (l : Nat) (d : DoorImg)
  | doorsEdge (stop : Nat) (books : List Nat)
  | startup (l word : Nat)
  | inventory (l plan col bits : Nat)
  | cert (l plan : Nat) (c : Cert)
  | certEdge (stop : Nat) (c : Cert)
  | capture (l : Nat)
  | roll
  | fin
  deriving DecidableEq, Repr

/-- What the image store holds of a plan register: slots, inventory classes and certificate. -/
structure PlanImg where
  slots : List (Nat × Nat) := []
  inv : SMap Nat := []
  cert : Cert := {}
  deriving DecidableEq, Repr

/-- The image of a logical cabinet (R294): configuration words by 64 × (8 × column + row) + word, RAM
words by 512 × (8 × column + row) + address, plans, doors, start-up word and capture grant. -/
structure Img where
  sid : Nat := 0
  compat : Bool := false
  cfg : SMap Word := []
  ram : SMap Word := []
  planA : PlanImg := {}
  planB : PlanImg := {}
  doors : DoorImg := {}
  startup : Nat := 0x7800000000000000
  capture : Bool := false
  deriving DecidableEq, Repr

/-- A load that has passed its staging pass (R296): KIND, region map, STREAM_ID and clauses with their
byte offsets. -/
structure LoadJob where
  kind : Nat
  region : Nat
  sid : Nat
  cls : List (Nat × Cl)
  deriving DecidableEq, Repr

/-- A compatibility load in progress (R304): the first logical cabinet, its regions, its length and the
byte offset of the next record, and the cells in which each drawer has been written, a bit a cell, by
16 × logical cabinet + drawer. -/
structure CompatJob where
  ofs : Nat
  regions : Nat
  len : Nat
  pos : Nat
  wrote : SMap Nat := []
  deriving DecidableEq, Repr

/-- The configuration controller: the image store, the load in progress, logical cabinets whose recovery
reload is due, the cabinets that faulted in the last load, and those reloaded while the device was in SAFE
or HALT, which Kaluno runs once it has left. -/
structure CfgSt where
  img : SMap Img := []
  job : Option LoadJob := none
  compat : Option CompatJob := none
  due : List Nat := []
  bad : List Nat := []
  later : List Nat := []
  deriving DecidableEq, Repr

/-- One-time programmable memory (R288, R293, R303, R315, R438): public-key digests by slot, revoked
slots, SVN minima of streams and firmware, the device's stream key, the fuses ENC_REQ and COMPAT_FORBID,
and the test-key digest; in the Bureau's own memory, the authority-key digest (R392). -/
structure OtpSt where
  digest : SMap (List Byte) := []
  revoked : Nat := 0
  svn : Nat := 0
  fwSvn : Nat := 0
  key : List Byte := List.replicate 32 0
  encReq : Bool := false
  compatForbid : Bool := false
  testKey : List Byte := []
  testRevoked : Bool := false
  authority : List Byte := []
  deriving DecidableEq, Repr

/-! ### Start-up (chapter 12) and firmware (R370) -/

/-- The boot ROM and Kaluno: the device is held in reset; the ROM runs; Kaluno runs; the slots left of
the round; an image being pushed; the image that runs; a first attempt has been made; a warm reset that
SYS RESET asked for, by its cycle. -/
structure BootSt where
  held : Bool := true
  /-- No pair was released at the last warm reset, for none was in service or spare (R331). -/
  noPair : Bool := false
  /-- The ACLK cycle of Kaluno's first instruction (R316), and the one in which the back-off wait began (R317). -/
  startAt : Nat := 0
  waitAt : Nat := 0
  rom : Bool := false
  fw : Bool := false
  left : List Nat := []
  first : Bool := true
  push : Option (Nat × List Byte) := none
  image : List Byte := []
  slotImage : Option Nat := none
  resetAt : Option Nat := none
  /-- LOADSTAT's situation beside SYS_BOOT_STAT: DONE was written. -/
  done : Bool := false
  deriving DecidableEq, Repr

/-- Firmware update (R370): the state (0 IDLE, 1 WRITING, 2 VERIFIED, 3 ACTIVATED, 4 TRIAL, 5
ROLLED_BACK), verified parts, bytes programmed of each part, the trial time in seconds, the ACLK
cycle in which the trial began. -/
structure FwSt where
  st : Nat := 0
  parts : Nat := 0
  pos : SMap Nat := []
  trial : Nat := 0
  trialAt : Nat := 0
  deriving DecidableEq, Repr

/-! ### Scrub, self-test and spares (chapter 17) -/

/-- The scrub controllers: the next word of the walk as (cabinet, word), the walk's start in µs, the
fetch queue as (cell, word), progress passed to the standby, the standby's copy of the settings, whether
a former primary waits for its test. -/
structure ScrSt where
  walking : Bool := false
  p : Nat := 0
  w : Nat := 0
  start : Nat := 0
  next : Nat := 0
  queue : List (Nat × Nat) := []
  progP : Nat := 0
  progW : Nat := 0
  copy : Nat := 10000
  testing : Bool := false
  /-- The ACLK cycle of the last heartbeat toggle (R419). -/
  beatAt : Nat := 0
  deriving DecidableEq, Repr

/-- A unit of the BIST engine: slices passed since its test began, INCOMPLETE run, FAIL results, the tick
of its last PASS plus one, whether a slice runs, since when it waits, and until when its test is withheld. -/
structure BUnit where
  done : Nat := 0
  /-- The ACLK cycle in which the slice that runs began (R434). -/
  began : Nat := 0
  inc : Nat := 0
  fails : Nat := 0
  pass : Nat := 0
  run : Bool := false
  want : Bool := false
  since : Nat := 0
  held : Bool := false
  /-- The time in µs at which its last test began, for units tested at intervals. -/
  last : Nat := 0
  deriving DecidableEq, Repr

/-- The BIST engine: units by number (100 gap columns, reserve cabinets from 100, routers from 200, pairs
from 300, the standby scrub controller 310, standby PLLs from 311), the tick in which a slice last
started in a cabinet, and the rotating pointer. -/
structure BstSt where
  units : SMap BUnit := []
  started : SMap Nat := []
  ptr : Nat := 0
  /-- Memory BIST of every cell, FIFO and lexicon row before the first load is due (R79, R132). -/
  bring : Bool := true
  deriving DecidableEq, Repr

/-! ### The mailboxes (chapter 14) -/

/-- A mailbox: its windows, the header fields of the request that runs or ran last, whether the mailbox is
synchronised, and the answer to it (R360). -/
structure Mbx where
  req : SMap Byte := []
  rsp : SMap Byte := []
  grp : Nat := 0
  code : Nat := 0
  seq : Nat := 0
  tag : Nat := 0
  flags : Nat := 0
  sync : Bool := false
  st : Nat := 0
  sub : Nat := 0
  more : Bool := false
  pay : List Byte := []
  deriving DecidableEq, Repr

/-- What an answer waits for (R362). Times are ACLK cycles. -/
inductive Wait where
  | load
  | hold (l : Nat)
  | run (l : Nat)
  | drain (l : Nat)
  | unload (l : Nat)
  | power (l : Nat)
  | relocate (l dest : Nat)
  | align
  | router (stop mode since : Nat)
  | jesd (i since : Nat)
  | sysref (j since : Nat)
  | lex
  | lexPort
  | retrain (since : Nat)
  deriving DecidableEq, Repr

/-- A request taken that waits for an earlier one of its unit (R361): mailbox, group, code, fields, and the bytes
that come from outside the device for it. -/
structure HeldReq where
  box : Nat
  grp : Nat
  code : Nat
  args : List Nat
  ext : List Byte
  deriving DecidableEq, Repr

/-- Kaluno's service interface: mailboxes, doorbells in the order they rang, waiting answers, requests
taken that wait for another of their unit, and the rotating pointer of R361. -/
structure SvcSt where
  box : SMap Mbx := []
  order : List Nat := []
  waits : List (Nat × Wait) := []
  held : List HeldReq := []
  ptr : Nat := 0
  deriving DecidableEq, Repr

/-! ### Supplies, temperature, test access, board pins (chapters 17 and 20) -/

/-- AVS, sensors and test access: the last acknowledged VDD_CORE request in mV and its cycle, whether
adaptation has stopped and since when, sensor readings in 0.1 °C and supply readings in mV, the thermal
thresholds crossed (a bit each: 108, 115, 120, -45 °C), the TEST_UNLOCK challenge, whether scan is
enabled, whether session secrets stand, a boundary-scan override of pins, the last refresh, the
adaptation coefficients of the lanes and the tick edges, plus one, at the last telemetry of each stop. -/
structure EnvSt where
  vreq : Nat := 750
  vat : Option Nat := none
  vstop : Option Nat := none
  temps : List Int := []
  vcore : Nat := 0
  vsram : Nat := 0
  therm : Nat := 0
  chal : Option (List Byte) := none
  scan : Bool := false
  secrets : Bool := false
  bscan : Option (List (Nat × Nat)) := none
  refresh : Nat := 0
  coef : SMap Nat := []
  tele : SMap Nat := []
  deriving DecidableEq, Repr


/-! ### The whole machine -/

/-- The state of the device. -/
structure State where
  /-- The commands that wait, first in, first out (the model's own queue). -/
  pending : List Instr := []
  /-- Register fields by `field number × 2^20 + instance`; an unlisted field holds its reset value (R5, `Fld.resetAt`). -/
  regs : SMap Nat := []
  /-- Tick, time of day. -/
  time : TimeSt := {}
  /-- Cells and cabinets. -/
  array : ArraySt := {}
  /-- Stream FIFOs by the identifier of R117. -/
  fifo : SMap Fifo := []
  /-- Converter ports. -/
  jpt : JptSt := {}
  /-- The ring network. -/
  noc : NocSt := {}
  /-- GPIO pins 0-95. -/
  pin : SMap PinSt := []
  /-- The answer of the last register or memory access (the model's own). -/
  bus : BusSt := {}
  /-- Fault collection. -/
  flt : FltSt := {}
  /-- The event log and ring, event lines, interrupts sent. -/
  evt : EvtSt := {}
  /-- The control complex and the scheduler. -/
  ctl : CtlSt := {}
  /-- The Bureau. -/
  bur : BurSt := {}
  /-- Client ports. -/
  cpt : SMap CptPort := []
  /-- The lexicon. -/
  lex : LexSt := {}
  /-- The queue manager. -/
  qm : QmSt := {}
  /-- GDDR7. -/
  gdr : GdrSt := {}
  /-- DMA channels. -/
  dma : SMap DmaCh := []
  /-- Configuration flash, erased bytes 0xFF unlisted. -/
  flash : SMap Byte := []
  /-- Span links and the span switch. -/
  spn : SpnSt := {}
  /-- The configuration controller and its image store. -/
  cfg : CfgSt := {}
  /-- One-time programmable memory. -/
  otp : OtpSt := {}
  /-- The boot ROM. -/
  boot : BootSt := {}
  /-- Firmware update. -/
  fw : FwSt := {}
  /-- The scrub controllers. -/
  scr : ScrSt := {}
  /-- The BIST engine. -/
  bst : BstSt := {}
  /-- The mailboxes. -/
  svc : SvcSt := {}
  /-- Supplies, temperature, test access, board pins. -/
  env : EnvSt := {}
  /-- The MODEL'S OWN counter that free values are drawn with; no field of the device. -/
  free : Nat := 0
  deriving DecidableEq, Repr

/-- Why a command faults. -/
inductive Fault where
  /-- Raised by every command that names a place of an event which the device does not have (a slot of a cabinet above 99,
  a frame at a port above 7, a word above a store's end, a seventeenth mailbox). Safe: the machine stops where the spec
  has no such event at all. Accesses to registers never raise it (R447, R448). -/
  | noSuchUnit
  deriving DecidableEq, Repr

/-- Why a command is refused. -/
inductive Refusal where
  /-- A command whose meaning the model does not hold. Safe: the machine stops. -/
  | notModelled (mnemonic : String)
  deriving DecidableEq, Repr

/-- The device right after power-on reset: every register field at the value its table states,
every store empty, no command waiting. -/
def State.reset : State := {}

end Machine
end Sys2Proof
end

