-- ==== Sys2Proof/Machine/Ops.lean ====
section
/-!
DEFINITION. The named operations over the state: reading and writing register fields, counters
that saturate (R445), time and time-stamps (R16), raising an event on an error line (R396), the
SEC-DED check with injection (R411, R413), cabinets, cells and the column mapping (R81, R110).
-/

namespace Sys2Proof
namespace Machine

/-- Runs what happens at a unit; faults by name where the device has no such unit. -/
def run (ok : Bool) (t : State) : Host.Outcome State Fault Refusal :=
  if ok then .next t else .fault .noSuchUnit

/-- A write that a register's place takes where the place exists: an unlisted offset ignores it (R448). -/
def reach (ok : Bool) (s t : State) : Host.Outcome State Fault Refusal := .next (if ok then t else s)

/-! ### Register fields -/

/-- The key of a field's instance. -/
def fkey (f : Fld) (i : Nat) : Nat := f.id * 1048576 + i

/-- The value of a register field. -/
def fget (s : State) (f : Fld) (i : Nat) : Nat := smGet (f.resetAt i) s.regs (fkey f i)

/-- Writes a register field; a value beyond the field's width keeps its low bits. -/
def fset (s : State) (f : Fld) (i v : Nat) : State :=
  { s with regs := smSet (f.resetAt i) (fkey f i) (v % 2 ^ f.width) s.regs }

/-- The instances whose flag field `f` is listed as set. -/
def setInstances (s : State) (f : Fld) : List Nat :=
  s.regs.filterMap (fun e => if f.id * 1048576 ≤ e.1 && e.1 < (f.id + 1) * 1048576 && e.2 != 0 then some (e.1 - f.id * 1048576) else none)

/-- Writes a flag field. -/
def fsetB (s : State) (f : Fld) (i : Nat) (b : Bool) : State := fset s f i (if b then 1 else 0)

/-- A flag field as a truth value. -/
def fgetB (s : State) (f : Fld) (i : Nat) : Bool := fget s f i != 0

/-- Adds to a saturating counter field (R445). -/
def fadd (s : State) (f : Fld) (i n : Nat) : State :=
  if n = 0 then s else fset s f i (min (fget s f i + n) (2 ^ f.width - 1))

/-- Increments a saturating counter field (R445). -/
def finc (s : State) (f : Fld) (i : Nat) : State := fadd s f i 1

/-- Subtracts min(amount, count) from a counter field (R52, R80, R329, R417). -/
def fsub (s : State) (f : Fld) (i n : Nat) : State := fset s f i (fget s f i - min n (fget s f i))

/-- A signed value saturated to the range of a `w`-bit two's-complement field, as its bits. -/
def satSigned (w : Nat) (v : Int) : Nat :=
  let hi : Int := 2 ^ (w - 1) - 1
  let lo : Int := -(2 ^ (w - 1))
  let x := if v < lo then lo else if hi < v then hi else v
  (x % (2 ^ w : Int)).toNat

/-- The value of a field of `w` bits read as two's complement. -/
def signedOf (w v : Nat) : Int := if v < 2 ^ (w - 1) then (v : Int) else (v : Int) - 2 ^ w

/-! ### Time -/

/-- TICK_LEN in force. -/
def tickLen (s : State) : Nat := fget s SYS_TICK_CFG_TICK_LEN 0

/-- The smallest k from 0 to 5 with 2·TICK_LEN ≤ 65,536·2^k (R16). -/
def ofsShift (len : Nat) : Nat :=
  if 2 * len ≤ 65536 then 0 else if 2 * len ≤ 131072 then 1 else if 2 * len ≤ 262144 then 2
  else if 2 * len ≤ 524288 then 3 else if 2 * len ≤ 1048576 then 4 else 5

/-- The ACLK cycle number within the present tick. -/
def cycOfs (s : State) : Nat := s.time.now - s.time.tickStart

/-- The offset of a time-stamp taken now (R16). -/
def stampOfs (s : State) : Nat := (cycOfs s / 2 ^ ofsShift (tickLen s)) % 65536

/-- The length of the present tick with the hold cycles inserted so far (R14, R20). -/
def tickSpan (s : State) : Nat := s.time.lenNow.getD (tickLen s) + s.time.extra

/-- The first cycle of the present tick's guard (R23). -/
def guardAt (s : State) : Nat := s.time.tickStart + tickSpan s - 24

/-- Lets ACLK reach cycle `n`: the time of day gains its increment every cycle (R196), and the cycles outside the
guard are counted (R151). -/
def advanceTo (s : State) (n : Nat) : State :=
  if s.time.now < n then
    { s with time := { s.time with
        tod := (s.time.tod + (n - s.time.now) * fget s CPT_TOD_INC_INC 0) % (2 ^ 48 * (1000000000 * 2 ^ 32))
        ngc := s.time.ngc + (min n (guardAt s) - min s.time.now (guardAt s))
        now := n } }
  else s

/-- Draws the next free-value number. -/
def drawFree (s : State) : State := { s with free := s.free + 1 }

/-- ACLK cycles in `n` milliseconds. -/
def msCycles (n : Nat) : Nat := n * Config.aclkKHz

/-- At least `ms` milliseconds have passed since ACLK cycle `t`. -/
def passedMs (s : State) (t ms : Nat) : Bool := t + msCycles ms ≤ s.time.now

/-! ### Events on error lines -/

/-- The class codes of R397. -/
def clsC : Nat := 0
/-- U. -/
def clsU : Nat := 1
/-- F. -/
def clsF : Nat := 2
/-- HALT. -/
def clsH : Nat := 3

/-- The CODE of an event (R404): as written for source 63 (R415); for an event whose number is 256
or more its low byte stands and the rest is the block's code (R170); else the block's code, which
the spec does not list and the model leaves free. -/
def codeOf (src n : Nat) : Nat :=
  if src = 63 then n
  else if n < 256 then Config.blockCode src n % 65536
  else Config.blockCode src (n / 256) / 256 % 256 * 256 + n % 256

/-- Raises an event on its source's line with the time-stamp of its detection (R396, R404). -/
def raise (s : State) (e : FaultEvt) : State :=
  { s with flt := { s.flt with raised := s.flt.raised ++ [{ e with code := codeOf e.src e.code, ofs := stampOfs s, tick := s.time.tick }] } }

/-- The stop of a logical pair's control complex port (R332, R468). -/
def pairStop (k : Nat) : Nat := if k = 0 then 100 else if k = 1 then 109 else if k = 2 then 129 else 131

/-- A MASTER field: device, stop and sub-master (R404). -/
def masterNum (dev stop sub : Nat) : Nat := dev % 1024 * 16384 + stop % 256 * 64 + sub % 64

/-- MASTER of a control pair (R468). -/
def pairMaster (s : State) (k : Nat) : Nat := masterNum (fget s SPN_SYS_DEVNUM 0) (pairStop k) k

/-- What an access did, its requester named in the events after the first `n` that a read or write by it met (R404). -/
def accessBy (n master : Nat) (s : State) : State :=
  let name (e : FaultEvt) : FaultEvt := if (e.access = 1 || e.access = 2) && e.master = 0xFFFFFF then { e with master := master } else e
  { s with flt := { s.flt with raised := s.flt.raised.take n ++ (s.flt.raised.drop n).map name } }

/-! ### SEC-DED checks and injection -/

/-- One check of a checker under injection: whether one is armed on it (and whether DOUBLE), and
the state with the count run down (R411). -/
def injTake (s : State) (src chk : Nat) : State × Option Bool :=
  if fgetB s FLT_INJ_ACTIVE src ∧ fget s FLT_INJ_CHECKER src = chk then
    let d := fgetB s FLT_INJ_DOUBLE src
    if fgetB s FLT_INJ_CONT src then (s, some d)
    else
      let n := fget s FLT_INJ_COUNT src
      let s1 := fset s FLT_INJ_COUNT src (n - 1)
      ((if n ≤ 1 then fset s1 FLT_INJ_ACTIVE src 0 else s1), some d)
  else (s, none)

/-- What a SEC-DED check found: the judgement, the syndrome, and the INJ and INJ_COINC marks of
the event it makes (R411, R413). -/
structure EccCheck where
  v : Verdict
  syn : Nat
  inj : Bool
  coinc : Bool
  deriving DecidableEq, Repr

/-- The check-bit mask an injection inverts (R411): check bit 0, or 0 and 1. -/
def injMask (dbl : Bool) : Code := if dbl then 3#72 <<< 64 else 1#72 <<< 64

/-- The check of a codeword, with an injection `i` or none (R411, R413, R467). -/
def eccCheckWith (i : Option Bool) (c : Code) : EccCheck :=
  match i with
  | none => ⟨eccJudge c, eccSyn c, false, false⟩
  | some d =>
    let c1 := c ^^^ injMask d
    if eccSyn c1 = eccSyn (injMask d) then
      ⟨if d then .bad else .fixed (eccData c), eccSyn c1, true, false⟩
    else ⟨.bad, eccSyn c1, false, true⟩

/-- Checks a codeword read by checker `chk` of source `src`. -/
def eccCheck (s : State) (src chk : Nat) (c : Code) : State × EccCheck :=
  let r := injTake s src chk
  (r.1, eccCheckWith r.2 c)

/-! ### Cabinets and cells -/

/-- Cabinet states (CAB_STATE.STATE). -/
def stEMPTY : Nat := 0
/-- LOADING. -/
def stLOADING : Nat := 1
/-- HELD. -/
def stHELD : Nat := 2
/-- RUNNING. -/
def stRUNNING : Nat := 3
/-- DRAINING. -/
def stDRAINING : Nat := 4
/-- FAULTED. -/
def stFAULTED : Nat := 5
/-- INCONSISTENT. -/
def stINCONSISTENT : Nat := 6
/-- OFF. -/
def stOFF : Nat := 7

/-- The state of physical cabinet `p`. -/
def cabState (s : State) (p : Nat) : Nat := fget s CAB_STATE_STATE p

/-- The physical cabinet that carries logical cabinet `l` (R110). -/
def physOf (s : State) (l : Nat) : Nat := fget s CFG_CAB_MAP_PHYS l

/-- The logical cabinet that physical cabinet `p` carries, 0x7F for none. -/
def logicalOf (s : State) (p : Nat) : Nat := fget s CAB_STATE_LOGICAL p

/-- The fault source of physical cabinet `p` (R87, R396). -/
def cabSrc (p : Nat) : Nat := p / 4

/-- What physical cabinet `p` holds beside its registers. -/
def cab (s : State) (p : Nat) : Cab := smGet {} s.array.cabs p

/-- Writes cabinet `p`. -/
def setCab (s : State) (p : Nat) (c : Cab) : State :=
  { s with array := { s.array with cabs := smSet {} p c s.array.cabs } }

/-- The number of a cell by physical place. -/
def cid (p pcol row : Nat) : Nat := (p * 17 + pcol) * 8 + row

/-- A cell. -/
def cell (s : State) (k : Nat) : Cell := smGet {} s.array.cells k

/-- Writes a cell. -/
def setCell (s : State) (k : Nat) (c : Cell) : State :=
  { s with array := { s.array with cells := smSet {} k c s.array.cells } }

/-- Applies `f` to every stored cell of cabinet `p`. -/
def mapCells (s : State) (p : Nat) (f : Cell → Cell) : State :=
  { s with array := { s.array with cells := smMapRange {} (p * 136) (p * 136 + 136) f s.array.cells } }

/-- The gap position (R81). -/
def gapPos (s : State) (p : Nat) : Nat := fget s CAB_GAP_POS p

/-- The physical column of a logical column (R81). -/
def pcolOf (s : State) (p lcol : Nat) : Nat := if lcol < gapPos s p then lcol else lcol + 1

/-- The logical column that physical column `pcol` works for: its own, or, for a gap column that
compares as a shadow, the column it shadows (R81, R429). -/
def lcolOf (s : State) (p pcol : Nat) : Option Nat :=
  if pcol < gapPos s p then some pcol
  else if pcol = gapPos s p then (if (cab s p).gapPh = 3 then some (cab s p).gapCol else none)
  else some (pcol - 1)

/-- Whether the start-up step with code `c` of cabinet `p` is done (R320): CAB_STARTUP.ORDER
holds the codes and NEXT the number of the step to come. -/
def stepDone (s : State) (p c : Nat) : Bool :=
  let o := fget s CAB_STARTUP_ORDER p
  let n := if fgetB s CAB_STARTUP_DONE p then 4 else fget s CAB_STARTUP_NEXT p
  (List.range n).any (fun k => o / 4 ^ k % 4 = c)

/-- Start-up step codes (R283). -/
def stepLOCK : Nat := 0
/-- OUTPUTS. -/
def stepOUTPUTS : Nat := 1
/-- SETRESET. -/
def stepSETRESET : Nat := 2
/-- WRITES. -/
def stepWRITES : Nat := 3

/-- The cells of cabinet `p` run the plan: RUNNING with SETRESET and WRITES done (R107, R320). -/
def cabRuns (s : State) (p : Nat) : Bool :=
  cabState s p = stRUNNING && stepDone s p stepSETRESET && stepDone s p stepWRITES

/-- Whether the doors of cabinet `p` are open. -/
def doorsOpen (s : State) (p : Nat) : Bool := fgetB s CAB_DOOR_STAT_OPEN p

/-- The certificate of the current plan (R98). -/
def curCert (s : State) (p : Nat) : Cert :=
  if fget s CAB_PLAN_SEL_CUR p = 0 then (cab s p).certA else (cab s p).certB

/-- Slot `k` of the current plan as (drawer, length). -/
def planSlot (s : State) (p plan k : Nat) : Nat × Nat :=
  if plan = 0 then (fget s CAB_PLAN_A_DRAWER (p * 32 + k), fget s CAB_PLAN_A_LEN (p * 32 + k))
  else (fget s CAB_PLAN_B_DRAWER (p * 32 + k), fget s CAB_PLAN_B_LEN (p * 32 + k))

/-- The number of slots of a plan. -/
def planSlots (s : State) (p plan : Nat) : Nat :=
  if plan = 0 then fget s CAB_PLAN_STAT_A_SLOTS p else fget s CAB_PLAN_STAT_B_SLOTS p

/-- Whether a plan is admitted (R95). -/
def planAdm (s : State) (p plan : Nat) : Bool :=
  if plan = 0 then fgetB s CAB_PLAN_STAT_A_ADM p else fgetB s CAB_PLAN_STAT_B_ADM p

/-- The inventory class of configuration word `w` of a cell in the current plan (R285, R422): 0
where no plan is admitted. -/
def invClass (s : State) (p lcol row w : Nat) : Nat :=
  let plan := fget s CAB_PLAN_SEL_CUR p
  if planAdm s p plan then smGet 0 (cab s p).inv (plan * 128 + lcol * 8 + row) / 4 ^ w % 4 else 0

/-- A FIFO. -/
def fifo (s : State) (k : Nat) : Fifo := smGet {} s.fifo k

/-- Writes a FIFO. -/
def setFifo (s : State) (k : Nat) (f : Fifo) : State := { s with fifo := smSet {} k f s.fifo }

/-- The identifier of FIFO `f` of physical cabinet `p` (R117). -/
def cabFifo (p f : Nat) : Nat := p * 128 + f

/-- The identifier of FIFO `f` of converter block `j` (R117). -/
def convFifo (j f : Nat) : Nat := 16384 + j * 16 + f

/-- The identifier of the FIFO of DMA channel `c` (R117). -/
def dmaFifo (c : Nat) : Nat := 32768 + c

/-- Whether an identifier names a FIFO of the device (R116, R117). -/
def fifoExists (k : Nat) : Bool :=
  if k < 16384 then k / 128 < 100 && k % 128 < 16
  else if k < 32768 then (k - 16384) / 16 < 8 && k % 16 < 8
  else k - 32768 < 16

/-- The fault source of a FIFO (R116). -/
def fifoSrc (k : Nat) : Nat :=
  if k < 16384 then k / 128 / 4 else if k < 32768 then 36 + (k - 16384) / 16 / 2 else 47

/-- The checker number of a FIFO's SEC-DED check (R412). -/
def fifoChk (k : Nat) : Nat :=
  if k < 16384 then 16 * (k / 128 % 4) + (if k % 128 < 8 then 3 else 4) else 0

/-- A client port's lanes carry frames: it is UP, and the device is not in SAFE or HALT, where they go to electrical idle and
frames wait (R321, R399). -/
def portSends (s : State) (n : Nat) : Bool := fgetB s CPT_PORT_CFG_UP n && fget s FLT_STATE_STATE 0 = 0

end Machine
end Sys2Proof
end

