-- ==== Sys2Proof/Machine/Event.lean ====
section
/-!
DEFINITION. Kaluno's event log and event ring (R369, R371), the interrupts sent, and the event
lines of the scheduler (SCH_EVT_BIND).
-/

namespace Sys2Proof
namespace Machine

/-- Sends a posted PCIe write to the host (R245). -/
def postHost (s : State) (a : Nat) (b : List Byte) : State := { s with evt := { s.evt with posted := s.evt.posted ++ [(a, b)] } }

/-- Raises MSI-X vector `v`. -/
def msix (s : State) (v : Nat) : State := { s with evt := { s.evt with msix := s.evt.msix ++ [v] } }

/-- A rising edge on event line `n`. -/
def evtLine (s : State) (n : Nat) : State :=
  if s.evt.lines.contains n then s else { s with evt := { s.evt with lines := s.evt.lines ++ [n] } }

/-- Unread entries of the ring: PI − CI modulo 2^16. -/
def ringUsed (s : State) : Nat := (fget s MBX_EVT_IDX_PI 0 + 65536 - fget s MBX_EVT_IDX_CI 0) % 65536

/-- The ring has room for one entry (R371). -/
def ringRoom (s : State) : Bool := ringUsed s < 2047

/-- The four words of an entry (R371). -/
def eventWords (e : Event) : List Word :=
  [BitVec.ofNat 64 (e.ev % 65536 * 2 ^ 48 + e.cls % 256 * 2 ^ 40 + e.eseq % 2 ^ 32), BitVec.ofNat 64 e.tick,
   BitVec.ofNat 64 (e.ofs % 65536 * 2 ^ 48 + e.arg0 % 2 ^ 48), BitVec.ofNat 64 e.arg1]

/-- Writes an entry, advances PI and raises the interrupt and event line 33. -/
def ringWrite (s : State) (e : Event) : State :=
  let pi := fget s MBX_EVT_IDX_PI 0
  let r := ((eventWords e).zipIdx).foldl (fun m w => smSet 0 (4 * (pi % 2048) + w.2) w.1 m) s.evt.ring
  let s1 := fset { s with evt := { s.evt with ring := r } } MBX_EVT_IDX_PI 0 (pi + 1)
  let s2 := if fgetB s1 MBX_EVT_CTL_IRQ_EN 0 then msix s1 (fget s1 MBX_EVT_CTL_VEC 0) else s1
  evtLine s2 33

/-- Notes an event in the log: it takes the next ESEQ (R369, R371). -/
def logEvent (s : State) (e : Event) : State × Event :=
  let x := { e with eseq := s.evt.next % 2 ^ 32, tick := s.time.tick, ofs := stampOfs s }
  let full := s.evt.log.length = 4096
  ({ s with evt := { s.evt with
      next := s.evt.next + 1
      log := (if full then s.evt.log.tail else s.evt.log) ++ [x]
      logLost := s.evt.logLost + (if full then 1 else 0) } }, x)

/-- Once there is room, a LOST entry with the events lost since the last one is written first. -/
def ringLost (s : State) : State :=
  if s.evt.lost != 0 && ringRoom s then
    let q := logEvent s { ev := 1, arg0 := s.evt.lost }
    ringWrite { q.1 with evt := { q.1.evt with lost := 0 } } q.2
  else s

/-- Places an event (R371): the log always, the ring while it has room, else it counts as lost. -/
def event (s : State) (ev cls arg0 arg1 : Nat) : State :=
  let s1 := ringLost s
  let q := logEvent s1 { ev := ev, cls := cls, arg0 := arg0, arg1 := arg1 }
  if ringRoom q.1 then ringWrite q.1 q.2
  else finc { q.1 with evt := { q.1.evt with lost := q.1.evt.lost + 1 } } MBX_EVT_CTL_LOST 0

/-- A write of MBX_EVT_IDX.CI: a value from the old CI up to PI, else ignored (MBX_EVT_IDX). -/
def evtCi (s : State) (v : Nat) : State :=
  let ci := fget s MBX_EVT_IDX_CI 0
  if (v % 65536 + 65536 - ci) % 65536 ≤ ringUsed s then ringLost (fset s MBX_EVT_IDX_CI 0 v) else s

/-- EVT_CI_WRITE (R372). -/
def execEvtCiWrite (v : Nat) (s : State) : Host.Outcome State Fault Refusal := run true (evtCi s v)

/-- Puts cabinet `p` into a state and notes a CAB_STATE event (R371) where a logical cabinet's state
changes. -/
def cabGo (s : State) (p st : Nat) : State :=
  let old := cabState s p
  let s1 := fset s CAB_STATE_STATE p st
  if old = st ∨ 96 ≤ logicalOf s p then s1
  else event s1 2 0 (logicalOf s p % 128 + st % 16 * 256 + old % 16 * 4096) (cab s p).sid

end Machine
end Sys2Proof
end

