-- ==== Sys2Proof/Machine/Bureau.lean ====
section
/-!
DEFINITION. The Bureau (chapter 15): counters and taps (R376, R377), the timebase (R378, R379),
statements and their sheets (R380 to R382), the audit trail (R384 to R387), seal, tamper and test
access (R388 to R391), warrants (R392, R393), Traty downloads, and Bureau faults (R394).
-/

namespace Sys2Proof
namespace Machine

/-- Writes the Bureau's inner state. -/
def setBur (s : State) (b : BurSt) : State := { s with bur := b }

/-- A notice (BUR_STAT.NOTICE): it raises event line 34 and a BUREAU event (R371). -/
def burNotice (s : State) (n : Nat) : State :=
  event (evtLine (fset s BUR_STAT_NOTICE 0 n) 34) 0xB 0 n (fget s BUR_STAT_STMT 0)

/-! ### Counting -/

/-- Adds to a 96-bit counter (R376). -/
def cntAdd (m : SMap Nat) (k n : Nat) : SMap Nat := smSet 0 k ((smGet 0 m k + n) % 2 ^ 96) m

/-- What one event adds: tap 0 ingress, 1 egress, 2 dropped. -/
def tapAdd (m : SMap Nat) (tap : Nat) (e : TapEvt) : SMap Nat :=
  if tap = 0 then cntAdd (cntAdd m (5 * e.tenant) e.len) (5 * e.tenant + 1) 1
  else if tap = 1 then cntAdd (cntAdd m (5 * e.tenant + 2) e.len) (5 * e.tenant + 3) 1
  else cntAdd m (5 * e.tenant + 4) e.len

/-- A tap's 256-event buffer is full: the tap holds its source (R377). -/
def tapFull (s : State) (tap : Nat) : Bool := 256 ≤ (smGet [] s.bur.taps tap).length

/-- A tap gives an event to its buffer (R222, R377). -/
def tapPut (s : State) (tap tenant len : Nat) : State :=
  let b := s.bur
  setBur s { b with taps := smSet [] tap (smGet [] b.taps tap ++ [⟨tenant, len, s.time.tick⟩]) b.taps }

/-- The counter engine takes one event of a tap. -/
def tapTake (s : State) (tap : Nat) : State :=
  match smGet [] s.bur.taps tap with
  | [] => s
  | e :: r =>
    let b := s.bur
    setBur s { b with taps := smSet [] tap r b.taps, cnt := tapAdd b.cnt tap e,
                      cur := if b.lastTick ≤ e.tick then tapAdd b.cur tap e else b.cur }

/-! ### The audit trail -/

/-- Bytes 0 to 95 of a record (R384). -/
def audBytes (a : Aud) : List Byte :=
  leBytes 4 a.idx ++ leBytes 2 a.ty ++ leBytes 2 0 ++ leBytes 8 a.tick ++ leBytes 2 a.ofs ++ leBytes 6 0 ++
    (a.payload ++ List.replicate (72 - a.payload.length) 0).take 72

/-- The chain MAC of a record over the previous record's MAC (R384). -/
def audMac (prev : List Byte) (a : Aud) : List Byte :=
  kmac256 Config.burAuditKey (prev ++ audBytes a) (strBytes "AXRID-AUD") 32

/-- The MAC of the newest record, or of the one before the oldest where the trail is empty. -/
def audHead (s : State) : List Byte := (s.bur.trail.getLast?).elim s.bur.baseMac (fun a => a.mac)

/-- Records held. -/
def audUsed (s : State) : Nat := s.bur.trail.length

/-- The trail is full for changes: 65,472 records are held (R386), or HEAD_IDX has reached 0xFFFF_FF00, which no archive
lifts (R444). -/
def audFull (s : State) : Bool := 65472 ≤ audUsed s || 0xFFFFFF00 < s.bur.nextIdx

/-- A record has a place: one of a reserve type while the trail holds fewer than 65,536 and an IDX is left (R386, R444),
another while the trail is not full for changes. -/
def audRoom (s : State) (reserve : Bool) : Bool :=
  if reserve then audUsed s < 65536 && s.bur.nextIdx < 2 ^ 32 else !audFull s

/-- BUR_TRAIL shows the trail. -/
def audShow (s : State) : State :=
  fset (fset s BUR_TRAIL_HEAD_IDX 0 ((s.bur.trail.getLast?).elim (s.bur.nextIdx - 1) (fun a => a.idx))) BUR_TRAIL_USED 0 (audUsed s)

/-- Programs a record (R384, R386). A reserve record after the last place is counted in UNLOGGED
instead; any other record needs a place before the reserve. Says whether it was written. -/
def audPut (s : State) (ty : Nat) (payload : List Byte) (reserve : Bool) : State × Bool :=
  if audRoom s reserve then
    let b := s.bur
    let a : Aud := ⟨b.nextIdx, ty, s.time.tick, stampOfs s, payload, []⟩
    let a1 := { a with mac := audMac (audHead s) a }
    let s1 := audShow (setBur s { b with trail := b.trail ++ [a1], nextIdx := b.nextIdx + 1 })
    let s2 := if audUsed s1 = 58983 then burNotice s1 2 else s1
    (if audFull s1 && !audFull s then burNotice s2 3 else s2, true)
  else if reserve then
    let b := s.bur
    (burNotice (finc (fset (setBur s { b with suspNext := true }) BUR_STAT_COUNT_SUSPECT 0 1) BUR_STAT_UNLOGGED 0) 11, false)
  else (s, false)

/-! ### Time and statements -/

/-- The timebase copy receives a tick edge (R378, R379): a lower count writes TICK_RESTART and asks
for a statement at the next edge; another tick length asks for one at this edge. -/
def burEdge (s : State) : State :=
  let b := s.bur
  let t := s.time.tick
  let s1 := setBur s { b with cur := if t = b.lastTick then b.cur else [], lastTick := t }
  let s2 := if t < b.lastTick then
      let q := audPut s1 0x31 (leBytes 8 b.lastTick) true
      setBur q.1 { q.1.bur with due := q.1.bur.due ++ [2], restartAt := t, edge := t }
    else s1
  if tickLen s2 = b.lastLen ∨ s2.bur.due.contains 1 then s2 else setBur s2 { s2.bur with due := s2.bur.due ++ [1] }

/-- The reasons for which a statement is due now (R379, R380). -/
def stmtReasons (s : State) : List Nat :=
  let b := s.bur
  let e := s.time.tick
  (b.due.filter (fun r => r != 2 || b.restartAt < e)) ++
    (if fget s BUR_CFG_STMT_S 0 * fget s BUR_CFG_ACLK_KHZ 0 * 1000 ≤ (e - b.edge) * b.lastLen then [0] else [])

/-- The tick time and the oscillator time of an interval differ by more than TIME_TOL (R378). -/
def timeSuspect (s : State) (oscUs : Nat) : Bool :=
  let khz := fget s BUR_CFG_ACLK_KHZ 0
  let a : Int := (((s.time.tick - s.bur.edge) * s.bur.lastLen * 1000 : Nat) : Int)
  let b : Int := ((oscUs * khz : Nat) : Int)
  fget s BUR_CFG_TIME_TOL 0 * oscUs * khz < (a - b).natAbs * 1000000

/-- Traty's version and digest. -/
def tratyNow (s : State) : Nat × List Byte := s.bur.traty.getD (Config.tratyVersion, Config.tratyDigest)

/-- The totals of a statement (R380): events of ticks before the edge. -/
def stmtTotals (s : State) : SMap Nat :=
  let b := s.bur
  let base := b.cur.foldl (fun m e => smSet 0 e.1 (smGet 0 m e.1 - e.2) m) b.cnt
  [0, 1, 2].foldl (fun m tap =>
    ((smGet [] b.taps tap).filter (fun e => e.tick < s.time.tick)).foldl (fun m e => tapAdd m tap e) m) base

/-- TOD seconds. -/
def todSec (s : State) : Nat := s.time.tod / (1000000000 * 2 ^ 32) % 2 ^ 48
/-- TOD nanoseconds. -/
def todNs (s : State) : Nat := s.time.tod / 2 ^ 32 % 1000000000
/-- TOD fraction in 2^-16 ns. -/
def todFrac (s : State) : Nat := s.time.tod / 65536 % 65536

/-- Issues a statement at the present edge (R380, R381). -/
def stmtIssue (s0 : State) (reason oscUs : Nat) : State :=
  let susp := timeSuspect s0 oscUs
  let b0 := s0.bur
  let us := (s0.time.tick - b0.edge) * b0.lastLen * 1000 / max 1 (fget s0 BUR_CFG_ACLK_KHZ 0)
  let s := if susp then burNotice (audPut s0 0x32 (leBytes 8 us ++ leBytes 8 oscUs) true).1 7 else s0
  let b := s.bur
  let fl (x : Bool) (k : Nat) : Nat := if x then 2 ^ k else 0
  let flags := fl susp 0 + fl (b.sealSeen || fgetB s BUR_STAT_SEAL_OPEN 0) 1 + fl (fgetB s BUR_STAT_TAMPER 0) 2 +
    fl (fgetB s BUR_STAT_TEST_ACCESS 0) 3 + fl (58983 ≤ audUsed s) 4 + fl (audFull s) 5 +
    fl (b.restartFlag || reason = 2) 6 + fl (b.suspNext || b.suspHold) 7
  let st : Stmt := ⟨b.nextStmt, reason, flags, (tratyNow s).1, (tratyNow s).2, b.edge, s.time.tick, b.lastLen,
    fget s BUR_TRAIL_HEAD_IDX 0, audHead s, fget s BUR_CFG_ACLK_KHZ 0, todSec s, todNs s, stmtTotals s⟩
  fsetB (fsetB (setBur s { b with issuing := b.issuing ++ [st], nextStmt := (b.nextStmt + 1) % 2 ^ 25, edge := s.time.tick,
                                  due := b.due.filter (fun r => r = 2 && !decide (b.restartAt < s.time.tick)),
                                  lastLen := tickLen s, sealSeen := false, restartFlag := false, suspNext := false })
    BUR_STAT_TIME_SUSPECT 0 susp) BUR_STAT_COUNT_SUSPECT 0 b.suspHold

/-- A statement is issued where one is due (R379, R380); where several reasons hold, the sheet names
one of them. -/
def stmtCheck (s0 : State) (oscUs : Nat) : State :=
  let s := burEdge s0
  match stmtReasons s with
  | [] => s
  | [r] => stmtIssue s r oscUs
  | l => stmtIssue (drawFree s) (l.getD (Config.choice s.free % l.length) 0) oscUs

/-- STATEMENT_ISSUE (R380); `oscUs` is the interval as the Bureau oscillator measured it. -/
def execStatementIssue (oscUs : Nat) (s : State) : Host.Outcome State Fault Refusal := run true (stmtCheck s oscUs)

/-- The oldest statement being signed is in flash: the STATEMENT notice (R380). -/
def stmtStored (s : State) : State :=
  match s.bur.issuing with
  | [] => s
  | x :: r =>
    let b := s.bur
    let l := b.stored ++ [x]
    burNotice (fset (setBur s { b with issuing := r, stored := l.drop (l.length - 128) }) BUR_STAT_STMT 0 x.no) 1

/-- STATEMENT_STORED (R380). -/
def execStatementStored (s : State) : Host.Outcome State Fault Refusal := run true (stmtStored s)

/-- Bytes 0 to 2,063 of sheet `k` of a statement (R381). -/
def sheetBody (x : Stmt) (k : Nat) : List Byte :=
  leBytes 4 0x53425258 ++ leBytes 2 1 ++ leBytes 1 k ++ leBytes 1 x.flags ++ leBytes 4 x.no ++ leBytes 1 x.reason ++
    leBytes 3 0 ++ leBytes 8 Config.serial ++ leBytes 8 Config.burBid ++ leBytes 4 0x1096C5E3 ++ leBytes 4 x.tver ++
    x.tdigest.take 32 ++ List.replicate (32 - x.tdigest.length) 0 ++ leBytes 8 x.tickFrom ++ leBytes 8 x.tickTo ++
    leBytes 4 x.len ++ leBytes 4 x.audIdx ++ x.chain ++ leBytes 4 x.khz ++ leBytes 6 x.todSec ++ leBytes 4 x.todNs ++
    leBytes 2 0 ++
    (List.range 32).flatMap (fun t => (List.range 5).flatMap (fun c => leBytes 12 (smGet 0 x.totals (5 * (32 * k + t) + c))))

/-- A sheet: its body and the Bureau's signature. -/
def sheetBytes (x : Stmt) (k : Nat) : List Byte := sheetBody x k ++ Config.burSign (sheetBody x k)

/-- The sheet that BUR STATEMENT's INDEX names (R382). -/
def sheetAt (s : State) (index : Nat) : Option (List Byte) :=
  if index = 0xFFFFFFFF then (s.bur.stored.getLast?).map (fun x => sheetBytes x 0)
  else (s.bur.stored.find? (fun x => x.no = index / 128)).map (fun x => sheetBytes x (index % 128))

/-! ### Seal, tamper, test access -/

/-- A change of the seal after its debounce (R388); a closing seal discards a download (R394). -/
def sealChange (s : State) (isOpen : Bool) : State :=
  if fgetB s BUR_STAT_SEAL_OPEN 0 = isOpen then s
  else
    let s1 := fsetB s BUR_STAT_SEAL_OPEN 0 isOpen
    let s2 := setBur s1 { s1.bur with sealSeen := true, dl := if isOpen then s1.bur.dl else none }
    burNotice (audPut s2 (if isOpen then 0x20 else 0x21) [] true).1 (if isOpen then 4 else 5)

/-- SEAL_CHANGE (R388). -/
def execSealChange (isOpen : Bool) (s : State) : Host.Outcome State Fault Refusal := run true (sealChange s isOpen)

/-- TAMPER_EDGE (R389). -/
def execTamperEdge (s : State) : Host.Outcome State Fault Refusal :=
  run true (burNotice (audPut (fset s BUR_STAT_TAMPER 0 1) 0x22 [] true).1 6)

/-- The Bureau gives leave for test access (R391). -/
def burTestAccess (s : State) : State :=
  let s1 := (audPut s 0x23 [] true).1
  fset (setBur s1 { s1.bur with dl := none, win := [] }) BUR_STAT_TEST_ACCESS 0 1

/-! ### Warrants (R392, R393) -/

/-- The bytes of the window. -/
def winBytes (s : State) (n : Nat) : List Byte := (List.range n).map (fun i => smGet 0 s.bur.win i)

/-- A slice of a byte list as a number. -/
def leAt (l : List Byte) (i n : Nat) : Nat := leNat ((l.drop i).take n)

/-- The ALEN that an order's arguments have (R392). -/
def alenOk (order alen : Nat) : Bool :=
  if order = 1 then alen = 10 else if order = 2 then alen = 40 else if order = 3 then 4 ≤ alen && alen ≤ 3856
  else if order = 4 then alen = 0 else if order = 5 then alen = 36 else order = 6 && alen = 0

/-- Step 1: layout. -/
def warLayout (w : List Byte) : Bool :=
  let order := leAt w 0 2
  let alen := leAt w 2 2
  16 ≤ w.length && 1 ≤ order && order ≤ 6 && alenOk order alen &&
    w.length = 16 + alen + (if order = 3 then 0 else 171)

/-- Step 3: the key's digest and the signature. -/
def warSigned (s : State) (w : List Byte) : Bool :=
  let n := 16 + leAt w 2 2
  let pk := (w.drop n).take 57
  shake256 pk 32 = s.otp.authority && edVerify false (strBytes "AXRID-WAR") pk (w.take n) (w.drop (n + 57))

/-- The outcome of the checks of R393 in order; 0 where all pass. -/
def warCheck (s : State) (w : List Byte) : Nat :=
  let order := leAt w 0 2
  if !warLayout w then 1
  else if leAt w 8 8 != Config.serial then 2
  else if order != 3 && !warSigned s w then 3
  else if leAt w 4 4 ≤ fget s BUR_WARRANT_STAT_WNUM 0 then 4
  else if order ≤ 4 && !fgetB s BUR_STAT_SEAL_OPEN 0 then 5
  else if order ≤ 4 && audFull s then 6
  else 0

/-- An outcome that refuses where the spec names no code: a free nonzero one of the listed codes. -/
def freeOutcome (s : State) : Nat := Config.choice s.free % 8 + 1

/-- R390's parameter with an ID: whether a value is in range, and its old value. -/
def paramOk (id v : Nat) : Bool :=
  if id = 1 then 60 ≤ v && v ≤ 86400 else if id = 2 then 100000 ≤ v && v ≤ 1500000
  else id = 3 && 10 ≤ v && v ≤ 1000

/-- The field of a parameter. -/
def paramFld (id : Nat) : Fld := if id = 1 then BUR_CFG_STMT_S else if id = 2 then BUR_CFG_ACLK_KHZ else BUR_CFG_TIME_TOL

/-- COUNT_SUSPECT held since an uncorrectable counter error ends (R394). -/
def suspClear (s : State) : State :=
  fsetB (setBur s { s.bur with suspHold := false }) BUR_STAT_COUNT_SUSPECT 0 s.bur.suspNext

/-- PARAM takes effect: its record, the value, and a statement at the next edge (R380, R390). -/
def warParam (s : State) (w : List Byte) : State × Nat :=
  let id := leAt w 16 2
  let v := leAt w 18 8
  if paramOk id v then
    let q := audPut s 0x10 (leBytes 2 id ++ leBytes 8 (fget s (paramFld id) 0) ++ leBytes 8 v ++ leBytes 4 (leAt w 4 4)) false
    let s1 := suspClear (fset q.1 (paramFld id) 0 v)
    (setBur s1 { s1.bur with due := if s1.bur.due.contains 3 then s1.bur.due else s1.bur.due ++ [3] }, 0)
  else (drawFree s, freeOutcome s)

/-- TRATY_BEGIN starts a download and discards one under way (R394). -/
def warBegin (s : State) (w : List Byte) : State × Nat :=
  (setBur s { s.bur with dl := some ⟨leAt w 16 4, leAt w 20 4, (w.drop 24).take 32, []⟩ }, 0)

/-- The checks of a whole image (R394): its digest, its own signature under the Traty key, and TVER
against its header. -/
def tratyImageOk (d : TrDl) : Bool :=
  shake256 d.data 32 = d.digest && Config.tratySigned Config.burTratyKey d.data && Config.tratyHeader d.data = d.tver

/-- A TRATY_DATA chunk (R394): at the next offset; the last one triggers the checks. -/
def warData (s : State) (w : List Byte) : State × Nat :=
  match s.bur.dl with
  | none => (drawFree s, freeOutcome s)
  | some d =>
    let data := (w.take (16 + leAt w 2 2)).drop 20
    if leAt w 16 4 != d.data.length ∨ d.size < d.data.length + data.length then (drawFree s, freeOutcome s)
    else
      let d1 := { d with data := d.data ++ data }
      if d1.data.length < d1.size then (setBur s { s.bur with dl := some d1 }, 0)
      else if tratyImageOk d1 then
        let o := tratyNow s
        let q := audPut s 0x11 (leBytes 4 o.1 ++ leBytes 4 d1.tver ++ o.2 ++ d1.digest) false
        (setBur q.1 { q.1.bur with dl := none, traty := some (d1.tver, d1.digest) }, 0)
      else (setBur s { s.bur with dl := none }, 8)

/-- CLEAR_TAMPER (R389). -/
def warClear (s : State) (w : List Byte) : State × Nat :=
  let q := audPut s 0x42 (leBytes 4 (leAt w 4 4)) false
  (suspClear (fset (fset q.1 BUR_STAT_TAMPER 0 0) BUR_STAT_TEST_ACCESS 0 0), 0)

/-- The chain holds from a MAC over a list of records. -/
def chainOk : List Byte → List Aud → Bool
  | _, [] => true
  | m, a :: r => a.mac = audMac m { a with mac := [] } && chainOk a.mac r

/-- ARCHIVE (R387): the chain and the MAC are checked, EXPORT is written, then records up to N are
erased. -/
def warArchive (s : State) (w : List Byte) : State × Nat :=
  let n := leAt w 16 4
  let mac := (w.drop 20).take 32
  let old := s.bur.trail.takeWhile (fun a => a.idx ≤ n)
  let ok := match old.getLast? with
    | none => false
    | some a => a.idx = n && a.mac = mac && n < s.bur.nextIdx && chainOk s.bur.baseMac old
  if ok then
    let first := (old.head?).elim 0 (fun a => a.idx)
    let q := audPut s 0x40 (leBytes 4 first ++ leBytes 4 n ++ mac ++ leBytes 4 (leAt w 4 4)) true
    (audShow (setBur q.1 { q.1.bur with trail := q.1.bur.trail.drop old.length, baseMac := mac }), 0)
  else (s, 7)

/-- STATEMENT_NOW asks for a statement at the next edge (R380). -/
def warNow (s : State) (_ : List Byte) : State × Nat :=
  (setBur s { s.bur with due := if s.bur.due.contains 4 then s.bur.due else s.bur.due ++ [4] }, 0)

/-- A submission of the window's first `len` bytes (R392, R393): the checks, the order's effect, the
WARRANT record of a signed warrant that reached step 4, and the outcome with its notice. -/
def warSubmit (s : State) (order len : Nat) (act : State → List Byte → State × Nat) : State :=
  let w := winBytes s len
  let o := leAt w 0 2
  if o != order && 1 ≤ o && o ≤ 6 then s
  else if fgetB s BUR_WARRANT_STAT_BUSY 0 then finc s BUR_WARRANT_STAT_DROPPED 0
  else
    let c := warCheck s w
    let q := if c = 0 then act s w else (s, c)
    let s1 := if o != 3 && (c = 0 || 4 ≤ c) then
        (audPut q.1 0x41 (leBytes 2 o ++ leBytes 4 (leAt w 4 4) ++ leBytes 1 q.2) false).1
      else q.1
    let s2 := if q.2 = 0 then fset s1 BUR_WARRANT_STAT_WNUM 0 (leAt w 4 4) else s1
    burNotice (fset s2 BUR_WARRANT_STAT_OUTCOME 0 q.2) (if q.2 = 0 then 8 else 9)

/-- WARRANT_PARAM (R390). -/
def execWarrantParam (len : Nat) (s : State) : Host.Outcome State Fault Refusal :=
  run true (warSubmit s 1 (len % 4096) warParam)

/-- WARRANT_TRATY_BEGIN (R394). -/
def execWarrantTratyBegin (len : Nat) (s : State) : Host.Outcome State Fault Refusal :=
  run true (warSubmit s 2 (len % 4096) warBegin)

/-- WARRANT_TRATY_DATA (R394). -/
def execWarrantTratyData (len : Nat) (s : State) : Host.Outcome State Fault Refusal :=
  run true (warSubmit s 3 (len % 4096) warData)

/-- WARRANT_CLEAR_TAMPER (R389). -/
def execWarrantClearTamper (len : Nat) (s : State) : Host.Outcome State Fault Refusal :=
  run true (warSubmit s 4 (len % 4096) warClear)

/-- WARRANT_ARCHIVE (R387). -/
def execWarrantArchive (len : Nat) (s : State) : Host.Outcome State Fault Refusal :=
  run true (warSubmit s 5 (len % 4096) warArchive)

/-- WARRANT_STATEMENT_NOW (R380). -/
def execWarrantStatementNow (len : Nat) (s : State) : Host.Outcome State Fault Refusal :=
  run true (warSubmit s 6 (len % 4096) warNow)

/-! ### Restart and faults (R394) -/

/-- The Bureau's registers after a loss of VDD_BUR (R373, R395): each at its reset value, but for the parameters, the
last accepted warrant number and the newest statement's, which flash holds, the pin, and TAMPER and TEST_ACCESS, which
stay until a CLEAR_TAMPER (R375, R389, R391). -/
def burRegsReset (s : State) : State :=
  fset (fset (fset (fset (fset s BUR_STAT_TIME_SUSPECT 0 0) BUR_STAT_COUNT_SUSPECT 0 0) BUR_STAT_UNLOGGED 0 0)
    BUR_WARRANT_STAT_OUTCOME 0 0) BUR_WARRANT_STAT_DROPPED 0 0

/-- The Bureau restarts after a loss of VDD_BUR: totals of the newest stored statement, POWER_UP, and
RESTART in the next statement. -/
def burRestore (s0 : State) : State :=
  let s := burRegsReset (drawFree s0)
  let b := s.bur
  let last := b.stored.getLast?
  let s1 := setBur s { b with
    cnt := last.elim [] (fun x => x.totals), cur := [], taps := [], due := [], issuing := [], win := [], dl := none,
    restartFlag := true, suspNext := false, suspHold := false, edge := last.elim 0 (fun x => x.tickTo),
    nextStmt := last.elim 0 (fun x => (x.no + 1) % 2 ^ 25), lastTick := s.time.tick, lastLen := tickLen s }
  let from_ := last.elim ((Config.freeWord s0.free).toNat % 2 ^ 32) (fun x => x.no)
  burNotice (audPut s1 0x30 (leBytes 4 from_ ++ leBytes 1 1) true).1 10

/-- VDD_BUR_RESTORE (R394). -/
def execVddBurRestore (s : State) : Host.Outcome State Fault Refusal := run true (burRestore s)

/-- A Bureau fault: 0 a corrected error, 1 an uncorrectable counter error, 2 a lockstep mismatch of
its pair. -/
def burFault (s : State) (kind : Nat) : State :=
  if kind = 0 then raise s { src := 59, cls := clsC, code := 1 }
  else if kind = 1 then
    fset (setBur (raise s { src := 59, cls := clsU, code := 2 }) { s.bur with suspHold := true }) BUR_STAT_COUNT_SUSPECT 0 1
  else raise s { src := 59, cls := clsU, code := 3 }

/-- BUREAU_FAULT (R394). -/
def execBureauFault (kind : Nat) (s : State) : Host.Outcome State Fault Refusal := run (kind < 3) (burFault s kind)

end Machine
end Sys2Proof
end

