-- ==== Sys2Proof/Machine/Flags.lean ====
section
/-!
DEFINITION. Lane arithmetic of the cell datapath (chapter 02): formats (R27), rounding (R42),
wrap and clamp (R43), the accumulator's add stage with its flags (R46, R47), extraction (R53),
and the fields of the instruction word (R31).
-/

namespace Sys2Proof
namespace Machine

/-! ### The instruction word (R31) -/

/-- Bits [lo + n - 1 : lo] of a word as a number. -/
def wbits (w : Word) (lo n : Nat) : Nat := w.toNat / 2 ^ lo % 2 ^ n

/-- OP. -/
def insOP (w : Word) : Nat := wbits w 57 7
/-- FMT. -/
def insFMT (w : Word) : Nat := wbits w 54 3
/-- SA. -/
def insSA (w : Word) : Nat := wbits w 49 5
/-- SB. -/
def insSB (w : Word) : Nat := wbits w 44 5
/-- SC. -/
def insSC (w : Word) : Nat := wbits w 39 5
/-- DST: bit 0 Y, bit 1 F, bit 2 MEM. -/
def insDST (w : Word) : Nat := wbits w 36 3
/-- ACC. -/
def insACC (w : Word) : Nat := wbits w 34 2
/-- OVF. -/
def insOVF (w : Word) : Nat := wbits w 32 2
/-- RND. -/
def insRND (w : Word) : Nat := wbits w 30 2
/-- SHIFT, unsigned. -/
def insSHIFT (w : Word) : Nat := wbits w 24 6
/-- COND. -/
def insCOND (w : Word) : Nat := wbits w 20 4
/-- AG0_RD. -/
def insAG0RD (w : Word) : Bool := w.getLsbD 19
/-- AG0_PM. -/
def insAG0PM (w : Word) : Bool := w.getLsbD 18
/-- AG0_OS. -/
def insAG0OS (w : Word) : Bool := w.getLsbD 17
/-- AG1_PM. -/
def insAG1PM (w : Word) : Bool := w.getLsbD 16
/-- AG1_OS. -/
def insAG1OS (w : Word) : Bool := w.getLsbD 15
/-- VGATE. -/
def insVGATE (w : Word) : Bool := w.getLsbD 14
/-- PLEN. -/
def insPLEN (w : Word) : Nat := wbits w 5 9
/-- OPX. -/
def insOPX (w : Word) : Nat := wbits w 1 4
/-- Bit `k` of OPX. -/
def opx (w : Word) (k : Nat) : Bool := w.getLsbD (k + 1)

/-! ### Lanes (R27, R29) -/

/-- Lane width of a format; C16 counts as four 16-bit lanes (R29). -/
def laneW (fmt : Nat) : Nat :=
  if fmt = 0 then 16 else if fmt = 1 then 32 else if fmt = 2 then 16 else if fmt = 3 then 8 else 64

/-- Lane count of a format. -/
def laneN (fmt : Nat) : Nat := 64 / laneW fmt

/-- The `W`-bit field at lane `i`, unsigned. -/
def laneU (fmt : Nat) (w : Word) (i : Nat) : Nat := wbits w (laneW fmt * i) (laneW fmt)

/-- A `w`-bit number read as two's complement. -/
def sgn (w v : Nat) : Int := if v < 2 ^ (w - 1) then (v : Int) else (v : Int) - 2 ^ w

/-- Lane `i`, signed. -/
def laneS (fmt : Nat) (w : Word) (i : Nat) : Int := sgn (laneW fmt) (laneU fmt w i)

/-- The low `w` bits of an integer as a number. -/
def wrapN (w : Nat) (v : Int) : Nat := (v % (2 ^ w : Int)).toNat

/-- The word whose lanes are `f 0`, `f 1`, …, each kept to the lane width. -/
def packN (fmt : Nat) (f : Nat → Int) : Nat → Nat
  | 0 => 0
  | n + 1 => packN fmt f n + wrapN (laneW fmt) (f n) * 2 ^ (laneW fmt * n)

/-- The word whose lanes are `f 0`, `f 1`, … -/
def pack (fmt : Nat) (f : Nat → Int) : Word := BitVec.ofNat 64 (packN fmt f (laneN fmt))

/-! ### Rounding and range (R42, R43) -/

/-- An exact value shifted right by `s` ≥ 1 under RND (R42); a shift of zero or less is an exact
left shift. -/
def shrR (rnd : Nat) (v s : Int) : Int :=
  if s ≤ 0 then v * 2 ^ (-s).toNat
  else
    let m : Int := 2 ^ s.toNat
    if rnd = 1 then (v + m / 2) / m
    else if rnd = 2 then
      let q := v / m
      let r := v % m
      if 2 * r < m then q else if m < 2 * r then q + 1 else q + q % 2
    else v / m

/-- Clamps to a `w`-bit two's-complement range. -/
def clampI (w : Nat) (v : Int) : Int :=
  if v < -(2 ^ (w - 1)) then -(2 ^ (w - 1)) else if 2 ^ (w - 1) - 1 < v then 2 ^ (w - 1) - 1 else v

/-- Whether a value fits a `w`-bit two's-complement range. -/
def fitsI (w : Nat) (v : Int) : Bool := -(2 ^ (w - 1) : Int) ≤ v && v ≤ 2 ^ (w - 1) - 1

/-- A result brought to a `w`-bit lane: kept to its low bits under WRAP, clamped otherwise (R43). -/
def fitL (ovf w : Nat) (v : Int) : Int := if ovf = 0 then v else clampI w v

/-! ### Headroom (R59 to R61) -/

/-- Bits directly below the sign bit that equal it, counted from bit `n - 1` down. -/
def headroomN (sign : Bool) (v : Nat) : Nat → Nat
  | 0 => 0
  | n + 1 => if v.testBit n = sign then headroomN sign v n + 1 else 0

/-- The headroom of a `w`-bit lane given unsigned. -/
def headroom (w v : Nat) : Nat := headroomN (v.testBit (w - 1)) v (w - 1)

/-! ### The add stage (R45 to R49) -/

/-- A value, exponent and flags of an accumulator, and whether a SCALE event took place. -/
structure AccRes where
  a : Int
  e : Nat
  resc : Bool
  sat : Bool
  scaled : Bool
  deriving DecidableEq, Repr

/-- The alignment of an exact term by the block exponent (R46). -/
def alignTerm (q62 : Bool) (p : Int) (e rnd : Nat) : Int :=
  shrR rnd p (if q62 then (e : Int) + 24 else (e : Int) - 8)

/-- The add stage for one accumulator, line by line as R47 states it. -/
def addStage (ovf rnd : Nat) (q62 zpNow : Bool) (p : Int) (a0 : Int) (e0 : Nat) (resc sat : Bool) :
    AccRes :=
  let a := if zpNow then 0 else a0
  let e := if zpNow then 0 else e0
  let s := a + alignTerm q62 p e rnd
  if fitsI 48 s then ⟨s, e, resc, sat, false⟩
  else if ovf = 0 then ⟨sgn 48 (wrapN 48 s), e, resc, sat, false⟩
  else if ovf = 1 then ⟨clampI 48 s, e, resc, true, false⟩
  else if e ≤ 28 then ⟨shrR 2 a 4 + alignTerm q62 p (e + 4) rnd, e + 4, true, sat, true⟩
  else ⟨clampI 48 s, e, resc, true, false⟩

/-- One lane of an extraction from the exact value A × 2^E (R53). -/
def extractLane (ovf rnd : Nat) (d : Int) (w : Nat) (a : Int) (e : Nat) : Int :=
  fitL ovf w (shrR rnd (a * 2 ^ e) ((if w = 16 then 23 else 7) + d))

/-! ### CORDIC (R64) -/

/-- T[i], atan(2^-i)/π × 32,768 rounded half to even, i = 0 to 15. -/
def cordicT (i : Nat) : Int :=
  ([8192, 4836, 2555, 1297, 651, 326, 163, 81, 41, 20, 10, 5, 3, 1, 1, 0].getD i 0 : Nat)

end Machine
end Sys2Proof
end

