-- ==== Sys2Proof/Machine/CellOps.lean ====
section
/-!
DEFINITION. The opcodes of R38 as pure functions: the table of formats and operands, reserved
encodings (R33, R73, R88, R93), results (R39 to R41, R59 to R64), MAC terms (R45), the landing
of late results (R55 to R58), and the address generators (R70, R72).
-/

namespace Sys2Proof
namespace Machine

/-! ### The opcode table (R38) -/

/-- A row of R38: formats, the operands read, MAC-class, latency above one cycle, OPX bits that
have a meaning. -/
structure OpInfo where
  fmts : List Nat
  rA : Bool
  rB : Bool
  rC : Bool
  mac : Bool
  late : Bool
  opxMask : Nat
  deriving DecidableEq, Repr

/-- Every format. -/
def fAny : List Nat := [0, 1, 2, 3, 4]
/-- Q15, Q31, C16, S8. -/
def fLane : List Nat := [0, 1, 2, 3]

/-- The opcode table of R38; none for a reserved opcode. -/
def opInfo (op : Nat) : Option OpInfo :=
  if op = 0x00 then some ⟨fAny, false, false, false, false, false, 0⟩
  else if op = 0x01 then some ⟨fAny, true, false, false, false, false, 0⟩
  else if op = 0x02 ∨ op = 0x03 ∨ op = 0x04 ∨ op = 0x05 then
    some ⟨[4], true, true, false, false, false, 0⟩
  else if op = 0x06 ∨ op = 0x07 then some ⟨[0, 1, 3, 4], true, false, false, false, false, 0⟩
  else if op = 0x08 ∨ op = 0x09 ∨ op = 0x10 ∨ op = 0x11 ∨ op = 0x14 ∨ op = 0x15 ∨ op = 0x16 ∨ op = 0x17 then
    some ⟨fLane, true, true, false, false, false, 0⟩
  else if op = 0x12 ∨ op = 0x13 then some ⟨fLane, true, false, false, false, false, 0⟩
  else if op = 0x18 then some ⟨[0, 1, 2], true, true, false, false, true, 7⟩
  else if op = 0x20 ∨ op = 0x21 ∨ op = 0x22 then some ⟨[0], true, true, false, true, true, 12⟩
  else if op = 0x23 then some ⟨[1], true, true, false, true, true, 15⟩
  else if op = 0x24 ∨ op = 0x25 then some ⟨[2], true, true, false, true, true, 15⟩
  else if op = 0x26 ∨ op = 0x27 then some ⟨fAny, false, false, false, false, false, 15⟩
  else if op = 0x28 then some ⟨[0, 1, 2], false, false, false, false, false, 8⟩
  else if op = 0x30 then some ⟨[1], true, false, false, false, false, 1⟩
  else if op = 0x31 then some ⟨[0, 1, 2], true, false, false, false, false, 11⟩
  else if op = 0x32 then some ⟨[0, 1, 2], true, false, false, false, false, 0⟩
  else if op = 0x33 then some ⟨[0, 1, 2], true, true, false, false, false, 0⟩
  else if op = 0x34 then some ⟨[3], true, false, true, false, false, 1⟩
  else if op = 0x35 then some ⟨[3], true, true, true, false, false, 0⟩
  else if op = 0x36 then some ⟨[2], true, false, false, false, false, 1⟩
  else if op = 0x37 then some ⟨[0, 1, 3, 4], true, false, false, false, false, 3⟩
  else none

/-- Whether the instruction reads operand A: EXP in accumulator mode reads an accumulator (R60). -/
def readsA (w : Word) (i : OpInfo) : Bool := i.rA && !(insOP w = 0x31 && opx w 3)

/-- A reserved encoding of the instruction word (R33, R60, R73). -/
def insReserved (w : Word) : Bool :=
  match opInfo (insOP w) with
  | none => true
  | some i =>
    !(i.fmts.contains (insFMT w)) || 12 < insSA w || 12 < insSB w || 12 < insSC w
    || insOVF w = 3 || insRND w = 3 || 6 < insCOND w || w.getLsbD 0
    || (insOVF w = 2 && !i.mac)
    || (!insAG0RD w && ((readsA w i && insSA w = 7) || (i.rB && insSB w = 7) || (i.rC && insSC w = 7)))
    || (insAG0RD w && insOP w = 0x37)
    || (insOP w = 0x31 && opx w 3 && insFMT w != 1)
    || (i.late && insDST w / 4 = 1)
    || (i.mac && insDST w != 0 && !opx w 2)
    || ((insOP w = 0x24 || insOP w = 0x25) && insACC w % 2 = 1)
    || (insOPX w &&& (15 - i.opxMask)) != 0
    || (insOP w = 0x37 && laneN (insFMT w) ≤ insOPX w % 4)

/-- A select byte of an input port is valid: equal nibbles, source 0 to 8 (R88). -/
def psOk (b : Nat) : Bool := b % 16 = b / 16 && b % 16 ≤ 8

/-- A select byte of an output is valid: equal nibbles, source 0 to 10 (R88). -/
def osOk (b : Nat) : Bool := b % 16 = b / 16 && b % 16 ≤ 10

/-- A reserved encoding of drawer word `k` (R33, R93). -/
def drawerReserved (k : Nat) (w : Word) : Bool :=
  if k = 0 then insReserved w
  else if k = 1 then
    !((List.range 4).all (fun i => psOk (wbits w (8 * i) 8)) &&
      (List.range 4).all (fun i => osOk (wbits w (32 + 8 * i) 8)))
  else !((List.range 4).all (fun i => osOk (wbits w (8 * i) 8)))

/-! ### Address generators (R69 to R72) -/

/-- BASE of an AG configuration word. -/
def agBASE (c : Word) : Nat := wbits c 0 9
/-- LEN. -/
def agLEN (c : Word) : Nat := wbits c 9 9 + 1
/-- The offset register that AGn_OS selects, signed. -/
def agOFS (c : Word) (o1 : Bool) : Int := sgn 10 (if o1 then wbits c 28 10 else wbits c 18 10)
/-- TICKRL. -/
def agTICKRL (c : Word) : Bool := c.getLsbD 38

/-- Post-modification of a pointer (R70). -/
def agNext (c : Word) (ptr : Nat) (o1 : Bool) : Nat :=
  let k := (ptr + 512 - agBASE c) % 512
  let k2 := ((k : Int) + agOFS c o1) % (agLEN c : Int)
  (agBASE c + k2.toNat) % 512

/-- The address a LUT reads (R72). -/
def lutAddr (c : Word) (ins : Word) (a : Word) : Nat :=
  let v := laneU (insFMT ins) a (insOPX ins % 4) / 2 ^ insSHIFT ins
  (agBASE c + v % agLEN c) % 512

/-! ### Registers written with a cycle -/

/-- A write at the end of cycle `cyc` by an operation issued in cycle `iss`: of two writes due in
one cycle the later-issued one stays (R58). -/
def TReg.put (r : TReg) (cyc iss : Nat) (v : Word) : TReg :=
  if r.vc = cyc + 1 then (if iss < r.iss then r else { r with val := v, iss := iss })
  else if cyc + 1 < r.vc then r
  else { val := v, vc := cyc + 1, iss := iss, pval := r.val, pvc := r.vc }

/-- Value and valid as seen in cycle `k` (R37). -/
def TReg.see (r : TReg) (k : Nat) : Word × Bool :=
  if r.vc ≤ k then (r.val, r.vc = k && r.vc != 0) else (r.pval, r.pvc = k && r.pvc != 0)

/-- A pass output's load at the end of cycle `cyc` (R90). -/
def OutReg.put (r : OutReg) (cyc : Nat) (v : Word) (ok : Bool) : OutReg :=
  if r.at_ = cyc + 1 then { r with val := v, v := ok }
  else { val := v, v := ok, at_ := cyc + 1, pval := r.val, pv := r.v, pat := r.at_ }

/-- Value and valid of a pass output in cycle `k`. -/
def OutReg.see (r : OutReg) (k : Nat) : Word × Bool :=
  if r.at_ ≤ k then (r.val, r.v && r.at_ = k) else (r.pval, r.pv && r.pat = k)

/-! ### Accumulators -/

/-- Accumulator `n` of a cell. -/
def cellAcc (c : Cell) (n : Nat) : AccReg := smGet {} c.acc n

/-- Writes accumulator `n`. -/
def setAcc (c : Cell) (n : Nat) (a : AccReg) : Cell := { c with acc := smSet {} n a c.acc }

/-- Clears value and exponent of accumulator `n`; its flags stay (R50). -/
def clearAcc (c : Cell) (n : Nat) : Cell := setAcc c n { cellAcc c n with a := 0, e := 0 }

/-- Clears RESCALED and SATURATED of accumulator `n` (R50). -/
def clearFlags (c : Cell) (n : Nat) : Cell :=
  setAcc c n { cellAcc c n with resc := false, sat := false }

/-- Applies `f` for every accumulator named in a mask (R38: bit n names An). -/
def accMask (f : Cell → Nat → Cell) (m : Nat) (c : Cell) : Cell :=
  [0, 1, 2, 3].foldl (fun c n => if m.testBit n then f c n else c) c

/-- The accumulators an extraction reads (R53). -/
def extractSet (fmt acc : Nat) : List Nat := if fmt = 1 then [acc, acc ^^^ 1] else [0, 1, 2, 3]

/-- The word an extraction gives (R53). -/
def extractWord (c : Cell) (ins : Word) : Word :=
  let fmt := insFMT ins
  let d := sgn 6 (insSHIFT ins)
  pack fmt (fun i =>
    let a := cellAcc c (if fmt = 1 then (if i = 0 then insACC ins else insACC ins ^^^ 1) else i)
    extractLane (insOVF ins) (insRND ins) d (laneW fmt) a.a.toInt a.e)

/-! ### Terms of the MAC class (R45) -/

/-- The exact terms of a MAC-class operation, by accumulator. -/
def macTerms (ins a b : Word) : List (Nat × Int) :=
  let op := insOP ins
  let q (i : Nat) : Int := laneS 0 a i * laneS 0 b i
  let la := if opx ins 0 then 1 else 0
  let lb := if opx ins 1 then 1 else 0
  let ar := laneS 2 a (2 * la)
  let ai := laneS 2 a (2 * la + 1)
  let br := laneS 2 b (2 * lb)
  let bi := laneS 2 b (2 * lb + 1)
  let n := insACC ins
  if op = 0x20 then [(0, q 0), (1, q 1), (2, q 2), (3, q 3)]
  else if op = 0x21 then [(0, -q 0), (1, -q 1), (2, -q 2), (3, -q 3)]
  else if op = 0x22 then [(n, q 0 + q 1 + q 2 + q 3)]
  else if op = 0x23 then [(n, laneS 1 a la * laneS 1 b lb)]
  else if op = 0x24 then [(n, ar * br - ai * bi), ((n + 1) % 4, ar * bi + ai * br)]
  else [(n, ar * br + ai * bi), ((n + 1) % 4, ai * br - ar * bi)]

/-- The product word of MUL (R39). -/
def mulWord (ins a b : Word) : Word :=
  let fmt := insFMT ins
  let fin (w : Nat) (p : Int) : Int := fitL (insOVF ins) w (shrR (insRND ins) p ((w : Int) - 1))
  let la := if opx ins 0 then 1 else 0
  let lb := if opx ins 1 then 1 else 0
  if fmt = 0 then pack 0 (fun i => fin 16 (laneS 0 a i * laneS 0 b i))
  else if fmt = 1 then pack 1 (fun i => if i = 0 then fin 32 (laneS 1 a la * laneS 1 b lb) else 0)
  else
    let ar := laneS 2 a (2 * la)
    let ai := laneS 2 a (2 * la + 1)
    let br := laneS 2 b (2 * lb)
    let bi := if opx ins 2 then -(laneS 2 b (2 * lb + 1)) else laneS 2 b (2 * lb + 1)
    pack 2 (fun i => if i = 0 then fin 16 (ar * br - ai * bi) else if i = 1 then fin 16 (ar * bi + ai * br) else 0)

/-! ### Results of the one-cycle operations -/

/-- SHL (R38): L64 always wraps. -/
def resSHL (ins a : Word) : Word :=
  let fmt := insFMT ins
  pack fmt (fun i => fitL (if fmt = 4 then 0 else insOVF ins) (laneW fmt) (laneS fmt a i * 2 ^ insSHIFT ins))

/-- SHR (R38): arithmetic with RND; L64 logical, RND ignored. -/
def resSHR (ins a : Word) : Word :=
  let fmt := insFMT ins
  if fmt = 4 then BitVec.ofNat 64 (a.toNat / 2 ^ insSHIFT ins)
  else pack fmt (fun i => shrR (insRND ins) (laneS fmt a i) (insSHIFT ins))

/-- SHUF (R40): nibble i of the constant names the source of lane i. -/
def resSHUF (ins k a b : Word) : Word :=
  let fmt := insFMT ins
  let n := laneN fmt
  pack fmt (fun i =>
    let v := wbits k (4 * i) 4
    if v < n then laneS fmt a v else if v < 2 * n then laneS fmt b (v - n) else 0)

/-- A lane-wise result. -/
def lanewise (ins : Word) (f : Nat → Int) : Word :=
  pack (insFMT ins) (fun i => fitL (insOVF ins) (laneW (insFMT ins)) (f i))

/-- The compare mask of CMPGT and CMPEQ (R41). -/
def cmpMask (fmt : Nat) (p : Nat → Bool) : Nat :=
  (List.range (laneN fmt)).foldl (fun m i => if p i then m + 2 ^ i else m) 0

/-- NORM (R59). -/
def resNORM (ins a : Word) : Word :=
  let l := if opx ins 0 then 1 else 0
  let n := headroom 32 (laneU 1 a l)
  pack 1 (fun i => if i = 0 then laneS 1 a l * 2 ^ n else n)

/-- EXP in word mode, and in accumulator mode (R60). -/
def resEXP (ins a : Word) (c : Cell) : Word :=
  if opx ins 3 then
    let r := cellAcc c (insOPX ins % 4)
    BitVec.ofNat 64 (headroom 48 r.a.toNat + r.e * 2 ^ 32 + (if r.resc then 2 ^ 40 else 0)
      + (if r.sat then 2 ^ 41 else 0))
  else
    let fmt := insFMT ins
    pack fmt (fun i => headroom (laneW fmt) (laneU fmt a i))

/-- The largest magnitude exponent over the lanes of A (R61). -/
def maxExp (fmt : Nat) (a : Word) : Nat :=
  (List.range (laneN fmt)).foldl
    (fun m i => max m (laneW fmt - 1 - headroom (laneW fmt) (laneU fmt a i))) 0

/-- BNORM (R61). -/
def resBNORM (ins a b : Word) : Word :=
  let fmt := insFMT ins
  let s : Int := (laneW fmt : Int) - 1 - (wbits b 0 6 : Nat)
  pack fmt (fun i => fitL (insOVF ins) (laneW fmt) (shrR (insRND ins) (laneS fmt a i) (-s)))

/-- Magnitude of an S8 lane, −128 taken as 127 (R62). -/
def mag8 (a : Word) (j : Nat) : Nat := min 127 (laneS 3 a j).natAbs

/-- The four values of a check-node state (R62). -/
structure Chk where
  m1 : Nat
  m2 : Nat
  ix : Nat
  sg : Bool
  deriving DecidableEq, Repr

/-- One lane taken into a state: the earlier index keeps min1 among equals (R62). -/
def chkLane (a : Word) (ph : Nat) (k : Chk) (j : Nat) : Chk :=
  let m := mag8 a j
  let sg := k.sg != (laneS 3 a j < 0)
  if m < k.m1 then ⟨m, k.m1, (8 * ph + j) % 256, sg⟩
  else ⟨k.m1, min k.m2 m, k.ix, sg⟩

/-- The candidate state of the eight lanes of A (R62). -/
def chkWord (a : Word) (ph : Nat) : Chk :=
  [1, 2, 3, 4, 5, 6, 7].foldl (chkLane a ph)
    ⟨mag8 a 0, 255, (8 * ph) % 256, laneS 3 a 0 < 0⟩

/-- MIN2 (R62). -/
def resMIN2 (ins a c : Word) (ph : Nat) : Word :=
  let n := chkWord a ph
  let o : Chk := ⟨wbits c 0 8, wbits c 8 8, wbits c 16 8, c.getLsbD 24⟩
  let r : Chk :=
    if opx ins 0 && ph != 0 then
      if n.m1 < o.m1 then ⟨n.m1, min o.m1 n.m2, n.ix, o.sg != n.sg⟩
      else ⟨o.m1, min o.m2 n.m1, o.ix, o.sg != n.sg⟩
    else n
  BitVec.ofNat 64 (r.m1 + r.m2 * 256 + r.ix * 65536 + (if r.sg then 16777216 else 0))

/-- MSEL (R63). -/
def resMSEL (ins a b c : Word) (ph : Nat) : Word :=
  let sc := wbits c 8 8
  let of := wbits c 0 8
  pack 3 (fun j =>
    let m := if (8 * ph + j) % 256 = wbits b 16 8 then wbits b 8 8 else wbits b 0 8
    let r := shrR (insRND ins) ((m * sc : Nat) : Int) 4 - (of : Int)
    let m1 : Int := if r < 0 then 0 else if 127 < r then 127 else r
    if b.getLsbD 24 != (laneS 3 a j < 0) then -m1 else m1)

/-- CROT with step `i` (R64). -/
def resCROT (ins a : Word) (i : Nat) : Word :=
  let x := laneS 2 a 0
  let y := laneS 2 a 1
  let z := laneS 2 a 2
  let d : Int := if opx ins 0 then (if y < 0 then 1 else -1) else (if z < 0 then -1 else 1)
  let r := insRND ins
  let fin := fitL (insOVF ins) 16
  pack 2 (fun n =>
    if n = 0 then fin (x - d * shrR r y i)
    else if n = 1 then fin (y + d * shrR r x i)
    else if n = 2 then fin (z - d * cordicT i)
    else laneS 2 a 3)

/-- The drawer's constant as K and as KS (R28). -/
def constK (k : Nat) : Word := BitVec.ofNat 64 (k + k * 4294967296)
/-- KS. -/
def constKS (k : Nat) : Word := BitVec.ofNat 64 (wrapN 64 (sgn 32 k))

/-- What an executed cycle computes: the result for DST, if the operation has one, and the cell
with its running state, accumulators and results in flight. -/
structure OpOut where
  res : Option Word
  c : Cell
  deriving DecidableEq, Repr

/-- The operation of an executed cycle `t` (R38) on operands a, b, c; `m` is the RAM word a LUT
reads, `k` the constant. -/
def opExec (ins k a b c m : Word) (t : Nat) (x : Cell) : OpOut :=
  let op := insOP ins
  let fmt := insFMT ins
  let la (i : Nat) : Int := laneS fmt a i
  let lb (i : Nat) : Int := laneS fmt b i
  if op = 0x00 then ⟨none, x⟩
  else if op = 0x01 then ⟨some a, x⟩
  else if op = 0x02 then ⟨some (a &&& b), x⟩
  else if op = 0x03 then ⟨some (a ||| b), x⟩
  else if op = 0x04 then ⟨some (a ^^^ b), x⟩
  else if op = 0x05 then ⟨some (a &&& ~~~b), x⟩
  else if op = 0x06 then ⟨some (resSHL ins a), x⟩
  else if op = 0x07 then ⟨some (resSHR ins a), x⟩
  else if op = 0x08 then ⟨some (resSHUF ins k a b), x⟩
  else if op = 0x09 then ⟨some (pack fmt (fun i => if x.cm.testBit i then la i else lb i)), x⟩
  else if op = 0x10 then ⟨some (lanewise ins (fun i => la i + lb i)), x⟩
  else if op = 0x11 then ⟨some (lanewise ins (fun i => la i - lb i)), x⟩
  else if op = 0x12 then ⟨some (lanewise ins (fun i => -la i)), x⟩
  else if op = 0x13 then ⟨some (lanewise ins (fun i => if la i < 0 then -la i else la i)), x⟩
  else if op = 0x14 then ⟨some (pack fmt (fun i => if la i < lb i then lb i else la i)), x⟩
  else if op = 0x15 then ⟨some (pack fmt (fun i => if lb i < la i then lb i else la i)), x⟩
  else if op = 0x16 then ⟨some a, { x with cm := cmpMask fmt (fun i => lb i < la i) }⟩
  else if op = 0x17 then ⟨some a, { x with cm := cmpMask fmt (fun i => la i = lb i) }⟩
  else if op = 0x18 then
    ⟨none, { x with jobs := x.jobs ++ [.mul t (insDST ins) (mulWord ins a b)] }⟩
  else if op < 0x26 then
    ⟨none, { x with jobs := x.jobs ++ [.mac t ins (macTerms ins a b) (x.ph = 0) (x.ph = insPLEN ins)] }⟩
  else if op = 0x26 then ⟨none, accMask clearAcc (insOPX ins) x⟩
  else if op = 0x27 then ⟨none, accMask clearFlags (insOPX ins) x⟩
  else if op = 0x28 then
    ⟨some (extractWord x ins),
      if opx ins 3 then (extractSet fmt (insACC ins)).foldl clearAcc x else x⟩
  else if op = 0x30 then ⟨some (resNORM ins a), x⟩
  else if op = 0x31 then ⟨some (resEXP ins a x), x⟩
  else if op = 0x32 then
    ⟨some a, { x with bx := if x.ph = 0 then maxExp fmt a else max (maxExp fmt a) x.bx }⟩
  else if op = 0x33 then ⟨some (resBNORM ins a b), x⟩
  else if op = 0x34 then ⟨some (resMIN2 ins a c x.ph), x⟩
  else if op = 0x35 then ⟨some (resMSEL ins a b c x.ph), x⟩
  else if op = 0x36 then
    let i := if x.ph = 0 then 0 else x.ci
    ⟨some (resCROT ins a i), { x with ci := min 15 (i + 1) }⟩
  else ⟨some m, x⟩

/-! ### Late results (R55 to R58) -/

/-- The cycle at whose end a result in flight is due. -/
def Job.due (j : Job) : Nat :=
  match j with
  | .mac i _ _ _ _ => i + 3
  | .mul i _ _ => i + 3
  | .xl i _ _ => i + 4

/-- Writes a late result to Y and F as its DST names them (R57, R58). -/
def lateWrite (c : Cell) (cyc iss dst : Nat) (v : Word) : Cell :=
  let c1 := if dst.testBit 0 then { c with y := c.y.put cyc iss v } else c
  if dst.testBit 1 then { c1 with f := c1.f.put cyc iss v } else c1

/-- The adds of one MAC-class operation, accumulator by accumulator; the number counts SCALE
events (R47, R51). -/
def macAdd (ins : Word) (ph0 : Bool) : List (Nat × Int) → Cell × Nat → Cell × Nat
  | [], r => r
  | (n, p) :: l, (c, k) =>
    let a := cellAcc c n
    let r := addStage (insOVF ins) (insRND ins) (insOP ins = 0x23) (opx ins 3 && ph0) p
      a.a.toInt a.e a.resc a.sat
    macAdd ins ph0 l
      (setAcc c n ⟨BitVec.ofInt 48 r.a, r.e, r.resc, r.sat⟩, if r.scaled then k + 1 else k)

/-- Lands one result in flight: a MAC-class add, which starts its XL extraction (R54), a MUL
result, or an extraction. -/
def landJob (j : Job) (c : Cell) (k : Nat) : Cell × Nat :=
  match j with
  | .mac i ins terms ph0 phl =>
    let r := macAdd ins ph0 terms (c, k)
    if opx ins 2 && phl then
      ({ r.1 with jobs := r.1.jobs ++ [.xl i (insDST ins) (extractWord r.1 ins)] }, r.2)
    else r
  | .mul i dst v => (lateWrite c (i + 3) i dst v, k)
  | .xl i dst v => (lateWrite c (i + 4) i dst v, k)

/-- Lands every listed job that is due at the end of cycle `n` or before, in order; the others
stay in flight. -/
def landList (n : Nat) : List Job → Cell × Nat → Cell × Nat
  | [], r => r
  | j :: l, (c, k) =>
    if j.due ≤ n then landList n l (landJob j c k)
    else landList n l ({ c with jobs := c.jobs ++ [j] }, k)

/-- Lands everything due at the end of cycle `n` or before: adds and MUL results first, then the
extractions, whose own adds came a cycle earlier. -/
def landDue (n : Nat) (c : Cell) : Cell × Nat :=
  let r := landList n c.jobs ({ c with jobs := [] }, 0)
  landList n r.1.jobs ({ r.1 with jobs := [] }, r.2)

/-- Which kind of result in flight a landing command names. -/
inductive JobKind where
  | mac | mul | xl
  deriving DecidableEq, Repr

/-- The kind of a result in flight. -/
def Job.kind (j : Job) : JobKind :=
  match j with
  | .mac _ _ _ _ _ => .mac
  | .mul _ _ _ => .mul
  | .xl _ _ _ => .xl

/-- The oldest result in flight of a kind that is due before cycle `n`, and the list without it. -/
def takeJob (k : JobKind) (n : Nat) : List Job → Option (Job × List Job)
  | [] => none
  | j :: l =>
    if j.kind = k ∧ j.due < n then some (j, l)
    else match takeJob k n l with
      | none => none
      | some (x, r) => some (x, j :: r)

/-- Lands the oldest result in flight of a kind that is due before cycle `n`. -/
def landFirst (k : JobKind) (n : Nat) (c : Cell) : Cell × Nat :=
  match takeJob k n c.jobs with
  | none => (c, 0)
  | some (j, r) => landJob j { c with jobs := r } 0

/-! ### Local RAM (R65, R78) -/

/-- The physical word of address `a`: a row named in a repair entry lies in its spare row. -/
def ramPhys (c : Cell) (a : Nat) : Nat :=
  match c.rep.findIdx? (fun r => r = a / 4) with
  | some e => 512 + e * 4 + a % 4
  | none => a

/-- The stored codeword at address `a`. -/
def ramCode (c : Cell) (a : Nat) : Code := smGet 0 c.ram (ramPhys c a)

/-- Stores a codeword at address `a`. -/
def ramPutCode (c : Cell) (a : Nat) (w : Code) : Cell :=
  { c with ram := smSet 0 (ramPhys c a) w c.ram }

/-- A write through the write port: fresh check bits, and a write-back waiting for the same
address is dropped (R67, R75). -/
def ramWrite (c : Cell) (a : Nat) (w : Word) : Cell :=
  { ramPutCode c a (eccEnc w) with wb := c.wb.filter (fun e => e.1 != a) }

/-- Configuration word `w` of a cell as stored (R275). -/
def cfgCode (c : Cell) (w : Nat) : Code := smGet 0 c.cfg w

/-- The AG0 and AG1 configuration words (R276). -/
def ag0Cfg (c : Cell) : Word := eccData (cfgCode c 0)
/-- AG1_CFG. -/
def ag1Cfg (c : Cell) : Word := eccData (cfgCode c 1)

end Machine
end Sys2Proof
end

