-- ==== Sys2Proof/Machine/Fifo.lean ====
section
/-!
DEFINITION. Stream FIFOs (chapter 05): the write side with its room rule and protocol errors
(R119, R123), the read side in ARRIVAL or PRIORITY order (R125) with its SEC-DED check and
poison (R130, R131), the swaps (R121, R122), flush (R128, R129) and the register commands (R133).
-/

namespace Sys2Proof
namespace Machine

/-! ### Levels -/

/-- Words in a list of items. -/
def itemWords : List FItem → Nat
  | [] => 0
  | i :: r => i.words.length + itemWords r

/-- Words in an optional item. -/
def optWords (o : Option FItem) : Nat := match o with | none => 0 | some i => i.words.length

/-- Words in the writing bank. -/
def fifoWBank (f : Fifo) : Nat := itemWords f.w + optWords f.wopen

/-- Words in the reading bank. -/
def fifoRBank (f : Fifo) : Nat := itemWords f.r + optWords f.cur

/-- FIFO_LEVEL.WORDS (R127). -/
def fifoWords (f : Fifo) : Nat := fifoWBank f + fifoRBank f

/-- FIFO_LEVEL.ITEMS: the complete items held, the one being read among them (R127). -/
def fifoItems (f : Fifo) : Nat := f.w.length + f.r.length + (if f.cur.isSome then 1 else 0)

/-- Stores a FIFO after a write and raises PEAK to its level (R127). -/
def fifoPut (s : State) (k : Nat) (f : Fifo) : State :=
  let s1 := setFifo s k f
  if fget s1 FIFO_PEAK_PEAK k < fifoWords f then fset s1 FIFO_PEAK_PEAK k (fifoWords f) else s1

/-! ### The write side -/

/-- A writer protocol error (R123): PROTO counts and one U-class record names the FIFO. The
item is the unit contained, so no unit enters a fault state. -/
def fifoProto (s : State) (k : Nat) : State :=
  raise (finc s FIFO_ERR_PROTO k)
    { src := fifoSrc k, cls := clsU, code := 1, addr := k, access := 2, ukind := 3, uid := k }

/-- An item whose overrun would poison it no longer. -/
def FItem.settled (i : FItem) : FItem := { i with ovr := false }

/-- The item that a word beyond its length has overrun is poisoned (R123, third row). -/
def FItem.overrun (i : FItem) : FItem := if i.ovr then { i with poison := true, ovr := false } else i

/-- `g` at every item that has been closed and not wholly read. -/
def fifoItemsMap (g : FItem → FItem) (f : Fifo) : Fifo := { f with w := f.w.map g, r := f.r.map g, cur := f.cur.map g }

/-- Poisons the item written last, wherever it stands (R123, third row). -/
def poisonLast (f : Fifo) : Fifo := fifoItemsMap FItem.overrun f

/-- The item written last can no longer be overrun: another has started. -/
def fifoSettle (f : Fifo) : Fifo := if f.ovr then fifoItemsMap FItem.settled f else f

/-- WREADY (R119, R129): high while SKIP or a discard takes words; for a start word when the
writing bank has WLEN + 1 free words; for any other word when it has a free word. -/
def fifoWReady (f : Fifo) (st : Bool) (len : Nat) : Bool :=
  if f.skip && !st then true
  else if st then fifoWBank f + len + 1 ≤ 512
  else fifoWBank f < 512

/-- Begins an item with its start word; a one-word item ends at once (R123). -/
def fifoBegin (f : Fifo) (d : Code) (en : Bool) (len prio : Nat) (poison : Bool) (tag : Nat) : Fifo :=
  let i : FItem := { prio := prio, poison := poison, tag := tag, decl := len, words := [d], ovr := !en && len = 0 }
  if en || len = 0 then
    { f with w := f.w ++ [i], wopen := none, ovr := !en, disc := false, skip := false, skipLeft := 0 }
  else { f with wopen := some i, ovr := false, disc := false, skip := false, skipLeft := 0 }

/-- Ends the open item where it stands, poisoned or as it is. -/
def fifoClose (f : Fifo) (poison : Bool) : Fifo :=
  match f.wopen with
  | none => f
  | some i => { f with w := f.w ++ [{ i with poison := i.poison || poison }], wopen := none, ovr := false }

/-- Exchanges the two banks (R120). -/
def fifoSwap (f : Fifo) : Fifo :=
  { f with r := f.w, w := [], cur := none, rpois := false, rbank := 1 - f.rbank, rcut := false }

/-- The reading bank is empty. -/
def fifoREmpty (f : Fifo) : Bool := f.r.isEmpty && f.cur.isNone

/-- A FREE-mode swap cycle (R121). -/
def fifoFreeSwap (s : State) (k : Nat) : State :=
  let f := fifo s k
  if fget s FIFO_MODE_SWAP k = 0 ∧ fifoREmpty f ∧ f.w ≠ [] ∧ f.wopen = none then
    setFifo s k (fifoSwap f)
  else s

/-- A word the writer presents transfers (R119, R123, R129); with WREADY low it waits and nothing else changes. A swap
cycle that is due comes first, since WREADY is low in it (R119). -/
def fifoWrite (s0 : State) (k : Nat) (d : Code) (st en : Bool) (len prio : Nat) (poison : Bool)
    (tag : Nat) : State :=
  let s := fifoFreeSwap s0 k
  let f := fifo s k
  if !fifoWReady f st len then s
  else if st then
    let bad := f.skip || f.disc || f.wopen.isSome
    let s1 := fifoPut s k (fifoBegin (fifoClose (fifoSettle f) true) d en len prio poison tag)
    if bad then fifoProto s1 k else s1
  else if f.skip then
    let left := f.skipLeft - 1
    if en || left = 0 then setFifo s k { f with skip := false, skipLeft := 0 }
    else setFifo s k { f with skipLeft := left }
  else if f.disc then setFifo s k { f with disc := !en }
  else
    match f.wopen with
    | some i =>
      let i1 := { i with words := i.words ++ [d], poison := i.poison || poison }
      if en || i1.decl < i1.words.length then
        fifoPut s k { f with w := f.w ++ [{ i1 with ovr := !en }], wopen := none, ovr := !en }
      else fifoPut s k { f with wopen := some i1 }
    | none =>
      if f.ovr then fifoProto (setFifo s k { poisonLast f with ovr := false, disc := !en }) k
      else fifoProto s k

/-! ### Guard swaps -/

/-- Guard cycle 4 of a TICK-mode FIFO: it swaps, or skips the swap and counts it (R122). -/
def fifoTickSwap (s : State) (k : Nat) : State :=
  let f := fifo s k
  if fget s FIFO_MODE_SWAP k = 1 then
    if fifoREmpty f ∧ f.wopen = none then setFifo s k (fifoSwap f)
    else finc s FIFO_EVT_SKIPPED k
  else s

/-! ### The read side -/

/-- The item of the highest tag, the earliest of equals, and the list without it (R125). -/
def pickPrio : List FItem → Option (FItem × List FItem)
  | [] => none
  | i :: r =>
    match pickPrio r with
    | none => some (i, [])
    | some (j, rest) => if i.prio < j.prio then some (j, i :: rest) else some (i, r)

/-- The item to be read next in the order in force (R125). -/
def pickItem (order : Nat) (l : List FItem) : Option (FItem × List FItem) :=
  if order = 1 then pickPrio l
  else match l with | [] => none | i :: r => some (i, r)

/-- RVALID: a word of a complete item stands in the reading bank. -/
def fifoRValid (f : Fifo) : Bool := f.cur.isSome || !f.r.isEmpty

/-- A word as the reader sees it (R118): data, RSTART, REND, RPRIO, RPOISON, and the tick its
item carries (R180). -/
structure RWord where
  w : Word
  st : Bool
  en : Bool
  prio : Nat
  pois : Bool
  tag : Nat
  deriving DecidableEq, Repr

/-- The codeword at the read side, with the item it belongs to and what the FIFO holds after it
is taken; none where RVALID is low. -/
def fifoHead (s : State) (k : Nat) : Option (Code × Bool × FItem × Fifo) :=
  let f := fifo s k
  match f.cur with
  | some i =>
    match i.words with
    | [] => none
    | c :: r => some (c, false, i, { f with cur := if r = [] then none else some { i with words := r } })
  | none =>
    match pickItem (fget s FIFO_MODE_ORDER k) f.r with
    | none => none
    | some (i, rest) =>
      match i.words with
      | [] => none
      | c :: r =>
        some (c, true, i, { f with r := rest, rpois := false,
                                   cur := if r = [] then none else some { i with words := r } })

/-- The reader takes a word (R125): `err` are the upset bits of the stored word. The check
corrects a single-bit error and counts it (R130); an uncorrectable word, or a poisoned item,
gives RPOISON, and each poisoned item counts once, at its end word (R131). -/
def fifoRead (s : State) (k : Nat) (err : Code) : State × Option RWord :=
  match fifoHead s k with
  | none => (s, none)
  | some (c, st, i, f1) =>
    let (s1, e) := eccCheck s (fifoSrc k) (fifoChk k) (c ^^^ err)
    let en := f1.cur.isNone
    let wasP := i.poison || (!st && (fifo s k).rpois)
    let (w, ue, ce) :=
      match e.v with
      | .clean d => (d, false, false)
      | .fixed d => (d, false, true)
      | .poison => (eccData c, true, false)
      | .bad => (eccData c, true, false)
    let pois := wasP || ue
    let s2 := setFifo s1 k { f1 with rpois := pois && !en }
    let s3 := if ce then
        raise (finc s2 FIFO_ERR_CE k)
          { src := fifoSrc k, cls := clsC, code := 2, addr := k, access := 1, ukind := 3, uid := k, inj := e.inj }
      else s2
    let s4 := if pois && en then
        raise (finc s3 FIFO_ERR_POISON k)
          { src := fifoSrc k, cls := clsU, code := 3, addr := k, access := 1, ukind := 3, uid := k,
            inj := e.inj && !wasP, coinc := e.coinc }
      else s3
    (s4, some ⟨w, st, en, i.prio, pois, i.tag⟩)

/-! ### Flush and register commands -/

/-- A flush (R128, R129); the FIFO's order is unsynchronised after it (R153). It ends an overrun discard in progress:
the spec does not say that the discard of R123 outlives a flush (DESIGN CHOICE, entry 158). -/
def fifoFlush (s0 : State) (k : Nat) : State :=
  let s := { s0 with noc := { s0.noc with seqr := smErase k s0.noc.seqr } }
  let f := fifo s k
  let inItem := f.cur.isSome
  let left := match f.wopen with | none => f.skipLeft | some i => i.decl + 1 - i.words.length
  let s1 := setFifo s k { f with w := [], wopen := none, ovr := false, disc := false, r := [], cur := none,
                                 rpois := false, rcut := inItem,
                                 skip := f.skip || f.wopen.isSome, skipLeft := left }
  let s2 := if inItem then finc s1 FIFO_EVT_READ_CUT k else s1
  if f.wopen.isSome && !f.skip then finc s2 FIFO_EVT_FLUSH_PARTIAL k else s2

/-- Empties a FIFO whose domain is gated off, its peak and its counts with it (R108, R133). -/
def fifoLose (s : State) (k : Nat) : State :=
  [FIFO_PEAK_PEAK, FIFO_ERR_PROTO, FIFO_ERR_POISON, FIFO_ERR_CE, FIFO_EVT_SKIPPED, FIFO_EVT_READ_CUT, FIFO_EVT_FLUSH_PARTIAL].foldl
    (fun s f => fset s f k 0) (setFifo s k {})

/-- A SWAP write by an owner (R133). -/
def fifoModeSwap (s : State) (k v : Nat) : State :=
  let f := fifo s k
  if fifoWords f = 0 ∧ f.wopen = none then fset s FIFO_MODE_SWAP k v
  else fset s FIFO_MODE_REFUSED k 1

/-- A write of FIFO_WFRAME.PRIO and ILENM1 by an owner (R133); a converter transmit FIFO is then framed by its door
(R124). -/
def fifoFrame (s : State) (k prio ilen : Nat) : State :=
  let s1 := fset (fset s FIFO_WFRAME_PRIO k prio) FIFO_WFRAME_ILENM1 k ilen
  if 16384 ≤ k && k < 32768 && 4 ≤ k % 8 then fset s1 FIFO_WFRAME_EN k 1 else s1

/-- ORDER_PEND shows whether ORDER_REQ differs from ORDER (FIFO_MODE). -/
def fifoOrderReq (s : State) (k v : Nat) : State :=
  let s1 := fset s FIFO_MODE_ORDER_REQ k v
  fsetB s1 FIFO_MODE_ORDER_PEND k (fget s1 FIFO_MODE_ORDER_REQ k != fget s1 FIFO_MODE_ORDER k)

/-- Guard cycle 5: ORDER takes ORDER_REQ (R126). -/
def fifoOrderGuard (s : State) (k : Nat) : State :=
  fset (fset s FIFO_MODE_ORDER k (fget s FIFO_MODE_ORDER_REQ k)) FIFO_MODE_ORDER_PEND k 0

/-- A read of PEAK: it returns the peak and leaves it equal to the level (R127). -/
def fifoPeakRead (s : State) (k : Nat) : State × Nat :=
  (fset s FIFO_PEAK_PEAK k (fifoWords (fifo s k)), fget s FIFO_PEAK_PEAK k)

/-! ### Meanings of the FIFO rows -/

/-- FIFO_WRITE (R119): the writer of FIFO `k` presents a word with WSTART, WEND, WLEN[5:0], WPRIO[2:0] and
WPOISON (R118). -/
def execFifoWrite (k : Nat) (w : Word) (st en : Bool) (len prio : Nat) (poison : Bool) (s : State) :
    Host.Outcome State Fault Refusal :=
  run (fifoExists k) (fifoWrite s k (eccEnc w) st en (len % 64) (prio % 8) poison (s.time.tick % 256))

/-- A flag as a byte of an answer. -/
def flagByte (b : Bool) : Byte := if b then 1 else 0

/-- What the reader of a word is told beside it (R118): RSTART, REND, RPRIO and RPOISON, a byte each. -/
def readMarks (w : RWord) : List Byte := [flagByte w.st, flagByte w.en, BitVec.ofNat 8 w.prio, flagByte w.pois]

/-- The reader of FIFO `k` takes a word; what it sees is the answer. -/
def fifoReadCmd (s : State) (k : Nat) (err : Code) : State :=
  let q := fifoRead s k err
  match q.2 with
  | none =>
    let f := fifo q.1 k
    { setFifo q.1 k { f with rcut := false } with bus := { data := 0, status := if f.rcut then 3 else 1, bytes := [] } }
  | some w => { q.1 with bus := { data := w.w, status := if w.pois then 2 else 0, bytes := readMarks w } }

/-- FIFO_READ (R125): the answer's status is 1 where RVALID is low, 3 where RCUT is high with it, 2 where
RPOISON is high; its bytes are the marks (R118). -/
def execFifoRead (k : Nat) (err : Code) (s : State) : Host.Outcome State Fault Refusal :=
  run (fifoExists k) (fifoReadCmd s k err)

/-- FIFO_FREE_SWAP (R121). -/
def execFifoFreeSwap (k : Nat) (s : State) : Host.Outcome State Fault Refusal :=
  run (fifoExists k) (fifoFreeSwap s k)

/-- FIFO_FLUSH (R128). -/
def execFifoFlush (k : Nat) (s : State) : Host.Outcome State Fault Refusal :=
  run (fifoExists k) (fifoFlush s k)

/-- FIFO_MODE_WRITE (R133): the owner writes SWAP, and FIFO_WFRAME where the value gives its PRIO and ILENM1. -/
def execFifoModeWrite (k : Nat) (v : Nat × Option (Nat × Nat)) (s : State) : Host.Outcome State Fault Refusal :=
  reach (fifoExists k) s
    (let s1 := fifoModeSwap s k (v.1 % 2)
     match v.2 with
     | none => s1
     | some f => fifoFrame s1 k f.1 f.2)

/-- A read of FIFO_PEAK (R127). -/
def fifoPeakCmd (s : State) (k : Nat) : State :=
  let q := fifoPeakRead s k
  { q.1 with bus := { q.1.bus with data := BitVec.ofNat 64 q.2, status := 0 } }

/-- FIFO_PEAK_READ (R127). -/
def execFifoPeakRead (k : Nat) (s : State) : Host.Outcome State Fault Refusal :=
  run true (if fifoExists k then fifoPeakCmd s k else { s with bus := { s.bus with data := 0, status := 0 } })

end Machine
end Sys2Proof
end

