-- ==== Sys2Proof/Machine/Pins.lean ====
section
/-!
DEFINITION. GPIO pins (R323 to R328): isolation, what a pin drives, the last level it drove, what PIN_IN reads,
and release to the control complex.
-/

namespace Sys2Proof
namespace Machine

/-- A pin. -/
def pinSt (s : State) (n : Nat) : PinSt := smGet {} s.pin n

/-- Writes a pin. -/
def setPin (s : State) (n : Nat) (x : PinSt) : State := { s with pin := smSet {} n x s.pin }

/-- The pins of a cabinet take their isolation behaviour (R326). -/
def pinIsolated (s : State) (p : Nat) : Bool :=
  !doorsOpen s p || !stepDone s p stepOUTPUTS || cabState s p = stOFF || 0 < fget s FLT_STATE_STATE 0

/-- What a pin drives under its isolation behaviour ISO (R323, R326), none for high-Z. -/
def pinIso (s : State) (n : Nat) : Option Bool :=
  let g := fget s PIN_CFG_PINCFG n
  let i := g / 2 ^ 22
  if i = 0 then (if (pinSt s n).drove then some (pinSt s n).lvl else none)
  else if i = 2 then some (g.testBit 21)
  else none

/-- A level through an output of DIR: push-pull drives it, open-drain drives only 0. -/
def pinOut (od lvl : Bool) : Option Bool := if od && lvl then none else some lvl

/-- The pin is overridden by a boundary-scan instruction (R321): 0 low, 1 high, else high-Z. -/
def pinScan (s : State) (n : Nat) : Option Nat :=
  match s.env.bscan with
  | none => none
  | some l => some (((l.find? (fun e => e.1 = n)).map (fun e => e.2)).getD 2)

/-- What a pin drives now, none for high-Z (R321, R324 to R326, R328). -/
def pinDrive (s : State) (n : Nat) : Option Bool :=
  let g := fget s PIN_CFG_PINCFG n
  let dir := g / 2 ^ 13 % 4
  let bit (f : Fld) : Bool := (fget s f (n / 24)).testBit (n % 24)
  match pinScan s n with
  | some c => if c = 0 then some false else if c = 1 then some true else none
  | none =>
    if fget s PIN_BANK_STAT_VSEL (n / 24) = 0 then none
    else if fgetB s PIN_CFG_CAB_OWNED n then
      if pinIsolated s (physOf s (fget s PIN_CFG_CAB n)) then pinIso s n
      else if (pinSt s n).drove then pinOut (dir = 2) (pinSt s n).lvl else none
    else if fgetB s PIN_CLAIM_CLAIM n then
      if 0 < fget s FLT_STATE_STATE 0 then pinIso s n
      else if dir = 1 || dir = 2 then pinOut (dir = 2) (bit PIN_OUT_LEVEL)
      else if dir = 3 && bit PIN_OE_LEVEL then some (bit PIN_OUT_LEVEL)
      else none
    else (pinSt s n).held

/-- The weak pull of a pin (R313, R323), as PULL codes it: while PORST_N is low it follows PREPULL (`pre`) directly. -/
def pinPull (s : State) (pre : Bool) (n : Nat) : Nat :=
  if s.boot.held then (if pre then 2 else 0) else fget s PIN_CFG_PINCFG n / 2 ^ 16 % 4

/-- Keeps the level a pin drives now as the last it drove. -/
def pinTrack (s : State) (n : Nat) : State :=
  match pinDrive s n with
  | some b => setPin s n { pinSt s n with lvl := b, drove := true }
  | none => s

/-- The same for the pins of a cabinet. -/
def pinsTrack (s : State) (p : Nat) : State := (cab s p).pins.foldl pinTrack s

/-- A pin returns to the control complex as it stands, with CLAIM 0 (R328). -/
def pinRelease (s : State) (n : Nat) : State :=
  let d := pinDrive s n
  let s1 := setPin (pinTrack s n) n { pinSt (pinTrack s n) n with held := d }
  fset (fset (fset s1 PIN_CFG_CAB_OWNED n 0) PIN_CFG_CAB n 0x7F) PIN_CLAIM_CLAIM n 0

/-- A write of PIN_CFG (R328): refused for a cabinet's pin; BIT, ROW and LCOL read zero (R325). -/
def pinCfgWrite (s : State) (n v : Nat) : State :=
  if fgetB s PIN_CFG_CAB_OWNED n then fset s PIN_CLAIM_REFUSED n 1
  else pinTrack (fset s PIN_CFG_PINCFG n (v % 2 ^ 24 / 2 ^ 13 * 2 ^ 13)) n

/-- PIN_CFG_WRITE (R328). -/
def execPinCfgWrite (n v : Nat) (s : State) : Host.Outcome State Fault Refusal :=
  reach (n < 96) s (pinCfgWrite s n v)

/-- A write of PIN_CLAIM (R328): REFUSED is W1C; CLAIM 0 leaves the pin in its present state. -/
def pinClaimWrite (s0 : State) (n v : Nat) : State :=
  let s := if v.testBit 31 then fset s0 PIN_CLAIM_REFUSED n 0 else s0
  if fgetB s PIN_CFG_CAB_OWNED n then fset s PIN_CLAIM_REFUSED n 1
  else if v % 2 = 1 then pinTrack (fset s PIN_CLAIM_CLAIM n 1) n
  else if fgetB s PIN_CLAIM_CLAIM n then pinRelease s n
  else s

/-- PIN_CLAIM_WRITE (R328). -/
def execPinClaimWrite (n v : Nat) (s : State) : Host.Outcome State Fault Refusal :=
  reach (n < 96) s (pinClaimWrite s n (v % 2 ^ 32))

/-- The input buffers of bank `b` (R324, R328): a driven pin reads its own level, another what stands outside
the device, which is free; a bank whose rail is absent reads 0. -/
def pinInRead (s : State) (b : Nat) : Nat :=
  if fget s PIN_BANK_STAT_VSEL b = 0 then 0
  else
    (List.range 24).foldl (fun m i =>
      let n := 24 * b + i
      if (pinDrive s n).getD (Config.pinExt s.free n) then m + 2 ^ i else m) 0

end Machine
end Sys2Proof
end

