-- ==== Sys2Proof/Machine/CabState.lean ====
section
/-!
DEFINITION. Cabinet state changes that several commands share: closing and opening doors (R104,
R105, R182), entering FAULTED (R106), leaving RUNNING (R97), the cabinet's flip-flop reset (R30),
RAM and configuration errors that fault a cabinet (R75, R76, R80, R87), and marks of FAULTED units.
-/

namespace Sys2Proof
namespace Machine

/-- The instance of FLT_UNIT that holds unit `id` of kind `k`. -/
def unitIx (k id : Nat) : Nat := k * 16384 + id

/-- Marks a unit FAULTED (R408). -/
def unitFault (s : State) (k id : Nat) : State := fset s FLT_UNIT_FAULTED (unitIx k id) 1

/-- The converter block at the outward edge of a cabinet (R101, R173). -/
def convBlock (p : Nat) : Option Nat :=
  if p = 20 then some 0 else if p = 30 then some 1 else if p = 60 then some 2 else if p = 70 then some 3
  else if p = 29 then some 4 else if p = 39 then some 5 else if p = 69 then some 6
  else if p = 79 then some 7 else none

/-- The edge cabinet of a converter block (R173). -/
def blockCab (j : Nat) : Nat := [20, 30, 60, 70, 29, 39, 69, 79].getD j 20

/-- A reserve cabinet (R101). -/
def isReserve (p : Nat) : Bool := p = 44 || p = 45 || p = 54 || p = 55

/-! ### Receive channels of a port block at a closing door (R182) -/

/-- The edge stop of converter block `b`. -/
def convStop (b : Nat) : Nat := [104, 106, 112, 114, 105, 107, 113, 115].getD b 104

/-- A channel of a port block. -/
def jptCh (s : State) (k : Nat) : JptCh := smGet {} s.jpt.ch k

/-- Writes a channel of a port block. -/
def setJptCh (s : State) (k : Nat) (c : JptCh) : State :=
  { s with jpt := { s.jpt with ch := smSet {} k c s.jpt.ch } }

/-- Completes an open item with zero words up to its declared length (R182). -/
def padOpen (f : Fifo) : Fifo :=
  match f.wopen with
  | none => f
  | some i =>
    { f with w := f.w ++ [{ i with words := i.words ++ List.replicate (i.decl + 1 - i.words.length) 0 }],
             wopen := none, ovr := false }

/-- Whole items held back: each start word begins one. -/
def bufItems (l : List DWord) : Nat := (l.filter (fun d => d.st)).length

/-- The block pads the open receive item of channel `k` of block `j`, drops what it holds back
and stops writing; the framing of the tick goes on (R182). -/
def jptStopCh (s : State) (j k : Nat) : State :=
  let c := jptCh s (4 * j + k)
  let s1 := fifoPut s (convFifo j k) (padOpen (fifo s (convFifo j k)))
  let s2 := fadd s1 JPT_PATH_ERR_CLOSED_DROP (4 * j + k / 2) (bufItems c.buf)
  setJptCh s2 (4 * j + k) { c with buf := [], ovr := false, wr := false, arm := false, cut := c.cut || (c.wr && c.pos != 0) }

/-- Every border-channel receive path of block `j` stops (R182). -/
def jptDoorClosed (s : State) (j : Nat) : State :=
  [0, 1, 2, 3].foldl (fun s k =>
    if fgetB s JPT_PATH_CFG_DEST (4 * j + k / 2) then s else jptStopCh s j k) s

/-! ### Doors -/

/-- Words in the twelve door buffers of a cabinet. -/
def dbufWords (c : Cab) : Nat := c.dbuf.foldl (fun n e => n + e.2.length) 0

/-- The doors of cabinet `p` close (R104, R105): a fault closure discards the buffered words and
counts them in OVERRUN. -/
def closeDoors (s : State) (p : Nat) (fault : Bool) : State :=
  if doorsOpen s p then
    let c := cab s p
    let s1 := fsetB (fset s CAB_DOOR_STAT_OPEN p 0) CAB_DOOR_STAT_FAULT_CLOSE p fault
    let s2 := if fault then
        setCab (fadd s1 CAB_DOOR_STAT_OVERRUN p (dbufWords c)) p { c with dbuf := [] }
      else s1
    match convBlock p with
    | some j => jptDoorClosed s2 j
    | none => s2
  else s

/-- Opens the doors at guard cycle 8 (R105); the port block flushes the receive FIFOs of its
border-channel paths and starts writing with the next tick's first word (R182). -/
def openDoors (s : State) (p : Nat) : State :=
  let s1 := fset (fset (pinsTrack s p) CAB_DOOR_STAT_OPEN p 1) CAB_DOOR_STAT_FAULT_CLOSE p 0
  match convBlock p with
  | some j =>
    [0, 1, 2, 3].foldl (fun s k =>
      if fgetB s JPT_PATH_CFG_DEST (4 * j + k / 2) then s
      else
        setJptCh (fifoFlush s (convFifo j k)) (4 * j + k)
          { jptCh s (4 * j + k) with buf := [], ovr := false, arm := true }) s1
  | none => s1

/-! ### Leaving RUNNING -/

/-- Output registers of a cell hold what they last presented (R85, R90): an output that drives Y
or F keeps that value. -/
def latchOuts (c : Cell) : Cell :=
  [0, 1, 2, 3, 4, 5, 6, 7].foldl (fun c d =>
    let b := if d < 4 then wbits c.cur.w1 (32 + 8 * d) 8 else wbits c.cur.w2 (8 * (d - 4)) 8
    if c.cur.runs && (b = 0x99 || b = 0xAA) then
      { c with outs := smSet {} d { smGet {} c.outs d with val := if b = 0x99 then c.y.val else c.f.val, v := false } c.outs }
    else c) c

/-- Counts the SCALE events of a service-position cell (R51, R52). -/
def scaleCount (s : State) (p : Nat) (live : Bool) (n : Nat) : State :=
  if live && n != 0 then
    let s1 := fadd s CAB_SCALE_EVENTS_COUNT p n
    setCab s1 p { cab s1 p with scaleTick := min 65535 ((cab s1 p).scaleTick + n) }
  else s

/-- Everything in flight in a cell lands that is due by cycle `t`. -/
def landCell (t : Nat) (s : State) (k : Nat) : State :=
  let p := k / 136
  let l := landDue t (cell s k)
  scaleCount (setCell s k l.1) p (k / 8 % 17 != gapPos s p) l.2

/-- Places of the listed cells with results in flight. -/
def busyCells (s : State) : List Nat :=
  s.array.cells.filterMap (fun e => if e.2.jobs.isEmpty then none else some e.1)

/-- Everything in flight in cabinet `p` lands that is due by cycle `t`. -/
def landCab (s : State) (p t : Nat) : State := ((busyCells s).filter (fun k => k / 136 = p)).foldl (landCell t) s

/-- The cells of a cabinet return to the hold drawer; results in flight stay (R57, R85). -/
def cellsHold (s : State) (p : Nat) : State :=
  let s1 := mapCells s p (fun c => { latchOuts c with cur := {}, nxt := {} })
  setCab s1 p { cab s1 p with slot := none, slotLen := 0 }

/-- Abandons a gap step (R426): the shadow returns to the hold drawer, the gap stays. A test of a suspect
column after a recovery reload (phase 7, R432) is no step and goes on. -/
def gapAbandon (s : State) (p : Nat) : State :=
  let c := cab s p
  if c.gapPh = 0 || c.gapPh = 7 then s
  else
    fset (setCab s p { c with gapPh := 0, gapEnd := 0, gapSecond := false }) BST_CAB_PHASE p 0

/-- Zeroes every element of R30 in a cabinet's cells and sets the pointers to BASE: the flip-flop
reset (R30, R71). -/
def ffReset (c : Cell) : Cell :=
  { c with y := {}, f := {}, acc := [], cm := 0, bx := 0, ci := 0, ph := 0, jobs := [],
           ag0 := agBASE (ag0Cfg c), ag1 := agBASE (ag1Cfg c) }

/-- Asserts the flip-flop reset of cabinet `p`. -/
def assertFF (s : State) (p : Nat) : State := mapCells (fset s CAB_STATE_FFRST p 1) p ffReset

/-- A relocation whose old cabinet faults ends (DESIGN CHOICE, entry 155: R111 does not say what becomes of the
destination): Kaluno unloads the destination, which drains from the next guard and ends EMPTY. -/
def relocDrop (s : State) (p : Nat) : State :=
  match (cab s p).reloc with
  | none => s
  | some r =>
    let s1 := setCab s p { cab s p with reloc := none }
    setCab s1 r.dest { cab s1 r.dest with req := .drain 2 }

/-- A stop. -/
def stop (s : State) (st : Nat) : Stop := smGet {} s.noc.stops st

/-- Writes a stop. -/
def setStop (s : State) (st : Nat) (x : Stop) : State :=
  { s with noc := { s.noc with stops := smSet {} st x s.noc.stops } }

/-- The stop of cabinet `p` is fenced; a fencing that begins has recorded no discard yet (R169, R170). -/
def fenceSet (s : State) (p : Nat) : State :=
  if fgetB s CAB_STATE_FENCED p then s
  else setStop (fset s CAB_STATE_FENCED p 1) p { stop s p with fenceRec := false }

/-- A U-class fault contained to cabinet `p` (R106): FAULTED, hold drawer, doors closed at once,
stop fenced, a pending switch cleared without switching (R97), a drain or gap step ended. -/
def cabFault (s : State) (p : Nat) : State :=
  if cabState s p = stRUNNING ∨ cabState s p = stHELD ∨ cabState s p = stDRAINING ∨ cabState s p = stLOADING then
    let s0 := closeDoors s p true
    let s1 := gapAbandon (cellsHold s0 p) p
    let s2 := relocDrop (setCab s1 p { cab s1 p with req := .none, planWas := fget s CAB_PLAN_SEL_CUR p }) p
    let s3 := fset (fenceSet (cabGo s2 p stFAULTED) p) CAB_STATE_DRAIN_TO p 0
    let s4 := fset (fset s3 CAB_PLAN_SEL_PEND p 0) CAB_STATE_SAFE_HELD p 0
    if logicalOf s p < 96 then unitFault s4 0 (logicalOf s p) else s4
  else s

/-- A record of class `cls` on the source of cabinet `p`, naming its logical cabinet as unit where
the class is U; a U-class record faults the cabinet. -/
def cabEvent (s : State) (p cls code addr access : Nat) (inj coinc : Bool) : State :=
  let s1 := raise s { src := cabSrc p, cls := cls, code := code, addr := addr, access := access,
                      ukind := 0, uid := logicalOf s p, inj := inj, coinc := coinc }
  if cls = clsU then cabFault s1 p else s1

/-! ### Cell RAM errors -/

/-- CAB_RAM_LAST after an error (R80): the first error is kept, an uncorrectable one replaces a
corrected record. -/
def ramLast (s : State) (p pcol row a syn : Nat) (ue : Bool) : State :=
  if fgetB s CAB_RAM_LAST_VALID p ∧ (¬ ue ∨ fgetB s CAB_RAM_LAST_UE p) then s
  else
    fset (fset (fset (fset (fsetB (fset s CAB_RAM_LAST_VALID p 1) CAB_RAM_LAST_UE p ue)
      CAB_RAM_LAST_SYNDROME p syn) CAB_RAM_LAST_PCOL p pcol) CAB_RAM_LAST_ROW p row) CAB_RAM_LAST_ADDR p a

/-- Marks a row that gave a corrected error; a second read makes it suspect (R79). -/
def rowCE (c : Cell) (a : Nat) : Cell :=
  let r := a / 4
  if c.ceRows.contains r then (if c.susp.contains r then c else { c with susp := c.susp ++ [r] })
  else { c with ceRows := c.ceRows ++ [r] }

/-- The identifier of a RAM word in the records of a cabinet: column, row, address as
CAB_RAM_LAST lays them out. -/
def ramAddrId (p pcol row a : Nat) : Nat := p * 131072 + pcol * 4096 + row * 512 + a

/-- What a RAM read delivered (R75, R76): the word, and whether it was uncorrectable. -/
structure RamRead where
  w : Word
  ue : Bool
  deriving DecidableEq, Repr

/-- A read of RAM address `a` of the cell at (p, pcol, row) by `access`, with the upset bits `err`
(R65, R75, R76): a corrected word waits for write-back, counts and raises a C-class record; an
uncorrectable one delivers zero, raises a U-class record and faults the cabinet. The upset bits
stay in the stored word until it is written. -/
def ramRead (s : State) (p pcol row a access : Nat) (err : Code) : State × RamRead :=
  let k := cid p pcol row
  let c := cell s k
  let code := ramCode c a ^^^ err
  let (s0, e) := eccCheck s (cabSrc p) (16 * (p % 4)) code
  let s1 := setCell s0 k (ramPutCode c a code)
  match e.v with
  | .clean d => (s1, ⟨d, false⟩)
  | .fixed d =>
    let c1 := rowCE (cell s1 k) a
    let s2 := setCell s1 k { c1 with wb := c1.wb ++ [(a, d)] }
    let s3 := ramLast (finc s2 CAB_RAM_CE_COUNT p) p pcol row a e.syn false
    (cabEvent s3 p clsC 1 (ramAddrId p pcol row a) access e.inj e.coinc, ⟨d, false⟩)
  | _ =>
    let s2 := ramLast s1 p pcol row a e.syn true
    (cabEvent s2 p clsU 2 (ramAddrId p pcol row a) access e.inj e.coinc, ⟨0, true⟩)

end Machine
end Sys2Proof
end

