-- ==== Sys2Proof/Machine/Operands.lean ====
section
/-!
DEFINITION. Where a cell's operands come from: the operand source codes (R32), routing sources and
the wires of a cabinet (R88 to R91), door ports at its edges (R100, R101), border registers and the
FIFO-backed doors in both directions (R102 to R104).
-/

namespace Sys2Proof
namespace Machine

/-- A door port of a cabinet (R100): a border channel 0-15 (W0-3, E0-3, S0-3, N0-3) or a ring
FIFO pair 0-7. -/
inductive DoorPort where
  | border (i : Nat)
  | ring (k : Nat)
  deriving DecidableEq, Repr

/-- The door port of an edge cell in direction `d` (0 N, 1 E, 2 S, 3 W), if it has one (R100). -/
def doorOf (lcol row d : Nat) : Option DoorPort :=
  if d = 3 ∧ lcol = 0 then some (if row < 4 then .border row else .ring (row - 4))
  else if d = 1 ∧ lcol = 15 then some (if row < 4 then .border (4 + row) else .ring row)
  else if d = 2 ∧ row = 0 ∧ lcol % 4 = 0 then some (.border (8 + lcol / 4))
  else if d = 0 ∧ row = 7 ∧ lcol % 4 = 3 then some (.border (12 + lcol / 4))
  else none

/-- The cabinet and channel that a border channel joins (R101). -/
def borderPeer (p i : Nat) : Option (Nat × Nat) :=
  if i < 4 then (if p % 10 = 0 then none else some (p - 1, i + 4))
  else if i < 8 then (if p % 10 = 9 then none else some (p + 1, i - 4))
  else if i < 12 then (if p < 10 then none else some (p - 10, i + 4))
  else if i < 16 then (if 90 ≤ p then none else some (p + 10, i - 4))
  else none

/-- A border channel's enable bit of a cabinet; a reserve cabinet has none (R101, R282). -/
def borderBit (s : State) (p i : Nat) : Bool := (cab s p).bcen.testBit i && !isReserve p

/-- The converter channel at border channel `i` of cabinet `p`, as (block, channel). -/
def convChan (p i : Nat) : Option (Nat × Nat) :=
  match convBlock p with
  | none => none
  | some j => if i < 8 ∧ (i < 4 ↔ j < 4) then some (j, i % 4) else none

/-- A border channel is enabled: both ends set their bit, or the cabinet's own bit towards a
converter block (R101). -/
def borderOn (s : State) (p i : Nat) : Bool :=
  match convChan p i with
  | some _ => borderBit s p i
  | none =>
    match borderPeer p i with
    | some (q, n) => borderBit s p i && borderBit s q n
    | none => false

/-- The FIFO behind an inbound door port that is FIFO-backed, while the doors are open (R102,
R104); a converter path delivered to the ring leaves its channels silent (R179). -/
def doorFifoIn (s : State) (p : Nat) (d : DoorPort) : Option Nat :=
  if !doorsOpen s p then none
  else match d with
  | .ring k => some (cabFifo p k)
  | .border i =>
    match convChan p i with
    | some (j, k) =>
      if borderBit s p i && !fgetB s JPT_PATH_CFG_DEST (4 * j + k / 2) then some (convFifo j k) else none
    | none => none

/-- The port number of an outbound FIFO-backed door port (R286: 0-7 ring, 8-11 port block) and
the FIFO behind it. -/
def doorFifoOut (s : State) (p : Nat) (d : DoorPort) : Option (Nat × Nat) :=
  match d with
  | .ring k => some (k, cabFifo p (8 + k))
  | .border i =>
    match convChan p i with
    | some (j, k) =>
      if borderBit s p i && !fgetB s JPT_PATH_CFG_DEST (4 * j + 2 + k / 2) then some (8 + k, convFifo j (4 + k))
      else none
    | none => none

/-- The select byte of output `d` in a context: 0-3 neighbour N E S W, 4-7 express. -/
def outSel (x : Ctx) (d : Nat) : Nat :=
  if d < 4 then wbits x.w1 (32 + 8 * d) 4 else wbits x.w2 (8 * (d - 4)) 4

/-- The select of input port P`n`. -/
def inSel (x : Ctx) (n : Nat) : Nat := wbits x.w1 (8 * n) 4

/-- What output `d` of cell `k` presents in cycle `t` (R90). -/
def outWire (s : State) (k d t : Nat) : Word × Bool :=
  let c := (landDue (t - 1) (cell s k)).1
  let o := smGet ({} : OutReg) c.outs d
  if !c.cur.runs then (o.val, false)
  else
    let b := outSel c.cur d
    if b = 9 then c.y.see t else if b = 10 then c.f.see t
    else if b = 0 then (o.val, false) else o.see t

/-- The cell beside a cell in its cabinet, by logical column and row; a vertical link of a shadow
column stays in that column (R429). -/
def besideCell (s : State) (p pcol lcol row : Nat) (dc dr : Int) : Option Nat :=
  let c : Int := (lcol : Int) + dc
  let r : Int := (row : Int) + dr
  if c < 0 ∨ 15 < c ∨ r < 0 ∨ 7 < r then none
  else some (cid p (if dc = 0 then pcol else pcolOf s p c.toNat) r.toNat)

/-- What routing source `b` (1-8, R88) delivers to a cell in cycle `t`, FIFO-backed doors apart:
zero with valid deasserted where there is nothing (R89). -/
def srcWire (s : State) (p pcol lcol row b t : Nat) : Word × Bool :=
  let from_ (dc dr : Int) (out : Nat) : Word × Bool :=
    match besideCell s p pcol lcol row dc dr with
    | some k => outWire s k out t
    | none => (0, false)
  let edge (d : Nat) (dc dr : Int) (out : Nat) : Word × Bool :=
    match doorOf lcol row d with
    | some (.border i) =>
      if doorsOpen s p && borderOn s p i && (convChan p i).isNone then
        (smGet ({} : OutReg) (cab s p).bin i).see t
      else (0, false)
    | some (.ring _) => (0, false)
    | none => from_ dc dr out
  if b = 1 then edge 0 0 1 2
  else if b = 2 then edge 1 1 0 3
  else if b = 3 then edge 2 0 (-1) 0
  else if b = 4 then edge 3 (-1) 0 1
  else if b = 5 then from_ 0 4 6
  else if b = 6 then from_ 4 0 7
  else if b = 7 then from_ 0 (-4) 4
  else if b = 8 then from_ (-4) 0 5
  else (0, false)

/-- The FIFO-backed inbound port of an edge cell as (routing source, FIFO), if it has one. -/
def cellFifoIn (s : State) (p lcol row : Nat) : Option (Nat × Nat) :=
  let d := if lcol = 0 then 3 else 1
  match doorOf lcol row d with
  | none => none
  | some dp =>
    match doorFifoIn s p dp with
    | none => none
    | some k => some (if d = 3 then 4 else 2, k)

/-- Whether an executed instruction reads input port P`n` by a select its opcode reads. -/
def readsPort (ins : Word) (n : Nat) : Bool :=
  match opInfo (insOP ins) with
  | none => false
  | some i => (readsA ins i && insSA ins = n + 1) || (i.rB && insSB ins = n + 1) || (i.rC && insSC ins = n + 1)

/-- COND is true (R32). -/
def condTrue (ins : Word) (c : Cell) : Bool :=
  let k := insCOND ins
  if k = 0 then true
  else if k = 1 then c.ph = 0
  else if k = 2 then c.ph = insPLEN ins
  else if k = 3 then c.ph != 0
  else if k = 4 then c.ph != insPLEN ins
  else if k = 5 then c.cm.testBit 0
  else !c.cm.testBit 0

/-- The value of operand source `code` (R32): `pin` gives the ports, `mem` the RAM word. -/
def operand (c : Cell) (t : Nat) (pin : Nat → Word) (mem : Word) (code : Nat) : Word :=
  let k := wbits c.cur.w2 32 32
  if code = 0 then 0
  else if code ≤ 4 then pin (code - 1)
  else if code = 5 then (c.y.see t).1
  else if code = 6 then (c.f.see t).1
  else if code = 7 then mem
  else if code = 8 then constK k
  else if code = 9 then constKS k
  else if code = 10 then BitVec.ofNat 64 c.ph
  else if code = 11 then BitVec.ofNat 64 c.bx
  else BitVec.ofNat 64 c.cm

/-- The bound of an outbound port in the current plan's certificate: none under a compatibility
load, 0 for a port it does not list (R103, R305). -/
def doorBound (s : State) (p port : Nat) : Option Nat :=
  if (cab s p).compat then none
  else some (((curCert s p).ports.find? (fun e => e.1 = port)).elim 0 (fun e => e.2))

/-- A word arrives at an outbound door buffer (R102, R103): it enters, or is discarded over the
bound or at a full buffer, counted in OVERRUN with a U-class record that faults the cabinet. -/
def doorEnter (s : State) (p port : Nat) (w : Word) : State :=
  let c := cab s p
  let n := smGet 0 c.dcnt port
  let b := smGet [] c.dbuf port
  if b.length < 16 && (doorBound s p port).elim true (fun m => n + 1 ≤ m) then
    setCab s p { c with dbuf := smSet [] port (b ++ [⟨w, false, false, s.time.tick⟩]) c.dbuf,
                        dcnt := smSet 0 port (n + 1) c.dcnt }
  else cabEvent (finc s CAB_DOOR_STAT_OVERRUN p) p clsU 4 port 2 false false

/-- The word an edge cell's outward output presents in cycle `t` enters its door buffer. -/
def cellDoorOut (s : State) (p lcol row k t : Nat) : State :=
  let d := if lcol = 0 then 3 else 1
  match doorOf lcol row d with
  | none => s
  | some dp =>
    match doorFifoOut s p dp with
    | none => s
    | some (port, _) =>
      let o := outWire s k d t
      if doorsOpen s p && o.2 then doorEnter s p port o.1 else s

/-- The pins a cell drives take their bit of Y when Y carries valid (R324). -/
def cellPins (s : State) (p lcol row : Nat) (y : Word × Bool) : State :=
  if y.2 && !pinIsolated s p then
    (cab s p).pins.foldl (fun s n =>
      let g := fget s PIN_CFG_PINCFG n
      if g % 16 = lcol ∧ g / 16 % 8 = row then
        { s with pin := smSet {} n { smGet ({} : PinSt) s.pin n with lvl := y.1.getLsbD (g / 128 % 64), drove := true } s.pin }
      else s) s
  else s

end Machine
end Sys2Proof
end

