-- ==== Sys2Proof/Machine/Cell.lean ====
section
/-!
DEFINITION. The cell's cycle (R34 to R38, R66, R85, R90) that every opcode command runs, the late
results (R55, R57), and the RAM commands (R74, R75, R77), with one meaning a table row.
-/

namespace Sys2Proof
namespace Machine

/-- The RAM write of a live cell, mirrored into its shadow cell while a gap step copies or
compares its column (R427). -/
def mirrorWrite (s : State) (p lcol row a : Nat) (w : Word) : State :=
  let g := (cab s p).gapPh
  if (g = 1 ∨ g = 2 ∨ g = 3) ∧ (cab s p).gapCol = lcol then
    let k := cid p (gapPos s p) row
    setCell s k (ramWrite (cell s k) a w)
  else s

/-- The executed part of a cycle: RAM read, operation, results, pointers (R38, R66, R70). An operation to which the
spec gives no result (NOP, CLRA, CLRF) writes no RAM and does not move AG1 even where DST.MEM is 1 (DESIGN CHOICE,
entry 171). -/
def cellExec (s : State) (r : CellRef) (lcol : Nat) (live : Bool) (t : Nat) (pin : Nat → Word) : State :=
  let k := cid r.p r.pcol r.row
  let c0 := cell s k
  let ins := c0.cur.w0
  let kc := wbits c0.cur.w2 32 32
  let isLut := insOP ins = 0x37
  let a0 := operand c0 t pin 0 (insSA ins)
  let rd := insAG0RD ins || isLut
  let addr := if isLut then lutAddr (ag0Cfg c0) ins a0 else c0.ag0
  let m := if rd then ramRead s r.p r.pcol r.row addr 1 r.ramErr else (s, ⟨0, false⟩)
  let s1 := m.1
  let c1 := cell s1 k
  let opnd (sel : Nat) : Word := operand c0 t pin m.2.w sel
  let o := opExec ins kc (opnd (insSA ins)) (opnd (insSB ins)) (opnd (insSC ins)) m.2.w t c1
  let v := o.res.getD 0
  let dst := if o.res.isSome then insDST ins else 0
  let c2 := { o.c with
    y := if dst.testBit 0 then o.c.y.put t t v else o.c.y
    f := if dst.testBit 1 then o.c.f.put t t v else o.c.f
    ag0 := if insAG0RD ins && insAG0PM ins then agNext (ag0Cfg c0) c0.ag0 (insAG0OS ins) else c0.ag0 }
  if dst.testBit 2 then
    let c3 := { ramWrite c2 c0.ag1 v with
      ag1 := if insAG1PM ins then agNext (ag1Cfg c0) c0.ag1 (insAG1OS ins) else c0.ag1 }
    let s2 := setCell s1 k c3
    if live then mirrorWrite s2 r.p lcol r.row c0.ag1 v else s2
  else setCell s1 k c2

/-- Loads the pass outputs at the end of a cycle, issue cycle or not (R90). -/
def cellPass (c : Cell) (x : Ctx) (t : Nat) (src : Nat → Word × Bool) : Cell :=
  [0, 1, 2, 3, 4, 5, 6, 7].foldl (fun c d =>
    let b := outSel x d
    if 1 ≤ b ∧ b ≤ 8 then
      { c with outs := smSet {} d ((smGet ({} : OutReg) c.outs d).put t (src b).1 (src b).2) c.outs }
    else c) c

/-- One cycle `t` of a user slot in a cell whose drawer runs: the door word it takes (R102), issue
and condition (R34, R35), the operation, pass outputs, the outbound door word, pins, PH (R36). -/
def cellRun (s : State) (r : CellRef) (lcol : Nat) (live : Bool) (t : Nat) : State :=
  let k := cid r.p r.pcol r.row
  let c0 := cell s k
  let x := c0.cur
  let ins := x.w0
  let fin := cellFifoIn s r.p lcol r.row
  let rv := fin.elim false (fun e => fifoRValid (fifo s e.2))
  let fsrc := fin.elim 0 (fun e => e.1)
  let valid (b : Nat) : Bool := if b != 0 && b = fsrc then rv else (srcWire s r.p r.pcol lcol r.row b t).2
  let issue := !insVGATE ins || [0, 1, 2, 3].all (fun n => !readsPort ins n || valid (inSel x n))
  let exec := issue && condTrue ins c0
  let takes := (exec && [0, 1, 2, 3].any (fun n => readsPort ins n && inSel x n = fsrc)) ||
    [0, 1, 2, 3, 4, 5, 6, 7].any (fun d => outSel x d = fsrc)
  let pop := rv && takes && fsrc != 0
  let got : State × Word :=
    match fin with
    | none => (s, 0)
    | some e =>
      if !pop then (s, 0)
      else if live then
        let q := fifoRead s e.2 r.inErr
        (q.1, match q.2 with | some w => (if w.pois then 0 else w.w) | none => 0)
      else (s, match fifoHead s e.2 with | some h => (if h.2.2.1.poison then 0 else eccData h.1) | none => 0)
  let src (b : Nat) : Word × Bool :=
    if b != 0 && b = fsrc then (got.2, pop) else srcWire s r.p r.pcol lcol r.row b t
  let y := c0.y.see t
  let s1 := if live then cellPins (cellDoorOut got.1 r.p lcol r.row k t) r.p lcol r.row y else got.1
  let s2 := if exec then cellExec s1 r lcol live t (fun n => (src (inSel x n)).1) else s1
  let c2 := cellPass (cell s2 k) x t src
  setCell s2 k { c2 with
    ph := if issue then (if c0.ph = insPLEN ins then 0 else (c0.ph + 1) % 512) else c0.ph
    t := t + 1 }

/-- The cycle of a cell that an opcode command names: the cell's next cycle of the slot that runs,
in which its drawer issues the opcode `op`. A cell in its hold drawer, outside a user slot, or under
a drawer with another opcode issues nothing of this command (R83, R85). -/
def cellCycle (op : Nat) (r : CellRef) (s : State) : State :=
  match lcolOf s r.p r.pcol with
  | none => s
  | some lcol =>
    let cb := cab s r.p
    let k := cid r.p r.pcol r.row
    let c0 := cell s k
    let t := max c0.t cb.slotStart
    if !cabRuns s r.p || cb.slot.isNone || cb.slotStart + cb.slotLen ≤ t || !c0.cur.runs || insOP c0.cur.w0 != op then s
    else
      let live := r.pcol != gapPos s r.p
      let l := landDue (t - 1) c0
      cellRun (scaleCount (setCell (advanceTo s t) k l.1) r.p live l.2) r lcol live t

/-- The first ACLK cycle that a cell has not been through: its own next cycle while it runs a slot, else the
cycle after the present one. A result due in cycle t is written at the end of that cycle (R55), so it may land
once this is past t. -/
def cellClock (s : State) (k : Nat) : Nat :=
  let c := cell s k
  let cb := cab s (k / 136)
  if cb.slot.isSome && c.cur.runs && max c.t cb.slotStart < cb.slotStart + cb.slotLen then max c.t cb.slotStart
  else max c.t (s.time.now + 1)

/-- Lands the oldest result in flight of a kind in a cell whose cycle has come (R55, R57). -/
def cellLand (j : JobKind) (p pcol row : Nat) (s : State) : State :=
  let k := cid p pcol row
  let l := landFirst j (cellClock s k) (cell s k)
  scaleCount (setCell s k l.1) p (pcol != gapPos s p) l.2

/-! ### Meanings of the opcode rows -/

/-- The cell named by an opcode command exists. -/
def cellRefOk (r : CellRef) : Bool := r.p < 100 && r.pcol < 17 && r.row < 8
/-- A cell named by place exists. -/
def cellOk (p pcol row : Nat) : Bool := p < 100 && pcol < 17 && row < 8
/-- NOP (R38, opcode 0x00). -/
def execNop (r : CellRef) (s : State) : Host.Outcome State Fault Refusal :=
  run (cellRefOk r) (cellCycle 0x00 r s)

/-- MOV (R38, opcode 0x01). -/
def execMov (r : CellRef) (s : State) : Host.Outcome State Fault Refusal :=
  run (cellRefOk r) (cellCycle 0x01 r s)

/-- AND (R38, opcode 0x02). -/
def execAnd (r : CellRef) (s : State) : Host.Outcome State Fault Refusal :=
  run (cellRefOk r) (cellCycle 0x02 r s)

/-- OR (R38, opcode 0x03). -/
def execOr (r : CellRef) (s : State) : Host.Outcome State Fault Refusal :=
  run (cellRefOk r) (cellCycle 0x03 r s)

/-- XOR (R38, opcode 0x04). -/
def execXor (r : CellRef) (s : State) : Host.Outcome State Fault Refusal :=
  run (cellRefOk r) (cellCycle 0x04 r s)

/-- ANDN (R38, opcode 0x05). -/
def execAndn (r : CellRef) (s : State) : Host.Outcome State Fault Refusal :=
  run (cellRefOk r) (cellCycle 0x05 r s)

/-- SHL (R38, opcode 0x06). -/
def execShl (r : CellRef) (s : State) : Host.Outcome State Fault Refusal :=
  run (cellRefOk r) (cellCycle 0x06 r s)

/-- SHR (R38, opcode 0x07). -/
def execShr (r : CellRef) (s : State) : Host.Outcome State Fault Refusal :=
  run (cellRefOk r) (cellCycle 0x07 r s)

/-- SHUF (R38, opcode 0x08). -/
def execShuf (r : CellRef) (s : State) : Host.Outcome State Fault Refusal :=
  run (cellRefOk r) (cellCycle 0x08 r s)

/-- SEL (R38, opcode 0x09). -/
def execSel (r : CellRef) (s : State) : Host.Outcome State Fault Refusal :=
  run (cellRefOk r) (cellCycle 0x09 r s)

/-- ADD (R38, opcode 0x10). -/
def execAdd (r : CellRef) (s : State) : Host.Outcome State Fault Refusal :=
  run (cellRefOk r) (cellCycle 0x10 r s)

/-- SUB (R38, opcode 0x11). -/
def execSub (r : CellRef) (s : State) : Host.Outcome State Fault Refusal :=
  run (cellRefOk r) (cellCycle 0x11 r s)

/-- NEG (R38, opcode 0x12). -/
def execNeg (r : CellRef) (s : State) : Host.Outcome State Fault Refusal :=
  run (cellRefOk r) (cellCycle 0x12 r s)

/-- ABS (R38, opcode 0x13). -/
def execAbs (r : CellRef) (s : State) : Host.Outcome State Fault Refusal :=
  run (cellRefOk r) (cellCycle 0x13 r s)

/-- MAX (R38, opcode 0x14). -/
def execMax (r : CellRef) (s : State) : Host.Outcome State Fault Refusal :=
  run (cellRefOk r) (cellCycle 0x14 r s)

/-- MIN (R38, opcode 0x15). -/
def execMin (r : CellRef) (s : State) : Host.Outcome State Fault Refusal :=
  run (cellRefOk r) (cellCycle 0x15 r s)

/-- CMPGT (R38, opcode 0x16). -/
def execCmpgt (r : CellRef) (s : State) : Host.Outcome State Fault Refusal :=
  run (cellRefOk r) (cellCycle 0x16 r s)

/-- CMPEQ (R38, opcode 0x17). -/
def execCmpeq (r : CellRef) (s : State) : Host.Outcome State Fault Refusal :=
  run (cellRefOk r) (cellCycle 0x17 r s)

/-- MUL (R38, opcode 0x18). -/
def execMul (r : CellRef) (s : State) : Host.Outcome State Fault Refusal :=
  run (cellRefOk r) (cellCycle 0x18 r s)

/-- MAC4 (R38, opcode 0x20). -/
def execMac4 (r : CellRef) (s : State) : Host.Outcome State Fault Refusal :=
  run (cellRefOk r) (cellCycle 0x20 r s)

/-- MSU4 (R38, opcode 0x21). -/
def execMsu4 (r : CellRef) (s : State) : Host.Outcome State Fault Refusal :=
  run (cellRefOk r) (cellCycle 0x21 r s)

/-- DOT4 (R38, opcode 0x22). -/
def execDot4 (r : CellRef) (s : State) : Host.Outcome State Fault Refusal :=
  run (cellRefOk r) (cellCycle 0x22 r s)

/-- MAC32 (R38, opcode 0x23). -/
def execMac32 (r : CellRef) (s : State) : Host.Outcome State Fault Refusal :=
  run (cellRefOk r) (cellCycle 0x23 r s)

/-- CMAC (R38, opcode 0x24). -/
def execCmac (r : CellRef) (s : State) : Host.Outcome State Fault Refusal :=
  run (cellRefOk r) (cellCycle 0x24 r s)

/-- CMACJ (R38, opcode 0x25). -/
def execCmacj (r : CellRef) (s : State) : Host.Outcome State Fault Refusal :=
  run (cellRefOk r) (cellCycle 0x25 r s)

/-- CLRA (R38, opcode 0x26). -/
def execClra (r : CellRef) (s : State) : Host.Outcome State Fault Refusal :=
  run (cellRefOk r) (cellCycle 0x26 r s)

/-- CLRF (R38, opcode 0x27). -/
def execClrf (r : CellRef) (s : State) : Host.Outcome State Fault Refusal :=
  run (cellRefOk r) (cellCycle 0x27 r s)

/-- EXTRACT (R38, opcode 0x28). -/
def execExtract (r : CellRef) (s : State) : Host.Outcome State Fault Refusal :=
  run (cellRefOk r) (cellCycle 0x28 r s)

/-- NORM (R38, opcode 0x30). -/
def execNorm (r : CellRef) (s : State) : Host.Outcome State Fault Refusal :=
  run (cellRefOk r) (cellCycle 0x30 r s)

/-- EXP (R38, opcode 0x31). -/
def execExp (r : CellRef) (s : State) : Host.Outcome State Fault Refusal :=
  run (cellRefOk r) (cellCycle 0x31 r s)

/-- BEXP (R38, opcode 0x32). -/
def execBexp (r : CellRef) (s : State) : Host.Outcome State Fault Refusal :=
  run (cellRefOk r) (cellCycle 0x32 r s)

/-- BNORM (R38, opcode 0x33). -/
def execBnorm (r : CellRef) (s : State) : Host.Outcome State Fault Refusal :=
  run (cellRefOk r) (cellCycle 0x33 r s)

/-- MIN2 (R38, opcode 0x34). -/
def execMin2 (r : CellRef) (s : State) : Host.Outcome State Fault Refusal :=
  run (cellRefOk r) (cellCycle 0x34 r s)

/-- MSEL (R38, opcode 0x35). -/
def execMsel (r : CellRef) (s : State) : Host.Outcome State Fault Refusal :=
  run (cellRefOk r) (cellCycle 0x35 r s)

/-- CROT (R38, opcode 0x36). -/
def execCrot (r : CellRef) (s : State) : Host.Outcome State Fault Refusal :=
  run (cellRefOk r) (cellCycle 0x36 r s)

/-- LUT (R38, opcode 0x37). -/
def execLut (r : CellRef) (s : State) : Host.Outcome State Fault Refusal :=
  run (cellRefOk r) (cellCycle 0x37 r s)

/-- MUL_RESULT_LANDING (R55). -/
def execMulResultLanding (p pcol row : Nat) (s : State) : Host.Outcome State Fault Refusal :=
  run (cellOk p pcol row) (cellLand .mul p pcol row s)

/-- MAC_ADD_STAGE (R47). -/
def execMacAddStage (p pcol row : Nat) (s : State) : Host.Outcome State Fault Refusal :=
  run (cellOk p pcol row) (cellLand .mac p pcol row s)

/-- XL_EXTRACTION (R54). -/
def execXlExtraction (p pcol row : Nat) (s : State) : Host.Outcome State Fault Refusal :=
  run (cellOk p pcol row) (cellLand .xl p pcol row s)

/-! ### RAM rows -/

/-- The oldest corrected word waiting for the write port is written back (R75). -/
def ramWriteBack (p pcol row : Nat) (s : State) : State :=
  let k := cid p pcol row
  match (cell s k).wb with
  | [] => s
  | (a, w) :: r => setCell s k (ramPutCode { cell s k with wb := r } a (eccEnc w))

/-- RAM_WRITE_BACK (R75). -/
def execRamWriteBack (p pcol row : Nat) (s : State) : Host.Outcome State Fault Refusal :=
  run (cellOk p pcol row) (ramWriteBack p pcol row s)

/-- Whether patrol runs in a cell (R77): by the cabinet's state, and in a gap column only while it
holds a shadow copy. -/
def patrolRuns (s : State) (p pcol : Nat) : Bool :=
  let st := cabState s p
  (st = stHELD || st = stRUNNING || st = stDRAINING || st = stFAULTED) &&
    (pcol != gapPos s p || (cab s p).gapPh = 2 || (cab s p).gapPh = 3)

/-- One patrol read a tick: the next address of the cell, checked as any read (R77). -/
def ramPatrol (p pcol row : Nat) (err : Code) (s : State) : State :=
  let k := cid p pcol row
  let c := cell s k
  if patrolRuns s p pcol && c.patTick != s.time.edges + 1 then
    let a := c.pat
    let s1 := setCell s k { c with pat := (a + 1) % 512, patTick := s.time.edges + 1 }
    (ramRead s1 p pcol row a 4 err).1
  else s

/-- RAM_PATROL_READ (R77). -/
def execRamPatrolRead (p pcol row : Nat) (err : Code) (s : State) : Host.Outcome State Fault Refusal :=
  run (cellOk p pcol row) (ramPatrol p pcol row err s)

/-- A configuration-port access to cell RAM in a cycle that leaves the port free (R74): a write
stores the word, in the shadow of a live cell too (R427), a read delivers it to the port. -/
def cfgPortRam (p pcol row a : Nat) (wr : Bool) (w : Word) (err : Code) (s : State) : State :=
  let k := cid p pcol row
  if wr then
    let s1 := setCell s k (ramWrite (cell s k) a w)
    if pcol = gapPos s p then s1 else (lcolOf s p pcol).elim s1 (fun lcol => mirrorWrite s1 p lcol row a w)
  else
    let q := ramRead s p pcol row a 1 err
    { q.1 with bus := { q.1.bus with data := q.2.w, status := if q.2.ue then 1 else 0 } }

/-- CONFIG_PORT_RAM_ACCESS (R74). -/
def execConfigPortRamAccess (p pcol row a : Nat) (wr : Bool) (w : Word) (err : Code) (s : State) :
    Host.Outcome State Fault Refusal :=
  run (cellOk p pcol row) (cfgPortRam p pcol row (a % 512) wr w err s)

/-- SCALE_SUB_WRITE (R52). -/
def execScaleSubWrite (p amount : Nat) (s : State) : Host.Outcome State Fault Refusal :=
  reach (p < 100) s (fsub s CAB_SCALE_EVENTS_COUNT p (amount % 2 ^ 32))

/-- RAM_CE_SUB_WRITE (R80). -/
def execRamCeSubWrite (p amount : Nat) (s : State) : Host.Outcome State Fault Refusal :=
  reach (p < 100) s (fsub s CAB_RAM_CE_COUNT p (amount % 2 ^ 32))

/-- Clears the first-error record of a cabinet's RAM and arms it (R80). -/
def ramLastClear (s : State) (p : Nat) : State :=
  fset (fset (fset (fset (fset (fset s CAB_RAM_LAST_VALID p 0) CAB_RAM_LAST_UE p 0)
    CAB_RAM_LAST_SYNDROME p 0) CAB_RAM_LAST_PCOL p 0) CAB_RAM_LAST_ROW p 0) CAB_RAM_LAST_ADDR p 0

/-- RAM_LAST_CLEAR (R80). -/
def execRamLastClear (p : Nat) (s : State) : Host.Outcome State Fault Refusal :=
  reach (p < 100) s (ramLastClear s p)

end Machine
end Sys2Proof
end

