-- ==== Sys2Proof/Machine/Jesd.lean ====
section
/-!
DEFINITION. Converter ports (chapter 07): the link state table (R174, R181, R186, R190), SYSREF
(R183), receive samples into words and items (R176, R177, R180, R182, R189), transmit words out to
samples (R178, R180, R182), and what a tick edge does to a port block (R184).
-/

namespace Sys2Proof
namespace Machine

/-- The fault source of block `j` (R116). -/
def jptSrc (j : Nat) : Nat := 36 + j / 2

/-- Link states (JPT_LINK_STAT.STATE). -/
def jOFF : Nat := 0
/-- CDR. -/
def jCDR : Nat := 1
/-- BLOCK. -/
def jBLOCK : Nat := 2
/-- FRAME. -/
def jFRAME : Nat := 3
/-- WAIT_REL. -/
def jWAIT : Nat := 4
/-- DATA. -/
def jDATA : Nat := 5
/-- FAULTED. -/
def jFAULTED : Nat := 6
/-- FAILED. -/
def jFAILED : Nat := 7

/-- The state of link instance `i` = 4j + n. -/
def jState (s : State) (i : Nat) : Nat := fget s JPT_LINK_STAT_STATE i

/-- A path of a port block. -/
def jptPath (s : State) (i : Nat) : JptPath := smGet {} s.jpt.path i

/-- Writes a path. -/
def setJptPath (s : State) (i : Nat) (p : JptPath) : State :=
  { s with jpt := { s.jpt with path := smSet {} i p s.jpt.path } }

/-- The link instance of path instance `4j + q`: receive paths q 0-1 use links 0-1, transmit paths
2-3 use links 2-3 (R190). -/
def pathLink (s : State) (j q : Nat) : Nat :=
  4 * j + (if q < 2 then 0 else 2) + fget s JPT_PATH_CFG_LINK (4 * j + q)

/-- The paths of block `j` in use on link `n`. -/
def linkPaths (s : State) (j n : Nat) : List Nat :=
  [0, 1, 2, 3].filter (fun q => fgetB s JPT_PATH_CFG_EN (4 * j + q) && pathLink s j q = 4 * j + n)

/-- The channels of path `q` of a block, receive or transmit: 2p and 2p + 1 (R173). -/
def pathChans (q : Nat) : List Nat := [2 * (q % 2), 2 * (q % 2) + 1]

/-- The FIFO of channel `k` of path `q`. -/
def pathFifo (j q k : Nat) : Nat := convFifo j (if q < 2 then k else 4 + k)

/-- The lane rate of a link stays within R174's range for every path it carries (R175): M · N' · f_c · c / L with
f_c = SPT · f_ACLK / TICK_LEN. A link that no path uses has no rate to check. -/
def jptRateOk (s : State) (j n : Nat) : Bool :=
  let i := 4 * j + n
  let b8 := fgetB s JPT_LINK_CFG_ENC i
  (linkPaths s j n).all (fun q =>
    let a := fget s JPT_LINK_CFG_M i * (fget s JPT_LINK_CFG_NP i + 1) * fget s JPT_PATH_CFG_SPT (4 * j + q) * Config.aclkKHz *
      (if b8 then 80 else 66)
    let b := tickLen s * fget s JPT_LINK_CFG_L i * 64
    (if b8 then 3000000 else 6000000) * b ≤ a && a ≤ (if b8 then 12500000 else 32500000) * b)

/-- The options of R174, read from JPT_LINK_CFG of link `n` of block `j`. -/
def jptOptionsOk (s : State) (j n : Nat) : Bool :=
  let i := 4 * j + n
  let l := fget s JPT_LINK_CFG_L i
  let m := fget s JPT_LINK_CFG_M i
  let np := fget s JPT_LINK_CFG_NP i + 1
  let nn := fget s JPT_LINK_CFG_N i
  let cs := fget s JPT_LINK_CFG_CS i
  let f := fget s JPT_LINK_CFG_FM1 i + 1
  let k := fget s JPT_LINK_CFG_KEM1 i + 1
  let other := 4 * j + (if n % 2 = 0 then n + 1 else n - 1)
  (l = 1 || l = 2 || l = 4 || (l = 8 && n % 2 = 0 && jState s other = jOFF)) &&
  !(fget s JPT_LINK_CFG_L other = 8 && jState s other != jOFF) &&
  1 ≤ m && m ≤ 8 && (np = 12 || np = 16) && cs ≤ 2 && 8 ≤ nn && nn + cs ≤ np &&
  (8 * f * l) % (m * np) = 0 && k ≤ 32 && (!fgetB s JPT_LINK_CFG_ENC i || 20 ≤ f * k) && jptRateOk s j n

/-- No path of the link runs a FIFO in TICK mode whose channel carries more than 512 words a tick
(R181). -/
def jptFifoModeOk (s : State) (j n : Nat) : Bool :=
  (linkPaths s j n).all (fun q =>
    fget s JPT_PATH_CFG_SPT (4 * j + q) / 4 ≤ 512 ||
      (pathChans q).all (fun k => fget s FIFO_MODE_SWAP (pathFifo j q k) = 0))

/-- The configuration fields of JPT_LINK_CFG beside EN, RETRAIN and REFUSED. -/
def jptCfgFlds : List Fld :=
  [JPT_LINK_CFG_ENC, JPT_LINK_CFG_SUB1, JPT_LINK_CFG_SCR, JPT_LINK_CFG_LMAP, JPT_LINK_CFG_L, JPT_LINK_CFG_M,
   JPT_LINK_CFG_NP, JPT_LINK_CFG_N, JPT_LINK_CFG_CS, JPT_LINK_CFG_FM1, JPT_LINK_CFG_KEM1]

/-- A field's bits in a written value. -/
def fldOf (f : Fld) (v : Nat) : Nat := v / 2 ^ f.lo % 2 ^ f.width

/-- Stores the listed fields of a written value. -/
def fstore (s : State) (l : List Fld) (i v : Nat) : State := l.foldl (fun s f => fset s f i (fldOf f v)) s

/-- Whether the listed fields of a written value equal the present ones. -/
def fsame (s : State) (l : List Fld) (i v : Nat) : Bool := l.all (fun f => fget s f i = fldOf f v)

/-- The physical lanes of a link's logical lanes, first to last (R172, R190): LMAP names them, within lanes 4 to 7 for the
second link of a direction and within lanes 0 to 3 for the first while both are in use (DESIGN CHOICE, entry 166). -/
def linkLanes (s : State) (j n : Nat) : List Nat :=
  let i := 4 * j + n
  let other := 4 * j + (if n % 2 = 0 then n + 1 else n - 1)
  (List.range (fget s JPT_LINK_CFG_L i)).map (fun a =>
    let v := fget s JPT_LINK_CFG_LMAP i / 8 ^ a % 8
    if n % 2 = 1 then 4 + v % 4
    else if fget s JPT_LINK_CFG_L i ≤ 4 && fget s JPT_LINK_STAT_STATE other != 0 then v % 4
    else v)

/-- Open receive items of a link's paths are padded, what is held back is dropped, and nothing more is written (R182,
R186). -/
def jptPadLink (s : State) (j n : Nat) : State :=
  if n < 2 then
    (linkPaths s j n).foldl (fun s q => (pathChans q).foldl (fun s k =>
      let f := convFifo j k
      setJptCh (fifoPut s f (padOpen (fifo s f))) (4 * j + k) { jptCh s (4 * j + k) with buf := [], pos := 0, ovr := false, wr := false, arm := false, cut := false }) s) s
  else s

/-- A state in which no lane is in frame lock: lock is reached on leaving FRAME, and a FAILED link has given it up
(DESIGN CHOICE, entry 167). -/
def jUnlocked (st : Nat) : Bool := st ≤ jFRAME || st = jFAILED

/-- The link enters a state; REASON is written with it, the lanes' locks go where the state has none (R190), and a LINK
event tells it (R371). -/
def jptGo (s : State) (i st reason : Nat) : State :=
  let s1 := fset (fset s JPT_LINK_STAT_STATE i st) JPT_LINK_STAT_REASON i reason
  let s2 := if jUnlocked st then fset s1 JPT_LINK_STAT_LOCK i 0 else s1
  let begins := st = jCDR || (st = jBLOCK && jState s i = jDATA)
  let s2 := if begins then { s2 with jpt := { s2.jpt with bringAt := smSet 0 i s2.time.now s2.jpt.bringAt } } else s2
  if jState s i = st then s2 else event s2 7 0 (4 + i * 256 + st * 2 ^ 24) reason

/-- A link goes OFF (R186): items padded, locks gone. -/
def jptOff (s : State) (j n : Nat) : State :=
  let i := 4 * j + n
  let s1 := fset (jptGo (jptPadLink s j n) i jOFF 0) FLT_UNIT_FAULTED (unitIx 4 i) 0
  fset s1 JPT_LINK_CFG_EN i 0

/-- A write of JPT_LINK_CFG of link `n` of block `j` (R186, R190). -/
def jptLinkWrite (s0 : State) (j n v : Nat) : State :=
  let i := 4 * j + n
  let s := if fldOf JPT_LINK_CFG_REFUSED v = 1 then fset s0 JPT_LINK_CFG_REFUSED i 0 else s0
  if jState s i = jOFF then
    let s1 := fstore s jptCfgFlds i v
    if fldOf JPT_LINK_CFG_EN v = 1 then
      if jptOptionsOk s1 j n && jptFifoModeOk s1 j n then jptGo (fset s1 JPT_LINK_CFG_EN i 1) i jCDR 0
      else fset s1 JPT_LINK_CFG_REFUSED i 1
    else s1
  else if fsame s jptCfgFlds i v then
    if fldOf JPT_LINK_CFG_EN v = 0 then jptOff s j n
    else if fldOf JPT_LINK_CFG_RETRAIN v = 1 ∧ jState s i = jFAILED then jptGo s i jCDR 0
    else s
  else fset s JPT_LINK_CFG_REFUSED i 1

/-- JPT_PATH_CFG fields. -/
def jptPathFlds : List Fld :=
  [JPT_PATH_CFG_EN, JPT_PATH_CFG_DEST, JPT_PATH_CFG_LINK, JPT_PATH_CFG_QEN, JPT_PATH_CFG_RND, JPT_PATH_CFG_CI,
   JPT_PATH_CFG_CQ, JPT_PATH_CFG_PRIO, JPT_PATH_CFG_ILENM1, JPT_PATH_CFG_SPT, JPT_PATH_CFG_TX_DELAY]

/-- A write of JPT_PATH_CFG of path `q`: only while the path's link is OFF, present and new (R190). -/
def jptPathWrite (s : State) (j q v : Nat) : State :=
  let i := 4 * j + q
  let s1 := fstore s jptPathFlds i v
  let l0 := pathLink s j q
  if jState s l0 = jOFF ∧ jState s (pathLink s1 j q) = jOFF then s1
  else fset s JPT_LINK_CFG_REFUSED (if jState s l0 = jOFF then pathLink s1 j q else l0) 1

/-! ### Link events (R186) -/

/-- A block and a link of it exist. -/
def jnOk (j n : Nat) : Bool := j < 8 && n < 4

/-- JESD_LINK_ENABLE (R186): JPT_LINK_CFG is written with EN = 1. -/
def execJesdLinkEnable (j n v : Nat) (s : State) : Host.Outcome State Fault Refusal :=
  reach (jnOk j n) s (jptLinkWrite s j n (v % 2 ^ 63 + 2 ^ 63))

/-- JESD_LINK_DISABLE (R186): JPT_LINK_CFG is written with EN = 0. -/
def execJesdLinkDisable (j n v : Nat) (s : State) : Host.Outcome State Fault Refusal :=
  reach (jnOk j n) s (jptLinkWrite s j n (v % 2 ^ 63))

/-- JESD_RETRAIN (R186): RETRAIN is written with the other fields as they stand. -/
def execJesdRetrain (j n : Nat) (s : State) : Host.Outcome State Fault Refusal :=
  reach (jnOk j n) s (if jState s (4 * j + n) = jFAILED then jptGo s (4 * j + n) jCDR 0 else s)

/-- JESD_CDR_LOCK (R186). -/
def execJesdCdrLock (j n : Nat) (s : State) : Host.Outcome State Fault Refusal :=
  run (jnOk j n) (if jState s (4 * j + n) = jCDR then jptGo s (4 * j + n) jBLOCK 0 else s)

/-- JESD_BLOCK_LOCK (R186). -/
def execJesdBlockLock (j n : Nat) (s : State) : Host.Outcome State Fault Refusal :=
  run (jnOk j n) (if jState s (4 * j + n) = jBLOCK then jptGo s (4 * j + n) jFRAME 0 else s)

/-- The parameters that an ILAS carries, as fields of JPT_LINK_CFG. -/
def ilasFlds : List Fld :=
  [JPT_LINK_CFG_SUB1, JPT_LINK_CFG_SCR, JPT_LINK_CFG_L, JPT_LINK_CFG_M, JPT_LINK_CFG_NP, JPT_LINK_CFG_N, JPT_LINK_CFG_CS,
   JPT_LINK_CFG_FM1, JPT_LINK_CFG_KEM1]

/-- Frame lock of link `i` (R185, R186): WAIT_REL, or FAILED with REASON PARAM where the ILAS received, given in the layout
of JPT_LINK_CFG, differs, or SKEW where the lanes' skew in blocks or frames exceeds 128 less RBD. A transmit link
receives neither. -/
def jptFrameLock (s : State) (i : Nat) (ilas : Option Nat) (skew : Nat) : State :=
  let rx := i % 4 < 2
  if jState s i = jFRAME then
    if rx && fgetB s JPT_LINK_CFG_ENC i && ilas.any (fun v => !fsame s ilasFlds i v) then jptGo s i jFAILED 5
    else if rx && 128 < skew + fget s JPT_LINK_REL_RBD i then jptGo s i jFAILED 6
    else fset (jptGo s i jWAIT 0) JPT_LINK_STAT_LOCK i (2 ^ fget s JPT_LINK_CFG_L i - 1)
  else s

/-- JESD_FRAME_LOCK (R186). -/
def execJesdFrameLock (j n : Nat) (ilas : Option Nat) (skew : Nat) (s : State) : Host.Outcome State Fault Refusal :=
  run (jnOk j n) (jptFrameLock s (4 * j + n) ilas skew)

/-- Path `q` starts afresh as its link is released (R182, R186): items start at the next tick edge, before which nothing
is written, on a ring path and on a border-channel path with open doors. -/
def pathStart (j : Nat) (s : State) (q : Nat) : State :=
  let s1 := setJptPath s (4 * j + q) { jptPath s (4 * j + q) with cnt := 0, live := false, hold := [] }
  if q < 2 then
    (pathChans q).foldl (fun t k =>
      setJptCh t (4 * j + k) { jptCh t (4 * j + k) with
        pos := 0, wr := false, arm := fgetB s JPT_PATH_CFG_DEST (4 * j + q) || doorsOpen s (blockCab j) }) s1
  else s1

/-- The release point (R185): subclass 1 waits for ALIGNED; a receive link latches LAT, and items
start at the next tick edge. -/
def jptRelease (s : State) (j n lat : Nat) : State :=
  let i := 4 * j + n
  if jState s i = jWAIT ∧ (fget s JPT_LINK_CFG_SUB1 i = 0 ∨ fgetB s JPT_SYSREF_ALIGNED j) then
    let s1 := jptGo s i jDATA 0
    (linkPaths s1 j n).foldl (pathStart j) (if n < 2 then fset s1 JPT_LINK_STAT_LAT i lat else s1)
  else s

/-- JESD_RELEASE (R185); `lat` is the latency measured. -/
def execJesdRelease (j n lat : Nat) (s : State) : Host.Outcome State Fault Refusal :=
  run (jnOk j n) (jptRelease s j n lat)

/-- BRINGUP_TO has elapsed since the link's bring-up began (R186). -/
def bringOut (s : State) (i : Nat) : Bool := passedMs s (smGet 0 s.jpt.bringAt i) (fget s JPT_LINK_REL_BRINGUP_TO i)

/-- JESD_BRINGUP_TIMEOUT (R186): REASON names the state. -/
def execJesdBringupTimeout (j n : Nat) (s : State) : Host.Outcome State Fault Refusal :=
  run (jnOk j n)
    (if bringOut s (4 * j + n) ∧ 1 ≤ jState s (4 * j + n) ∧ jState s (4 * j + n) ≤ 4 then jptGo s (4 * j + n) jFAILED (jState s (4 * j + n)) else s)

/-- A count of error field `f` on receive lane `l` of block `j` (R189): the first count after a clear of the lane's
register raises a C-class record. -/
def laneCount (s : State) (j l : Nat) (f : Fld) : State :=
  let i := 8 * j + l
  let first := fget s JPT_LANE_ERR_HDR i = 0 && fget s JPT_LANE_ERR_CRC i = 0 && fget s JPT_LANE_ERR_LOCK_LOSS i = 0
  let s1 := finc s f i
  if first then raise s1 { src := jptSrc j, cls := clsC, code := 13, addr := i, access := 7 } else s1

/-- Physical lane `lane` of a link loses lock (R186, R189): LOCK_LOSS counts on a receive lane and its LOCK bit clears; a
link in DATA goes FAULTED, pads its items, counts LINK_DROP and raises a U-class record with the link as unit. A lane
that the link does not use loses nothing. -/
def jptLockLoss (s : State) (j n lane : Nat) : State :=
  let i := 4 * j + n
  match (linkLanes s j n).idxOf? lane with
  | none => s
  | some a =>
    let s0 := fset s JPT_LINK_STAT_LOCK i (fget s JPT_LINK_STAT_LOCK i &&& (255 - 2 ^ a))
    let s1 := if n < 2 then laneCount s0 j lane JPT_LANE_ERR_LOCK_LOSS else s0
    if jState s i = jDATA then
      let s2 := (linkPaths s1 j n).foldl (fun s q => finc s JPT_PATH_ERR_LINK_DROP (4 * j + q)) (jptPadLink s1 j n)
      raise (unitFault (jptGo s2 i jFAULTED 0) 4 i)
        { src := jptSrc j, cls := clsU, code := 10, addr := i, access := 7, ukind := 4, uid := i }
    else s1

/-- JESD_LOCK_LOSS (R186). -/
def execJesdLockLoss (j n lane : Nat) (s : State) : Host.Outcome State Fault Refusal :=
  run (jnOk j n && lane < 8) (jptLockLoss s j n lane)

/-! ### SYSREF (R183) -/

/-- A write of JPT_SYSREF.ARM. -/
def jptArm (s : State) (j : Nat) : State :=
  let s1 := fset s JPT_SYSREF_ALIGNED j 0
  let s2 := { s1 with jpt := { s1.jpt with armed := smSet false j true s1.jpt.armed } }
  [0, 1, 2, 3].foldl (fun s n => if jState s (4 * j + n) = jDATA then jptGo s (4 * j + n) jBLOCK 0 else s) s2

/-- SYSREF_ARM (R183). -/
def execSysrefArm (j : Nat) (s : State) : Host.Outcome State Fault Refusal := reach (j < 8) s (jptArm s j)

/-- The signed distance of device clock cycle `cyc` from the nearest boundary of the multiframe clock that the aligning
edge set: (its cycle, the period). Positive is late. -/
def sysrefErr (x : Nat × Nat) (cyc : Nat) : Int :=
  let p : Int := max 1 x.2
  let d := ((cyc : Int) - x.1) % p
  if 2 * d ≤ p then d else d - p

/-- A SYSREF edge in device clock cycle `cyc` (R183): the first after an arm sets the phase of the block's multiframe
clocks, whose period `per` in device clock cycles the links' options give; a later one is compared with it. -/
def jptSysref (s : State) (j cyc per : Nat) : State :=
  if smGet false s.jpt.armed j then
    fset { s with jpt := { s.jpt with armed := smSet false j false s.jpt.armed,
                                      oddSeen := smSet false j false s.jpt.oddSeen,
                                      lmfc := smSet (0, 0) j (cyc, per) s.jpt.lmfc } } JPT_SYSREF_ALIGNED j 1
  else
    let err := sysrefErr (smGet (0, 0) s.jpt.lmfc j) cyc
    if !fgetB s JPT_SYSREF_ALIGNED j || err.natAbs ≤ fget s JPT_SYSREF_TOL j then s
    else
      let s1 := fset (fset (finc s JPT_SYSREF_ODD j) JPT_SYSREF_PHASE_ERR j (satSigned 8 err)) JPT_SYSREF_OUT_OF_PHASE j 1
      if smGet false s.jpt.oddSeen j then s1
      else
        raise { s1 with jpt := { s1.jpt with oddSeen := smSet false j true s1.jpt.oddSeen } }
          { src := jptSrc j, cls := clsC, code := 11, addr := j }

/-- SYSREF_EDGE (R183): the device clock cycle of the edge, and the period of the multiframe clocks in such cycles. -/
def execSysrefEdge (j : Nat) (at_ : Nat × Nat) (s : State) : Host.Outcome State Fault Refusal :=
  run (j < 8) (jptSysref s j at_.1 at_.2)

/-! ### Receive samples -/

/-- A sample field of N' bits as a 16-bit part: its top N bits at the top (R176). -/
def rxPart (s : State) (i v : Nat) : Nat :=
  let np := fget s JPT_LINK_CFG_NP i + 1
  let n := fget s JPT_LINK_CFG_N i
  (v % 2 ^ np / 2 ^ (np - n) * 2 ^ (16 - n)) % 65536

/-- One channel word of two samples, real part low (R177). -/
def rxWord (a b : Nat × Nat) : Word :=
  BitVec.ofNat 64 (a.1 + a.2 * 2 ^ 16 + b.1 * 2 ^ 32 + b.2 * 2 ^ 48)

/-- Writes a framed receive word into the FIFO of channel `k` of block `j`. -/
def rxToFifo (s : State) (j q k : Nat) (d : DWord) : State :=
  fifoWrite s (convFifo j k) (eccEnc d.w) d.st d.en (fget s JPT_PATH_CFG_ILENM1 (4 * j + q))
    (fget s JPT_PATH_CFG_PRIO (4 * j + q)) false (d.tick % 256)

/-- WREADY of the FIFO of channel `k` for a word. -/
def rxReady (s : State) (j q k : Nat) (d : DWord) : Bool :=
  fifoWReady (fifo s (convFifo j k)) d.st (fget s JPT_PATH_CFG_ILENM1 (4 * j + q))

/-- Drains what is held back as far as the FIFO takes it. -/
def rxDrain (j q k : Nat) : List DWord → State → State
  | [], s => setJptCh s (4 * j + k) { jptCh s (4 * j + k) with buf := [] }
  | d :: l, s =>
    if rxReady s j q k d then rxDrain j q k l (rxToFifo s j q k d)
    else setJptCh s (4 * j + k) { jptCh s (4 * j + k) with buf := d :: l }

/-- The held-back words before the item that is being framed; none of it when its start word is in
the FIFO already. -/
def rxKeep (l : List DWord) : List DWord :=
  match l.reverse.findIdx? (fun d => d.st) with
  | some n => l.take (l.length - 1 - n)
  | none => []

/-- A framed word at a channel whose door is open (R182): into the FIFO, held back, or discarded in
an overrun episode that lasts until a start word can be written. -/
def rxPush (s0 : State) (j q k : Nat) (d : DWord) : State :=
  let s := rxDrain j q k (jptCh s0 (4 * j + k)).buf s0
  let c := jptCh s (4 * j + k)
  if c.ovr then
    if d.st && c.buf.isEmpty && rxReady s j q k d then
      rxToFifo (setJptCh s (4 * j + k) { c with ovr := false }) j q k d
    else finc s JPT_PATH_ERR_OVERRUN (4 * j + q)
  else if c.buf.isEmpty && rxReady s j q k d then rxToFifo s j q k d
  else if c.buf.length < 64 then setJptCh s (4 * j + k) { c with buf := c.buf ++ [d] }
  else
    let keep := if d.st then c.buf else rxKeep c.buf
    let s1 := if d.st || keep.any (fun x => x.st) || c.buf.any (fun x => x.st) then s
      else fifoPut s (convFifo j k) (padOpen (fifo s (convFifo j k)))
    let s2 := fadd s1 JPT_PATH_ERR_OVERRUN (4 * j + q) (c.buf.length - keep.length + 1)
    raise (setJptCh s2 (4 * j + k) { c with buf := keep, ovr := true })
      { src := jptSrc j, cls := clsC, code := 12, addr := 4 * j + q, access := 7 }

/-- The doors before which path `q`'s words are discarded are closed (R181, R182); a ring path has none. -/
def pathShut (s : State) (j q : Nat) : Bool := !fgetB s JPT_PATH_CFG_DEST (4 * j + q) && !doorsOpen s (blockCab j)

/-- One word of channel `k`, framed from JPT_PATH_CFG (R180); before a closed door whole items are
counted (R182). -/
def rxChan (s : State) (j q k : Nat) (w : Word) (last : Bool) : State :=
  let c := jptCh s (4 * j + k)
  let il := fget s JPT_PATH_CFG_ILENM1 (4 * j + q)
  let st := c.pos = 0
  let en := c.pos = il || last
  let s1 := setJptCh s (4 * j + k) { c with pos := if en then 0 else c.pos + 1, cut := c.cut && !en }
  if c.wr then rxPush s1 j q k ⟨w, st, en, s.time.tick⟩
  else if en && pathShut s j q && !c.cut then finc s1 JPT_PATH_ERR_CLOSED_DROP (4 * j + q) else s1

/-- Receive lane errors (R189): those of every lane of a receive link that is not OFF count. -/
def laneErrs (s : State) (j : Nat) (hdr crc : Nat) : State :=
  (([0, 1].filter (fun n => jState s (4 * j + n) != jOFF)).flatMap (linkLanes s j)).foldl (fun s l =>
    let s1 := if hdr.testBit l then laneCount s j l JPT_LANE_ERR_HDR else s
    if crc.testBit l then laneCount s1 j l JPT_LANE_ERR_CRC else s1) s

/-- The (I, Q) parts of one sample of path `p`, from the sample fields of its link's converters (R176): those that CI and
CQ name. A converter that the link does not carry gives no stated sample (a free value, entry 168). -/
def rxSample (s : State) (j p : Nat) (v : List Nat) : Nat × Nat :=
  let i := pathLink s j p
  let f (c : Nat) : Nat := rxPart s i ((v[c]?).getD (Config.choice s.free))
  (f (fget s JPT_PATH_CFG_CI (4 * j + p)), if fgetB s JPT_PATH_CFG_QEN (4 * j + p) then f (fget s JPT_PATH_CFG_CQ (4 * j + p)) else 0)

/-- A group of up to four samples of receive path `p` (R177, R184), each with the fields of all its link's converters: a
short last group is completed with zero samples. -/
def jptRx (s0 : State) (j p : Nat) (smp : List (List Nat)) (hdr crc : Nat) : State :=
  let s := laneErrs s0 j hdr crc
  if fgetB s JPT_PATH_CFG_EN (4 * j + p) && jState s (pathLink s j p) = jDATA then
    let g (n : Nat) : Nat × Nat := (smp[n]?).elim (0, 0) (rxSample s j p)
    let path := jptPath s (4 * j + p)
    let n := path.cnt + min 4 smp.length
    let last := n = fget s JPT_PATH_CFG_SPT (4 * j + p)
    let s1 := setJptPath (drawFree s) (4 * j + p) { path with cnt := n }
    rxChan (rxChan s1 j p (2 * p) (rxWord (g 0) (g 1)) last) j p (2 * p + 1) (rxWord (g 2) (g 3)) last
  else s

/-- RX_SAMPLE_WORD (R177). -/
def execRxSampleWord (j p : Nat) (smp : List (List Nat)) (hdr crc : Nat) (s : State) :
    Host.Outcome State Fault Refusal :=
  run (j < 8 && p < 2) (jptRx s j p smp hdr crc)

/-! ### Transmit samples -/

/-- A transmit channel. -/
def txCh (s : State) (j k : Nat) : JptCh := jptCh s (32 + 4 * j + k)

/-- Writes a transmit channel. -/
def setTxCh (s : State) (j k : Nat) (c : JptCh) : State := setJptCh s (32 + 4 * j + k) c

/-- The tick and sample due on transmit path instance `i` at its sample number `c` of the present tick (R185): TX_DELAY
samples after the edge of tick n + 1 comes sample 0 of tick n. -/
def txDueAt (s : State) (i c : Nat) : Nat × Nat :=
  let d := fget s JPT_PATH_CFG_TX_DELAY i
  if d ≤ c then ((s.time.tick + 255) % 256, c - d)
  else ((s.time.tick + 254) % 256, fget s JPT_PATH_CFG_SPT i + c - d)

/-- The tick and sample now due. -/
def txDue (s : State) (i : Nat) : Nat × Nat := txDueAt s i (jptPath s i).cnt

/-- The tick tag and word index of the FIFO's next word, and whether it starts an item (R180). -/
def txHeadPos (s : State) (j k : Nat) : Option (Nat × Nat × Bool) :=
  match fifoHead s (convFifo j (4 + k)) with
  | none => none
  | some (_, st, i, _) =>
    let c := txCh s j k
    if st then
      let n := if i.tag = c.tag ∧ c.pos = 1 then c.item + 1 else 0
      some (i.tag, n * (i.decl + 1), true)
    else some (c.tag, c.nxt, false)

/-- Takes the FIFO's next word and notes where the one after it stands. -/
def txTake (s : State) (j k : Nat) (err : Code) : State × Option RWord :=
  match txHeadPos s j k with
  | none => (s, none)
  | some (tg, w, st) =>
    let q := fifoRead s (convFifo j (4 + k)) err
    let c := txCh s j k
    let it := if st then (if tg = c.tag ∧ c.pos = 1 then c.item + 1 else 0) else c.item
    (setTxCh q.1 j k { c with tag := tg, item := it, nxt := w + 1, pos := 1 }, q.2)

/-- The word due on channel `k`: passed words are read and discarded; in an underrun episode only a
start word resumes (R182). None where the word is missing. -/
def txFind (j k tg w : Nat) (err : Code) : Nat → State → State × Option RWord
  | 0, s => (s, none)
  | n + 1, s =>
    match txHeadPos s j k with
    | none => (s, none)
    | some (ht, hw, st) =>
      let ahead := (ht + 256 - tg) % 256
      let past := 128 ≤ ahead || (ahead = 0 && hw < w)
      if ahead = 0 && hw = w && (st || !(txCh s j k).ovr) then txTake s j k err
      else if past || (ahead = 0 && hw = w) then txFind j k tg w err n (txTake s j k 0).1
      else (s, none)

/-- The cabinets that feed transmit path `q` (R173, R179): the edge cabinet, or those whose booked streams go to the
path's FIFOs. -/
def pathFeeds (s : State) (j q : Nat) : List Nat :=
  if fgetB s JPT_PATH_CFG_DEST (4 * j + q) then
    ((setInstances s NOC_BOOK_VALID).filter (fun i => i < 1600 && fgetB s NOC_BOOK_DKIND i && fget s NOC_BOOK_DEST i = convStop j &&
      (pathChans q).any (fun k => fget s NOC_BOOK_DFIFO i = 4 + k))).map (fun i => i / 16)
  else [blockCab j]

/-- One channel's word of the pair due, or its absence counted as UNDERRUN with one C-class record
an episode while the source cabinet is RUNNING (R182). -/
def txChan (s : State) (j q k : Nat) (tg w : Nat) (err : Code) : State × Word :=
  let r := txFind j k tg w err 2048 s
  let c := txCh r.1 j k
  match r.2 with
  | some x =>
    (setTxCh r.1 j k { c with ovr := false }, if x.pois then 0 else x.w)
  | none =>
    let s1 := finc r.1 JPT_PATH_ERR_OVERRUN (4 * j + q)
    let s2 := setTxCh s1 j k { c with ovr := true }
    (if !c.ovr && (pathFeeds s j q).any (fun p => cabState s p = stRUNNING) then
        raise s2 { src := jptSrc j, cls := clsC, code := 14, addr := 4 * j + q, access := 7 } else s2, 0)

/-- A 16-bit part reduced to N bits and set in an N'-bit field (R178). -/
def txPart (s : State) (q i v : Nat) : Nat :=
  let np := fget s JPT_LINK_CFG_NP i + 1
  let n := fget s JPT_LINK_CFG_N i
  let r := shrR (if fgetB s JPT_PATH_CFG_RND q then 2 else 0) (sgn 16 v) ((16 : Int) - n)
  let m : Int := 2 ^ (n - 1) - 1
  wrapN n (if m < r then m else r) * 2 ^ (np - n)

/-- Transmit path `q` is squelched (R187, R321): in SAFE or HALT, before the device runs, and while a cabinet that feeds it
is not RUNNING with its OUTPUTS step done. -/
def txSquelched (s : State) (j q : Nat) : Bool :=
  0 < fget s FLT_STATE_STATE 0 || fget s SYS_BOOT_STAT_PHASE 0 != 3 ||
    (pathFeeds s j q).any (fun p => !(cabState s p = stRUNNING && stepDone s p stepOUTPUTS))

/-- Four zero samples. -/
def zeros4 : List (Nat × Nat) := List.replicate 4 (0, 0)

/-- The four samples of a word pair, each part reduced to N bits (R178). -/
def txSamples (s : State) (q l : Nat) (w0 w1 : Word) : List (Nat × Nat) :=
  let f (w : Word) (n : Nat) : Nat × Nat :=
    (txPart s q l (wbits w (32 * n) 16), if fgetB s JPT_PATH_CFG_QEN q then txPart s q l (wbits w (32 * n + 16) 16) else 0)
  [f w0 0, f w0 1, f w1 0, f w1 1]

/-- The next four samples of transmit path `p` (R178, R185): the rest of the word pair read before, then the pair that falls
due within them; zeros while squelched, and while the link is FAULTED (R186). -/
def jptTx (s : State) (j p : Nat) (e0 e1 : Code) : State :=
  let q := 2 + p
  let i := 4 * j + q
  let l := pathLink s j q
  if fgetB s JPT_PATH_CFG_EN i && jState s l = jDATA then
    let x := jptPath s i
    let k := (4 - (txDue s i).2 % 4) % 4
    let due := txDueAt s i (x.cnt + k)
    let (s1, w0) := txChan s j q (2 * p) due.1 (due.2 / 4) e0
    let (s2, w1) := txChan s1 j q (2 * p + 1) due.1 (due.2 / 4) e1
    let new := txSamples s i l w0 w1
    let out := ((x.hold.drop (4 - k) ++ zeros4).take k ++ new).take 4
    setJptPath s2 i { x with cnt := x.cnt + 4, out := if txSquelched s j q then zeros4 else out, hold := new }
  else if fgetB s JPT_PATH_CFG_EN i && jState s l = jFAULTED then setJptPath s i { jptPath s i with out := zeros4 }
  else s

/-- TX_SAMPLE_READ (R178). -/
def execTxSampleRead (j p : Nat) (e0 e1 : Code) (s : State) : Host.Outcome State Fault Refusal :=
  run (j < 8 && p < 2) (jptTx s j p e0 e1)

/-! ### What the block's lanes and synchronisation pins show (R186, R187, R321) -/

/-- What a transmit link's lanes carry. -/
inductive TxLane where
  | electricalIdle | idleOrCgs | ilas | samples
  deriving DecidableEq, Repr

/-- The lanes of transmit link `n` (R186, R187): in electrical idle while OFF or FAILED, and while squelched short of
DATA; idle or CGS, then the ILAS of 8B/10B, while it comes up; samples in DATA, and zeros among them in FAULTED. -/
def txLanes (s : State) (j n : Nat) : TxLane :=
  let st := jState s (4 * j + n)
  if st = jDATA || st = jFAULTED then .samples
  else if st = jOFF || st = jFAILED || (linkPaths s j n).any (txSquelched s j) then .electricalIdle
  else if st = jFRAME && fgetB s JPT_LINK_CFG_ENC (4 * j + n) then .ilas
  else .idleOrCgs

/-- Jj_SYNCO[n] of receive link `n` (R186): low while an 8B/10B link asks for synchronisation, high otherwise. -/
def syncoHigh (s : State) (j n : Nat) : Bool :=
  let st := jState s (4 * j + n)
  !(fgetB s JPT_LINK_CFG_ENC (4 * j + n) && (st = jCDR || st = jBLOCK))

/-! ### The tick edge at a port block (R180, R182, R184) -/

/-- The last word held back carries WEND. -/
def endLast (l : List DWord) : List DWord :=
  match l.reverse with
  | [] => []
  | d :: r => ({ d with en := true } :: r).reverse

/-- One path at a tick edge: a sample count that differs from SPT counts in TICK_SLIP with a C-class
record, from the first whole tick in DATA on (R184); an item still open ends; the count restarts. -/
def jptPathEdge (s : State) (j q : Nat) : State :=
  let i := 4 * j + q
  if fgetB s JPT_PATH_CFG_EN i && jState s (pathLink s j q) = jDATA then
    let x := jptPath s i
    let slip := x.live && x.cnt != fget s JPT_PATH_CFG_SPT i
    let s1 := if slip then
        raise (finc s JPT_PATH_ERR_TICK_SLIP i) { src := jptSrc j, cls := clsC, code := 15, addr := i, access := 7 }
      else s
    let s2 := setJptPath s1 i { x with cnt := 0, live := true }
    if q < 2 then
      (pathChans q).foldl (fun s k =>
        let c := jptCh s (4 * j + k)
        let f := convFifo j k
        let s3 := if c.pos != 0 && c.wr && c.buf.isEmpty then fifoPut s f (fifoClose (fifo s f) false) else s
        setJptCh s3 (4 * j + k) { c with pos := 0, wr := c.wr || c.arm, arm := false, buf := if c.pos != 0 then endLast c.buf else c.buf }) s2
    else s2
  else s

/-- Every path of every block at a tick edge. -/
def jptEdge (s : State) : State :=
  (List.range 8).foldl (fun s j => [0, 1, 2, 3].foldl (fun s q => jptPathEdge s j q) s) s

/-- The door of transmit channel `k` ends the tick's last item (R180): its last word carries WEND. -/
def txDoorEdge (s : State) (j k : Nat) : State :=
  let p := blockCab j
  let c := cab s p
  match smGet [] c.dbuf (8 + k) with
  | d :: l => setCab s p { c with dbuf := smSet [] (8 + k) (endLast (d :: l)) c.dbuf }
  | [] =>
    let f := convFifo j (4 + k)
    if smGet 0 c.dfrm (8 + k) = 0 then s
    else setCab (fifoPut s f (fifoClose (fifo s f) false)) p { c with dfrm := smSet 0 (8 + k) 0 c.dfrm }

/-- Every transmit door at a tick edge. -/
def txDoorsEdge (s : State) : State :=
  (List.range 8).foldl (fun s j => [0, 1, 2, 3].foldl (fun s k => txDoorEdge s j k) s) s

end Machine
end Sys2Proof
end

