-- ==== Sys2Proof/Machine/Sched.lean ====
section
/-!
DEFINITION. The hardware scheduler (chapter 13): descriptors (R341), releases and the delay lists
(R342, R343), dispatch in house order (R344, R346, R349), SCH_DONE (R345), preemption interrupts
(R347), deadlines and budgets (R348, R350, R351), control SRAM (R338 to R340) and its admission test
(R352).
-/

namespace Sys2Proof
namespace Machine

/-- Thread states (R341). -/
def thIDLE : Nat := 0
/-- DELAYED. -/
def thDELAYED : Nat := 1
/-- READY. -/
def thREADY : Nat := 2
/-- RUNNING. -/
def thRUNNING : Nat := 3
/-- FAULTED. -/
def thFAULTED : Nat := 4

/-- A thread. -/
def thr (s : State) (t : Nat) : Thr := smGet {} s.ctl.thr t

/-- Writes a thread. -/
def setThr (s : State) (t : Nat) (x : Thr) : State := { s with ctl := { s.ctl with thr := smSet {} t x s.ctl.thr } }

/-- The thread in service on logical pair `k`. -/
def inService (s : State) (k : Nat) : Option Nat :=
  let v := smGet 0 s.ctl.svc k
  if v = 0 then none else some (v - 1)

/-- Sets or clears the thread in service on a pair. -/
def setService (s : State) (k : Nat) (t : Option Nat) : State :=
  { s with ctl := { s.ctl with svc := smSet 0 k (t.elim 0 (fun x => x + 1)) s.ctl.svc } }

/-! ### The descriptor (R341) -/

/-- The descriptor of a thread as a 256-bit number. -/
def thrBits (x : Thr) : Nat :=
  (if x.valid then 2 ^ 255 else 0) + x.st % 8 * 2 ^ 252 + x.band % 8 * 2 ^ 249 + x.aff % 16 * 2 ^ 245
  + (if x.periodic then 2 ^ 244 else 0) + (if x.flowEn then 2 ^ 243 else 0) + x.flow % 16384 * 2 ^ 229
  + x.posts % 256 * 2 ^ 221 + x.misses % 256 * 2 ^ 213 + x.overruns % 256 * 2 ^ 205
  + (if x.restart then 2 ^ 204 else 0) + x.period % 2 ^ 24 * 2 ^ 180 + x.rdlTick % 2 ^ 24 * 2 ^ 156
  + x.rdlOfs % 65536 * 2 ^ 140 + x.budget % 2 ^ 32 * 2 ^ 108 + x.tag % 2 ^ 32 * 2 ^ 76
  + x.dlTick % 2 ^ 48 * 2 ^ 28 + x.dlOfs % 65536 * 2 ^ 12

/-- Bits [hi..lo] of a number, `w` of them. -/
def bitsOf (v lo w : Nat) : Nat := v / 2 ^ lo % 2 ^ w

/-- The thread that an accepted write leaves: IDLE, its read-only fields cleared. -/
def thrOf (v : Nat) : Thr :=
  { valid := bitsOf v 255 1 = 1, band := bitsOf v 249 3, aff := bitsOf v 245 4, periodic := bitsOf v 244 1 = 1,
    flowEn := bitsOf v 243 1 = 1, flow := bitsOf v 229 14, period := bitsOf v 180 24, rdlTick := bitsOf v 156 24,
    rdlOfs := bitsOf v 140 16, budget := bitsOf v 108 32, tag := bitsOf v 76 32 }

/-- Whether a descriptor is one that R341 accepts: an AFF, and a PERIOD for a periodic thread. -/
def thrOk (x : Thr) : Bool := !x.valid || (x.aff != 0 && (!x.periodic || x.period != 0))

/-- A descriptor write (R341): only Kaluno in machine mode, and only while the thread is invalid or
IDLE; otherwise refused. -/
def schDescSet (s : State) (t v : Nat) : State :=
  let o := thr s t
  if (!o.valid || o.st = thIDLE) && thrOk (thrOf v) then setThr s t (thrOf v)
  else fset s SCH_STAT_REFUSED 0 1

/-- A write of one word of SCH_DESC: words 0 to 2 wait for word 3. -/
def schDescWrite (s : State) (t k : Nat) (w : Word) : State :=
  if k < 3 then { s with ctl := { s.ctl with desc := smSet 0 (4 * t + k) w s.ctl.desc } }
  else
    let d (j : Nat) : Nat := (smGet 0 s.ctl.desc (4 * t + j)).toNat
    let s1 := { s with ctl := { s.ctl with desc := smClear (4 * t) (4 * t + 4) s.ctl.desc } }
    schDescSet s1 t (d 0 + d 1 * 2 ^ 64 + d 2 * 2 ^ 128 + w.toNat * 2 ^ 192)

/-! ### Time and order -/

/-- The carry place of an offset into the tick (R342). -/
def ofsCarry (s : State) : Nat := tickLen s / 2 ^ ofsShift (tickLen s)

/-- Deadline a is earlier than deadline b (R348). -/
def dlEarlier (at_ ao bt bo : Nat) : Bool :=
  if at_ % 2 ^ 48 = bt % 2 ^ 48 then ao < bo else 2 ^ 47 ≤ (at_ + 2 ^ 48 - bt % 2 ^ 48) % 2 ^ 48

/-- Releases a thread (R342): READY, with the deadline of a release at (tick, offset); its job's
service count and marks start anew. -/
def schRelease (s : State) (t tick ofs : Nat) (early : Bool) : State :=
  let x := thr s t
  let c := max 1 (ofsCarry s)
  let o := ofs + x.rdlOfs
  setThr s t { x with st := thREADY, rel := tick + 1, job := true, svc := 0, missed := false, ovr := false,
                      early := x.early || early, ready := s.time.now, odUsed := false,
                      dlTick := (tick + x.rdlTick + o / c) % 2 ^ 48, dlOfs := o % c }

/-- A delay list was full: the thread is released early, counted, with a C-class record (R343). -/
def dlFull (s : State) (t : Nat) : State :=
  raise (finc s SCH_STAT_DL_FULL 0) { src := 50, cls := clsC, code := 1, addr := t }

/-- Inserts a release at tick edge `due` into the sorted tick list. -/
def tickIns (due t : Nat) : List (Nat × Nat) → List (Nat × Nat)
  | [] => [(due, t)]
  | e :: r => if due < e.1 then (due, t) :: e :: r else e :: tickIns due t r

/-- Delays a release to tick edge `due` on the tick list, or releases at once where it is full. -/
def schDelay (s : State) (t due : Nat) : State :=
  if s.ctl.tickList.length < 2048 then
    setThr { s with ctl := { s.ctl with tickList := tickIns due t s.ctl.tickList } } t { thr s t with st := thDELAYED }
  else schRelease (dlFull s t) t s.time.tick (stampOfs s) true

/-- A posted thread is released at the later of now and its previous release plus PERIOD (R342). -/
def schPostRelease (s : State) (t : Nat) : State :=
  let x := thr s t
  if x.rel = 0 ∨ x.rel - 1 + x.period ≤ s.time.tick then schRelease s t s.time.tick (stampOfs s) false
  else schDelay s t (x.rel - 1 + x.period)

/-! ### Eligibility and rank (R346) -/

/-- Another RUNNING thread holds the flow of thread `t` (R349). -/
def flowHeld (s : State) (t : Nat) : Bool :=
  let x := thr s t
  x.flowEn && s.ctl.thr.any (fun e => e.1 != t && e.2.st = thRUNNING && e.2.flowEn && e.2.flow = x.flow)

/-- Thread `t` is eligible for logical pair `k` (R346). -/
def eligible (s : State) (k t : Nat) : Bool :=
  let x := thr s t
  x.valid && x.st = thREADY && x.aff.testBit k && fgetB s SYS_PAIR_MAP_VALID k && !flowHeld s t

/-- A band-7 thread is overdue (R346). -/
def overdue (s : State) (x : Thr) : Bool :=
  x.band = 7 && x.st = thREADY && x.job && !x.odUsed && x.rel != 0 && x.rel - 1 + max 1 x.period < s.time.tick

/-- Thread a goes before thread b for dispatch (R346). -/
def thrBefore (s : State) (a b : Nat) : Bool :=
  let x := thr s a
  let y := thr s b
  let ox := overdue s x
  let oy := overdue s y
  if ox != oy then ox
  else if !ox && x.band != y.band then x.band < y.band
  else if (x.dlTick, x.dlOfs) != (y.dlTick, y.dlOfs) then dlEarlier x.dlTick x.dlOfs y.dlTick y.dlOfs
  else if x.ready != y.ready then x.ready < y.ready
  else (a + 4096 - s.ctl.ptrThr) % 4096 < (b + 4096 - s.ctl.ptrThr) % 4096

/-- The best of a list of threads. -/
def bestThr (s : State) : List Nat → Option Nat
  | [] => none
  | t :: r =>
    match bestThr s r with
    | none => some t
    | some u => if thrBefore s t u then some t else some u

/-- The eligible threads of a pair. -/
def eligibles (s : State) (k : Nat) : List Nat := (s.ctl.thr.map (fun e => e.1)).filter (eligible s k)

/-- Thread a ranks ahead of thread b under steps 1 and 2 of R346. -/
def ranksAhead (x y : Thr) : Bool :=
  if x.band != y.band then x.band < y.band
  else dlEarlier x.dlTick x.dlOfs y.dlTick y.dlOfs

/-- The pair's preemption interrupt is raised (R347). -/
def preempts (s : State) (k : Nat) : Bool :=
  match inService s k with
  | none => false
  | some u =>
    fgetB s SCH_CFG_PREEMPT_EN 0 &&
      (eligibles s k).any (fun t => ranksAhead (thr s t) (thr s u) && !s.ctl.waiting.any (fun w => (thr s t).aff.testBit w.1))

/-- Sets the preemption interrupts of the four pairs as R347 says. -/
def schPreempt (s : State) : State :=
  { s with ctl := { s.ctl with
      preempt := [0, 1, 2, 3].foldl (fun n k => if preempts s k then n + 2 ^ k else n) 0 } }

/-! ### Posts and releases -/

/-- A post (R342). -/
def schPost (s : State) (t : Nat) : State :=
  let x := thr s t
  if !x.valid then s
  else if x.periodic then
    if x.st = thIDLE then schPreempt (schDelay s t (s.time.tick + 1)) else finc s SCH_STAT_POST_IGN 0
  else if x.st = thIDLE then schPreempt (schPostRelease s t)
  else if x.posts = 255 then finc s SCH_STAT_POST_LOST 0
  else setThr s t { x with posts := x.posts + 1 }

/-- SCH_POST_WRITE (R342). -/
def execSchPostWrite (t : Nat) (s : State) : Host.Outcome State Fault Refusal := reach (t < 4096) s (schPost s t)

/-- A rising edge on a bound event line posts its thread (SCH_EVT_BIND). -/
def eventLinePost (s : State) (e : Nat) : State :=
  if s.evt.lines.contains e then
    let s1 := { s with evt := { s.evt with lines := s.evt.lines.filter (fun x => x != e) } }
    if fgetB s1 SCH_EVT_BIND_EN e then schPost s1 (fget s1 SCH_EVT_BIND_THREAD e) else s1
  else s

/-- EVENT_LINE_POST (R342). -/
def execEventLinePost (e : Nat) (s : State) : Host.Outcome State Fault Refusal :=
  run (e < 64) (eventLinePost s e)

/-- The first due entry of the tick list releases its thread at the tick edge (R343). -/
def tickListRelease (s : State) : State :=
  match s.ctl.tickList with
  | [] => s
  | (due, t) :: r =>
    if due ≤ s.time.tick then
      let s1 := { s with ctl := { s.ctl with tickList := r } }
      if (thr s1 t).st = thDELAYED then schPreempt (schRelease s1 t due 0 false) else s1
    else s

/-- TICK_LIST_RELEASE (R343). -/
def execTickListRelease (s : State) : Host.Outcome State Fault Refusal := run true (tickListRelease s)

/-- A cycle-list entry is due; one due in the inserted cycles of a realignment tick is due at that
tick's first guard cycle (R343). -/
def cycDue (s : State) (tick c : Nat) : Bool :=
  let g := tickLen s - 24
  let c1 := if g ≤ c then (if c < g + s.time.extra then g + s.time.extra else c) else c
  tick < s.time.tick || (tick = s.time.tick && c1 ≤ cycOfs s)

/-- The first due entry of the cycle list returns its thread to READY with its deadline (R345). -/
def cycleListRelease (s : State) : State :=
  match s.ctl.cycList with
  | [] => s
  | (tick, c, t) :: r =>
    if cycDue s tick c then
      let s1 := { s with ctl := { s.ctl with cycList := r } }
      if (thr s1 t).st = thDELAYED then schPreempt (setThr s1 t { thr s1 t with st := thREADY, ready := s1.time.now }) else s1
    else s

/-- CYCLE_LIST_RELEASE (R343). -/
def execCycleListRelease (s : State) : Host.Outcome State Fault Refusal := run true (cycleListRelease s)

/-- Inserts an entry into the sorted cycle list. -/
def cycIns (tick c t : Nat) : List (Nat × Nat × Nat) → List (Nat × Nat × Nat)
  | [] => [(tick, c, t)]
  | e :: r => if tick < e.1 ∨ (tick = e.1 ∧ c < e.2.1) then (tick, c, t) :: e :: r else e :: cycIns tick c t r

/-! ### Run time and budget (R351) -/

/-- The job of thread `t` has run `cc` further CCLK cycles. -/
def schRan (s : State) (t cc : Nat) : State :=
  let x := thr s t
  let n := x.svc + cc
  if x.budget != 0 && x.budget < n && !x.ovr then
    let s1 := setThr s t { x with svc := n, ovr := true, overruns := min 255 (x.overruns + 1) }
    let s2 := raise (finc s1 SCH_STAT_OVERRUN 0) { src := 50, cls := clsU, code := 2, addr := t, ukind := 8, uid := t }
    event s2 0xA 0 (t + 2 ^ 17) (thr s2 t).overruns
  else setThr s t { x with svc := n }

/-- BUDGET_OVERRUN (R351): the scheduler counts `cc` further cycles of the thread in service. -/
def execBudgetOverrun (k cc : Nat) (s : State) : Host.Outcome State Fault Refusal :=
  run (k < 4) ((inService s k).elim s (fun t => schRan s t cc))

/-- Releases the flow of a thread. -/
def flowFree (s : State) (t : Nat) : State :=
  let x := thr s t
  if x.flowEn then fset (fset s SCH_FLOW_HELD x.flow 0) SCH_FLOW_HOLDER x.flow 0 else s

/-- Marks thread `t` FAULTED as a unit (R408: KIND 8). -/
def thrFault (s : State) (t : Nat) : State :=
  fset (setThr s t { thr s t with st := thFAULTED }) FLT_UNIT_FAULTED (8 * 16384 + t) 1

/-- A thread ends its job: its next release under R342, otherwise IDLE. -/
def schNext (s : State) (t : Nat) : State :=
  let x := thr s t
  let s1 := setThr s t { x with st := thIDLE, job := false }
  if x.periodic then
    let due := x.rel - 1 + x.period
    if due ≤ s.time.tick then schRelease s1 t due 0 false else schDelay s1 t due
  else if 0 < x.posts then
    schPostRelease (setThr s1 t { thr s1 t with posts := x.posts - 1 }) t
  else s1

/-- What a thread does when it leaves its pair (R345); one over its budget goes FAULTED whatever the
MODE (R351). -/
def schLeave (s : State) (k mode t delay cc : Nat) : State :=
  let s1 := flowFree (setService (schRan s t cc) k none) t
  let x := thr s1 t
  if x.ovr then
    let s2 := if mode = 3 then setThr s1 t { x with posts := 0, job := false }
      else if mode = 0 then setThr s1 t { x with job := false } else s1
    schPreempt (thrFault s2 t)
  else if mode = 0 then schPreempt (schNext s1 t)
  else if mode = 1 then schPreempt (setThr s1 t { x with st := thREADY, ready := s1.time.now })
  else if mode = 2 then
    if s1.ctl.cycList.length < 2048 then
      let n := cycOfs s1 + delay
      let due := s1.time.tick + n / max 1 (tickLen s1)
      schPreempt (setThr { s1 with ctl := { s1.ctl with cycList := cycIns due (n % max 1 (tickLen s1)) t s1.ctl.cycList } } t { x with st := thDELAYED })
    else
      let s2 := dlFull s1 t
      schPreempt (setThr s2 t { thr s2 t with st := thREADY, ready := s2.time.now, early := true })
  else schPreempt (setThr s1 t { x with st := thIDLE, posts := 0, job := false })

/-- A store to SCH_DONE by pair `k` (R345): one that names another thread is ignored, counted and
recorded. -/
def schDone (s : State) (k mode t delay cc : Nat) : State :=
  if inService s k = some t then schLeave s k mode t delay cc
  else raise (finc s SCH_STAT_BAD_DONE 0) { src := 50, cls := clsU, code := 3, addr := k, access := 2, master := pairMaster s k }

/-- SCH_COMPLETE (R345); `cc` is the CCLK cycles the job ran since its dispatch. -/
def execSchComplete (k t cc : Nat) (s : State) : Host.Outcome State Fault Refusal :=
  run (k < 4 && t < 4096) (schDone s k 0 t 0 cc)

/-- SCH_YIELD (R345). -/
def execSchYield (k t cc : Nat) (s : State) : Host.Outcome State Fault Refusal :=
  run (k < 4 && t < 4096) (schDone s k 1 t 0 cc)

/-- SCH_SLEEP (R345). -/
def execSchSleep (k t delay cc : Nat) (s : State) : Host.Outcome State Fault Refusal :=
  run (k < 4 && t < 4096) (schDone s k 2 t (delay % 2 ^ 32) cc)

/-- SCH_STOP (R345). -/
def execSchStop (k t cc : Nat) (s : State) : Host.Outcome State Fault Refusal :=
  run (k < 4 && t < 4096) (schDone s k 3 t 0 cc)

/-- A pair loads SCH_TAKE (R344, R345): a thread in service is first treated as YIELD; the pair then
waits. An unmapped pair has no port of its own. -/
def schTake (s : State) (k cc : Nat) : State :=
  if fgetB s SYS_PAIR_MAP_VALID k then
    let s1 := (inService s k).elim s (fun t => schLeave s k 1 t 0 cc)
    if s1.ctl.waiting.any (fun w => w.1 = k) then s1
    else schPreempt { s1 with ctl := { s1.ctl with waiting := s1.ctl.waiting ++ [(k, s1.time.now)] } }
  else s

/-- SCH_TAKE (R344). -/
def execSchTake (k cc : Nat) (s : State) : Host.Outcome State Fault Refusal := run (k < 4) (schTake s k cc)

/-- The dispatch word (R344). -/
def dispatchWord (x : Thr) (t : Nat) : Word :=
  BitVec.ofNat 64 ((if x.restart then 2 ^ 63 else 0) + (if x.early then 2 ^ 62 else 0) + t % 4096 * 2 ^ 48 + x.tag % 2 ^ 32)

/-- Gives thread `t` to waiting pair `k` (R344, R346). -/
def schGive (s : State) (k t : Nat) : State :=
  let x := thr s t
  let s1 := setThr s t { x with st := thRUNNING, restart := false, early := false, odUsed := x.odUsed || overdue s x }
  let s2 := if x.flowEn then fset (fset s1 SCH_FLOW_HELD x.flow 1) SCH_FLOW_HOLDER x.flow t else s1
  let s3 := setService s2 k (some t)
  { s3 with ctl := { s3.ctl with
      take := smSet 0 k (dispatchWord x t) s3.ctl.take
      waiting := s3.ctl.waiting.filter (fun w => w.1 != k)
      ptrThr := (t + 1) % 4096
      ptrPair := (k + 1) % 4 } }

/-- Waiting pair a goes before waiting pair b (R346): it waits longer, then the rotating pointer. -/
def waitBefore (s : State) (a b : Nat × Nat) : Bool :=
  if a.2 != b.2 then a.2 < b.2 else (a.1 + 4 - s.ctl.ptrPair) % 4 < (b.1 + 4 - s.ctl.ptrPair) % 4

/-- The waiting pair served first of those for which a thread is eligible. -/
def bestWait (s : State) : List (Nat × Nat) → Option (Nat × Nat)
  | [] => none
  | w :: r =>
    if (eligibles s w.1).isEmpty then bestWait s r
    else
      match bestWait s r with
      | none => some w
      | some v => if waitBefore s w v then some w else some v

/-- One dispatch (R346). -/
def threadDispatch (s : State) : State :=
  match bestWait s s.ctl.waiting with
  | none => s
  | some w =>
    match bestThr s (eligibles s w.1) with
    | none => s
    | some t => schPreempt (schGive s w.1 t)

/-- THREAD_DISPATCH (R346). -/
def execThreadDispatch (s : State) : Host.Outcome State Fault Refusal := run true (threadDispatch s)

/-- A job's deadline passes before its end (R350). -/
def deadlineMiss (s : State) (t : Nat) : State :=
  let x := thr s t
  if x.valid && x.job && !x.missed && dlEarlier x.dlTick x.dlOfs s.time.tick (stampOfs s) then
    let s1 := finc (setThr s t { x with missed := true, misses := min 255 (x.misses + 1) }) SCH_STAT_MISS 0
    event s1 0xA 0 (t + 2 ^ 16) (thr s1 t).misses
  else s

/-- DEADLINE_MISS (R350). -/
def execDeadlineMiss (t : Nat) (s : State) : Host.Outcome State Fault Refusal := run (t < 4096) (deadlineMiss s t)

/-- THREAD_DESC_WRITE (R341): word 3 of SCH_DESC is written by Kaluno in machine mode (`mm`); a write
of another master is refused. -/
def execThreadDescWrite (t : Nat) (w : Word) (mm : Bool) (s : State) : Host.Outcome State Fault Refusal :=
  reach (t < 4096) s (if mm then schDescWrite s t 3 w else fset s SCH_STAT_REFUSED 0 1)

/-- The quiet period of a thread's fault ends: it returns to IDLE with its posts, and a periodic thread
is released at the next tick edge (R351, R408). -/
def thrRecover (s : State) (t : Nat) : State :=
  let x := thr s t
  if x.st = thFAULTED then
    let s1 := setThr s t { x with st := thIDLE, job := false, ovr := false, svc := 0 }
    schPreempt (if x.periodic then schDelay s1 t (s.time.tick + 1) else s1)
  else s

/-! ### Lockstep (R335, R337) -/

/-- The logical pair that maps to physical pair `q`. -/
def logicalPair (s : State) (q : Nat) : Option Nat :=
  [0, 1, 2, 3].find? (fun k => fgetB s SYS_PAIR_MAP_VALID k && fget s SYS_PAIR_MAP_PHYS k = q)

/-- The checker of physical pair `q` finds a mismatch (R335). -/
def lockstep (s : State) (q : Nat) : State :=
  if fgetB s SYS_PAIR_STAT_RUN q && fget s SYS_PAIR_STAT_STATE q != 3 then
    let s1 := raise s { src := 48, cls := clsF, code := 1, addr := q, ukind := 9, uid := q }
    let s2 := finc (fset s1 SYS_PAIR_STAT_STATE q 3) SYS_PAIR_STAT_MISMATCH q
    match logicalPair s2 q with
    | none => s2
    | some k =>
      let s3 :=
        match inService s2 k with
        | none => s2
        | some t =>
          let s4 := flowFree (setService s2 k none) t
          setThr s4 t { thr s4 t with st := thREADY, restart := true, ready := s4.time.now }
      let s5 := { s3 with ctl := { s3.ctl with waiting := s3.ctl.waiting.filter (fun w => w.1 != k) } }
      schPreempt (fset s5 SYS_PAIR_MAP_VALID k 0)
  else s

/-- LOCKSTEP_MISMATCH (R335). -/
def execLockstepMismatch (q : Nat) (s : State) : Host.Outcome State Fault Refusal := run (q < 5) (lockstep s q)

/-- PAIR_RUN_WRITE (R331): RUN of SYS_PAIR_STAT is written. -/
def execPairRunWrite (q : Nat) (on : Bool) (s : State) : Host.Outcome State Fault Refusal :=
  reach (q < 5) s (fsetB s SYS_PAIR_STAT_RUN q on)

/-! ### Control SRAM (R338 to R340) -/

/-- SRAM_SECRET_WRITE (R339): a tag can only be set. -/
def execSramSecretWrite (v : Nat) (s : State) : Host.Outcome State Fault Refusal :=
  run true (fset s SYS_SRAM_SECRET_TAG 0 (fget s SYS_SRAM_SECRET_TAG 0 ||| (v % 2 ^ 64)))

/-- Words of control SRAM. -/
def sramWords : Nat := 524288

/-- The codeword stored at word `i`. -/
def sramCode (s : State) (i : Nat) : Code := smGet 0 s.ctl.sram i

/-- Stores a codeword. -/
def sramPut (s : State) (i : Nat) (c : Code) : State := { s with ctl := { s.ctl with sram := smSet 0 i c s.ctl.sram } }

/-- A read of word `i` (R340): a corrected word is written back, counted and recorded; an
uncorrectable one is counted and recorded, and keeps its bad check bits. `poison` delivers it to a
DMA mover as poisoned data. -/
def sramRead (s : State) (i access : Nat) (err : Code) : State × Word × Bool :=
  let c := sramCode s i ^^^ err
  let (s0, e) := eccCheck s 49 0 c
  let s1 := sramPut s0 i c
  match e.v with
  | .clean d => (s1, d, false)
  | .fixed d =>
    let s2 := fset (finc (sramPut s1 i (eccEnc d)) SYS_SRAM_ERR_CE 0) SYS_SRAM_ERR_LAST 0 i
    (raise s2 { src := 49, cls := clsC, code := 1, addr := i, access := access, inj := e.inj, coinc := e.coinc }, d, false)
  | _ =>
    let s2 := fset (finc s1 SYS_SRAM_ERR_UE 0) SYS_SRAM_ERR_LAST 0 i
    (raise s2 { src := 49, cls := clsU, code := 2, addr := i, access := access, inj := e.inj, coinc := e.coinc },
      eccData c, true)

/-- Granule `a / 64 KiB` of SRAM byte offset `a` is secret (R339). -/
def sramSecret (s : State) (a : Nat) : Bool := (fget s SYS_SRAM_SECRET_TAG 0).testBit (a / 65536)

/-- Patrol reads the next word (R340). -/
def sramPatrol (s : State) (err : Code) : State :=
  let i := s.ctl.sramPat
  (sramRead { s with ctl := { s.ctl with sramPat := (i + 1) % sramWords } } i 4 err).1

/-- SRAM_PATROL (R340). -/
def execSramPatrol (err : Code) (s : State) : Host.Outcome State Fault Refusal := run true (sramPatrol s err)

/-! ### The admission test (R352) -/

/-- A class of the test: its band, C in CCLK cycles, T and D in units of 1 / (offset carry) tick. -/
structure SchCls where
  band : Nat
  c : Nat
  t : Nat
  d : Nat
  deriving DecidableEq, Repr

/-- The classes are tested on one pair and band in exact integers: with `cn` CCLK cycles of `cd` ticks
(c = cn / cd) and `u` time units a tick, C in ticks is c · cd / cn. `dem` is dbf(t) in CCLK cycles. -/
def dbf (l : List SchCls) (b t : Nat) : Nat :=
  l.foldl (fun n i =>
    if i.band = b then (if i.d ≤ t then n + ((t - i.d) / i.t + 1) * i.c else n)
    else if i.band < b then n + (t + i.t - 1) / i.t * i.c
    else n) 0

/-- The absolute deadlines D + k · T of a class up to `lim`, `fuel` of them at most. -/
def deadlines (d t lim : Nat) : Nat → List Nat
  | 0 => []
  | n + 1 => if lim < d then [] else d :: deadlines (d + t) t lim n

/-- The test of one pair and band. `k` is the CCLK cycles of one time unit scaled: 0.85 · t in cycles is
85 · t · kn / (100 · kd). -/
def bandOk (l : List SchCls) (b kn kd : Nat) : Bool :=
  let inb := l.filter (fun i => i.band ≤ b)
  let own := l.filter (fun i => i.band = b)
  -- utilisation as a fraction of cycles: Σ c / t over a common denominator
  let den := inb.foldl (fun n i => n * i.t) 1
  let num := inb.foldl (fun n i => n + i.c * (den / i.t)) 0
  -- U = num · kd / (den · kn); U ≤ 0.85
  let uOk := 100 * num * kd ≤ 85 * den * kn
  let maxD := own.foldl (fun n i => max n i.d) 0
  -- L = max(maxD, (Σ_j C_j + Σ_i (T_i − D_i) C_i / T_i) / (0.85 − U)), all times den · kn · 100
  let lo : Int := (l.filter (fun i => i.band < b)).foldl (fun n i => n + (i.c * den : Nat)) (0 : Int)
  let ow : Int := own.foldl (fun n i => n + (((i.t : Int) - i.d) * i.c) * ((den / i.t : Nat) : Int)) (0 : Int)
  let slack : Int := 85 * (den * kn : Nat) - 100 * (num * kd : Nat)
  let top : Int := (lo + ow) * 100 * kd
  uOk &&
    (own.isEmpty ||
      (if slack ≤ 0 then (top ≤ 0 || false) &&
          own.all (fun i => (deadlines i.d i.t maxD (maxD / i.t + 1)).all (fun t => 100 * dbf l b t * kd ≤ 85 * t * kn))
       else
        let lim := max maxD (top / slack).toNat
        own.all (fun i => (deadlines i.d i.t lim (lim / i.t + 1)).all (fun t => 100 * dbf l b t * kd ≤ 85 * t * kn))))

/-- The test of one pair: every band. -/
def pairOk (l : List SchCls) (kn kd : Nat) : Bool :=
  [0, 1, 2, 3, 4, 5, 6, 7].all (fun b => bandOk l b kn kd)

/-- The class of a thread: its time unit is one offset step of a tick. -/
def thrCls (s : State) (x : Thr) : SchCls :=
  let u := max 1 (ofsCarry s)
  ⟨x.band, x.budget, max 1 x.period * u, x.rdlTick * u + x.rdlOfs⟩

/-- The classes of one certificate's demand words as (period, band, cycles) (R286). -/
def demandCls (s : State) (d : Nat × Nat × Nat) : SchCls :=
  let u := max 1 (ofsCarry s)
  ⟨d.2.1, d.2.2, d.1 * u, d.1 * u⟩

/-- Utilisation of a class list, as a fraction over a common denominator. -/
def utilFrac (l : List SchCls) : Nat × Nat :=
  let den := l.foldl (fun n i => n * i.t) 1
  (l.foldl (fun n i => n + i.c * (den / i.t)) 0, den)

/-- a < b for fractions. -/
def fracLt (a b : Nat × Nat) : Bool := a.1 * b.2 < b.1 * a.2

/-- Places a certificate class on the pair with the lowest utilisation after adding it, the lowest
number on a tie. -/
def placeCls (l : List (List SchCls)) (c : SchCls) : List (List SchCls) :=
  let best := (List.range l.length).foldl (fun b k =>
    if fracLt (utilFrac (l.getD k [] ++ [c])) (utilFrac (l.getD b [] ++ [c])) then k else b) 0
  l.zipIdx.map (fun e => if e.2 = best then e.1 ++ [c] else e.1)

/-- The classes on each logical pair, certificate classes placed (R352). -/
def schPairs (s : State) (ths : List Thr) (dem : List (Nat × Nat × Nat)) : List (List SchCls) :=
  let act := ths.filter (fun x => x.valid && x.budget != 0)
  let base := [0, 1, 2, 3].map (fun k => (act.filter (fun x => x.aff.testBit k)).map (thrCls s))
  dem.foldl (fun l d => placeCls l (demandCls s d)) base

/-- CCLK cycles of one time unit as a fraction: (TICK_LEN · 1.2 GHz / ACLK) / u. -/
def cclkUnit (s : State) : Nat × Nat := (tickLen s * 1200000, Config.aclkKHz * max 1 (ofsCarry s))

/-- At most 2,048 periodic threads (R352). -/
def schCount (ths : List Thr) : Bool := (ths.filter (fun x => x.valid && x.periodic)).length ≤ 2048

/-- The first pair and band that fails the test, pairs before bands. -/
def schFirst (s : State) (l : List (List SchCls)) : Option (Nat × Nat) :=
  ([0, 1, 2, 3].flatMap (fun k => [0, 1, 2, 3, 4, 5, 6, 7].map (fun b => (k, b)))).find?
    (fun e => !bandOk (l.getD e.1 []) e.2 (cclkUnit s).1 (cclkUnit s).2)

/-- The whole test over a set of threads and certificate classes. -/
def schAdmits (s : State) (ths : List Thr) (dem : List (Nat × Nat × Nat)) : Bool :=
  schCount ths && (schPairs s ths dem).all (fun l => pairOk l (cclkUnit s).1 (cclkUnit s).2)

/-- The demand words of every admitted certificate (R286, R297). -/
def admittedDemand (s : State) : List (Nat × Nat × Nat) :=
  s.array.cabs.flatMap (fun e =>
    (if planAdm s e.1 0 then e.2.certA.demand else []) ++ (if planAdm s e.1 1 then e.2.certB.demand else []))

/-- Every thread of the scheduler, with thread `t` replaced by `x`. -/
def thrsWith (s : State) (t : Nat) (x : Thr) : List Thr :=
  x :: (s.ctl.thr.filter (fun e => e.1 != t)).map (fun e => e.2)

end Machine
end Sys2Proof
end

