-- ==== Sys2Proof/Machine/Noc.lean ====
section
/-!
DEFINITION. The ring network (chapter 06): positions (R134, R135), headers and flits (R138 to R141),
directions and target crossing (R144), lane A candidates (R145), escape routes and detours (R147,
R167), arbitration (R148), booked loads (R150), pacing (R151), errors on a link (R155 to R157), router
modes (R160 to R168).
-/

namespace Sys2Proof
namespace Machine

/-! ### Positions (R134, R135) -/

/-- A cross router. -/
def isCross (st : Nat) : Bool := st < 100
/-- An edge stop of a horizontal ring. -/
def isHEdge (st : Nat) : Bool := 100 ≤ st && st < 120
/-- An edge stop of a vertical ring. -/
def isVEdge (st : Nat) : Bool := 120 ≤ st && st < 140
/-- Column of a cross router, or of a vertical ring's edge stop. -/
def stX (st : Nat) : Nat := if st < 100 then st % 10 else (st - 120) / 2
/-- Row of a cross router, or of a horizontal ring's edge stop. -/
def stY (st : Nat) : Nat := if st < 100 then st / 10 else (st - 100) / 2
/-- Position on the horizontal ring. -/
def posH (st : Nat) : Nat := if st < 100 then st % 10 + 1 else if st % 2 = 0 then 0 else 11
/-- Position on the vertical ring. -/
def posV (st : Nat) : Nat := if st < 100 then st / 10 + 1 else if st % 2 = 0 then 0 else 11
/-- The stop at a position of horizontal ring `y`. -/
def atH (y pos : Nat) : Nat := if pos = 0 then 100 + 2 * y else if pos = 11 then 101 + 2 * y else 10 * y + (pos - 1)
/-- The stop at a position of vertical ring `x`. -/
def atV (x pos : Nat) : Nat := if pos = 0 then 120 + 2 * x else if pos = 11 then 121 + 2 * x else 10 * (pos - 1) + x
/-- The stop on a horizontal ring stands on it. -/
def onH (st : Nat) : Bool := st < 120
/-- The stop stands on a vertical ring. -/
def onV (st : Nat) : Bool := isCross st || isVEdge st

/-- The next stop from an output: 1 positive horizontal, 2 negative horizontal, 3 positive
vertical, 4 negative vertical. -/
def nextStop (st out : Nat) : Nat :=
  if out = 1 then atH (stY st) ((posH st + 1) % 12)
  else if out = 2 then atH (stY st) ((posH st + 11) % 12)
  else if out = 3 then atV (stX st) ((posV st + 1) % 12)
  else atV (stX st) ((posV st + 11) % 12)

/-- The hop crosses the dateline (R135). -/
def crossesDL (st out : Nat) : Bool :=
  (out = 1 && posH st = 11) || (out = 2 && posH st = 0) || (out = 3 && posV st = 11) || (out = 4 && posV st = 0)

/-- The positive way is no longer than the negative one (R144). -/
def posWay (a b : Nat) : Bool := (b + 12 - a) % 12 ≤ (a + 12 - b) % 12

/-- The output for a horizontal direction (false positive). -/
def hOut (d : Bool) : Nat := if d then 2 else 1
/-- The output for a vertical direction (false positive). -/
def vOut (d : Bool) : Nat := if d then 4 else 3

/-- The position on a horizontal ring from which a packet of stop `st` starts. -/
def srcH (st : Nat) : Nat := if isVEdge st then stX st + 1 else posH st
/-- The position on a vertical ring from which a packet of stop `st` starts. -/
def srcV (st : Nat) : Nat := if isHEdge st then stY st + 1 else posV st

/-- DX of a packet (R144): the shorter way toward T, or toward a horizontal ring's edge stop
itself. -/
def dirX (src dst : Nat) : Bool :=
  !posWay (srcH src) (if isVEdge dst then stX dst + 1 else posH dst)

/-- DY of a packet (R144). -/
def dirY (src dst : Nat) : Bool :=
  !posWay (srcV src) (if isHEdge dst then stY dst + 1 else posV dst)

/-- The target crossing T (R144). -/
def target (dst : Nat) (dx dy : Bool) : Nat × Nat :=
  if isCross dst then (stX dst, stY dst)
  else if isVEdge dst then (stX dst, if dy then 0 else 9)
  else (if dx then 0 else 9, stY dst)

/-! ### Router modes -/

/-- Router states (NOC_RTR_CTL.STATE). -/
def rtNORMAL : Nat := 0
/-- ENTERING. -/
def rtENTERING : Nat := 1
/-- BYPASS. -/
def rtBYPASS : Nat := 2
/-- TEST. -/
def rtTEST : Nat := 3
/-- LEAVING. -/
def rtLEAVING : Nat := 4
/-- FAILED. -/
def rtFAILED : Nat := 5

/-- The state of a router; an edge stop is never bypassed (R171). -/
def rtrState (s : State) (st : Nat) : Nat := if st < 100 then fget s NOC_RTR_CTL_STATE st else 0

/-- A cross router that may be a turning point (R145): neither in bypass nor unavailable. -/
def rtrUsable (s : State) (st : Nat) : Bool :=
  isCross st && rtrState s st != rtBYPASS && !fgetB s NOC_RTR_CTL_UNAVAIL st

/-- A router in BYPASS or ENTERING, at which an escape route cannot turn (R167). -/
def rtrByp (s : State) (st : Nat) : Bool := rtrState s st = rtBYPASS || rtrState s st = rtENTERING

/-! ### Next hops -/

/-- The ring of travel by input port: 1-2 horizontal, 3-4 vertical, 0 injected. -/
def travelsH (st port : Nat) : Bool := if port = 0 then onH st else port = 1 || port = 2
/-- The packet travels on a vertical ring. -/
def travelsV (st port : Nat) : Bool := if port = 0 then onV st else port = 3 || port = 4

/-- The destination stands on the horizontal ring of `st`. -/
def destOnH (st dst : Nat) : Bool := onH st && onH dst && stY st = stY dst
/-- The destination stands on the vertical ring of `st`. -/
def destOnV (st dst : Nat) : Bool := onV st && onV dst && stX st = stX dst

/-- The lane A candidate outputs of a packet (R145). -/
def candA (s : State) (st port : Nat) (b : Sb) : List Nat :=
  let t := target b.dstop b.dx b.dy
  let h := travelsH st port
  let v := travelsV st port
  if h && destOnH st b.dstop then [hOut b.dx]
  else if v && destOnV st b.dstop then [vOut b.dy]
  else
    (if h && (isHEdge st || stX st != t.1) then [hOut b.dx] else []) ++
    (if v && (isVEdge st || stY st != t.2) then [vOut b.dy] else []) ++
    (if rtrUsable s st then
      (if h && !v && stY st != t.2 then [vOut b.dy] else []) ++
      (if v && !h && stX st != t.1 && !b.turned then [hOut b.dx] else [])
     else [])

/-- Lane numbers (R143). -/
def lnA : Nat := 0
/-- E0. -/
def lnE0 : Nat := 1
/-- E1. -/
def lnE1 : Nat := 2
/-- EL. -/
def lnEL : Nat := 3
/-- D0. -/
def lnD0 : Nat := 4
/-- D1. -/
def lnD1 : Nat := 5

/-- The stop behind a stop against an output's direction, edge stops passed over. -/
def prevCross (st out : Nat) : Nat :=
  let back := if out = 1 then 2 else if out = 2 then 1 else if out = 3 then 4 else 3
  let p := nextStop st back
  if isCross p then p
  else
    let p2 := nextStop p back
    if isCross p2 then p2 else nextStop p2 back

/-- The way along column ring `x` from row `y` to position `b` that does not pass the ring's
bypassed router (R167 step 4); the shorter way where none is bypassed. -/
def clearWay (s : State) (ring a b : Nat) (posOfStop : Nat → Nat) : Bool :=
  let byp := fget s NOC_RING_STAT_BYPASS_STOP ring
  if byp = 0xFF then !posWay a b
  else
    let q := posOfStop byp
    -- the positive way from a to b meets q when q lies within it
    let d := (b + 12 - a) % 12
    let e := (q + 12 - a) % 12
    decide (0 < e ∧ e ≤ d)

/-- The output and lane of a packet's head in VC E or D at router `st`, input port `port`, lane
`ln` (R147, R167); output 0 is ejection. `dl` is whether it has crossed the dateline of its ring. A packet that
enters E on a vertical ring at an edge stop, or at a router that cannot turn it, takes the edge leg out to the
first cross router that can (DESIGN CHOICE, entry 160). -/
def escHop (s : State) (st port ln : Nat) (b : Sb) : Nat × Nat :=
  let t := target b.dstop b.dx b.dy
  let eL (d : Bool) : Nat := if d then lnE1 else lnE0
  let alongH := (hOut b.dx, eL (b.dl || crossesDL st (hOut b.dx)))
  let alongV := (vOut b.dy, eL (b.dl || crossesDL st (vOut b.dy)))
  let toV := (vOut b.dy, eL (crossesDL st (vOut b.dy)))
  let toH := (hOut b.dx, eL (crossesDL st (hOut b.dx)))
  let vPos := if isVEdge b.dstop then posV b.dstop else t.2 + 1
  let hPos := if isHEdge b.dstop then posH b.dstop else t.1 + 1
  if st = b.dstop then (0, ln)
  else if ln = lnD1 then
    if port = 1 ∨ port = 2 then
      if stX st = t.1 ∧ isCross st ∧ !destOnH st b.dstop then (if clearWay s (10 + t.1) (posV st) vPos posV then 3 else 4, lnD1)
      else (if port = 1 then 1 else 2, lnD1)
    else if isCross st ∧ stY st = t.2 ∧ isHEdge b.dstop then (hOut b.dx, lnD1)
    else (if port = 3 then 3 else 4, lnD1)
  else if ln = lnD0 then
    if !b.turned then
      -- second leg on the other ring: turn back at the first router not in bypass
      if rtrByp s st || !isCross st then (if port = 1 then 1 else if port = 2 then 2 else if port = 3 then 3 else 4, lnD0)
      else if port = 3 ∨ port = 4 then (if posWay (posH st) (t.1 + 1) then 1 else 2, lnD0)
      else (if posWay (posV st) (t.2 + 1) then 3 else 4, lnD0)
    else if port = 1 ∨ port = 2 then
      if isCross st ∧ stX st = t.1 then
        (if clearWay s (10 + t.1) (posV st) vPos posV then 4 else 3, lnD1)
      else (port, lnD0)
    else
      if isCross st ∧ stY st = t.2 then
        (if clearWay s t.2 (posH st) hPos posH then 2 else 1, lnD1)
      else (port, lnD0)
  else if port = 0 ∧ isVEdge st then
    if destOnV st b.dstop then toV else (vOut b.dy, lnEL)
  else if ln = lnEL ∧ (port = 3 ∨ port = 4) then
    if rtrByp s st || !isCross st then (port, lnEL)
    else if stX st != t.1 then toH
    else if stY st != t.2 ∨ isVEdge b.dstop then alongV
    else (hOut b.dx, lnEL)
  else if ln = lnEL ∧ (port = 1 ∨ port = 2) then (port, lnEL)
  else if port = 3 ∨ port = 4 then
    -- on a vertical ring: the Y leg, or a packet that enters E there
    if ln = lnA then
      if destOnV st b.dstop then alongV
      else if isVEdge st || rtrByp s st then (vOut b.dy, lnEL)
      else if stX st != t.1 then toH
      else if stY st != t.2 ∨ isVEdge b.dstop then alongV else (hOut b.dx, lnEL)
    else if isCross st ∧ stY st = t.2 ∧ isHEdge b.dstop then
      if rtrByp s st then alongV else (hOut b.dx, lnEL)
    else if isHEdge b.dstop ∧ isCross st ∧ rtrByp s (prevCross st port) ∧ stY (prevCross st port) = t.2 then
      (hOut b.dx, lnD0)
    else alongV
  else if destOnH st b.dstop then (if port = 0 then toH else alongH)
  else if isCross st ∧ stX st = t.1 then
    if rtrByp s st then alongH
    else if stY st = t.2 ∧ isHEdge b.dstop then (hOut b.dx, lnEL)
    else toV
  else if (port = 1 ∨ port = 2) ∧ isCross st ∧ stX (prevCross st port) = t.1 ∧ rtrByp s (prevCross st port) then
    (vOut b.dy, lnD0)
  else if port = 0 then toH else alongH

/-! ### Lanes -/

/-- The key of a lane. -/
def laneKey (net st port ln : Nat) : Nat := ((140 * net + st) * 5 + port) * 6 + ln

/-- A lane. -/
def lane (s : State) (k : Nat) : Lane := smGet {} s.noc.lanes k

/-- Writes a lane. -/
def setLane (s : State) (k : Nat) (l : Lane) : State :=
  { s with noc := { s.noc with lanes := smSet {} k l s.noc.lanes } }

/-- A lane can take a new packet: nothing in it and none on its way through. -/
def laneFree (l : Lane) : Bool := l.q.isEmpty && !l.busy

/-- A move by output `o` of a packet that came in at `port` turns it from one ring to the other. -/
def turnsTo (port o : Nat) : Bool := ((port = 1 || port = 2) && 3 ≤ o) || ((port = 3 || port = 4) && (o = 1 || o = 2))

/-- A router that turns nothing now: its bypass switch is closed, or it is under test (R160, R166). -/
def turnless (s : State) (st : Nat) : Bool :=
  rtrState s st = rtBYPASS || rtrState s st = rtLEAVING || rtrState s st = rtTEST

/-- The (output, lane) pairs a lane's front flit may take now. A packet that has begun keeps what
it holds; a head takes a lane A candidate whose lane A downstream is free, or its escape hop; it waits where that
would turn at a router that turns nothing. -/
def wants (s : State) (net st port ln : Nat) : List (Nat × Nat) :=
  let l := lane s (laneKey net st port ln)
  match l.q with
  | [] => []
  | f :: _ =>
    match l.out with
    | some (o, n) => if (lane s (laneKey net (nextStop st o) o n)).q.length < 4 then [(o, n)] else []
    | none =>
      if f.sb.dstop = st then []
      else if ln = lnA && !l.esc then
        (candA s st port f.sb).filterMap (fun o =>
          if laneFree (lane s (laneKey net (nextStop st o) o lnA)) then some (o, lnA) else none)
      else
        let h := escHop s st port ln f.sb
        if h.1 != 0 && !(turnsTo port h.1 && turnless s st) && laneFree (lane s (laneKey net (nextStop st h.1) h.1 h.2)) then [h] else []

/-- A requester of an output: port, lane, downstream lane, and what R148 ranks it by. -/
structure Rq where
  port : Nat
  ln : Nat
  dn : Nat
  booked : Bool
  inj : Bool
  hops : Nat
  deriving DecidableEq, Repr

/-- A booked head waits in router `st` for lane `n` behind output `o`: its escape hop is that output and lane. -/
def bookedWaits (s : State) (net st o n : Nat) : Bool :=
  [0, 1, 2, 3, 4].any (fun p => [0, 1, 2, 3, 4, 5].any (fun ln =>
    let l := lane s (laneKey net st p ln)
    match l.q with
    | [] => false
    | f :: _ => l.out.isNone && f.sb.booked && f.sb.dstop != st && escHop s st p ln f.sb = (o, n)))

/-- The output that leads back from an input port. -/
def backOut (port : Nat) : Nat := if port = 1 then 2 else if port = 2 then 1 else if port = 3 then 4 else 3

/-- The packet at input `port`, lane `ln` of `st` holds an E lane that a booked head waits for (R148, criterion 1): the
lane it stands in, for which one waits in the router before, or the lane it has taken, for which one waits here. -/
def heldBooked (s : State) (net st port ln : Nat) : Bool :=
  (port != 0 && ln != lnA && bookedWaits s net (nextStop st (backOut port)) port ln) ||
  (match (lane s (laneKey net st port ln)).out with
   | none => false
   | some (o, n) => n != lnA && bookedWaits s net st o n)

/-- The requesters of an output. -/
def requesters (s : State) (net st out : Nat) : List Rq :=
  [0, 1, 2, 3, 4].flatMap (fun p => [0, 1, 2, 3, 4, 5].filterMap (fun ln =>
    match (wants s net st p ln).find? (fun w => w.1 = out) with
    | none => none
    | some w =>
      match (lane s (laneKey net st p ln)).q with
      | [] => none
      | f :: _ =>
        some ⟨p, ln, w.2, f.sb.booked || heldBooked s net st p ln, p = 0, f.sb.hops⟩))

/-- The house order at a router output (R148): booked, an injection port denied eight times,
through before injected, HOPS, then the rotating pointer over the input ports. -/
def rqBetter (deny ptr : Nat) (a b : Rq) : Bool :=
  if a.booked != b.booked then a.booked
  else
    let ia := a.inj && 8 ≤ deny
    let ib := b.inj && 8 ≤ deny
    if ia != ib then ia
    else if a.inj != b.inj then !a.inj
    else if a.hops != b.hops then b.hops < a.hops
    else (a.port + 5 - ptr) % 5 < (b.port + 5 - ptr) % 5

/-- The winner of an arbitration; of two lanes of one input port that tie, the lower-numbered one, which the spec leaves
open (DESIGN CHOICE, entry 161). -/
def pickRq (deny ptr : Nat) : List Rq → Option Rq
  | [] => none
  | a :: r =>
    match pickRq deny ptr r with
    | none => some a
    | some b => if rqBetter deny ptr b a then some b else some a

/-! ### Headers and flits (R138 to R141) -/

/-- Data flits of a packet. -/
def pktFlits (p : Pkt) : Nat := (p.data.length + 3) / 4

/-- The header of a packet as a 256-bit number without HCRC (R140). -/
def hdrBits (p : Pkt) : Nat :=
  p.ty % 16 * 2 ^ 252 + pktFlits p % 16 * 2 ^ 248 + p.sdev % 1024 * 2 ^ 238 + p.sstop % 256 * 2 ^ 230
  + p.ddev % 1024 * 2 ^ 220 + p.dstop % 256 * 2 ^ 212 + p.tag % 4096 * 2 ^ 200 + p.seq % 65536 * 2 ^ 184
  + p.status % 256 * 2 ^ 176 + p.size % 512 * 2 ^ 167 + p.xhdr % 2 ^ 32 * 2 ^ 128 + p.addr % 2 ^ 64 * 2 ^ 64

/-- HCRC over bits [255:16] from bit 255 down, initial value 0xFFFF (R140). -/
def hcrc (h : Nat) : Nat := crc16Bits (h / 65536) 240 0xFFFF

/-- The header with its HCRC, or the bad one it came with, as four words, lowest first. -/
def hdrWords (p : Pkt) : List Word :=
  let h := hdrBits p
  let x := h + (hcrc h ^^^ p.hx % 65536)
  [BitVec.ofNat 64 x, BitVec.ofNat 64 (x / 2 ^ 64), BitVec.ofNat 64 (x / 2 ^ 128), BitVec.ofNat 64 (x / 2 ^ 192)]

/-- Cuts data words into flits of four, the last one filled with zeros. -/
def chunk4 : List Word → List (List Word)
  | [] => []
  | a :: [] => [[a, 0, 0, 0]]
  | a :: b :: [] => [[a, b, 0, 0]]
  | a :: b :: c :: [] => [[a, b, c, 0]]
  | a :: b :: c :: d :: r => [a, b, c, d] :: chunk4 r

/-- The flits of a packet with its sideband (R138, R139). -/
def mkFlits (p : Pkt) (b : Sb) : List Flit :=
  let n := pktFlits p
  let body := chunk4 p.data
  ⟨{ b with kind := if n = 0 then 3 else 0, len := n }, (hdrWords p).map eccEnc⟩ ::
    body.zipIdx.map (fun e =>
      ⟨{ b with kind := if e.2 + 1 = n then 2 else 1, len := n, poison := p.pois.getD e.2 false }, e.1.map eccEnc⟩)

/-- The header of received words: whether HCRC checks, and the packet without data. -/
def hdrParse (w : List Word) : Bool × Pkt :=
  let x := (w.getD 0 0).toNat + (w.getD 1 0).toNat * 2 ^ 64 + (w.getD 2 0).toNat * 2 ^ 128 + (w.getD 3 0).toNat * 2 ^ 192
  (hcrc x = x % 65536,
   { ty := x / 2 ^ 252 % 16, sdev := x / 2 ^ 238 % 1024, sstop := x / 2 ^ 230 % 256, ddev := x / 2 ^ 220 % 1024,
     dstop := x / 2 ^ 212 % 256, tag := x / 2 ^ 200 % 4096, seq := x / 2 ^ 184 % 65536, status := x / 2 ^ 176 % 256,
     size := x / 2 ^ 167 % 512, xhdr := x / 2 ^ 128 % 2 ^ 32, addr := x / 2 ^ 64 % 2 ^ 64, hx := hcrc x ^^^ x % 65536 })

/-- The network of a packet type: 0 requests, 1 responses (R139, R142). -/
def netOf (ty : Nat) : Nat := if 8 ≤ ty then 1 else 0

/-- A non-posted request (R139). -/
def nonPosted (ty : Nat) : Bool := ty = 0 || ty = 1

/-- A type of R139. -/
def tyOk (ty : Nat) : Bool := ty ≤ 4 || ty = 8 || ty = 9 || ty = 0xA

/-- An ERR_RSP to the requester of a header (R164). -/
def errRsp (p : Pkt) (dev st status : Nat) : Pkt :=
  { ty := 0xA, sdev := dev, sstop := st, ddev := p.sdev, dstop := p.sstop, tag := p.tag, status := status }

/-- The own device number. -/
def ownDev (s : State) : Nat := fget s SPN_SYS_DEVNUM 0

/-- Queues a response packet at a stop. -/
def queueRsp (s : State) (st : Nat) (p : Pkt) : State :=
  setStop s st { stop s st with rspQ := (stop s st).rspQ ++ [p] }

/-- The fault source of a stop's router (R155, R157). -/
def rtrSrc (st : Nat) : Nat := if st < 100 then 25 + st / 10 else 35

/-- The fields of a stop's or router's counters take the same instance number: the stop. -/
def rtrChk (st j : Nat) : Nat := if st < 100 then 4 * (st % 10) + j else 0

/-! ### Forwarding a flit (R145, R148, R155 to R157) -/

/-- The words of a flit checked at a router input: corrected words count one corrected flit, an
uncorrectable word poisons the flit (R155, R156). An uncorrectable word goes
on as it was read (DEDUCED, entry 162). Returns the state, the words with fresh check bits,
and whether a word was uncorrectable, and whether one was corrected. -/
def checkWords (s : State) (st : Nat) : List (Code × Code) → State × List Code × Bool × Bool
  | [] => (s, [], false, false)
  | (c, e) :: r =>
    let (s1, k) := eccCheck s (rtrSrc st) (rtrChk st 0) (c ^^^ e)
    let (s2, l, ue, ce) := checkWords s1 st r
    match k.v with
    | .clean d => (s2, eccEnc d :: l, ue, ce)
    | .fixed d => (s2, eccEnc d :: l, ue, true)
    | _ => (s2, eccEnc (eccData (c ^^^ e)) :: l, true, ce)

/-- MASTER of the requester that sent a packet (R404, R468): its stop names a control pair's logical pair. -/
def pktSource (p : Pkt) : Nat :=
  masterNum p.sdev p.sstop (([0, 1, 2, 3].find? (fun k => pairStop k = p.sstop)).getD 0)

/-- A U-class record of a packet that contains no unit (R468). -/
def pktEvent (s : State) (src code : Nat) (p : Pkt) (st : Nat) : State :=
  raise s { src := src, cls := clsU, code := code * 256 + st, addr := p.addr, access := 7,
            master := pktSource p }

/-- A head whose sideband is uncorrectable, or that reaches a FAILED router, is dropped (R157,
R168): HDR_DROP, a U-class record, and ERR_RSP HEADER_DROP for a good non-posted request;
`d` are its words as this hop read them. -/
def headDrop (s : State) (st : Nat) (d : List Code) : State :=
  let h := hdrParse (d.map eccData)
  let s1 := pktEvent (finc s NOC_RTR_ERR_HDR_DROP st) (rtrSrc st) 2 h.2 st
  if h.1 && nonPosted h.2.ty then queueRsp s1 st (errRsp h.2 (ownDev s) st 3) else s1

/-- Counts what the check of an arriving flit found (R157). -/
def flitLand (s : State) (st : Nat) (bad ce : Bool) : State :=
  let s1 := if bad then finc s NOC_RTR_ERR_UE_DATA st else s
  if ce then raise (finc s1 NOC_RTR_ERR_CE st) { src := rtrSrc st, cls := clsC, code := 1, addr := st, access := 7 }
  else s1

/-- A flit arrives at an input lane of router `st`: its data words and sideband are checked. `sbErr`
is 0 for a good sideband, 1 for a corrected one, 2 for an uncorrectable one. -/
def flitArrive (s : State) (k st : Nat) (f : Flit) (errs : List Code) (sbErr : Nat) : State :=
  let l := lane s k
  let head := f.sb.kind = 0 ∨ f.sb.kind = 3
  let tail := f.sb.kind = 2 ∨ f.sb.kind = 3
  if l.drop ∧ ¬ head then setLane s k { l with drop := !decide tail, busy := !decide tail }
  else
    let (s1, d, ue, ce) := checkWords s st (f.data.zip (errs ++ [0, 0, 0, 0]))
    if head ∧ (sbErr = 2 ∨ rtrState s st = rtFAILED) then
      setLane (headDrop s1 st d) k { l with drop := !decide tail, busy := !decide tail }
    else
    let bad := ue || sbErr = 2
    let was := !decide head && l.pois
    let f1 : Flit := ⟨{ f.sb with poison := f.sb.poison || bad || was }, d⟩
    let l1 := { lane s1 k with q := l.q ++ [f1], busy := !decide tail, drop := false, pois := !decide tail && (bad || was),
                               front := if l.q.isEmpty then s.time.now else l.front }
    flitLand (setLane s1 k l1) st bad (ce || sbErr = 1)

/-- The sideband a flit carries onward from `st` by output `o` into lane `n` (R138, R145, R147). TURNED starts clear in
lane D0 and is set by the turn onto the second leg (R167). -/
def sbOnward (b : Sb) (st port o n ln : Nat) : Sb :=
  let turns := turnsTo port o
  { b with
    dl := (b.dl && !turns) || crossesDL st o
    turned := if n = lnD0 then ln = lnD0 && (b.turned || turns) else b.turned || (n = lnA && turns && o ≤ 2)
    hops := min 63 (b.hops + 1) }

/-- One arbitration of output `out` of router `st` in a network, and the flit it grants (R148). The
rotating pointer moves past the winner; a denied injection port counts. -/
def flitForward (s : State) (net st out : Nat) (errs : List Code) (sbErr : Nat) : State :=
  let x := stop s st
  let pk := 5 * net + out
  let rq := requesters s net st out
  let dn := smGet 0 x.deny pk
  match pickRq dn (smGet 0 x.ptr pk) rq with
  | none => s
  | some r =>
    let k := laneKey net st r.port r.ln
    let l := lane s k
    match l.q with
    | [] => s
    | f :: q =>
      let tail := f.sb.kind = 2 ∨ f.sb.kind = 3
      let injLost := rq.any (fun y => y.inj) && !r.inj
      let x1 := { x with ptr := smSet 0 pk ((r.port + 1) % 5) x.ptr, deny := smSet 0 pk (if r.inj then 0 else if injLost then dn + 1 else dn) x.deny }
      let s1 := setStop s st x1
      let s2 := setLane s1 k { l with q := q, out := if tail then none else some (out, r.dn), esc := l.esc && !decide tail }
      let nx := nextStop st out
      let b := sbOnward f.sb st r.port out r.dn r.ln
      let la := if nx = b.dstop then 0 else if r.dn = lnA then (candA s nx out b).headD 0 else (escHop s nx out r.dn b).1
      flitArrive s2 (laneKey net nx out r.dn) nx ⟨{ b with la := la }, f.data⟩ errs sbErr

/-- FLIT_FORWARD (R145). -/
def execFlitForward (net st out : Nat) (errs : List Code) (sbErr : Nat) (s : State) :
    Host.Outcome State Fault Refusal :=
  run (net < 2 && st < 140 && 1 ≤ out && out ≤ 4 && (if out ≤ 2 then onH st else onV st))
    (flitForward s net st out errs sbErr)

/-- A packet leaves lane A for VC E (R146): its head stands in lane A of an input, has begun no hop, and has no lane A
candidate or has stood there for 8 cycles; its next hop is the first of its escape route from here. -/
def escapeEntry (s : State) (net st port : Nat) : State :=
  let k := laneKey net st port lnA
  let l := lane s k
  match l.q with
  | [] => s
  | f :: _ =>
    if l.out.isNone && (f.sb.kind = 0 || f.sb.kind = 3) && f.sb.dstop != st &&
        ((candA s st port f.sb).isEmpty || l.front + 8 ≤ s.time.now) then setLane s k { l with esc := true }
    else s

/-- ESCAPE_ENTRY (R146). -/
def execEscapeEntry (net st port : Nat) (s : State) : Host.Outcome State Fault Refusal :=
  run (net < 2 && st < 140 && port < 5) (escapeEntry s net st port)

/-! ### Booked loads (R149, R150) -/

/-- The hops of an escape route from `st`, as (stop, output) pairs. -/
def routeHops (s : State) : Nat → Nat → Nat → Nat → Sb → List (Nat × Nat)
  | 0, _, _, _, _ => []
  | n + 1, st, port, ln, b =>
    let h := escHop s st port ln b
    if h.1 = 0 then []
    else (st, h.1) :: routeHops s n (nextStop st h.1) h.1 h.2 (sbOnward b st port h.1 h.2 ln)

/-- The links of a booked stream from `src` to `dst` under the bypass state in force. -/
def escapeRoute (s : State) (src dst : Nat) : List (Nat × Nat) :=
  routeHops s 64 src 0 lnE0 { dx := dirX src dst, dy := dirY src dst, dstop := dst, booked := true }

/-- The destination stop of a booking entry: the stop named, or that of the logical cabinet
(R110, R149). -/
def bookDest (s : State) (i : Nat) : Nat :=
  if fgetB s NOC_BOOK_DKIND i then fget s NOC_BOOK_DEST i else physOf s (fget s NOC_BOOK_DEST i)

/-- The booking instance of entry `k` of stop `st`. -/
def bookIx (st k : Nat) : Nat := st * 16 + k

/-- An entry counts: an edge stop's, or a cabinet's with an admitted plan. -/
def bookCounts (s : State) (i : Nat) : Bool :=
  let st := i / 16
  100 ≤ st || planAdm s st 0 || planAdm s st 1

/-- The sum of the booked flits on the link that leaves `st` by output `o`, over the entries `l`
(R150). -/
def linkSum (s : State) (l : List Nat) (st o : Nat) : Nat :=
  l.foldl (fun n i => if (escapeRoute s (i / 16) (bookDest s i)).contains (st, o) then n + fget s NOC_BOOK_FLITS i else n) 0

/-- The limit of R150. -/
def linkLimit (s : State) : Nat := 3 * tickLen s / 5

/-- The links that some entry of `l` uses. -/
def usedLinks (s : State) (l : List Nat) : List (Nat × Nat) :=
  (l.flatMap (fun i => escapeRoute s (i / 16) (bookDest s i))).eraseDups

/-- The entries that count now. -/
def activeBooks (s : State) : List Nat := (setInstances s NOC_BOOK_VALID).filter (bookCounts s)

/-- The field of NOC_LINK_LOAD that shows an output of a stop (R171). -/
def loadFld (st o : Nat) : Fld :=
  if isVEdge st then (if o = 3 then NOC_LINK_LOAD_POS else NOC_LINK_LOAD_NEG)
  else if o = 1 then NOC_LINK_LOAD_POS else if o = 2 then NOC_LINK_LOAD_NEG
  else if o = 3 then NOC_LINK_LOAD_VPOS else NOC_LINK_LOAD_VNEG

/-- Writes every NOC_LINK_LOAD from the entries that count, each sum saturated (R150). -/
def sumLinks (s : State) : State :=
  let l := activeBooks s
  let z := (setInstances s NOC_LINK_LOAD_POS).foldl (fun s i => fset s NOC_LINK_LOAD_POS i 0)
    ((setInstances s NOC_LINK_LOAD_NEG).foldl (fun s i => fset s NOC_LINK_LOAD_NEG i 0)
      ((setInstances s NOC_LINK_LOAD_VPOS).foldl (fun s i => fset s NOC_LINK_LOAD_VPOS i 0)
        ((setInstances s NOC_LINK_LOAD_VNEG).foldl (fun s i => fset s NOC_LINK_LOAD_VNEG i 0) s)))
  (usedLinks s l).foldl (fun t e => fset t (loadFld e.1 e.2) e.1 (min 65535 (linkSum s l e.1 e.2))) z

/-- Some link carries more than the limit. -/
def overbooked (s : State) (l : List Nat) : Bool :=
  (usedLinks s l).any (fun e => linkLimit s < linkSum s l e.1 e.2)

/-- The two rings of a cross router: horizontal y, vertical 10 + x. -/
def ringsOf (st : Nat) : List Nat := [st / 10, 10 + st % 10]

/-- After a bypass change every booked stream is rerouted and the loads are summed again (R163); a
link beyond the limit sets OVERBOOKED on the router's rings with a U-class record. The next reroute whose loads fit
clears it: the spec says when the bit is set and not when it clears (DESIGN CHOICE, entry 163). -/
def reroute (s : State) (st : Nat) : State :=
  let s1 := sumLinks s
  if overbooked s1 (activeBooks s1) then
    raise ((ringsOf st).foldl (fun s r => fset s NOC_RING_STAT_OVERBOOKED r 1) s1)
      { src := rtrSrc st, cls := clsU, code := 3, addr := st }
  else (ringsOf st).foldl (fun s r => fset s NOC_RING_STAT_OVERBOOKED r 0) s1

/-- Entry `i`'s stream turns at router `st`. -/
def turnsAt (s : State) (i st : Nat) : Bool :=
  let h := escapeRoute s (i / 16) (bookDest s i)
  (h.zip h.tail).any (fun e => e.2.1 = st && turnsTo e.1.2 e.2.2)

/-- The BIST engine may place router `st` in TEST (R166): its cabinet's stop is fenced, and no admitted booked stream
turns or ejects there. -/
def testMay (s : State) (st : Nat) : Bool :=
  fgetB s CAB_STATE_FENCED st && (activeBooks s).all (fun i => bookDest s i != st && !turnsAt s i st)

/-! ### Router modes (R160 to R168) -/

/-- A router's ring holds another router in BYPASS or TEST, given the state it must be in. -/
def ringBusy (s : State) (st : Nat) : Bool :=
  (ringsOf st).any (fun r => fget s NOC_RING_STAT_BYPASS_STOP r != 0xFF && fget s NOC_RING_STAT_BYPASS_STOP r != st)

/-- The other routers that the rings of `st` name. -/
def ringOthers (s : State) (st : Nat) : List Nat :=
  ((ringsOf st).map (fun r => fget s NOC_RING_STAT_BYPASS_STOP r)).filter (fun b => b != 0xFF && b != st)

/-- A router in TEST, or on its way there. -/
def inTest (s : State) (b : Nat) : Bool := rtrState s b = rtTEST || (rtrState s b = rtENTERING && fget s NOC_RTR_CTL_MODE b = 2)

/-- Names `b` in BYPASS_STOP of both rings of a router. -/
def ringName (s : State) (st b : Nat) : State := (ringsOf st).foldl (fun s r => fset s NOC_RING_STAT_BYPASS_STOP r b) s

/-- A router returns to NORMAL from TEST (R166). -/
def endTest (s : State) (st : Nat) : State :=
  ringName (fset (fset (fset s NOC_RTR_CTL_STATE st rtNORMAL) NOC_RTR_CTL_MODE st 0) NOC_RTR_CTL_UNAVAIL st 0) st 0xFF

/-- A write of NOC_RTR_CTL.MODE (R160, R161). -/
def rtrMode (s : State) (st mode : Nat) : State :=
  let cur := rtrState s st
  if mode = 3 then fset s NOC_RTR_CTL_REFUSED st 1
  else if mode = 0 then
    if cur = rtBYPASS then fset (fset s NOC_RTR_CTL_MODE st 0) NOC_RTR_CTL_STATE st rtLEAVING
    else if cur = rtTEST ∨ cur = rtENTERING then endTest s st
    else s
  else if cur = rtFAILED then fset s NOC_RTR_CTL_REFUSED st 1
  else if cur != rtNORMAL ∧ fget s NOC_RTR_CTL_MODE st = mode then s
  else
    let others := ringOthers s st
    let allTest := others.all (inTest s)
    if ringBusy s st ∧ ¬ (mode = 1 ∧ allTest) then fset s NOC_RTR_CTL_REFUSED st 1
    else
      let s1 := if ringBusy s st then others.foldl endTest s else s
      ringName (fset (fset (fset s1 NOC_RTR_CTL_MODE st mode) NOC_RTR_CTL_STATE st rtENTERING) NOC_RTR_CTL_UNAVAIL st 1) st st

/-- No flit stands in a router's lanes, its injection port's among them, and none of a packet is still to come. -/
def lanesEmpty (s : State) (st : Nat) : Bool :=
  [0, 1].all (fun net => [0, 1, 2, 3, 4].all (fun p => [0, 1, 2, 3, 4, 5].all (fun ln => laneFree (lane s (laneKey net st p ln)))))

/-- The bypass switch of an entering router closes (R160) and booked streams are rerouted (R163). -/
def bypassClose (s : State) (st : Nat) : State :=
  if rtrState s st = rtENTERING ∧ lanesEmpty s st then
    let s1 := fset s NOC_RTR_CTL_STATE st (if fget s NOC_RTR_CTL_MODE st = 2 then rtTEST else rtBYPASS)
    reroute (setStop s1 st { stop s1 st with fenceRec := false }) st
  else s

/-- BYPASS_SWITCH_CLOSE (R160). -/
def execBypassSwitchClose (st : Nat) (s : State) : Host.Outcome State Fault Refusal :=
  run (st < 100) (bypassClose s st)

/-- A router that fails without bypass drops the packets whose heads stand in its lanes (R168, R157). -/
def rtrDropAll (s : State) (st : Nat) : State :=
  (List.range 60).foldl (fun s i =>
    let k := laneKey (i / 30) st (i / 6 % 5) (i % 6)
    let l := lane s k
    match l.q with
    | [] => s
    | f :: _ => if l.out.isNone && (f.sb.kind = 0 || f.sb.kind = 3) then setLane (headDrop s st f.data) k { l with q := [], drop := l.busy } else s) s

/-- A router reports an uncorrected internal fault (R162, R168): bypassed with its cabinet FAULTED when neither ring
has a router in BYPASS, a test on its rings ending first (R161), else the ring is DEGRADED and the router FAILED. -/
def rtrFault (s : State) (st : Nat) : State :=
  let p := st
  let ev (t : State) (code ukind uid : Nat) : State :=
    raise t { src := rtrSrc st, cls := clsU, code := code, addr := st, ukind := ukind, uid := uid }
  let others := ringOthers s st
  if others.all (inTest s) then
    let s0 := others.foldl endTest s
    let s1 := ringName (fset (fset (fset s0 NOC_RTR_CTL_MODE st 1) NOC_RTR_CTL_STATE st rtENTERING) NOC_RTR_CTL_UNAVAIL st 1) st st
    cabFault (ev s1 4 0 (logicalOf s p)) p
  else
    let s1 := (ringsOf st).foldl (fun t r =>
      let b := fget s NOC_RING_STAT_BYPASS_STOP r
      if b != 0xFF && b != st && !inTest s b then
        fset (fset t NOC_RING_STAT_DEGRADED r 1) NOC_RING_STAT_FAILED_STOP r st else t) s
    rtrDropAll (ev (fset (fset s1 NOC_RTR_CTL_STATE st rtFAILED) NOC_RTR_CTL_UNAVAIL st 1) 5 0xF 0) st

/-- ROUTER_INTERNAL_FAULT (R162). -/
def execRouterInternalFault (st : Nat) (s : State) : Host.Outcome State Fault Refusal :=
  run (st < 100) (rtrFault s st)

/-- A router leaves LEAVING (R163): NORMAL, and booked streams are rerouted. -/
def leavingDone (s : State) (st : Nat) : State :=
  if rtrState s st = rtLEAVING then reroute (endTest s st) st else s

/-- LEAVING_DONE (R163). -/
def execLeavingDone (st : Nat) (s : State) : Host.Outcome State Fault Refusal :=
  run (st < 100) (leavingDone s st)

/-- A write of NOC_CFG (R171): a timer written zero keeps its value and sets REFUSED. -/
def nocCfg (s : State) (reorder drain req : Nat) : State :=
  let r := reorder % 256
  let d := drain % 256
  let q := req % 65536
  let s1 := if r = 0 then s else fset s NOC_CFG_REORDER_TO 0 r
  let s2 := if d = 0 then s1 else fset s1 NOC_CFG_DRAIN 0 d
  let s3 := if q = 0 then s2 else fset s2 NOC_CFG_REQ_TO 0 q
  if r = 0 ∨ d = 0 ∨ q = 0 then fset s3 NOC_CFG_REFUSED 0 1 else s3

/-- NOC_CFG_WRITE (R171). -/
def execNocCfgWrite (reorder drain req : Nat) (s : State) : Host.Outcome State Fault Refusal :=
  run true (nocCfg s reorder drain req)

end Machine
end Sys2Proof
end

