-- ==== Sys2Proof/Machine/Stream.lean ====
section
/-!
DEFINITION. Reading a configuration stream (chapter 11): its words, header checks (R273, R296), keys and
decryption (R288 to R290), the seal (R292), clauses and frames (R274 to R286), completeness (R287), and
the records of an AXR-24 stream (R304).
-/

namespace Sys2Proof
namespace Machine

/-! ### Words -/

/-- The 64-bit words of bytes, low byte first (R273). -/
def bytesToWords : Nat → List Byte → List Word
  | 0, _ => []
  | n + 1, l => if l.isEmpty then [] else BitVec.ofNat 64 (leNat (l.take 8)) :: bytesToWords n (l.drop 8)

/-- A field of a word. -/
def wf (w : Word) (lo n : Nat) : Nat := w.toNat / 2 ^ lo % 2 ^ n

/-- A word of a list, zero beyond its end. -/
def wAt (l : List Word) (i : Nat) : Word := l.getD i 0

/-- Load codes (R308). -/
def lcOK : Nat := 0x00
/-- BAD_CLAUSE. -/
def lcBAD_CLAUSE : Nat := 0x0D
/-- CLAUSE_NOT_ALLOWED. -/
def lcNOT_ALLOWED : Nat := 0x0E
/-- REGION_VIOLATION. -/
def lcREGION : Nat := 0x0F
/-- BAD_FRAME. -/
def lcBAD_FRAME : Nat := 0x10
/-- SECTION_NOT_ALLOWED. -/
def lcSECTION : Nat := 0x11
/-- ROLL_ERROR. -/
def lcROLL : Nat := 0x12

/-- The outcome of a check: code, sub-reason, byte offset (0xFFFF_FFFF for none). -/
structure LoadRes where
  code : Nat
  sub : Nat := 0
  ofs : Nat := 0xFFFFFFFF
  deriving DecidableEq, Repr

/-! ### The header (R273, R296 class 1) -/

/-- The device's IDCODE (R2, R464). -/
def idcode : Nat := 0x1096C5E3

/-- KIND. -/
def hKind (h : List Word) : Nat := wf (wAt h 2) 60 4
/-- SIGSLOT. -/
def hSlot (h : List Word) : Nat := wf (wAt h 2) 58 2
/-- ENC. -/
def hEnc (h : List Word) : Nat := wf (wAt h 2) 56 2
/-- ROLL_INT. -/
def hRoll (h : List Word) : Nat := wf (wAt h 2) 0 32
/-- LENGTH. -/
def hLen (h : List Word) : Nat := (wAt h 3).toNat
/-- REGION, a bit a logical cabinet. -/
def hRegion (h : List Word) : Nat := (wAt h 4).toNat + wf (wAt h 5) 0 32 * 2 ^ 64
/-- NONCE as 12 bytes, low byte first. -/
def hNonce (h : List Word) : List Nat :=
  (leBytes 12 ((wAt h 6).toNat + wf (wAt h 7) 0 32 * 2 ^ 64)).map (fun b => b.toNat)
/-- WRAPKEY. -/
def hWrap (h : List Word) : List Byte := (List.range 5).flatMap (fun i => leBytes 8 (wAt h (8 + i)).toNat)
/-- STREAM_ID. -/
def hSid (h : List Word) : Nat := (wAt h 13).toNat
/-- SVN. -/
def hSvn (h : List Word) : Nat := wf (wAt h 14) 0 32

/-- Reserved header fields are zero, and HDRLEN, KIND, ENC, LENGTH and REGION lie in their ranges. -/
def hdrOk (h : List Word) : Bool :=
  wf (wAt h 0) 0 16 = 16 && hKind h ≤ 2 && hEnc h != 3 && wf (wAt h 2) 32 24 = 0 &&
    hLen h % 8 = 0 && 336 ≤ hLen h && hLen h ≤ 67108864 && hRegion h != 0 &&
    wf (wAt h 5) 32 32 = 0 && wf (wAt h 7) 32 32 = 0 && (hEnc h = 2 || (hWrap h).all (fun b => b = 0)) &&
    wf (wAt h 14) 32 32 = 0 && wAt h 15 = 0

/-- The header checks in their order (R296, class 1). -/
def hdrCheck (s : State) (staged : Nat) (h : List Word) : Nat :=
  if staged < 128 then 0x09
  else if wf (wAt h 0) 32 32 != 0x41585244 || wf (wAt h 0) 16 16 != 1 then 0x02
  else if !hdrOk h then 0x03
  else if (wf (wAt h 1) 32 32 ^^^ idcode) &&& wf (wAt h 1) 0 32 != 0 then 0x04
  else if hRoll h % 8 != 0 || hRoll h < 8 || 4194304 < hRoll h then 0x05
  else if hEnc h = 0 && s.otp.encReq then 0x06
  else if hEnc h != 0 && fgetB s CFG_KEY_STAT_KEY_OFF 0 then 0x1B
  else if s.otp.revoked.testBit (hSlot h) then 0x07
  else if hSvn h < s.otp.svn then 0x08
  else if staged < hLen h then 0x09
  else 0

/-! ### The seal (R292) -/

/-- The public-key digest of a key: the first 32 bytes of its SHAKE256. -/
def pkDigest (pk : List Byte) : List Byte := shake256 pk 32

/-- SIG_KEY or SIG_INVALID of sealed bytes `b` with a context, against a digest slot. -/
def sealCheck (s : State) (slot : Nat) (ctx : String) (b : List Byte) : Nat :=
  let n := b.length - 192
  let tail := b.drop n
  let cw := leNat (tail.take 8)
  let pk := (tail.drop 8).take 57
  let sig := (tail.drop 72).take 114
  let d := smGet [] s.otp.digest slot
  if d.isEmpty || pkDigest pk != d then 0x0A
  else if cw != 0x7F00001700000000 || !((tail.drop 65).take 7).all (fun x => x = 0) || !((tail.drop 186).all (fun x => x = 0)) ||
      !edVerify true (strBytes ctx) pk (b.take n) sig then 0x0B
  else 0

/-! ### Decryption (R289) -/

/-- A key span: its key, its round keys and the byte at which it starts; no keys in a clear stream. -/
structure KeySpan where
  key : List Byte
  ks : List (List Nat)
  start : Nat
  deriving DecidableEq, Repr

/-- A word at byte `pos` decrypted under a span. -/
def spanWord (nonce : List Nat) (k : KeySpan) (pos : Nat) (w : Word) : Word :=
  if k.ks.isEmpty then w
  else
    let o := pos - k.start
    let b := ((ctrBlock k.ks nonce (o / 16)).drop (o % 16)).take 8
    w ^^^ BitVec.ofNat 64 (leNat (b.map (fun x => BitVec.ofNat 8 x)))

/-- `n` words from byte `pos` decrypted. -/
def spanWords (nonce : List Nat) (k : KeySpan) : Nat → Nat → List Word → List Word
  | 0, _, _ => []
  | _, _, [] => []
  | n + 1, pos, w :: r => spanWord nonce k pos w :: spanWords nonce k n (pos + 8) r

/-- The span after ROLL `i`, starting at byte `pos`. -/
def nextSpan (k : KeySpan) (i pos : Nat) : KeySpan :=
  let key := shake256 (k.key ++ leBytes 4 i) 32
  ⟨key, aesKeys key, pos⟩

/-! ### Frames (R275 to R277) -/

/-- Words of a section. -/
def secWords (s : Nat) : Nat := if s = 0 then 12 else if s ≤ 15 then 3 else if s ≤ 23 then 64 else 0

/-- Set bits among the low `n` of a number. -/
def popBits : Nat → Nat → Nat
  | 0, _ => 0
  | n + 1, v => v % 2 + popBits n (v / 2)

/-- A frame's words by index, absent ones zero (R277). -/
def frameExpand (mask : Nat) : Nat → Nat → List Word → List Word
  | 0, _, _ => []
  | n + 1, i, l => if mask.testBit i then wAt l 0 :: frameExpand mask n (i + 1) (l.drop 1) else 0 :: frameExpand mask n (i + 1) l

/-- The whole section that a frame writes. -/
def frameAll (f : FrameWr) : List Word := frameExpand f.mask (secWords f.sec) 0 f.words

/-- A reserved word, field or encoding in a section (R276). -/
def secReserved (sec : Nat) (w : List Word) : Bool :=
  if sec = 0 then
    !((w.drop 2).all (fun x => x = 0)) || wf (wAt w 0) 39 25 != 0 || wf (wAt w 1) 39 25 != 0
  else if sec ≤ 15 then w.zipIdx.any (fun e => drawerReserved e.2 e.1)
  else false

/-- The codes that apply to a frame (R275, R276, R277). -/
def frameCodes (kind region : Nat) (f : FrameWr) : List Nat :=
  (if 24 ≤ f.sec then [lcBAD_FRAME] else []) ++
  (if region.testBit f.l && f.l < 96 then [] else [lcREGION]) ++
  (if kind = 2 && (f.sec = 0 || (16 ≤ f.sec && f.sec ≤ 23)) then [lcSECTION] else []) ++
  (if 2 ^ secWords f.sec ≤ f.mask || secReserved f.sec (frameAll f) then [lcBAD_FRAME] else [])

/-- The successor of a frame address (R278): (cabinet, column, row, section). -/
def nextFrame (a : Nat × Nat × Nat × Nat) : Nat × Nat × Nat × Nat :=
  if a.2.2.2 < 23 then (a.1, a.2.1, a.2.2.1, a.2.2.2 + 1)
  else if a.2.2.1 < 7 then (a.1, a.2.1, a.2.2.1 + 1, 0)
  else if a.2.1 < 15 then (a.1, a.2.1 + 1, 0, 0)
  else (a.1 + 1, 0, 0, 0)

/-- `n` frames from an address; none where the words do not fill them exactly. -/
def frameList : Nat → Nat × Nat × Nat × Nat → List Word → Option (List FrameWr)
  | 0, _, l => if l.isEmpty then some [] else none
  | _, _, [] => none
  | n + 1, a, m :: r =>
    let k := popBits 64 m.toNat
    if r.length < k then none
    else (frameList n (nextFrame a) (r.drop k)).map (fun t =>
      ⟨a.1, a.2.1, a.2.2.1, a.2.2.2, m.toNat, r.take k⟩ :: t)

/-- Sixteen-bit entries of words, four a word. -/
def entries16 (l : List Word) : List Nat := l.flatMap (fun w => [wf w 0 16, wf w 16 16, wf w 32 16, wf w 48 16])

/-! ### Clauses (R274 to R286) -/

/-- A booking entry whose reserved bits and SEQ are zero, with a destination that exists (R282). -/
def bookOk (w : Nat) : Bool :=
  w / 2 ^ 48 % 8 = 0 && w % 2 ^ 28 = 0 &&
    (w / 2 ^ 63 = 0 || (if w / 2 ^ 62 % 2 = 0 then w / 2 ^ 54 % 256 < 96 else 100 ≤ w / 2 ^ 54 % 256 && w / 2 ^ 54 % 256 ≤ 139))

/-- A PINCFG that a DOORS pin entry may carry (R323, R324). -/
def doorPinOk (c : Nat) : Bool := c / 2 ^ 22 != 3 && (c / 2 ^ 13 % 4 = 1 || c / 2 ^ 13 % 4 = 2)

/-- The DOORS payload of `npin` pins (R282); none where a field is reserved. -/
def doorsParse (npin : Nat) (p : List Word) : Option DoorImg :=
  let w0 := wAt p 0
  let ff := (entries16 ((p.drop 1).take 4)).zipIdx
  let bk := ((p.drop 5).take 8).map (fun w => w.toNat)
  let pe := ((p.drop 13).flatMap (fun w => [wf w 0 32, wf w 32 32]))
  let reloc := wf w0 63 1 = 1
  let bcen := wf w0 0 16
  if wf w0 16 47 = 0 && !(reloc && bcen != 0) &&
      ff.all (fun e => if e.2 < 8 then e.1 % 2 ^ 15 = 0 else e.1 / 2 ^ 11 % 16 = 0 && e.1 / 64 % 4 = 0) &&
      bk.all bookOk && (pe.take npin).all (fun e => e / 2 ^ 31 = 0 && e / 2 ^ 24 % 128 < 96 && doorPinOk (e % 2 ^ 24)) &&
      (pe.drop npin).all (fun e => e = 0) then
    some ⟨reloc, bcen, ff.map (fun e => e.1), bk, (pe.take npin).map (fun e => (e / 2 ^ 24 % 128, e % 2 ^ 24))⟩
  else none

/-- A STARTUP word whose codes form a permutation (R283). -/
def startupOk (w : Word) : Bool :=
  wf w 48 8 = 0 && [0, 1, 2, 3].all (fun c => [0, 1, 2, 3].any (fun k => wf w (56 + 2 * k) 2 = c))

/-- The stop has the output (R171, R286). -/
def stopHasOut (st o : Nat) : Bool :=
  if st < 100 then 1 ≤ o && o ≤ 4 else if st < 120 then o = 1 || o = 2 else st < 140 && (o = 3 || o = 4)

/-- No number stands twice in a list. -/
def noDup : List Nat → Bool
  | [] => true
  | a :: r => !r.contains a && noDup r

/-- The CERT payload (R286); none where a field is reserved. -/
def certParse (edge : Bool) (nlink nport ndem : Nat) (p : List Word) : Option Cert :=
  let w0 := wAt p 0
  let ls := (p.drop 1).take nlink
  let ps := (p.drop (1 + nlink)).take nport
  let ds := (p.drop (1 + nlink + nport)).take ndem
  if wf w0 48 16 = 0 && wf w0 32 1 = 0 && wf w0 20 12 = 0 && (!edge || (w0 = 0 && nport = 0 && ndem = 0)) && nport ≤ 12 &&
      ls.all (fun w => wf w 20 33 = 0 && stopHasOut (wf w 56 8) (wf w 53 3)) &&
      ps.all (fun w => wf w 60 4 = 0 && wf w 20 36 = 0 && wf w 56 4 < 12) && noDup (ps.map (fun w => wf w 56 4)) &&
      ds.all (fun w => wf w 48 13 = 0 && wf w 32 16 != 0) then
    some { has := true, dmask := wf w0 32 16, slotSum := wf w0 0 20,
           links := ls.map (fun w => (wf w 56 8, wf w 53 3, wf w 0 20)),
           ports := ps.map (fun w => (wf w 56 4, wf w 0 20)),
           demand := ds.map (fun w => (wf w 32 16, wf w 61 3, wf w 0 32)) }
  else none

/-- The slots of a TICKPLAN payload; none where one is reserved (R281). -/
def slotsParse (n : Nat) (p : List Word) : Option (List (Nat × Nat)) :=
  let e := p.flatMap (fun w => [wf w 0 32, wf w 32 32])
  if (e.take n).all (fun x => x / 2 ^ 20 = 0 && x / 65536 != 0 && x % 65536 != 0) && (e.drop n).all (fun x => x = 0) then
    some ((e.take n).map (fun x => (x / 65536 % 16, x % 65536)))
  else none

/-- Reads a clause of verb `v`, argument `a` and payload `p` in a stream of `kind`: the codes that apply
to it, and what it says (R274). -/
def clauseRead (kind region enc v a : Nat) (p : List Word) : List Nat × Cl :=
  let cabn := a / 2 ^ 16 % 128
  let n := p.length
  let reg (l : Nat) : List Nat := if region.testBit l && l < 96 then [] else [lcREGION]
  let res (ok : Bool) : List Nat := if ok then [] else [lcBAD_CLAUSE]
  let kindOk (ok : Bool) : List Nat := if ok then [] else [lcNOT_ALLOWED]
  if v = 0x01 then
    let fa := (a / 2 ^ 12 % 128, a / 256 % 16, a / 32 % 8, a % 32)
    match frameList (a / 2 ^ 24 + 1) fa p with
    | none => ([lcBAD_CLAUSE], .frames [])
    | some l => (res (a / 2 ^ 19 % 32 = 0) ++ l.flatMap (frameCodes kind region), .frames l)
  else if v = 0x02 then
    let m := wAt p 0
    let k := popBits 64 m.toNat
    let na := a / 65536 + 1
    let body := (p.drop 1).take k
    let ad := entries16 (p.drop (1 + k))
    let l := (ad.take na).map (fun e => (⟨e / 128 % 128, e / 8 % 16, e % 8, a % 32, m.toNat, body⟩ : FrameWr))
    (res (a / 32 % 2048 = 0 && n = 1 + k + (na + 3) / 4 && (ad.take na).all (fun e => e / 2 ^ 14 = 0) && (ad.drop na).all (fun e => e = 0)) ++
      l.flatMap (frameCodes kind region), .frames l)
  else if v = 0x03 then
    let w := wAt p 0
    let sm := wf w 0 24
    (res (n = 1 && a % 65536 = 0 && a / 2 ^ 23 = 0 && wf w 24 26 = 0 && wf w 56 4 ≤ wf w 60 4 && wf w 50 3 ≤ wf w 53 3 && sm != 0) ++
      reg cabn ++ (if kind = 2 && (sm % 2 = 1 || sm / 65536 != 0) then [lcSECTION] else []),
     .fill cabn (wf w 60 4) (wf w 56 4) (wf w 53 3) (wf w 50 3) sm)
  else if v = 0x10 then
    let ns := a % 64
    let sl := slotsParse ns p
    (res (a / 64 % 1024 = 0 && a / 2 ^ 23 % 256 = 0 && 1 ≤ ns && ns ≤ 32 && n = (ns + 1) / 2 && sl.isSome) ++ reg cabn,
     .tickplan cabn (a / 2 ^ 31) (sl.getD []))
  else if v = 0x11 then
    let edge := a / 2 ^ 30 % 2 = 1
    let np := a % 128
    let rest := a / 128 % 512 = 0 && a / 2 ^ 23 % 128 = 0 && a / 2 ^ 31 = 0
    if edge then
      (res (rest && np = 0 && n = 16 && cabn < 40 && p.all (fun w => bookOk w.toNat)) ++ kindOk (kind = 0),
       .doorsEdge (100 + cabn) (p.map (fun w => w.toNat)))
    else
      let d := doorsParse np p
      (res (rest && np ≤ 96 && n = 13 + (np + 1) / 2 && d.isSome) ++ kindOk (kind != 2) ++ reg cabn, .doors cabn (d.getD {}))
  else if v = 0x12 then
    (res (a % 65536 = 0 && a / 2 ^ 23 = 0 && n = 1 && startupOk (wAt p 0)) ++ kindOk (kind != 2) ++ (if cabn = 0x7F then [] else reg cabn),
     .startup cabn (wAt p 0).toNat)
  else if v = 0x13 then
    let b := p.zipIdx.foldl (fun x e => x + e.1.toNat * 2 ^ (64 * e.2)) 0
    (res (a / 16 % 4096 = 0 && a / 2 ^ 23 % 256 = 0 && n = 15 && b < 2 ^ 912) ++ reg cabn, .inventory cabn (a / 2 ^ 31) (a % 16) b)
  else if v = 0x14 then
    let edge := a / 2 ^ 30 % 2 = 1
    let nl := a / 256 % 256
    let nq := a / 2 ^ 24 % 32
    let nd := a % 256
    let c := certParse edge nl nq nd p
    let ok := a / 2 ^ 29 % 2 = 0 && a / 2 ^ 23 % 2 = 0 && n = 1 + nl + nq + nd && c.isSome
    if edge then (res (ok && cabn < 40) ++ kindOk (kind = 0), .certEdge (100 + cabn) (c.getD {}))
    else (res ok ++ reg cabn, .cert cabn (a / 2 ^ 31) (c.getD {}))
  else if v = 0x15 then
    (res (a % 65536 = 0 && a / 2 ^ 23 = 0 && n = 0) ++ kindOk (kind != 2) ++ reg cabn, .capture cabn)
  else if v = 0x20 then (res (n = 0) ++ kindOk (enc != 0), .roll)
  else ([lcBAD_CLAUSE], .fin)

/-- The least code of a list, the first listed of R296. -/
def minCode (l : List Nat) : Nat := l.foldl (fun m c => if m = 0 || c < m then c else m) 0

/-- Reads the clauses from byte `pos` to END (R274, R289 to R291, R296 class 3). `n` clauses have been
read, `i` of them ROLLs. -/
def clausesRead (h : List Word) : Nat → Nat → Nat → Nat → KeySpan → List Word → LoadRes × List (Nat × Cl)
  | 0, pos, _, _, _, _ => (⟨lcBAD_CLAUSE, 0, pos⟩, [])
  | fuel + 1, pos, n, i, k, l =>
    let nonce := hNonce h
    let endPos := hLen h - 200
    let lim := hRoll h
    let enc := !k.ks.isEmpty
    match l with
    | [] => (⟨lcBAD_CLAUSE, 0, pos⟩, [])
    | w :: r =>
      if enc && lim ≤ pos - k.start then (⟨lcROLL, 0, pos⟩, [])
      else
        let c := spanWord nonce k pos w
        let v := wf c 56 8
        let len := wf c 32 24
        let a := wf c 0 32
        if v = 0x7E then
          if len != 0 then (⟨lcBAD_CLAUSE, 0, pos⟩, [])
          else if a != n || pos != endPos then (⟨0x13, 0, pos⟩, [])
          else (⟨0, 0, 0xFFFFFFFF⟩, [(pos, .fin)])
        else
          let stop := pos + 8 * (len + 1)
          if endPos < stop then (⟨lcBAD_CLAUSE, 0, pos⟩, [])
          else
            let ovr := enc && lim < stop - k.start
            let p := if ovr then [] else spanWords nonce k len (pos + 8) r
            let q := clauseRead (hKind h) (hRegion h) (hEnc h) v a p
            let codes := (if ovr then (if v = 0x7F || q.2 = .fin then [lcBAD_CLAUSE] else [lcROLL]) else q.1) ++
              (if v = 0x20 && enc && a != i + 1 then [lcROLL] else [])
            let m := minCode codes
            if m != 0 then (⟨m, 0, pos⟩, [])
            else
              let k1 := if v = 0x20 then nextSpan k (i + 1) stop else k
              let t := clausesRead h fuel stop (n + 1) (if v = 0x20 then i + 1 else i) k1 (r.drop len)
              (t.1, (pos, q.2) :: t.2)

/-- The root key (R288): none where the unwrap fails. -/
def rootKey (s : State) (h : List Word) : Option (List Byte) :=
  if hEnc h = 2 then aesUnwrap s.otp.key (hWrap h) else some s.otp.key

/-- The content checks of a stream's words (R296 class 3). -/
def bodyRead (s : State) (h : List Word) (w : List Word) : LoadRes × List (Nat × Cl) :=
  let body := w.drop 16
  match rootKey s h with
  | none => (⟨0x0C, 0, 128⟩, [])
  | some key =>
    let k : KeySpan := if hEnc h = 0 then ⟨[], [], 128⟩ else ⟨key, aesKeys key, 128⟩
    if spanWord (hNonce h) k 128 (wAt body 0) != 0 then (⟨0x0C, 0, 128⟩, [])
    else clausesRead h body.length 136 0 0 k (body.drop 1)

/-! ### Completeness (R287) -/

/-- The byte offset of the first clause that `f` picks. -/
def findCl (cls : List (Nat × Cl)) (f : Cl → Bool) : Option Nat := (cls.find? (fun c => f c.2)).map (fun c => c.1)

/-- The clause loads a plan register. -/
def isPlan (l plan : Nat) (c : Cl) : Bool := match c with | .tickplan a b _ => a = l && b = plan | _ => false
/-- The clause is the cabinet's DOORS. -/
def isDoors (l : Nat) (c : Cl) : Bool := match c with | .doors a _ => a = l | _ => false
/-- The clause certifies a plan. -/
def isCert (l plan : Nat) (c : Cl) : Bool := match c with | .cert a b _ => a = l && b = plan | _ => false
/-- The clause is an inventory segment of a plan. -/
def isInv (l plan col : Nat) (c : Cl) : Bool := match c with | .inventory a b k _ => a = l && b = plan && k = col | _ => false

/-- A loaded plan has its CERT and 16 INVENTORY segments. -/
def planWhole (cls : List (Nat × Cl)) (l plan : Nat) : Bool :=
  (findCl cls (isCert l plan)).isSome && (List.range 16).all (fun k => (findCl cls (isInv l plan k)).isSome)

/-- The clause that INCOMPLETE names for a region cabinet, none where the cabinet is complete. -/
def cabIncomplete (kind endOfs : Nat) (cls : List (Nat × Cl)) (l : Nat) : Option Nat :=
  let a := findCl cls (isPlan l 0)
  let b := findCl cls (isPlan l 1)
  let d := findCl cls (isDoors l)
  let badPlan := (cls.find? (fun c => match c.2 with | .tickplan x q _ => x = l && !planWhole cls l q | _ => false)).map (fun c => c.1)
  match badPlan with
  | some o => some o
  | none =>
    if kind = 2 then none
    else
      match d, a, b with
      | some _, some _, _ => none
      | some _, none, some _ => none
      | some o, none, none => some o
      | none, some x, some y => some (min x y)
      | none, some x, none => some x
      | none, none, some y => some y
      | none, none, none => some endOfs

/-- The completeness check: the offset that INCOMPLETE names. -/
def incomplete (kind region : Nat) (cls : List (Nat × Cl)) : Option Nat :=
  let endOfs := (findCl cls (fun c => c = .fin)).getD 0xFFFFFFFF
  let stray := cls.find? (fun c => match c.2 with
    | .inventory l q _ _ => (findCl cls (isPlan l q)).isNone
    | .cert l q _ => (findCl cls (isPlan l q)).isNone
    | _ => false)
  match stray with
  | some c => some c.1
  | none =>
    match ((List.range 96).filter (fun l => region.testBit l)).findSome? (cabIncomplete kind endOfs cls) with
    | some o => some o
    | none =>
      (cls.find? (fun c => match c.2 with
        | .doorsEdge e _ => !cls.any (fun d => match d.2 with | .certEdge x _ => x = e | _ => false)
        | _ => false)).map (fun c => c.1)

/-! ### AXR-24 streams (R304, R306) -/

/-- CRC-32C of R304 over bytes: reflected, initial value and final inversion all ones. -/
def crc32cR (b : List Byte) : Nat :=
  (b.foldl (fun c x =>
    (List.range 8).foldl (fun c i =>
      let t := c % 2 != (if x.getLsbD i then 1 else 0)
      if t then (c / 2) ^^^ 0x82F63B78 else c / 2) c) 0xFFFFFFFF) ^^^ 0xFFFFFFFF

/-- The bytes of words. -/
def wordBytes (l : List Word) : List Byte := l.flatMap (fun w => leBytes 8 w.toNat)

/-- An operation new in the AXR-96C (R306). -/
def newOp (w : Word) : Bool := [0x25, 0x32, 0x33, 0x34, 0x35, 0x36].contains (insOP w) || insOVF w = 2

end Machine
end Sys2Proof
end

