-- ==== Sys2Proof/Machine/Admit.lean ====
section
/-!
DEFINITION. Plans in their registers (R281, R115), booking entries and FIFO settings (R282, R149), and
the four admission tests of a plan (R95, R103, R150, R297, R352).
-/

namespace Sys2Proof
namespace Machine

/-! ### Plan registers -/

/-- Slots `k` and on of plan register `plan`; those beyond the list read zero (R115). -/
def putSlots (p plan : Nat) : Nat → Nat → List (Nat × Nat) → State → State
  | 0, _, _, s => s
  | n + 1, k, l, s =>
    let e := l.headD (0, 0)
    let i := p * 32 + k
    putSlots p plan n (k + 1) l.tail
      (if plan = 0 then fset (fset s CAB_PLAN_A_DRAWER i e.1) CAB_PLAN_A_LEN i e.2
       else fset (fset s CAB_PLAN_B_DRAWER i e.1) CAB_PLAN_B_LEN i e.2)

/-- The sum of slot lengths. -/
def slotSum (l : List (Nat × Nat)) : Nat := l.foldl (fun n e => n + e.2) 0

/-- Sets whether a plan is admitted. -/
def setAdm (s : State) (p plan : Nat) (b : Bool) : State :=
  if plan = 0 then fsetB s CAB_PLAN_STAT_A_ADM p b else fsetB s CAB_PLAN_STAT_B_ADM p b

/-- Inventory classes of one plan, kept beside those of the other. -/
def putInv (c : Cab) (plan : Nat) (inv : SMap Nat) : Cab :=
  { c with inv := inv.foldl (fun m e => smSet 0 (plan * 128 + e.1) e.2 m) (smClear (plan * 128) (plan * 128 + 128) c.inv) }

/-- Loads a plan register with its certificate and inventory; it reads not admitted (R298). -/
def putPlan (s : State) (p plan : Nat) (i : PlanImg) : State :=
  let s1 := putSlots p plan 32 0 i.slots s
  let s2 := if plan = 0 then fset (fset s1 CAB_PLAN_STAT_A_SLOTS p i.slots.length) CAB_PLAN_STAT_A_SUM p (slotSum i.slots)
    else fset (fset s1 CAB_PLAN_STAT_B_SLOTS p i.slots.length) CAB_PLAN_STAT_B_SUM p (slotSum i.slots)
  let c := putInv (cab s2 p) plan i.inv
  setAdm (setCab s2 p (if plan = 0 then { c with certA := i.cert } else { c with certB := i.cert })) p plan false

/-- The slots of a plan register. -/
def planList (s : State) (p plan : Nat) : List (Nat × Nat) :=
  (List.range (planSlots s p plan)).map (fun k => planSlot s p plan k)

/-- The certificate of a plan. -/
def planCert (s : State) (p plan : Nat) : Cert := if plan = 0 then (cab s p).certA else (cab s p).certB

/-! ### Booking entries and FIFO settings -/

/-- The fields of NOC_BOOK beside SEQ. -/
def bookFlds : List Fld := [NOC_BOOK_VALID, NOC_BOOK_DKIND, NOC_BOOK_DEST, NOC_BOOK_DFIFO, NOC_BOOK_FLITS]

/-- Writes booking entry `k` of stop `st` from a word: its SEQ restarts at 0 (R282), its bucket is full
(R151) and its next packet is the first (R153). -/
def putBook (s : State) (st k v : Nat) : State :=
  let i := bookIx st k
  let s1 := fset (fstore s bookFlds i v) NOC_BOOK_SEQ i 0
  let x := stop s1 st
  setStop s1 st { x with debt := smSet (0, 0) k (0, 0) x.debt,
                         fresh := (x.fresh.filter (fun e => e != k)) ++ (if v / 2 ^ 63 % 2 = 1 then [k] else []) }

/-- Writes `n` entries from entry `k`. -/
def putBooks (st : Nat) : Nat → Nat → List Nat → State → State
  | 0, _, _, s => s
  | n + 1, k, l, s => putBooks st n (k + 1) l.tail (putBook s st k (l.headD 0))

/-- FIFO settings of a DOORS clause (R282): SWAP everywhere, PRIO, ILENM1 and EN on outbound FIFOs. -/
def putFifos (p : Nat) : Nat → Nat → List Nat → State → State
  | 0, _, _, s => s
  | n + 1, f, l, s =>
    let v := l.headD 0
    let k := cabFifo p f
    let s1 := fifoModeSwap s k (v / 2 ^ 15 % 2)
    putFifos p n (f + 1) l.tail
      (if 8 ≤ f then fset (fset (fset s1 FIFO_WFRAME_PRIO k (v / 256 % 8)) FIFO_WFRAME_ILENM1 k (v % 64)) FIFO_WFRAME_EN k 1 else s1)

/-- What a DOORS clause sets in registers: FIFO settings and the eight booking entries. -/
def putDoorRegs (s : State) (p : Nat) (d : DoorImg) : State := putBooks p 8 0 d.books (putFifos p 16 0 d.fifos s)

/-! ### The tests -/

/-- Sub-reasons of ADMISSION_REFUSED (R308). -/
def subOVERRUN : Nat := 1
/-- LINK_OVERBOOKED. -/
def subOVERBOOKED : Nat := 2
/-- DEADLINE_INFEASIBLE. -/
def subDEADLINE : Nat := 3
/-- CERT_MISMATCH. -/
def subCERT : Nat := 4

/-- The valid booking entries of a stop. -/
def stopBooks (s : State) (st : Nat) : List Nat :=
  ((List.range 16).map (fun k => bookIx st k)).filter (fun i => fgetB s NOC_BOOK_VALID i)

/-- The flits that a certificate gives for a link; a link it does not list has none (R286). -/
def certFlits (c : Cert) (st o : Nat) : Nat :=
  c.links.foldl (fun n l => if l.1 = st && l.2.1 = o then n + l.2.2 else n) 0

/-- The certificate's link loads equal the device's own sums over a stop's streams (R150, R297). -/
def linksAgree (s : State) (st : Nat) (c : Cert) : Bool :=
  let l := stopBooks s st
  (usedLinks s l ++ c.links.map (fun e => (e.1, e.2.1))).all (fun e => linkSum s l e.1 e.2 = certFlits c e.1 e.2)

/-- What a booked stream names as its inbound FIFO. -/
def bookTarget (s : State) (i : Nat) : Nat :=
  fget s NOC_BOOK_DKIND i * 2048 + fget s NOC_BOOK_DEST i * 8 + fget s NOC_BOOK_DFIFO i

/-- A stream of stop `st` names an inbound FIFO that another counted stream names too (R149, R297). -/
def sharedTarget (s : State) (st : Nat) : Bool :=
  (stopBooks s st).any (fun i => (activeBooks s).any (fun j => j != i && bookTarget s j = bookTarget s i))

/-- Flits of one item of `n` words: packets of at most 32 words, each a head and its data flits (R103). -/
def itemFlits (n : Nat) : Nat :=
  n / 32 * 9 + (if n % 32 = 0 then 0 else 1 + (n % 32 + 3) / 4)

/-- A port record passes (R103). A transmit channel where no block stands carries no word. -/
def portOk (s : State) (p port w : Nat) : Bool :=
  if port < 8 then
    let k := cabFifo p (8 + port)
    let i := bookIx p port
    let n := fget s FIFO_WFRAME_ILENM1 k + 1
    !(fgetB s FIFO_MODE_SWAP k && 512 < w) &&
      (w = 0 || (fgetB s NOC_BOOK_VALID i && (w + n - 1) / n * itemFlits n ≤ fget s NOC_BOOK_FLITS i))
  else
    match convBlock p with
    | none => w = 0
    | some j =>
      !(fgetB s FIFO_MODE_SWAP (convFifo j (4 + (port - 8))) && 512 < w) &&
        w ≤ fget s JPT_PATH_CFG_SPT (4 * j + 2 + (port - 8) / 2) / 4

/-- Test 1 (R95). -/
def planTest1 (s : State) (p plan : Nat) : Bool := slotSum (planList s p plan) + 24 ≤ tickLen s

/-- Test 2 (R95): every drawer named is valid. -/
def planTest2 (s : State) (p plan : Nat) : Bool :=
  (planList s p plan).all (fun e => e.1 != 0 && (fget s CAB_DRAWER_VALID_VALID p).testBit (e.1 - 1))

/-- The drawers that a plan names, as DMASK has them. -/
def planDrawers (s : State) (p plan : Nat) : Nat :=
  (planList s p plan).foldl (fun m e => m ||| 2 ^ e.1) 0

/-- Slots exist, none is of length 0 and none names drawer 0 (R95). -/
def planShape (s : State) (p plan : Nat) : Bool :=
  let l := planList s p plan
  !l.isEmpty && l.all (fun e => e.1 != 0 && e.2 != 0)

/-- Test 3 (R95). -/
def planTest3 (s : State) (p plan : Nat) : Bool :=
  let c := planCert s p plan
  planShape s p plan && c.has && c.dmask = planDrawers s p plan && c.slotSum = slotSum (planList s p plan)

/-- Test 4's comparison with the certificate and its port records. -/
def planTest4 (s : State) (p plan : Nat) : Bool :=
  let c := planCert s p plan
  linksAgree s p c && !sharedTarget s p && c.ports.all (fun e => portOk s p e.1 e.2)

/-- The four tests of one plan, in a state in which it counts as admitted: the sub-reason, 0 for a plan
that passes. A compatibility-loaded cabinet takes tests 1 and 2 alone (R305). -/
def planTest (s0 : State) (p plan : Nat) : Nat :=
  let s := setAdm s0 p plan true
  if !planTest1 s p plan then subOVERRUN
  else if !planTest2 s p plan then subCERT
  else if (cab s p).compat then (if planShape s p plan then 0 else subCERT)
  else if !planTest3 s p plan || !planTest4 s p plan then subCERT
  else if overbooked s (activeBooks s) then subOVERBOOKED
  else if !schAdmits s (s.ctl.thr.map (fun e => e.2)) (admittedDemand s) then subDEADLINE
  else 0

/-- Admits a plan that passes its tests and writes the link loads (R95, R150). -/
def planAdmit (s : State) (p plan : Nat) : State :=
  if planTest s p plan = 0 then sumLinks (setAdm s p plan true) else s

end Machine
end Sys2Proof
end

