-- ==== Sys2Proof/Machine/Gddr.lean ====
section
/-!
DEFINITION. GDDR7 memory (R227 to R240): lines, pieces and parity, the correction ladder, stored
poison, device failure and rebuild, row sparing, patrol, and byte accesses over lines.
-/

namespace Sys2Proof
namespace Machine

/-- Writes GDDR7's inner state. -/
def setGdr (s : State) (g : GdrSt) : State := { s with gdr := g }

/-- Usable capacity in MiB by DENS (R228). -/
def usableMiB (dens : Nat) : Nat := if dens = 0 then 7168 else if dens = 1 then 10752 else if dens = 2 then 14336 else 0

/-- Lines of usable memory. -/
def usableLines (s : State) : Nat := fget s GDM_STAT_USABLE 0 * 8192

/-- The key of word `w` of the piece of a line on device `d`. -/
def gKey (line d w : Nat) : Nat := (line * 5 + d) * 4 + w

/-- A stored codeword. -/
def gCode (s : State) (line d w : Nat) : Code := smGet 0 s.gdr.mem (gKey line d w)

/-- Stores a codeword. -/
def gPut (s : State) (line d w : Nat) (c : Code) : State :=
  setGdr s { s.gdr with mem := smSet 0 (gKey line d w) c s.gdr.mem }

/-- Upset bits hit a line's stored words, by 4 × device + word. -/
def gUpset (s : State) (line : Nat) (l : List (Nat × Code)) : State :=
  l.foldl (fun s e => gPut s line (e.1 / 4) (e.1 % 4) (gCode s line (e.1 / 4) (e.1 % 4) ^^^ e.2)) s

/-- The device that is out, while DEGRADED. -/
def gFailed (s : State) : Option Nat := if fgetB s GDM_STAT_DEGRADED 0 then some (fget s GDM_STAT_FAILED_DEV 0) else none

/-- GDM_STAT as a number. -/
def gdmStat (s : State) : Nat :=
  fget s GDM_STAT_TRAINED 0 * 2 ^ 31 + fget s GDM_STAT_DEGRADED 0 * 2 ^ 30 + fget s GDM_STAT_REBUILD 0 * 2 ^ 29 +
    fget s GDM_STAT_LOST 0 * 2 ^ 28 + fget s GDM_STAT_FAILED_DEV 0 * 2 ^ 24 + fget s GDM_STAT_USABLE 0

/-- A MEM event (R371). -/
def memEvent (s : State) : State := event s 9 0 (gdmStat s) 0

/-- GDM_LAST: the first error, replaced only by an uncorrected one where the held one is not. -/
def gLast (s : State) (ue : Bool) (dev kind line : Nat) : State :=
  if fgetB s GDM_LAST_VALID 0 && (!ue || fgetB s GDM_LAST_UE 0) then s
  else fset (fset (fset (fsetB (fset s GDM_LAST_VALID 0 1) GDM_LAST_UE 0 ue) GDM_LAST_DEV 0 dev) GDM_LAST_KIND 0 kind) GDM_LAST_LINE 0 line

/-- Declares device `d` failed (R235, R236). -/
def gDeclare (s : State) (d : Nat) : State :=
  match gFailed s with
  | none =>
    let s1 := fset (fset s GDM_STAT_DEGRADED 0 1) GDM_STAT_FAILED_DEV 0 d
    let s2 := setGdr s1 { s1.gdr with retrained := false }
    memEvent (raise s2 { src := 44, cls := clsU, code := 1, addr := d })
  | some f =>
    if f = d then
      if fgetB s GDM_STAT_REBUILD 0 then
        memEvent (raise (fset s GDM_STAT_LOST 0 1) { src := 44, cls := clsF, code := 2, addr := d })
      else s
    else memEvent (raise (fset s GDM_STAT_LOST 0 1) { src := 44, cls := clsF, code := 2, addr := d })

/-- A piece's words as read (R232). -/
structure GPiece where
  v : List Verdict
  raw : List Word
  inj : Bool
  coinc : Bool
  deriving DecidableEq, Repr

/-- A verdict is uncorrectable. -/
def isBad (v : Verdict) : Bool := match v with | .bad => true | _ => false
/-- A verdict is a correction. -/
def isFixed (v : Verdict) : Bool := match v with | .fixed _ => true | _ => false
/-- A verdict is stored poison. -/
def isPoison (v : Verdict) : Bool := match v with | .poison => true | _ => false

/-- Reads the piece on device `d` with its checks; `edc` repeats count, and a transfer that still fails
makes its words uncorrectable (R234), but for stored poison, which stays (R233). -/
def gPiece (s : State) (line d edc : Nat) : State × GPiece :=
  let s0 := fadd s GDM_DEV_ERR_EDC_RETRY d (min 4 edc)
  [0, 1, 2, 3].foldl (fun q w =>
    let c := gCode q.1 line d w
    let (s1, e) := eccCheck q.1 44 d c
    let v := if 4 < edc then (if isPoison e.v then .poison else .bad) else e.v
    (s1, ⟨q.2.v ++ [v], q.2.raw ++ [eccData c], q.2.inj || e.inj, q.2.coinc || e.coinc⟩)) (s0, (⟨[], [], false, false⟩ : GPiece))

/-- The data of a word as judged, its raw bits where it is not good. -/
def vData (v : Verdict) (raw : Word) : Word := match v with | .clean d => d | .fixed d => d | _ => raw

/-- The row of a line on a device. -/
def gRow (line d : Nat) : Nat × Nat × Nat := (d, Config.gddrBank line, Config.gddrRow line)

/-- Marks a row that gave a corrected error; a second read in the patrol pass wants a spare (R238). -/
def gRowCE (g : GdrSt) (r : Nat × Nat × Nat) : GdrSt :=
  if g.ceRows.contains r then (if g.want.contains r then g else { g with want := g.want ++ [r] })
  else { g with ceRows := g.ceRows ++ [r] }

/-- Notes a reconstruction of device `d`; the sixteenth within one second declares it failed (R235). -/
def gRecon (s : State) (line d : Nat) : State :=
  let l := (smGet [] s.gdr.recon d ++ [s.time.now])
  let l1 := l.drop (l.length - 16)
  let r := gRow line d
  let s1 := setGdr s { s.gdr with recon := smSet [] d l1 s.gdr.recon, want := if s.gdr.want.contains r then s.gdr.want else s.gdr.want ++ [r] }
  if l1.length = 16 ∧ s.time.now - l1.headD 0 ≤ Config.aclkKHz * 1000 then gDeclare s1 d else s1

/-- XOR of the words at index `w` of pieces. -/
def xorAt (l : List (List Word)) (w : Nat) : Word := l.foldl (fun x p => x ^^^ p.getD w 0) 0

/-- What a line access found: the five pieces as judged words with their poison marks, whether a word
is uncorrectable, and whether parity mismatches. -/
structure GLine where
  words : List (List (Word × Bool))
  ue : Bool
  mismatch : Bool
  deriving DecidableEq, Repr

/-- Writes back a word where the check corrected it. -/
def gFixWord (line d : Nat) (s : State) (e : Verdict × Nat) : State :=
  match e.1 with
  | .fixed x => gPut s line d e.2 (eccEnc x)
  | _ => s

/-- Writes back the corrected words of a piece. -/
def gFix (s : State) (line d : Nat) (p : GPiece) : State :=
  let n := (p.v.filter isFixed).length
  if n = 0 then s
  else
    let s1 := (p.v.zipIdx).foldl (gFixWord line d) s
    let s2 := fadd (fadd s1 GDM_ERR_CE 0 n) GDM_DEV_ERR_CE d n
    gLast (setGdr s2 (gRowCE s2.gdr (gRow line d))) false d 0 line

/-- Reads a line under the ladder of R232. `all` reads the parity piece in any case (R239). A word that stood as stored
poison on a device that failed stays poisoned until it is written (R233). -/
def gRead (s0 : State) (line : Nat) (up : List (Nat × Code)) (edc : List Nat) (all : Bool) (access : Nat) : State × GLine :=
  let s1 := gUpset s0 line up
  let f := gFailed s1
  let rd (q : State × List GPiece) (d : Nat) : State × List GPiece :=
    if f = some d then (q.1, q.2 ++ [⟨[.bad, .bad, .bad, .bad], [0, 0, 0, 0], false, false⟩])
    else
      let r := gPiece q.1 line d (edc.getD d 0)
      (r.1, q.2 ++ [r.2])
  let q4 := [0, 1, 2, 3].foldl rd (s1, ([] : List GPiece))
  let need := all || q4.2.any (fun p => p.v.any isBad)
  let q := if need then rd q4 4 else (q4.1, q4.2 ++ [⟨[.clean 0, .clean 0, .clean 0, .clean 0], [0, 0, 0, 0], false, false⟩])
  let ps := q.2
  let piece (d : Nat) : GPiece := ps.getD d ⟨[], [], false, false⟩
  let badDev (d : Nat) : Bool := f != some d && (piece d).v.any isBad
  let bads := [0, 1, 2, 3, 4].filter badDev
  let dataBads := bads.filter (fun d => d < 4)
  let vw (d w : Nat) : Verdict := (piece d).v.getD w .bad
  let dat (d w : Nat) : Word := vData (vw d w) ((piece d).raw.getD w 0)
  let others (d w : Nat) : List Nat := ([0, 1, 2, 3, 4].filter (fun e => e != d)).filter (fun e => f = some e || isBad (vw e w))
  -- a word can be rebuilt when every other word of its stripe is there
  let rebuilt (d w : Nat) : Word := ([0, 1, 2, 3, 4].filter (fun e => e != d)).foldl (fun x e => x ^^^ dat e w) 0
  let one := f.isNone && bads.length = 1 && (all || dataBads.length = 1)
  let word (d w : Nat) : Word × Bool :=
    if f = some d then (rebuilt d w, !(others d w).isEmpty || isPoison (vw 4 w) || isPoison (eccJudge (gCode s1 line d w)))
    else if isBad (vw d w) then (if one then (rebuilt d w, false) else (dat d w, true))
    else (dat d w, isPoison (vw d w))
  let words := [0, 1, 2, 3, 4].map (fun d => [0, 1, 2, 3].map (fun w => word d w))
  let s2 := [0, 1, 2, 3, 4].foldl (fun s d => if f = some d then s else gFix s line d (piece d)) q.1
  let inj := ps.any (fun p => p.inj)
  let coinc := ps.any (fun p => p.coinc)
  let ue := if all then (if f.isNone then 2 ≤ bads.length else !bads.isEmpty) else
    (if f.isNone then !dataBads.isEmpty && !(one) else !bads.isEmpty)
  let ce := ps.any (fun p => p.v.any isFixed)
  let mism := all && f.isNone && bads.isEmpty && ps.all (fun p => p.v.all (fun v => !isPoison v)) &&
    [0, 1, 2, 3].any (fun w => xorAt (words.map (fun p => p.map (fun x => x.1))) w != 0)
  let s3 :=
    if ue then
      raise (gLast (finc s2 GDM_ERR_UE_LINE 0) true (bads.headD 0) 2 line)
        { src := 44, cls := clsU, code := 3, addr := line, access := access, inj := inj, coinc := coinc }
    else if one then
      let d := bads.headD 0
      let s4 := [0, 1, 2, 3].foldl (fun s w => if isBad (vw d w) then gPut s line d w (eccEnc (rebuilt d w)) else s) s2
      let s5 := gLast (finc s4 GDM_ERR_RECON 0) false d 1 line
      gRecon (raise s5 { src := 44, cls := clsC, code := 4, addr := line, access := access, inj := inj, coinc := coinc }) line d
    else if ce then raise s2 { src := 44, cls := clsC, code := 5, addr := line, access := access, inj := inj }
    else s2
  (s3, ⟨words, ue, mism⟩)

/-- The sixteen words of a line with their poison marks. -/
def gWords (l : GLine) : List (Word × Bool) := (l.words.take 4).flatMap (fun p => p)

/-- A codeword for a word: stored poison where it is poisoned (R233). -/
def gEnc (x : Word × Bool) : Code := if x.2 then eccPoison x.1 else eccEnc x.1

/-- Writes the pieces `ds` of a line and its parity from its sixteen words; `edc` are the repeats by
device (R231, R234, R235, R237). A failed device is skipped: what it held of the piece counts no more. -/
def gWrite (s0 : State) (line : Nat) (ws : List (Word × Bool)) (ds : List Nat) (edc : List Nat) : State :=
  let f := gFailed s0
  let reb := fgetB s0 GDM_STAT_REBUILD 0
  let piece (d : Nat) : List (Word × Bool) :=
    if d < 4 then (ws.drop (4 * d)).take 4
    else [0, 1, 2, 3].map (fun w =>
      ([0, 1, 2, 3].foldl (fun x i => x ^^^ (ws.getD (4 * i + w) (0, false)).1) 0,
       match f with | some d => !reb && d < 4 && (ws.getD (4 * d + w) (0, false)).2 | none => false))
  let s1 := setGdr s0 { s0.gdr with traffic := true, fresh := if reb && !s0.gdr.fresh.contains line then s0.gdr.fresh ++ [line] else s0.gdr.fresh }
  (ds ++ [4]).foldl (fun s d =>
    if f = some d && !reb then [0, 1, 2, 3].foldl (fun s w => gPut s line d w 0) s
    else
      let n := edc.getD d 0
      let s2 := fadd s GDM_DEV_ERR_EDC_RETRY d (min 4 n)
      if 4 < n then gDeclare (gLast (finc s2 GDM_DEV_ERR_EDC_FAIL d) true d 4 line) d
      else ((piece d).zipIdx).foldl (fun s (e : (Word × Bool) × Nat) => gPut s line d e.2 (gEnc e.1)) s2) s1

/-! ### Byte accesses -/

/-- Bytes of words, least significant first, with their poison marks. -/
def wordsBytes (l : List (Word × Bool)) : List (Byte × Bool) :=
  l.flatMap (fun x => (leBytes 8 x.1.toNat).map (fun b => (b, x.2)))

/-- Words of bytes: a word is poisoned where a byte of it is. -/
def bytesWords : Nat → List (Byte × Bool) → List (Word × Bool)
  | 0, _ => []
  | n + 1, l => (BitVec.ofNat 64 (leNat ((l.take 8).map (fun x => x.1))), (l.take 8).any (fun x => x.2)) :: bytesWords n (l.drop 8)

/-- Merges new bytes into a line's words from byte `off` on (R240): a poisoned word stays poisoned
until all of it is written with good data (R233). -/
def gMerge (ws : List (Word × Bool)) (off : Nat) (b : List (Byte × Bool)) : List (Word × Bool) :=
  let old := wordsBytes ws
  bytesWords 16 (old.take off ++ b ++ old.drop (off + b.length))

/-- The devices whose pieces a span of a line's bytes touches. -/
def gTouched (off n : Nat) : List Nat := [0, 1, 2, 3].filter (fun d => off < 32 * d + 32 && 32 * d < off + n)

/-- The data devices that a write of part of a line writes: those it touches; while a rebuild runs all of them, since
the line may not have been reached (R237). -/
def gDevices (s : State) (off n : Nat) : List Nat := if fgetB s GDM_STAT_REBUILD 0 then [0, 1, 2, 3] else gTouched off n

/-- A write within one line (R240): a whole line at once, else read-modify-write. -/
def gWriteSpan (s : State) (line off : Nat) (b : List (Byte × Bool)) (up : List (Nat × Code)) (edc : List Nat) : State :=
  if off = 0 ∧ b.length = 128 then gWrite s line (bytesWords 16 b) [0, 1, 2, 3] edc
  else
    let r := gRead s line up edc false 2
    gWrite r.1 line (gMerge (gWords r.2) off b) (gDevices r.1 off b.length) edc

/-- Bytes `n` from byte address `a` of the window's start. -/
def gReadBytes : Nat → Nat → Nat → State → State × List (Byte × Bool)
  | 0, _, _, s => (s, [])
  | fuel + 1, a, n, s =>
    if n = 0 then (s, [])
    else
      let r := gRead s (a / 128) [] [] false 1
      let k := min n (128 - a % 128)
      let q := gReadBytes fuel (a + k) (n - k) r.1
      (q.1, ((wordsBytes (gWords r.2)).drop (a % 128)).take k ++ q.2)

/-- Writes bytes from byte address `a` of the window's start, line by line. -/
def gWriteBytes : Nat → Nat → List (Byte × Bool) → State → State
  | 0, _, _, s => s
  | fuel + 1, a, b, s =>
    if b.isEmpty then s
    else
      let k := min b.length (128 - a % 128)
      gWriteBytes fuel (a + k) (b.drop k) (gWriteSpan s (a / 128) (a % 128) (b.take k) [] [])

/-- A span of bytes from address `a` lies in usable GDDR7. -/
def gUsable (s : State) (a n : Nat) : Bool := a + n ≤ usableLines s * 128

/-! ### Meanings -/

/-- The upsets that strike one of a line's twenty words. -/
def gUp (up : List (Nat × Code)) : List (Nat × Code) := up.filter (fun e => e.1 < 20)

/-- GDDR_LINE_READ (R232): the line's words are the answer's bytes, status 2 where one is poisoned. -/
def execGddrLineRead (line : Nat) (up : List (Nat × Code)) (edc : List Nat) (s : State) : Host.Outcome State Fault Refusal :=
  run true
    (if line < usableLines s then
      let r := gRead s line (gUp up) edc false 1
      let w := gWords r.2
      { r.1 with bus := ⟨(w.headD (0, false)).1, if w.any (fun x => x.2) then 2 else 0, (wordsBytes w).map (fun x => x.1)⟩ }
     else { s with bus := { s.bus with status := 1 } })

/-- GDDR_LINE_WRITE (R231): sixteen words with their poison marks. -/
def execGddrLineWrite (line : Nat) (ws : List (Word × Bool)) (edc : List Nat) (s : State) : Host.Outcome State Fault Refusal :=
  run (ws.length = 16)
    (if line < usableLines s then gWrite s line ws [0, 1, 2, 3] edc else { s with bus := { s.bus with status := 1 } })

/-- GDDR_PARTIAL_WRITE (R240). -/
def execGddrPartialWrite (line off : Nat) (b : List Byte) (pois : Bool) (up : List (Nat × Code)) (edc : List Nat) (s : State) :
    Host.Outcome State Fault Refusal :=
  run (off + b.length ≤ 128)
    (if line < usableLines s then
      let r := gRead s line (gUp up) edc false 2
      gWrite r.1 line (gMerge (gWords r.2) off (b.map (fun x => (x, pois)))) (gDevices r.1 off b.length) edc
     else { s with bus := { s.bus with status := 1 } })

/-- GDM_FAIL_WRITE (R235). -/
def execGdmFailWrite (d : Nat) (s : State) : Host.Outcome State Fault Refusal :=
  run true
    (let s1 := fset s GDM_CTL_DEV 0 d
     if d % 8 < 5 then gDeclare s1 (d % 8) else fset s1 GDM_CTL_REFUSED 0 1)

/-- A write of GDM_CTL.REBUILD (R237). -/
def gRebuild (s : State) : State :=
  if fgetB s GDM_STAT_DEGRADED 0 && s.gdr.retrained && !fgetB s GDM_STAT_LOST 0 then
    if fgetB s GDM_STAT_REBUILD 0 then s else memEvent (setGdr (fset s GDM_STAT_REBUILD 0 1) { s.gdr with fresh := [] })
  else fset s GDM_CTL_REFUSED 0 1

/-- GDM_REBUILD_WRITE (R237). -/
def execGdmRebuildWrite (s : State) : Host.Outcome State Fault Refusal := run true (gRebuild s)

/-- The lines of which memory holds a word. -/
def gLines (s : State) : List Nat := (s.gdr.mem.map (fun e => e.1 / 20)).eraseDups

/-- Rewrites the failed device's piece of a line from the other four. -/
def gRebuildLine (d : Nat) (s : State) (line : Nat) : State :=
  if s.gdr.fresh.contains line then s
  else
    let r := gRead s line [] [] true 1
    ((r.2.words.getD d []).zipIdx).foldl (fun s e => gPut s line d e.2 (gEnc e.1)) r.1

/-- The rebuild ends (R237): every line's piece on the failed device is rewritten, DEGRADED clears. -/
def gRebuildDone (s : State) : State :=
  match gFailed s with
  | none => s
  | some d =>
    if fgetB s GDM_STAT_REBUILD 0 && !fgetB s GDM_STAT_LOST 0 then
      let s1 := (gLines s).foldl (gRebuildLine d) s
      let s2 := fset (fset (fset s1 GDM_STAT_REBUILD 0 0) GDM_STAT_DEGRADED 0 0) GDM_STAT_FAILED_DEV 0 7
      memEvent (setGdr s2 { s2.gdr with fresh := [], retrained := false })
    else s

/-- GDDR_REBUILD_DONE (R237). -/
def execGddrRebuildDone (s : State) : Host.Outcome State Fault Refusal := run true (gRebuildDone s)

/-- Rewrites word `w` of a line on a row's device while the row is copied, rebuilt as needed. -/
def gCopyWord (d line : Nat) (s : State) (w : Nat) : State :=
  match eccJudge (gCode s line d w) with
  | .fixed x => gPut s line d w (eccEnc x)
  | .bad =>
    let o := [0, 1, 2, 3, 4].filter (fun e => e != d)
    if gFailed s = none && o.all (fun e => !isBad (eccJudge (gCode s line e w))) then
      gPut s line d w (eccEnc (o.foldl (fun x e => x ^^^ vData (eccJudge (gCode s line e w)) (eccData (gCode s line e w))) 0))
    else s
  | _ => s

/-- Copies the piece of one line on a row's device. -/
def gCopyLine (d : Nat) (s : State) (line : Nat) : State := (List.range 4).foldl (gCopyWord d line) s

/-- The first of a bank's 64 spare rows that is neither mapped nor given up. -/
def gNextSpare (s : State) (d b : Nat) : Option Nat :=
  (List.range 64).find? (fun k => !(smGet [] s.gdr.spare d).any (fun e => e.1 = b && e.2.2 = k) && !s.gdr.dead.contains (d, b, k))

/-- The first row that wants a spare is copied and its mapping switches; a bank without one keeps the
row, and its first want is recorded as U-class (R238). -/
def gSpare (s : State) : State :=
  match s.gdr.want with
  | [] => s
  | (d, b, r) :: rest =>
    let l := smGet [] s.gdr.spare d
    let s1 := setGdr s { s.gdr with want := rest, ceRows := s.gdr.ceRows.filter (fun x => x != (d, b, r)) }
    match gNextSpare s d b with
    | some k =>
      let s2 := ((gLines s1).filter (fun n => gRow n d = (d, b, r))).foldl (gCopyLine d) s1
      let old := l.filter (fun e => e.1 = b && e.2.1 = r)
      let s3 := setGdr s2 { s2.gdr with
        spare := smSet [] d (l.filter (fun e => !(e.1 = b && e.2.1 = r)) ++ [(b, r, k)]) s2.gdr.spare
        dead := s2.gdr.dead ++ old.map (fun e => (d, b, e.2.2)) }
      fset s3 GDM_DEV_ERR_SPARE_USED d (smGet [] s3.gdr.spare d).length
    | none =>
      if s.gdr.full.contains (d, b) then s1
      else raise (setGdr s1 { s1.gdr with full := s1.gdr.full ++ [(d, b)] }) { src := 44, cls := clsU, code := 6, addr := b * 2 ^ 24 + r }

/-- GDDR_ROW_SPARE (R238). -/
def execGddrRowSpare (s : State) : Host.Outcome State Fault Refusal := run true (gSpare s)

/-- Patrol reads its next line with all five pieces (R239): a parity mismatch with every word clean
poisons the whole line. -/
def gPatrol (s0 : State) (up : List (Nat × Code)) (edc : List Nat) : State :=
  if usableLines s0 = 0 then s0
  else
    let line := s0.gdr.pat % usableLines s0
    let next := (line + 1) % usableLines s0
    let r := gRead s0 line up edc true 4
    let s1 := setGdr r.1 { r.1.gdr with pat := next, ceRows := if next = 0 then [] else r.1.gdr.ceRows }
    if r.2.mismatch then
      let ws := (gWords r.2).map (fun x => (x.1, true))
      let s2 := gWrite s1 line ws [0, 1, 2, 3] []
      let s3 := [0, 1, 2, 3].foldl (fun s w => gPut s line 4 w (eccPoison (eccData (gCode s line 4 w)))) s2
      raise (gLast (finc s3 GDM_ERR_UE_LINE 0) true 0 3 line) { src := 44, cls := clsU, code := 7, addr := line, access := 4 }
    else s1

/-- GDDR_PATROL (R239). -/
def execGddrPatrol (up : List (Nat × Code)) (edc : List Nat) (s : State) : Host.Outcome State Fault Refusal :=
  run true (gPatrol s (gUp up) edc)

end Machine
end Sys2Proof
end

