-- ==== Sys2Proof/Machine/Qm.lean ====
section
/-!
DEFINITION. The queue manager (R201 to R203, R213 to R223): flows and their queues, drops, buckets,
the selection procedure, budgets, segments, and the registers of QMG.
-/

namespace Sys2Proof
namespace Machine

/-- A flow. -/
def flow (s : State) (f : Nat) : Flow := smGet {} s.qm.flows f

/-- Writes a flow. -/
def setFlow (s : State) (f : Nat) (x : Flow) : State := { s with qm := { s.qm with flows := smSet {} f x s.qm.flows } }

/-- A radio link. -/
def qLink (s : State) (l : Nat) : QLink := smGet {} s.qm.links l

/-- Writes a radio link. -/
def setQLink (s : State) (l : Nat) (x : QLink) : State := { s with qm := { s.qm with links := smSet {} l x s.qm.links } }

/-- The buffer cells a frame takes (R214). -/
def frameCells (n : Nat) : Nat := (n + 16 + 255) / 256

/-- The cells a flow holds. -/
def flowCells (x : Flow) : Nat := x.q.foldl (fun n f => n + frameCells f.data.length) 0

/-- A flow takes and sends frames. -/
def flowOpen (x : Flow) : Bool := x.en && !x.faulted

/-- 64-bit counters (R221). -/
def add64 (a b : Nat) : Nat := (a + b) % 2 ^ 64

/-! ### Drops (R221, R222) -/

/-- Counts a drop of a frame of `n` bytes against its flow and reason, and at the Bureau's tap. -/
def qmDrop (s : State) (f reason n tenant : Nat) (counted : Bool) : State :=
  let x := flow s f
  let s1 := setFlow s f { x with dropF := smSet 0 reason (add64 (smGet 0 x.dropF reason) 1) x.dropF, dropB := add64 x.dropB n }
  if counted then tapPut s1 2 tenant n else s1

/-- Gives cells back to the pool. -/
def poolGive (s : State) (n : Nat) : State := if n = 0 then s else fset s QMG_POOL_FREE 0 (fget s QMG_POOL_FREE 0 + n)

/-- Removes the head frame of a flow and gives its cells back. -/
def qmPop (s : State) (f : Nat) : State :=
  let x := flow s f
  match x.q with
  | [] => s
  | h :: r => poolGive (setFlow s f { x with q := r }) (frameCells h.data.length)

/-- Drops the head frame of a flow. -/
def qmDropHead (s : State) (f reason : Nat) : State :=
  match (flow s f).q with
  | [] => s
  | h :: _ => qmDrop (qmPop s f) f reason h.data.length h.tenant h.counted

/-- Drops the frames of a flow out of service as FLUSHED while the Bureau's tap takes them (R213,
R223, R377). -/
def qmFlush (f : Nat) : Nat → State → State
  | 0, s => s
  | n + 1, s =>
    if flowOpen (flow s f) || (flow s f).q.isEmpty || tapFull s 2 then s else qmFlush f n (qmDropHead s f 7)

/-- Flushes every flow out of service that still holds frames. -/
def qmFlushAll (s : State) : State :=
  s.qm.flows.foldl (fun s e => if flowOpen e.2 || e.2.q.isEmpty then s else qmFlush e.1 (e.2.q.length + 1) s) s

/-- BUREAU_TAP_EVENT (R377): the engine takes an event; a source held by a full buffer goes on. -/
def execBureauTapEvent (tap : Nat) (s : State) : Host.Outcome State Fault Refusal :=
  run (tap < 3) (qmFlushAll (tapTake s tap))

/-- The taps take what an enqueue may give them. -/
def qmCan (s : State) : Bool := !tapFull s 0 && !tapFull s 2

/-! ### Buffer cells in GDDR7 (R214) -/

/-- The cells that frames hold: of the flows' queues and of the frames being built. -/
def poolHeld (s : State) : List Nat :=
  s.qm.flows.flatMap (fun e => e.2.q.flatMap (fun x => x.cells)) ++
    s.qm.links.flatMap (fun e => e.2.build.flatMap (fun x => x.cells)) ++ s.qm.span.flatMap (fun x => x.cells)

/-- The first cell from `c` on, around the pool's `n` cells, that is not held. -/
def pickCell (n : Nat) (held : List Nat) : Nat → Nat → Nat
  | 0, c => c
  | k + 1, c => if held.contains c then pickCell n held k ((c + 1) % n) else c

/-- Draws `k` cells of the pool beside those in `have_`; which free cell is drawn is open (notes/assumptions/169). -/
def poolDraw (s : State) (have_ : List Nat) (k : Nat) : State × List Nat :=
  let n := max 1 (fget s QMG_POOL_CELLS 0)
  let held := poolHeld s
  let q := (List.range k).foldl (fun q _ =>
    let h := held ++ q.2
    (drawFree q.1, q.2 ++ [pickCell n h h.length (Config.choice q.1.free % n)])) (s, have_)
  (fset q.1 QMG_POOL_FREE 0 (fget q.1 QMG_POOL_FREE 0 - k), q.2)

/-- The cells of a frame that takes `c` of them, the missing ones drawn; none where the pool has too few. -/
def poolMore (s : State) (have_ : List Nat) (c : Nat) : Option (State × List Nat) :=
  if c ≤ have_.length then some (s, have_)
  else if fget s QMG_POOL_FREE 0 < c - have_.length then none else some (poolDraw s have_ (c - have_.length))

/-- The GDDR7 line of line `i` of a frame: two lines a cell. -/
def frameLine (s : State) (cells : List Nat) (i : Nat) : Nat :=
  (fget s QMG_POOL_BASE_BASE 0 - 0x10000) * 8192 + 2 * cells.getD (i / 2) 0 + i % 2

/-- The frame record (R214). -/
def frameRecord (x : QFrame) : Nat :=
  let st := x.stamp.getD 0
  x.data.length % 2 ^ 14 * 2 ^ 114 + x.port % 32 * 2 ^ 109 + x.tenant % 4096 * 2 ^ 97 + (if x.stamp.isSome then 2 ^ 96 else 0) +
    st / (1000000000 * 2 ^ 32) % 2 ^ 48 * 2 ^ 48 + st / 2 ^ 32 % 1000000000 * 2 ^ 18 + st / 65536 % 65536 * 4

/-- What a frame's cells hold: its record, its bytes, and zeros to the end of the last line. -/
def frameImage (x : QFrame) : List Byte := leBytes 16 (frameRecord x) ++ x.data

/-- Writes the lines of a frame that `sel` names, whole ones always. -/
def frameStore (s : State) (x : QFrame) (sel : Nat → Bool) : State :=
  let img := frameImage x
  ((List.range ((img.length + 127) / 128)).filter sel).foldl (fun s i =>
    gWrite s (frameLine s x.cells i) (bytesWords 16 (((img.drop (128 * i)).take 128).map (fun b => (b, false)))) [0, 1, 2, 3] []) s

/-- What a read of a frame's cells gives: the bytes, and whether a word of the lines read was uncorrectable. -/
structure FrameRead where
  b : List Byte
  bad : Bool
  deriving DecidableEq, Repr

/-- Reads `n` bytes of a frame's image from byte `lo` on, by whole lines. -/
def frameRead (s : State) (cells : List Nat) (lo n : Nat) : State × FrameRead :=
  let i0 := lo / 128
  let q := (List.range ((lo + n + 127) / 128 - i0)).foldl (fun q i =>
    let r := gRead q.1 (frameLine q.1 cells (i0 + i)) [] [] false 1
    (r.1, q.2 ++ wordsBytes (gWords r.2))) (s, ([] : List (Byte × Bool)))
  (q.1, ⟨((q.2.drop (lo % 128)).take n).map (fun x => x.1), q.2.any (fun x => x.2)⟩)

/-- Reads bytes of the head frame of a flow, behind its record. -/
def headRead (s : State) (f lo n : Nat) : State × FrameRead :=
  match (flow s f).q with
  | [] => (s, ⟨[], false⟩)
  | h :: _ => frameRead s h.cells (16 + lo) n

/-! ### Enqueuing -/

/-- Enqueues a frame on a flow (R213, R214, R221, R222). A frame that an inlet built brings its cells with its whole
lines stored, but for the first, which holds the record, and the last. -/
def qmEnqueue (s : State) (f : Nat) (x : QFrame) : State :=
  let o := flow s f
  let n := x.data.length
  let c := frameCells n
  let s0 := poolGive s x.cells.length
  if !flowOpen o then qmDrop s0 f 7 n x.tenant x.counted
  else if o.maxq < flowCells o + c then qmDrop s0 f 0 n x.tenant x.counted
  else
    match poolMore s x.cells c with
    | none => qmDrop s0 f 1 n x.tenant x.counted
    | some q =>
      let y := { x with tick := s.time.edges, cells := q.2 }
      let s1 := frameStore q.1 y (fun i => x.cells.isEmpty || i = 0 || 16 + n < 128 * (i + 1))
      let o1 := flow s1 f
      let s2 := setFlow s1 f { o1 with q := o1.q ++ [y], enqF := add64 o1.enqF 1, enqB := add64 o1.enqB n }
      if x.counted then tapPut s2 0 x.tenant n else s2

/-- Applies a lookup's result to a whole frame (R207). `cells` are those of a frame that an inlet built. -/
def qmApply (s : State) (h : LexHit) (data : List Byte) (port : Nat) (cells : List Nat) (stamp : Option Nat) : State :=
  let fr : QFrame := { data := data, tenant := h.tenant, port := port, tick := 0, counted := true, stamp := stamp, cells := cells }
  if h.act = 0 then qmDrop (poolGive s cells.length) h.flow 2 data.length h.tenant true
  else
    let s1 := qmEnqueue s h.flow fr
    if h.act = 2 then qmEnqueue s1 (fget s1 QMG_CFG_COPY_FLOW 0) { fr with counted := false, cells := [] } else s1

/-! ### Flow descriptors (R213) -/

/-- Bits of a number. -/
def nbits (v lo w : Nat) : Nat := v / 2 ^ lo % 2 ^ w

/-- The flow with the fields of a descriptor; what it holds stays. -/
def flowWith (x : Flow) (v : Nat) : Flow :=
  { x with en := nbits v 255 1 = 1, dtype := nbits v 252 2, ddev := nbits v 242 10, did := nbits v 228 14,
           cls := nbits v 225 3, weight := nbits v 217 8, cir := nbits v 193 24, eir := nbits v 169 24,
           cbs := nbits v 145 24, ebs := nbits v 121 24, maxq := nbits v 95 26, maxage := nbits v 79 16, next := none }

/-- The descriptor of a flow as a 256-bit number. -/
def flowBits (x : Flow) : Nat :=
  (if x.en then 2 ^ 255 else 0) + (if x.faulted then 2 ^ 254 else 0) + x.dtype * 2 ^ 252 + x.ddev * 2 ^ 242 +
    x.did * 2 ^ 228 + x.cls * 2 ^ 225 + x.weight * 2 ^ 217 + x.cir * 2 ^ 193 + x.eir * 2 ^ 169 + x.cbs * 2 ^ 145 +
    x.ebs * 2 ^ 121 + x.maxq * 2 ^ 95 + x.maxage * 2 ^ 79

/-- A descriptor takes effect; a flow that leaves service is flushed. -/
def flowPut (s : State) (f v : Nat) : State :=
  let x := flowWith (flow s f) v
  qmFlush f (x.q.length + 1) (setFlow s f x)

/-- A descriptor write: at once, or at the next tick edge for an enabled flow. -/
def flowSet (s : State) (f v : Nat) : State :=
  let x := flow s f
  if x.en then setFlow s f { x with next := some v } else flowPut s f v

/-- Some flow is enabled. -/
def anyFlow (s : State) : Bool := s.qm.flows.any (fun e => e.2.en)

/-- A flow returns to service at the end of its quiet period (R223, R408). -/
def flowRecover (s : State) (f : Nat) : State := setFlow s f { flow s f with faulted := false }

/-! ### Selection (R215 to R217) -/

/-- A destination: 0 radio link, 1 client port, 2 device over span. -/
structure QDest where
  kind : Nat
  id : Nat
  deriving DecidableEq, Repr

/-- A flow serves a destination. -/
def flowFor (d : QDest) (x : Flow) : Bool :=
  flowOpen x && (if d.kind = 0 then x.dtype = 0 && x.did = d.id
    else if d.kind = 1 then x.dtype = 1 && x.did = d.id
    else x.dtype = 2 && x.ddev = d.id)

/-- The length of a flow's head frame. -/
def headLen (x : Flow) : Nat := (x.q.head?).elim 0 (fun h => h.data.length)

/-- A flow's head frame is eligible in a pass: 0 committed, 1 excess (R215). -/
def headElig (pass : Nat) (x : Flow) : Bool :=
  !x.q.isEmpty && 256 * headLen x ≤ (if pass = 0 then x.cB else x.eB)

/-- The flows of destination, class and pass whose head is eligible, in order of number. -/
def selFlows (s : State) (d : QDest) (c pass : Nat) : List Nat :=
  (s.qm.flows.filter (fun e => flowFor d e.2 && e.2.cls = c && headElig pass e.2)).map (fun e => e.1)

/-- The key of a turn pointer. -/
def turnKey (d : QDest) (c pass : Nat) : Nat := ((d.kind * 1024 + d.id) * 8 + c) * 2 + pass

/-- The flow after `p` in circular order of number. -/
def afterFlow (l : List Nat) (p : Nat) : Option Nat :=
  match l.find? (fun f => p < f + 1) with
  | some f => some f
  | none => l.head?

/-- Gives turns until a flow's deficit covers its head frame (R216). -/
def dwrrTurn (key : Nat) (l : List Nat) : Nat → State → Option (Nat × State)
  | 0, _ => none
  | n + 1, s =>
    match afterFlow l (smGet 0 s.qm.turn key) with
    | none => none
    | some f =>
      let x := flow s f
      let x1 := { x with deficit := x.deficit + x.weight * 64 }
      let s1 := setFlow { s with qm := { s.qm with turn := smSet 0 key (f + 1) s.qm.turn } } f x1
      if headLen x1 ≤ x1.deficit then some (f, s1) else dwrrTurn key l n s1

/-- The next flow of a class and pass (R216): the one whose turn it is while its deficit covers its
head frame, else the next turns. A flow of weight 0 never gains a deficit. -/
def dwrrNext (s : State) (d : QDest) (c pass : Nat) : Option (Nat × State) :=
  let l := selFlows s d c pass
  let key := turnKey d c pass
  let p := smGet 0 s.qm.turn key
  if p != 0 && l.contains (p - 1) && headLen (flow s (p - 1)) ≤ (flow s (p - 1)).deficit then some (p - 1, s)
  else dwrrTurn key l (l.length * 146 + 1) s

/-- Passes and classes in R216's order. -/
def selOrder : List (Nat × Nat) := [0, 1].flatMap (fun p => [0, 1, 2, 3, 4, 5, 6, 7].map (fun c => (p, c)))

/-- Takes a head frame's length from the bucket of its pass and from the deficit. -/
def selCharge (s : State) (f pass : Nat) : State :=
  let x := flow s f
  let n := headLen x
  setFlow s f { x with cB := if pass = 0 then x.cB - 256 * n else x.cB, eB := if pass = 0 then x.eB else x.eB - 256 * n,
                       deficit := x.deficit - n }

/-- An uncorrectable buffer read (R223): the frame drops as POISON and the flow goes FAULTED. -/
def qmBufferUe (s : State) (f : Nat) : State :=
  let s1 := qmDropHead s f 5
  let s2 := raise s1 { src := 42, cls := clsU, code := 1, addr := f, access := 1, ukind := 7, uid := f }
  let x := flow s2 f
  qmFlush f (x.q.length + 1) (unitFault (setFlow s2 f { x with faulted := true }) 7 f)

/-- The frame is older than MAXAGE. -/
def aged (s : State) (x : Flow) : Bool :=
  match x.q with
  | [] => false
  | h :: _ => x.maxage != 0 && x.maxage < s.time.edges - h.tick

/-- Packs bytes into words, byte k at bits [8(k mod 8)+7 : 8(k mod 8)]. -/
def packWords : Nat → List Byte → List Word
  | 0, _ => []
  | n + 1, l => if l.isEmpty then [] else BitVec.ofNat 64 (leNat (l.take 8)) :: packWords n (l.drop 8)

/-- A segment's words (R201). -/
def segWords (flen sofs link flow : Nat) (last : Bool) (bytes : List Byte) : List Word :=
  BitVec.ofNat 64 (flen % 2 ^ 14 * 2 ^ 50 + sofs % 2 ^ 14 * 2 ^ 36 + bytes.length % 2 ^ 14 * 2 ^ 22 +
    (if last then 2 ^ 21 else 0) + link % 16 * 2 ^ 16 + flow % 2 ^ 14) :: packWords (bytes.length / 8 + 1) bytes

/-- Cuts words into items of at most 64 words (R123). -/
def cutItems : Nat → List Word → List (List Word)
  | 0, _ => []
  | n + 1, l => if l.isEmpty then [] else l.take 64 :: cutItems n (l.drop 64)

/-- Sends bytes of the head frame of flow `f` to radio link `l` and notes a frame that is done. -/
def sendRadio (s : State) (l f : Nat) (b : List Byte) : State :=
  let x := flow s f
  match x.q with
  | [] => s
  | h :: r =>
    let flen := h.data.length
    let n := b.length
    let ws := segWords flen h.sent l f (h.sent + n = flen) b
    let k := qLink s l
    let s1 := setQLink s l { k with stage := k.stage ++ cutItems (ws.length / 64 + 1) ws }
    if h.sent + n = flen then
      qmPop (setFlow s1 f { x with deqF := add64 x.deqF 1, deqB := add64 x.deqB flen }) f
    else setFlow s1 f { x with q := { h with sent := h.sent + n } :: r }

/-- A client port. -/
def cptPort (s : State) (n : Nat) : CptPort := smGet {} s.cpt n

/-- Writes a client port. -/
def setCptPort (s : State) (n : Nat) (x : CptPort) : State := { s with cpt := smSet {} n x s.cpt }

/-- The chosen frame leaves its flow whole, its bytes as read, to a client port's transmit buffer or as one segment
over span (R217). -/
def sendWhole (s : State) (d : QDest) (f : Nat) (b : List Byte) : State :=
  let x := flow s f
  match x.q with
  | [] => s
  | h :: _ =>
    let s1 := qmPop (setFlow s f { x with deqF := add64 x.deqF 1, deqB := add64 x.deqB h.data.length }) f
    if d.kind = 1 then
      let p := cptPort s1 d.id
      setCptPort s1 d.id { p with tx := p.tx ++ [⟨b, some f, h.tenant, h.counted⟩] }
    else
      let ws := segWords h.data.length 0 0 x.did true b
      { s1 with qm := { s1.qm with spanOut := s1.qm.spanOut ++ (cutItems (ws.length / 64 + 1) ws).map (fun w => (d.id, w)) } }

/-- The selection of R216 for a destination: the passes and classes in order, each once, and in one of them frame after
frame until none is eligible. A radio link sends `left` bytes, another destination one whole frame. `ue` are flows
whose buffer read is uncorrectable beside what the cells themselves show. -/
def selRun (d : QDest) (ue : List Nat) : Nat → List (Nat × Nat) → Nat → State → State
  | 0, _, _, s => s
  | _ + 1, [], _, s => s
  | n + 1, (pass, c) :: rest, left, s =>
    if left = 0 then s
    else
      match dwrrNext s d c pass with
      | none => selRun d ue n rest left s
      | some (f, s1) =>
        if tapFull s1 2 then s
        else if aged s1 (flow s1 f) then selRun d ue n ((pass, c) :: rest) left (qmDropHead s1 f 6)
        else
          let len := headLen (flow s1 f)
          let k := if d.kind = 0 then min len left else len
          let r := headRead s1 f 0 k
          if ue.contains f || r.2.bad then selRun d (ue.filter (fun g => g != f)) n ((pass, c) :: rest) left (qmBufferUe r.1 f)
          else
            let s2 := selCharge r.1 f pass
            if d.kind = 0 then
              let s3 := sendRadio s2 d.id f r.2.b
              if k < len then setQLink s3 d.id { qLink s3 d.id with carry := some f }
              else selRun d ue n ((pass, c) :: rest) (left - k) s3
            else sendWhole s2 d f r.2.b

/-- Frames queued for a destination. -/
def destFrames (s : State) (d : QDest) : Nat :=
  s.qm.flows.foldl (fun n e => if flowFor d e.2 then n + e.2.q.length else n) 0

/-- One tick's selection for a link (R216, R220): the split frame goes first. -/
def linkSelect (s : State) (l budget : Nat) (ue : List Nat) : State :=
  let k := qLink s l
  let q : State × Nat :=
    match k.carry with
    | none => (s, budget)
    | some f =>
      match (flow s f).q with
      | [] => (setQLink s l { k with carry := none }, budget)
      | h :: _ =>
        if h.sent = 0 || budget = 0 then (if h.sent = 0 then setQLink s l { k with carry := none } else s, budget)
        else
          let n := min (h.data.length - h.sent) budget
          let r := headRead s f h.sent n
          if ue.contains f || r.2.bad then (qmBufferUe (setQLink r.1 l { qLink r.1 l with carry := none }) f, budget)
          else
            let s1 := sendRadio r.1 l f r.2.b
            (if n = h.data.length - h.sent then setQLink s1 l { qLink s1 l with carry := none } else s1, budget - n)
  if q.2 = 0 then q.1 else selRun ⟨0, l⟩ ue (destFrames q.1 ⟨0, l⟩ + 17) selOrder q.2 q.1

/-- Drops the aged frames at the head of a flow. -/
def dropAged (f : Nat) : Nat → State → State
  | 0, s => s
  | n + 1, s => if tapFull s 2 || !aged s (flow s f) then s else dropAged f n (qmDropHead s f 6)

/-- The frames that wait for a port that is down drop by MAXAGE (R217). -/
def selDown (s : State) (d : QDest) : State :=
  s.qm.flows.foldl (fun s e => if flowFor d e.2 then dropAged e.1 e.2.q.length s else s) s

/-- CLIENT_SELECTION (R217): `span` chooses for device `id` over span, else for client port `id`; while that port is
down, or the device in SAFE or HALT (R399), its frames wait, and drop by MAXAGE alone. -/
def execClientSelection (span : Bool) (id : Nat) (ue : List Nat) (s : State) : Host.Outcome State Fault Refusal :=
  run (if span then id < 1024 else id < 8)
    (let d : QDest := ⟨if span then 2 else 1, id⟩
     if !span && !portSends s id then selDown s d else selRun d ue (destFrames s d + 17) selOrder 1 s)

/-! ### Budgets (R218 to R220) -/

/-- The words of an inlet. -/
def inlet (s : State) (i : Nat) : List InWord := smGet [] s.qm.inlet i

/-- Writes an inlet. -/
def setInlet (s : State) (i : Nat) (l : List InWord) : State := { s with qm := { s.qm with inlet := smSet [] i l s.qm.inlet } }

/-- One budget word of port `k` (R218, R219). -/
def budgetWord (s : State) (k : Nat) : State :=
  match inlet s (8 * k + 7) with
  | [] => s
  | x :: r =>
    let s1 := setInlet s (8 * k + 7) r
    let v := x.w.toNat
    let l := nbits v 52 4
    if x.pois || nbits v 56 8 != (s.time.tick + 1) % 256 || fget s QMG_CFG_BUDGET_DL 0 ≤ cycOfs s || (qLink s l).fixed || l / 4 != k then
      finc s1 QMG_LINK_STAT_LATE l
    else setQLink s1 l { qLink s1 l with cand := some (min (nbits v 0 24) (fget s1 QMG_LINK_CFG_MAXB l)) }

/-- BUDGET_WORD (R218). -/
def execBudgetWord (k : Nat) (s : State) : Host.Outcome State Fault Refusal := run (k < 4) (budgetWord s k)

/-- One link at the deadline (R219, R220). -/
def linkDeadline (s : State) (l : Nat) (ue : List Nat) : State :=
  let k := qLink s l
  if k.fixed then s
  else if !fgetB s QMG_LINK_CFG_EN l then setQLink s l { k with cand := none }
  else
    match k.cand with
    | some b => linkSelect (setQLink s l { k with cand := none, hadBudget := true, fixed := true, nextBudget := b }) l b ue
    | none =>
      let s1 := finc (setQLink s l { k with hadBudget := false, fixed := true, nextBudget := 0 }) QMG_LINK_STAT_MISS l
      if k.hadBudget then raise s1 { src := 42, cls := clsC, code := 2, addr := l } else s1

/-- The deadline of the tick (R220): every enabled link. -/
def budgetDeadline (s : State) (ue : List Nat) : State :=
  let s0 := advanceTo s (s.time.tickStart + fget s QMG_CFG_BUDGET_DL 0)
  (List.range 16).foldl (fun s l => linkDeadline s l ue) s0

/-- BUDGET_DEADLINE (R220). -/
def execBudgetDeadline (ue : List Nat) (s : State) : Host.Outcome State Fault Refusal := run true (budgetDeadline s ue)

/-- A flow's staged fields take effect (R215). -/
def flowTake (s : State) (e : Nat × Flow) : State := e.2.next.elim s (flowPut s e.1)

/-- The queue manager at a tick edge: waiting descriptors take effect, buckets gain their rates (R213,
R215), and the budgets and segments fixed at the deadline come into force (R220); a budget word that no
deadline took counts for no tick (R219). -/
def qmEdge (s : State) : State :=
  let s1 := s.qm.flows.foldl flowTake s
  let s2 := { s1 with qm := { s1.qm with flows := s1.qm.flows.map (fun e =>
      (e.1, { e.2 with cB := max e.2.cB (min (e.2.cB + e.2.cir) (256 * e.2.cbs))
                       eB := max e.2.eB (min (e.2.eB + e.2.eir) (256 * e.2.ebs)) })) } }
  (List.range 16).foldl (fun s l =>
    let k := qLink s l
    fset (setQLink s l { k with fixed := false, cand := none, nextBudget := 0, out := k.out ++ k.stage, stage := [] }) QMG_LINK_CFG_BUDGET l k.nextBudget) s2

/-! ### Segments (R201 to R203) -/

/-- The frames that an inlet builds: of radio link `key`, 0 to 15, or of the span stream of device `key` - 24. -/
def built (s : State) (key : Nat) : List InFrame :=
  if key < 24 then (qLink s key).build else s.qm.span.filter (fun x => x.sdev = key - 24)

/-- Writes them. -/
def setBuilt (s : State) (key : Nat) (l : List InFrame) : State :=
  if key < 24 then setQLink s key { qLink s key with build := l }
  else { s with qm := { s.qm with span := s.qm.span.filter (fun x => x.sdev != key - 24) ++ l } }

/-- Drops a frame that an inlet builds and gives its cells back; only a classified frame counts (R221). -/
def buildDrop (s : State) (x : InFrame) (reason : Nat) : State :=
  let s1 := poolGive s x.cells.length
  match x.hit with
  | none => s1
  | some h => qmDrop s1 h.flow reason x.data.length h.tenant true

/-- A whole classified frame goes where its lookup says; one for whose bytes no cell was free drops. -/
def buildApply (s : State) (x : InFrame) (h : LexHit) : State :=
  if x.lost then buildDrop s x (if h.act = 0 then 2 else 1) else qmApply s h x.data x.port x.cells none

/-- Frames at the front of a list that are whole and classified leave it. -/
def buildFlush (key : Nat) : Nat → State → State
  | 0, s => s
  | n + 1, s =>
    match built s key with
    | [] => s
    | x :: r =>
      match x.hit with
      | some h => if x.done then buildFlush key n (buildApply (setBuilt s key r) x h) else s
      | none => s

/-- The open frame of a list, and the list without it. -/
def openFrame (l : List InFrame) : List InFrame × Option InFrame :=
  match l.reverse with
  | x :: r => if x.done then (l, none) else (r.reverse, some x)
  | [] => ([], none)

/-- A whole segment at the front of a stream's words: header, words, rest. Words before an item start are
skipped. -/
def takeSeg (l0 : List InWord) : Option (InWord × List InWord × List InWord) :=
  match l0.dropWhile (fun x => !x.st) with
  | [] => none
  | h :: r =>
    let n := (nbits h.w.toNat 22 14 + 7) / 8
    if r.length < n then none else some (h, r.take n, r.drop n)

/-- A whole segment of an inlet: each source device's words are a stream of their own (R201), the one that came first
goes first. -/
def takeStream (l : List InWord) : Option (InWord × List InWord × List InWord) :=
  ((l.map (fun x => x.dev)).eraseDups).findSome? (fun d =>
    (takeSeg (l.filter (fun x => x.dev = d))).map (fun q => (q.1, q.2.1, q.2.2 ++ l.filter (fun x => x.dev != d))))

/-- The frame's bytes as far as they have come go to GDDR7 (R203): cells are drawn for them, and each line behind the
first that they fill is written. `old` bytes came before. -/
def buildStore (s : State) (x : InFrame) (old : Nat) : State × InFrame :=
  let n := x.data.length
  match poolMore s x.cells (frameCells n) with
  | none => (s, { x with lost := true })
  | some q =>
    let y : QFrame := { data := x.data, tenant := 0, port := x.port, tick := 0, counted := true, cells := q.2 }
    (frameStore q.1 y (fun i => i != 0 && 128 * (i + 1) ≤ 16 + n && 16 + old < 128 * (i + 1)), { x with cells := q.2 })

/-- One segment of an inlet's frame list (R203): the state and the list after it. -/
def segStep (s : State) (l : List InFrame) (h : InWord) (ws : List InWord) (port link : Nat) : State × List InFrame :=
  let v := h.w.toNat
  let flen := nbits v 50 14
  let sofs := nbits v 36 14
  let slen := nbits v 22 14
  let last := nbits v 21 1 = 1
  let bad := nbits v 20 1 = 1
  let pois := h.pois || ws.any (fun x => x.pois)
  let bytes := (ws.flatMap (fun x => leBytes 8 x.w.toNat)).take slen
  let o := openFrame l
  -- a segment out of order ends the open frame
  let q : State × List InFrame × Option InFrame :=
    match o.2 with
    | none => (s, o.1, none)
    | some x => if sofs = x.data.length then (s, o.1, some x) else (buildDrop s x 4, o.1, none)
  let cur : Option InFrame :=
    match q.2.2 with
    | some x => some x
    | none => if sofs = 0 then some { flen := flen, data := [], done := false, port := port, sdev := h.dev, rflow := nbits v 0 14, since := s.time.now } else none
  match cur with
  | none => (finc q.1 QMG_LINK_STAT_SEGDISC link, q.2.1)
  | some x =>
    let x1 := { x with data := x.data ++ bytes, done := last }
    if bad && port < 24 then (buildDrop q.1 x1 3, q.2.1)
    else if pois then (buildDrop q.1 x1 5, q.2.1)
    else if last && x1.data.length != x1.flen then (buildDrop q.1 x1 4, q.2.1)
    else
      let r := buildStore q.1 x1 x.data.length
      (r.1, q.2.1 ++ [r.2])

/-- A segment reaches the frames of `key`; what is whole and classified leaves them. -/
def segTake (s : State) (key : Nat) (h : InWord) (ws : List InWord) (port link : Nat) : State :=
  let q := segStep s (built s key) h ws port link
  buildFlush key (q.2.length + 1) (setBuilt q.1 key q.2)

/-- Inlet `d` of port `k` takes one segment (R202, R203). -/
def segArrive (s : State) (k d : Nat) : State :=
  if !qmCan s then s
  else
    match takeStream (inlet s (8 * k + d)) with
    | none => s
    | some (h, ws, r) =>
      let s1 := setInlet s (8 * k + d) r
      if d < 4 then segTake s1 (4 * k + d) h ws (8 + (4 * k + d)) (4 * k + d) else segTake s1 (24 + h.dev) h ws 24 0

/-- SEGMENT_ARRIVAL (R203): inlets 0 to 3, and inlet 4 of port 0. -/
def execSegmentArrival (k d : Nat) (s : State) : Host.Outcome State Fault Refusal :=
  run (k < 4 && (d < 4 || (d = 4 && k = 0))) (segArrive s k d)

/-! ### Registers -/

/-- A pool that R214 allows. -/
def poolOk (s : State) (base cells : Nat) : Bool :=
  cells = 0 ||
    (0x1000000000 ≤ base && base + 256 * cells ≤ fget s CFG_STAGE_BASE 0 && 256 * cells ≤ 0x200000000)

/-- A write of QMG_POOL_BASE (`isBase`) or of QMG_POOL.CELLS (R214). -/
def poolWrite (s : State) (isBase : Bool) (v : Nat) : State :=
  let base := (if isBase then v % 2 ^ 44 else fget s QMG_POOL_BASE_BASE 0) * 2 ^ 20
  let cells := if isBase then fget s QMG_POOL_CELLS 0 else v % 2 ^ 26
  if anyFlow s || !poolOk s base cells then fset s QMG_CFG_REFUSED 0 1
  else if isBase then fset s QMG_POOL_BASE_BASE 0 v
  else fset (fset s QMG_POOL_CELLS 0 v) QMG_POOL_FREE 0 (v % 2 ^ 26 - (poolHeld s).length)

/-- QMG_POOL_WRITE (R214). -/
def execQmgPoolWrite (isBase : Bool) (v : Nat) (s : State) : Host.Outcome State Fault Refusal :=
  run true (poolWrite s isBase v)

/-- A write of QMG_CFG.BUDGET_DL (R220). -/
def budgetDlWrite (s : State) (v : Nat) : State :=
  if v % 2 ^ 20 < 100 ∨ tickLen s < v % 2 ^ 20 + 600 then fset s QMG_CFG_REFUSED 0 1 else fset s QMG_CFG_BUDGET_DL 0 v

/-- BUDGET_DL_WRITE (R220). -/
def execBudgetDlWrite (v : Nat) (s : State) : Host.Outcome State Fault Refusal := run true (budgetDlWrite s v)

/-- A write of QMG_LINK_CFG of link `l` (R220). -/
def qmLinkWrite (s : State) (l : Nat) (en : Bool) (maxb : Nat) : State :=
  let s1 := fset s QMG_LINK_CFG_MAXB l maxb
  if en then
    if tickLen s < fget s QMG_CFG_BUDGET_DL 0 + 600 then fset s1 QMG_LINK_CFG_REFUSED l 1 else fset s1 QMG_LINK_CFG_EN l 1
  else fset s1 QMG_LINK_CFG_EN l 0

/-- QMG_LINK_ENABLE (R220). -/
def execQmgLinkEnable (l : Nat) (en : Bool) (maxb : Nat) (s : State) : Host.Outcome State Fault Refusal :=
  reach (l < 16) s (qmLinkWrite s l en maxb)

end Machine
end Sys2Proof
end

