-- ==== Sys2Proof/Machine/Dma.lean ====
section
/-!
DEFINITION. The DMA movers (R241 to R247): descriptors and their checks, moving bytes between the
kinds with their poison, write-back, abort and resume.
-/

namespace Sys2Proof
namespace Machine

/-- A DMA channel. -/
def dmaCh (s : State) (c : Nat) : DmaCh := smGet {} s.dma c

/-- Writes a DMA channel. -/
def setDmaCh (s : State) (c : Nat) (x : DmaCh) : State := { s with dma := smSet {} c x s.dma }

/-- Cuts words into items of `n` + 1 words, the last one shorter. -/
def itemsOf (n : Nat) : Nat → List (Word × Bool) → List (List (Word × Bool))
  | 0, _ => []
  | fuel + 1, l => if l.isEmpty then [] else l.take (n + 1) :: itemsOf n fuel (l.drop (n + 1))

/-- The FIFO of a channel holds nothing, open or left over (R116). -/
def dmaIdle (s : State) (c : Nat) : Bool :=
  let f := fifo s (dmaFifo c)
  fifoWords f = 0 && f.wopen.isNone && !f.skip && !f.disc

/-- One item crosses the channel's FIFO (R116, R241): the source side writes it, the banks swap, and the destination
side reads it. -/
def dmaItem (k prio : Nat) (q : State × List (Word × Bool)) (ws : List (Word × Bool)) : State × List (Word × Bool) :=
  let n := ws.length
  let s1 := (ws.zipIdx).foldl (fun s e =>
    fifoWrite s k (eccEnc e.1.1) (e.2 = 0) (e.2 + 1 = n) (n - 1) prio e.1.2 (s.time.tick % 256)) q.1
  let s2 := setFifo s1 k (fifoSwap (fifo s1 k))
  (List.range n).foldl (fun r _ =>
    let t := fifoRead r.1 k 0
    (t.1, r.2 ++ (t.2.elim [] (fun w => [(w.w, w.pois)])))) (s2, q.2)

/-- A descriptor's bytes cross the channel's FIFO: in the items of a STREAM destination, else word by word
(notes/assumptions/170). -/
def dmaThrough (s : State) (c ilen prio : Nat) (b : List (Byte × Bool)) : State × List (Byte × Bool) :=
  let q := (itemsOf ilen (b.length / 8 + 2) (bytesWords ((b.length + 7) / 8) b)).foldl (dmaItem (dmaFifo c) prio) (s, [])
  (q.1, (wordsBytes q.2).take b.length)

/-- The stop of a channel (R241). -/
def dmaStop (c : Nat) : Nat := if c < 8 then 102 else 103

/-! ### Control SRAM by bytes -/

/-- The base address of control SRAM. -/
def sramBase : Nat := 0x10000000

/-- Bytes of control SRAM from byte offset `a`, `n` words of it at most, with poison marks. -/
def sramReadBytes : Nat → Nat → Nat → State → State × List (Byte × Bool)
  | 0, _, _, s => (s, [])
  | fuel + 1, a, n, s =>
    if n = 0 then (s, [])
    else
      let r := sramRead s (a / 8) 1 0
      let k := min n (8 - a % 8)
      let q := sramReadBytes fuel (a + k) (n - k) r.1
      (q.1, (((leBytes 8 r.2.1.toNat).map (fun b => (b, r.2.2))).drop (a % 8)).take k ++ q.2)

/-- Writes bytes to control SRAM: each word is merged and stored; poisoned bytes make stored poison
(R233, R247). -/
def sramWriteBytes : Nat → Nat → List (Byte × Bool) → State → State
  | 0, _, _, s => s
  | fuel + 1, a, b, s =>
    if b.isEmpty then s
    else
      let k := min b.length (8 - a % 8)
      let old := (leBytes 8 (eccData (sramCode s (a / 8))).toNat).map (fun x => (x, k < 8 && isPoison (eccJudge (sramCode s (a / 8)))))
      let w := (bytesWords 1 (old.take (a % 8) ++ b.take k ++ old.drop (a % 8 + k))).headD (0, false)
      sramWriteBytes fuel (a + k) (b.drop k) (sramPut s (a / 8) (gEnc w))

/-- A span of addresses lies in control SRAM. -/
def inSram (a n : Nat) : Bool := sramBase ≤ a && a + n ≤ sramBase + 0x400000

/-- A span of addresses lies in the GDDR7 window's usable part. -/
def inGddr (s : State) (a n : Nat) : Bool := 0x1000000000 ≤ a && gUsable s (a - 0x1000000000) n

/-- A span that a master other than the configuration and scrub controllers may not touch (R294): the image
store ever, the staging buffer for a write while a load is STAGING or WRITING. -/
def storeDenied (s : State) (a n : Nat) (wr : Bool) : Bool :=
  let b := fget s CFG_STAGE_BASE 0
  let ph := fget s CFG_LOAD_STAT_PHASE 0
  b != 0 && ((b + 0x4000000 < a + n && a < b + 0x8000000) ||
    (wr && (ph = 1 || ph = 2) && b < a + n && a < b + 0x4000000))

/-- Some granule of a span of SRAM is secret (R339). -/
def spanSecret (s : State) (a n : Nat) : Bool :=
  (List.range 64).any (fun g => sramSecret s (g * 65536) && sramBase + g * 65536 < a + n && a < sramBase + g * 65536 + 65536)

/-! ### Descriptors (R242) -/

/-- Fields of a descriptor. -/
def dOwn (d : Nat) : Bool := nbits d 255 1 = 1
/-- IRQ. -/
def dIrq (d : Nat) : Bool := nbits d 254 1 = 1
/-- SKIND. -/
def dSK (d : Nat) : Nat := nbits d 245 3
/-- DKIND. -/
def dDK (d : Nat) : Nat := nbits d 242 3
/-- LEN. -/
def dLen (d : Nat) : Nat := nbits d 192 32
/-- SADDR. -/
def dSA (d : Nat) : Nat := nbits d 128 64
/-- DADDR. -/
def dDA (d : Nat) : Nat := nbits d 64 64

/-- The pairs of R241. -/
def dPairOk (s d : Nat) : Bool :=
  if s = 0 then d = 1 || d = 2 || d = 3 || d = 4 || d = 6
  else if s = 1 then d = 0 || d = 2 || d = 6
  else if s = 2 then d = 0 || d = 1
  else if s = 3 then d = 0
  else if s = 4 then d = 0
  else s = 5 && (d = 0 || d = 1 || d = 2)

/-- A descriptor that R241 and R242 allow. -/
def dOk (d : Nat) : Bool :=
  dOwn d && nbits d 252 1 = 0 && nbits d 240 2 = 0 && nbits d 37 27 = 0 && dPairOk (dSK d) (dDK d) && dLen d != 0 &&
    ((dSK d != 4 && dDK d != 4) || dLen d % 8 = 0) && (dDK d != 6 || (64 ≤ dLen d && dLen d ≤ 9216)) &&
    (dDK d != 3 || (dDA d % 256 = 0 && dLen d % 256 = 0)) && (dSK d != 5 || dDA d % 16 = 0)

/-! ### Sources -/

/-- What a source delivers: the bytes, and a status other than OK that stopped it. -/
structure DmaSrc where
  b : List (Byte × Bool)
  st : Nat
  deriving DecidableEq, Repr

/-- Flash bytes from an address. -/
def flashBytes (s : State) (a n : Nat) : List Byte := (List.range n).map (fun i => smGet 0xFF s.flash (a + i))

/-- Reads up to `n` words from the channel's inlet (R243), with a record word before each item where `irec` asks for it:
it may be the last word of one descriptor, and the item then goes on in the next. Swaps that are due come first. -/
def streamTake (c : Nat) (irec : Bool) : Nat → State → State × List (Word × Bool)
  | 0, s => (s, [])
  | n + 1, s0 =>
    let s := fifoFreeSwap s0 (dmaFifo c)
    let x := dmaCh s c
    match fifoHead s (dmaFifo c) with
    | none => (s, [])
    | some (_, st, i, _) =>
      if irec && st && !x.noted then
        let w := BitVec.ofNat 64 ((i.words.length - 1) % 64 + i.prio % 8 * 256 + (if i.poison then 2048 else 0))
        let q := streamTake c irec n (setDmaCh s c { x with noted := true })
        (q.1, (w, false) :: q.2)
      else
        let r := fifoRead s (dmaFifo c) 0
        let q := streamTake c irec n (setDmaCh r.1 c { dmaCh r.1 c with noted := false })
        (q.1, (r.2.elim [] (fun w => [(w.w, w.pois)])) ++ q.2)

/-- Takes whole frames of CONTROL flow `f` while the next one fits (R243): each is read from its cells, the record and
the frame padded to 16 bytes; an uncorrectable one drops (R223). -/
def qflowTake (f : Nat) : Nat → Nat → State → State × List (Byte × Bool)
  | 0, _, s => (s, [])
  | fuel + 1, room, s =>
    let x := flow s f
    match x.q with
    | [] => (s, [])
    | h :: _ =>
      let n := 16 + (h.data.length + 15) / 16 * 16
      if x.dtype = 3 && flowOpen x && n ≤ room then
        let r := frameRead s h.cells 0 n
        if r.2.bad then (qmBufferUe r.1 f, [])
        else
          let y := flow r.1 f
          let s1 := qmPop (setFlow r.1 f { y with deqF := add64 y.deqF 1, deqB := add64 y.deqB h.data.length }) f
          let q := qflowTake f fuel (room - n) s1
          (q.1, r.2.b.map (fun y => (y, false)) ++ q.2)
      else (s, [])

/-- Reads the source of a descriptor, but for STREAM, for `n` bytes (R243, R246, R339). `ext` is what host memory gives;
`pois` that host or flash data came poisoned. -/
def dmaSource (s : State) (d n : Nat) (ext : List Byte) (pois : Bool) : State × DmaSrc :=
  let k := dSK d
  let a := dSA d
  if k = 0 then
    if storeDenied s a n false then (s, ⟨[], 4⟩)
    else if inGddr s a n then
      let q := gReadBytes (n / 128 + 2) (a - 0x1000000000) n s
      (q.1, ⟨q.2, 0⟩)
    else (s, ⟨[], 3⟩)
  else if k = 1 then
    if !inSram a n then (s, ⟨[], 3⟩)
    else if spanSecret s a n then (s, ⟨[], 4⟩)
    else
      let q := sramReadBytes (n / 8 + 2) (a - sramBase) n s
      (q.1, ⟨q.2, 0⟩)
  else if k = 2 then (s, ⟨((ext ++ List.replicate (n - ext.length) 0).take n).map (fun b => (b, pois)), 0⟩)
  else if k = 3 then (s, ⟨(flashBytes s a n).map (fun b => (b, pois)), 0⟩)
  else
    let f := nbits d 23 14
    let q := qflowTake f ((flow s f).q.length + 1) n s
    (q.1, ⟨q.2, 0⟩)

/-! ### Destinations -/

/-- Hands items to the channel's stop for injection. -/
def dmaOut (s : State) (c : Nat) (l : List OutItem) : State :=
  let x := dmaCh s c
  setDmaCh s c { x with out := x.out ++ l, since := if x.out.isEmpty then s.time.now else x.since }

/-- Bytes to GDDR7 at address `a`. -/
def dmaDestGddr (s : State) (a : Nat) (b : List (Byte × Bool)) : State × Nat :=
  if storeDenied s a b.length true then (s, 4)
  else if inGddr s a b.length then (gWriteBytes (b.length / 128 + 2) (a - 0x1000000000) b s, 0)
  else (s, 3)

/-- Bytes to control SRAM at address `a`. -/
def dmaDestSram (s : State) (a : Nat) (b : List (Byte × Bool)) : State × Nat :=
  if !inSram a b.length then (s, 3)
  else if spanSecret s a b.length then (s, 4)
  else (sramWriteBytes (b.length / 8 + 2) (a - sramBase) b s, 0)

/-- Bytes to configuration flash at address `a`. -/
def dmaDestFlash (s : State) (a : Nat) (b : List (Byte × Bool)) : State × Nat :=
  ({ s with flash := (b.zipIdx).foldl (fun m e => smSet 0xFF (a + e.2) e.1.1 m) s.flash }, 0)

/-- Words to a cabinet's inbound FIFO, by the address field of the descriptor. -/
def dmaDestFifo (s : State) (c d : Nat) (b : List (Byte × Bool)) : State × Nat :=
  let l := nbits d 15 7
  if 96 ≤ l then (s, 3)
  else if fgetB s CAB_STATE_FENCED (physOf s l) then (s, 6)
  else
    (dmaOut s c ((itemsOf (nbits d 0 6) (b.length / 8 + 1) (bytesWords (b.length / 8) b)).map (fun w =>
      ⟨fget s SPN_SYS_DEVNUM 0, physOf s l, l, nbits d 12 3, nbits d 9 3, w⟩)), 0)

/-- Bytes to a client port as one segment; none with a poisoned byte. -/
def dmaDestPort (s : State) (c d : Nat) (b : List (Byte × Bool)) : State × Nat :=
  if b.any (fun x => x.2) then (s, 0)
  else
    let ws := segWords b.length 0 0 0 true (b.map (fun x => x.1))
    let p := nbits d 6 3
    (dmaOut s c ((cutItems (ws.length / 64 + 1) ws).map (fun w =>
      ⟨fget s SPN_SYS_DEVNUM 0, if p < 4 then 116 else 117, 0x7F, p % 4, 0, w.map (fun y => (y, false))⟩)), 0)

/-- Writes a descriptor's bytes to its destination: the state and a status (R243, R246, R247). -/
def dmaDest (s : State) (c d : Nat) (b : List (Byte × Bool)) : State × Nat :=
  if dDK d = 0 then dmaDestGddr s (dDA d) b
  else if dDK d = 1 then dmaDestSram s (dDA d) b
  else if dDK d = 2 then (postHost s (dDA d) (b.map (fun x => x.1)), 0)
  else if dDK d = 3 then dmaDestFlash s (dDA d) b
  else if dDK d = 4 then dmaDestFifo s c d b
  else dmaDestPort s c d b

/-! ### The ring -/

/-- The address of ring slot `i` of channel `c`. -/
def ringAddr (s : State) (c i : Nat) : Nat :=
  fget s DMA_RING_BASE_BASE c * 32 + i % 2 ^ fget s DMA_CH_CFG_SIZE c * 32

/-- MASTER of a DMA channel (R404). -/
def dmaMaster (s : State) (c : Nat) : Nat := masterNum (fget s SPN_SYS_DEVNUM 0) (dmaStop c) c

/-- Descriptors between CI and PI that are not fetched yet. -/
def dmaNext (s : State) (c : Nat) : Option Nat :=
  let ci := fget s DMA_IDX_CI c
  let n := (dmaCh s c).ahead.length
  let used := (fget s DMA_IDX_PI c + 65536 - ci) % 65536
  if n < 4 && n < used then some ((ci + n) % 65536) else none

/-- The state after the descriptor in ring slot `i` is read: only control SRAM is checked in reading. -/
def dmaGetState (s : State) (c i : Nat) : State :=
  if fgetB s DMA_CH_CFG_RLOC c then s
  else if inSram (ringAddr s c i) 32 && !spanSecret s (ringAddr s c i) 32 then
    (sramReadBytes 8 (ringAddr s c i - sramBase) 32 s).1
  else s

/-- The descriptor in ring slot `i`: host memory gives its own words. -/
def dmaGet (s : State) (c : Nat) (host : List Word) (i : Nat) : Nat :=
  if fgetB s DMA_CH_CFG_RLOC c then ((host.take 4).zipIdx).foldl (fun n e => n + e.1.toNat * 2 ^ (64 * e.2)) 0
  else if inSram (ringAddr s c i) 32 && !spanSecret s (ringAddr s c i) 32 then
    leNat ((sramReadBytes 8 (ringAddr s c i - sramBase) 32 s).2.map (fun x => x.1))
  else 0

/-- A channel holds the descriptor of slot `i`. -/
def dmaHold (s : State) (c i d : Nat) : State :=
  fset (setDmaCh s c { dmaCh s c with ahead := (dmaCh s c).ahead ++ [(i, d)] }) DMA_CH_STAT_BUSY c 1

/-- A channel fetches a descriptor (R244): from control SRAM, or `host` gives the four words of host
memory. -/
def dmaFetch (s : State) (c : Nat) (host : List Word) : State :=
  if !fgetB s DMA_CH_CFG_EN c || fgetB s DMA_CH_STAT_HALT c then s
  else (dmaNext s c).elim s (fun i => dmaHold (dmaGetState s c i) c i (dmaGet s c host i))

/-- DMA_DESC_FETCH (R244). -/
def execDmaDescFetch (c : Nat) (host : List Word) (s : State) : Host.Outcome State Fault Refusal :=
  run (c < 16) (accessBy s.flt.raised.length (dmaMaster s c) (dmaFetch s c host))

/-- A descriptor with OWN = 0, STATUS and the bytes moved. -/
def dBack (d st n : Nat) : Nat :=
  d - nbits d 255 1 * 2 ^ 255 - nbits d 248 4 * 2 ^ 248 - dLen d * 2 ^ 192 + st * 2 ^ 248 + n % 2 ^ 32 * 2 ^ 192

/-- Writes a descriptor back, counts it, advances CI, and signals it (R242, R244, R246). A status from
0x2 up halts the channel. To host memory the write-back is a posted write behind those of the data (R245). -/
def dmaBack (s : State) (c i d st n : Nat) : State :=
  let a := ringAddr s c i
  let b := leBytes 32 (dBack d st n)
  let s1 := if fgetB s DMA_CH_CFG_RLOC c then postHost s a b
    else if inSram a 32 && !spanSecret s a 32 then sramWriteBytes 8 (a - sramBase) (b.map (fun x => (x, false))) s else s
  let s2 := setDmaCh s1 c { dmaCh s1 c with ahead := if 2 ≤ st then [] else (dmaCh s1 c).ahead.tail, moved := 0, bad := false }
  let s3 := fset (fset (finc s2 DMA_CH_STAT_DONE c) DMA_CH_STAT_LAST_STATUS c st) DMA_IDX_CI c (i + 1)
  let s4 := fsetB s3 DMA_CH_STAT_BUSY c (!(dmaCh s3 c).ahead.isEmpty)
  let s5 := if 2 ≤ st then fset s4 DMA_CH_STAT_HALT c 1 else s4
  if dIrq d then (if fgetB s5 DMA_CH_CFG_RLOC c then msix s5 (fget s5 DMA_CH_CFG_VEC c) else evtLine s5 (16 + c)) else s5

/-- A descriptor ends POISONED: counted, with a U-class record naming the channel and the first
destination address (R247). -/
def dmaPoisoned (s : State) (c d : Nat) : State :=
  raise (finc s DMA_CH_STAT_POISONED c)
    { src := 47, cls := clsU, code := 1, addr := dDA d, access := 2, master := dmaMaster s c }

/-- A descriptor ends with all its bytes moved: POISONED where one was, which counts and is recorded (R247). -/
def dmaEnd (s : State) (c i d n : Nat) (bad : Bool) : State :=
  if bad then dmaBack (dmaPoisoned s c d) c i d 1 n else dmaBack s c i d 0 n

/-- A STREAM source (R243): the words that have come go to GDDR7 behind those moved before, and the descriptor ends at
LEN bytes; until then it goes on. `st` is a status that the ring answered. -/
def dmaStream (s : State) (c i d st : Nat) : State :=
  let x := dmaCh s c
  let q := streamTake c (nbits d 22 1 = 1) ((dLen d - x.moved) / 8) s
  let b := wordsBytes q.2
  let r := if b.isEmpty then (q.1, 0) else dmaDestGddr q.1 (dDA d + x.moved) b
  let y := dmaCh r.1 c
  let n := x.moved + b.length
  let bad := x.bad || b.any (fun e => e.2)
  if r.2 != 0 then dmaBack r.1 c i d r.2 x.moved
  else if st != 0 then dmaBack r.1 c i d st n
  else if n = dLen d then dmaEnd r.1 c i d n bad
  else setDmaCh r.1 c { y with moved := n, bad := bad }

/-- The descriptor first in ring order completes (R242 to R247); its data crosses the channel's FIFO, and it waits while
another item stands there. `st` is a status that the ring, the host or the flash answered after `moved` bytes, 0 for
none; `ext` and `pois` as in `dmaSource`. -/
def dmaComplete (s : State) (c st moved : Nat) (ext : List Byte) (pois : Bool) : State :=
  match (dmaCh s c).ahead with
  | [] => s
  | (i, d) :: _ =>
    if !dOk d then dmaBack s c i d 2 0
    else if dSK d = 4 then dmaStream s c i d st
    else if !dmaIdle s c then s
    else
      let n := if st = 0 then dLen d else min moved (dLen d)
      let q := dmaSource s d n ext pois
      if q.2.st != 0 then dmaBack q.1 c i d q.2.st 0
      else
        let m := dmaThrough q.1 c (if dDK d = 4 then nbits d 0 6 else 0) (if dDK d = 4 then nbits d 9 3 else 0) q.2.b
        let r := if m.2.isEmpty then (m.1, 0) else dmaDest m.1 c d m.2
        if r.2 != 0 then dmaBack r.1 c i d r.2 0
        else if st != 0 then dmaBack r.1 c i d st n
        else dmaEnd r.1 c i d m.2.length (m.2.any (fun x => x.2))

/-- DMA_DESC_COMPLETE (R242): the statuses an answer can bring are 3 to 7 and 9. -/
def execDmaDescComplete (c st moved : Nat) (ext : List Byte) (pois : Bool) (s : State) :
    Host.Outcome State Fault Refusal :=
  run (c < 16) (accessBy s.flt.raised.length (dmaMaster s c)
    (dmaComplete s c (if (3 ≤ st && st ≤ 7) || st = 9 then st else 0) moved ext pois))

/-- A write of DMA_IDX.PI (R244). -/
def execDmaPiWrite (c v : Nat) (s : State) : Host.Outcome State Fault Refusal :=
  reach (c < 16) s (fset s DMA_IDX_PI c v)

/-- A write of DMA_CH_CTL.ABORT (R246): the descriptor in progress is written back ABORTED with the bytes
moved, the channel halts, and its FIFO is flushed. -/
def dmaAbort (s : State) (c moved : Nat) (ext : List Byte) (pois : Bool) : State :=
  let s1 :=
    match (dmaCh s c).ahead with
    | [] => fset s DMA_CH_STAT_HALT c 1
    | (i, d) :: _ =>
      if !dOk d then dmaBack s c i d 8 0
      else if dSK d = 4 then dmaBack s c i d 8 (dmaCh s c).moved
      else if !dmaIdle s c then dmaBack s c i d 8 0
      else
        let n := min moved (dLen d)
        let q := dmaSource s d n ext pois
        if q.2.st != 0 then dmaBack s c i d 8 0
        else
          let m := dmaThrough q.1 c (if dDK d = 4 then nbits d 0 6 else 0) (if dDK d = 4 then nbits d 9 3 else 0) q.2.b
          let r := if m.2.isEmpty then (m.1, 0) else dmaDest m.1 c d m.2
          if r.2 != 0 then dmaBack m.1 c i d 8 0 else dmaBack r.1 c i d 8 m.2.length
  fifoFlush (setDmaCh s1 c { dmaCh s1 c with noted := false }) (dmaFifo c)

/-- DMA_ABORT (R246). -/
def execDmaAbort (c moved : Nat) (ext : List Byte) (pois : Bool) (s : State) : Host.Outcome State Fault Refusal :=
  reach (c < 16) s (accessBy s.flt.raised.length (dmaMaster s c) (dmaAbort s c moved ext pois))

/-- DMA_RESUME (R246). -/
def execDmaResume (c : Nat) (s : State) : Host.Outcome State Fault Refusal :=
  reach (c < 16) s (fset s DMA_CH_STAT_HALT c 0)

end Machine
end Sys2Proof
end

