-- ==== Sys2Proof/Machine/Load.lean ====
section
/-!
DEFINITION. Loads (chapter 11): the image store (R294), writing a cabinet (R299, R272, R280), state
checks (R271, R99, R282), the staging pass (R295 to R297), the write phase (R298 to R301), abort (R302),
compatibility loads (R303 to R307) and recovery reloads (R408, R432).
-/

namespace Sys2Proof
namespace Machine

/-! ### The image store (R294) -/

/-- Puts words at keys from `b` on. -/
def putWords (m : SMap Word) (b : Nat) (l : List Word) : SMap Word :=
  l.zipIdx.foldl (fun m e => smSet 0 (b + e.2) e.1 m) m

/-- A frame's words in an image (R275). -/
def imgFrame (g : Img) (f : FrameWr) : Img :=
  let b := 8 * f.col + f.row
  let w := frameAll f
  if f.sec = 0 then { g with cfg := putWords g.cfg (64 * b) w }
  else if f.sec ≤ 15 then { g with cfg := putWords g.cfg (64 * b + 12 + 3 * (f.sec - 1)) w }
  else { g with ram := putWords g.ram (512 * b + 64 * (f.sec - 16)) w }

/-- The frames that a FILL writes (R278): whole sections of zeros. -/
def fillFrames (l ch cl rh rl sm : Nat) : List FrameWr :=
  ((List.range 16).filter (fun c => cl ≤ c && c ≤ ch)).flatMap (fun c =>
    ((List.range 8).filter (fun r => rl ≤ r && r ≤ rh)).flatMap (fun r =>
      ((List.range 24).filter (fun s => sm.testBit s)).map (fun s => ⟨l, c, r, s, 0, []⟩)))

/-- The frames of a clause. -/
def clFrames (c : Cl) : List FrameWr :=
  match c with
  | .frames w => w
  | .fill l a b x y m => fillFrames l a b x y m
  | _ => []

/-- Replaces one plan of an image. -/
def imgPlan (g : Img) (plan : Nat) (f : PlanImg → PlanImg) : Img :=
  if plan = 0 then { g with planA := f g.planA } else { g with planB := f g.planB }

/-- The inventory classes of one column, by 8 × column + row (R285). -/
def invColumn (m : SMap Nat) (col bits : Nat) : SMap Nat :=
  (List.range 8).foldl (fun m r => smSet 0 (8 * col + r) (bits / 4 ^ (57 * r) % 4 ^ 57) m) m

/-- What a clause gives the image of logical cabinet `l` (R279: the later clause wins). -/
def imgClause (l : Nat) (g : Img) (c : Cl) : Img :=
  match c with
  | .tickplan a p s => if a = l then imgPlan g p (fun x => { x with slots := s }) else g
  | .inventory a p col b => if a = l then imgPlan g p (fun x => { x with inv := invColumn x.inv col b }) else g
  | .cert a p k => if a = l then imgPlan g p (fun x => { x with cert := k }) else g
  | .doors a d => if a = l then { g with doors := d } else g
  | .startup a w => if a = l then { g with startup := w } else g
  | .capture a => if a = l then { g with capture := true } else g
  | _ => ((clFrames c).filter (fun f => f.l = l)).foldl imgFrame g

/-- The start-up word for every cabinet that no other STARTUP names (R283). -/
def allStartup (cls : List (Nat × Cl)) : Nat :=
  cls.foldl (fun w c => match c.2 with | .startup a x => if a = 0x7F then x else w | _ => w) 0x7800000000000000

/-- The image of `l` after a stream's clauses, from `g`. -/
def imgLoad (l : Nat) (g : Img) (cls : List (Nat × Cl)) : Img := cls.foldl (fun g c => imgClause l g c.2) g

/-- The image that a FULL or PARTIAL load leaves (R272). -/
def imgWhole (l sid : Nat) (cls : List (Nat × Cl)) : Img :=
  imgLoad l { sid := sid, startup := allStartup cls } cls

/-- A cabinet's image. -/
def img (s : State) (l : Nat) : Img := smGet {} s.cfg.img l

/-- Stores a cabinet's image. -/
def setImg (s : State) (l : Nat) (g : Img) : State := { s with cfg := { s.cfg with img := smSet {} l g s.cfg.img } }

/-! ### Cabinets as loads leave them -/

/-- The fence of a stop lifts. -/
def fenceLift (s : State) (p : Nat) : State :=
  let s1 := fset s CAB_STATE_FENCED p 0
  setStop s1 p { stop s1 p with fenceRec := false }

/-- Cancels an armed capture (R114). -/
def captureCancel (s : State) (p : Nat) : State :=
  if fgetB s CAB_CAPTURE_CTL_ARMED p then fset (fset s CAB_CAPTURE_CTL_ARMED p 0) CAB_CAPTURE_CTL_CANCELLED p 1 else s

/-- Cancels a start-up sequence (R320). -/
def startupCancel (s : State) (p : Nat) : State :=
  fset (fset (fset (fset s CAB_STARTUP_ACTIVE p 0) CAB_STARTUP_DONE p 0) CAB_STARTUP_NEXT p 0) CAB_STARTUP_WAIT p 0

/-- A unit leaves its fault state. -/
def unitClear (s : State) (k id : Nat) : State := fset s FLT_UNIT_FAULTED (unitIx k id) 0

/-- The cabinet's content is given up: no plan admitted, no drawer valid, no sequence, flip-flop reset
asserted, stop fenced (R106, R107). -/
def cabClear (s : State) (p : Nat) : State :=
  let s1 := setAdm (setAdm (startupCancel (gapAbandon (cellsHold s p) p) p) p 0 false) p 1 false
  let s2 := fenceSet (fset (assertFF s1 p) CAB_DRAWER_VALID_VALID p 0) p
  let s3 := fset (fset (fset s2 CAB_PLAN_SEL_PEND p 0) CAB_STATE_DRAIN_TO p 0) CAB_STATE_SAFE_HELD p 0
  let s4 := setCab s3 p { cab s3 p with req := .none, ran := false, firstEdge := false }
  if logicalOf s p < 96 then unitClear s4 0 (logicalOf s p) else s4

/-- The marks of the stream that a cabinet held are gone (R106, R309). The border enables its DOORS clause set stay
until the next load writes them, so words sent into such a channel still count as CLOSED_DROP (R101 is silent:
DESIGN CHOICE, entry 171). -/
def cabUnmark (s : State) (p : Nat) : State :=
  let s2 := fset (fset s CAB_STATE_CAP_GRANT p 0) CAB_STATE_RELOC p 0
  let s3 := setCab s2 p { cab s2 p with sid := 0, compat := false }
  sumLinks (if logicalOf s p < 96 then fset s3 CFG_IMG_ID_SID (logicalOf s p) 0 else s3)

/-- A cabinet goes EMPTY (R106, R107). A capture armed for it stays armed and is taken at its edge: R114 cancels it only
on LOADING and OFF (DESIGN CHOICE, entry 171). -/
def cabEmpty (s : State) (p : Nat) : State := cabUnmark (cabGo (cabClear s p) p stEMPTY) p

/-- A ring FIFO as a cabinet goes LOADING: flushed, its stream unsynchronised (R106, R153), and ORDER PRIORITY asked
for; ORDER follows at guard cycle 5 (R126). -/
def fifoLoading (s : State) (k : Nat) : State := fifoOrderReq (fifoFlush s k) k 1

/-- A cabinet goes LOADING (R106). -/
def cabLoading (s : State) (p : Nat) : State :=
  let s1 := cabGo (captureCancel (cabClear s p) p) p stLOADING
  let s2 := (List.range 16).foldl (fun s f => fifoLoading s (cabFifo p f)) s1
  sumLinks (setCab s2 p { cab s2 p with dbuf := [], compat := false, reloc := none })

/-! ### Writing a cabinet (R299 step 4) -/

/-- A cell with the words of an image. -/
def cellLoad (g : Img) (lcol row : Nat) (c : Cell) : Cell :=
  let b := 8 * lcol + row
  let cw := (g.cfg.filter (fun e => 64 * b ≤ e.1 && e.1 < 64 * b + 64)).map (fun e => (e.1 - 64 * b, eccEnc e.2))
  let rw := g.ram.filter (fun e => 512 * b ≤ e.1 && e.1 < 512 * b + 512)
  ffReset (rw.foldl (fun c e => ramPutCode c (e.1 - 512 * b) (eccEnc e.2)) { c with cfg := cw, ram := [], wb := [] })

/-- Writes every service cell of a cabinet (R272, R280). -/
def cellsLoad (s : State) (p : Nat) (g : Img) : State :=
  (List.range 128).foldl (fun s b =>
    let k := cid p (pcolOf s p (b / 8)) (b % 8)
    setCell s k (cellLoad g (b / 8) (b % 8) (cell s k))) s

/-- Gives cabinet `l` at `p` the pins of its DOORS clause; those it owned and that the clause does not
name return to the control complex as they stand (R282, R327, R328). -/
def putPins (s : State) (p l : Nat) (pins : List (Nat × Nat)) : State :=
  let s1 := (cab s p).pins.foldl pinRelease s
  let s2 := pins.foldl (fun s e =>
    fset (fset (fset (pinTrack s e.1) PIN_CFG_CAB_OWNED e.1 1) PIN_CFG_CAB e.1 l) PIN_CFG_PINCFG e.1 e.2) s1
  setCab s2 p { cab s2 p with pins := pins.map (fun e => e.1) }

/-- Plan registers, doors, FIFO settings, booking entries, CAP_GRANT, RELOC and start-up order from an
image (R299, R283, R284). -/
def cabSettings (s : State) (p : Nat) (g : Img) : State :=
  let s1 := putDoorRegs (putPlan (putPlan s p 0 g.planA) p 1 g.planB) p g.doors
  let s2 := fsetB (fsetB s1 CAB_STATE_CAP_GRANT p g.capture) CAB_STATE_RELOC p g.doors.reloc
  let s3 := fset s2 CAB_STARTUP_ORDER p (g.startup / 2 ^ 56)
  setCab s3 p { cab s3 p with bcen := g.doors.bcen, delays := g.startup % 2 ^ 48, compat := g.compat, sid := g.sid }

/-- A cabinet whose words are all written goes HELD, and its fence lifts (R299 step 6). -/
def cabHeld (s : State) (p : Nat) : State := cabGo (fenceLift s p) p stHELD

/-- Admits a loaded plan once its drawers are valid (R299 step 6), by the tests of R95 for the TICK_LEN in
force. -/
def planDone (s : State) (p plan : Nat) : State :=
  if planTest s p plan = 0 then setAdm s p plan true else s

/-- Writes the whole of cabinet `p` from an image; `bad` for a write that fails in it (R301). The plans
count as admitted from the staging pass on. -/
def cabWrite (s : State) (p : Nat) (g : Img) (bad : Bool) : State :=
  let s1 := cabSettings (cellsLoad s p g) p g
  if bad then cabEvent s1 p clsU 0x1A p 6 false false
  else planDone (planDone (cabHeld (fset s1 CAB_DRAWER_VALID_VALID p 0x7FFF) p) p 0) p 1

/-! ### State checks (R271, R99, R282) -/

/-- The clause names cabinet `l`. -/
def clNames (l : Nat) (c : Cl) : Bool :=
  match c with
  | .tickplan a _ _ => a = l
  | .inventory a _ _ _ => a = l
  | .cert a _ _ => a = l
  | .doors a _ => a = l
  | .startup a _ => a = l
  | .capture a => a = l
  | .fill a _ _ _ _ _ => a = l
  | .frames w => w.any (fun f => f.l = l)
  | _ => false

/-- Logical cabinets of a region map. -/
def regionCabs (region : Nat) : List Nat := (List.range 96).filter (fun l => region.testBit l)

/-- A cabinet stands in a state that its kind forbids (R271). -/
def stateBad (kind st : Nat) : Bool :=
  if kind = 0 then st = stOFF
  else if kind = 1 then !(st = stEMPTY || st = stHELD || st = stFAULTED || st = stINCONSISTENT)
  else !(st = stHELD || st = stRUNNING)

/-- STATE_CONFLICT: the clause it names. -/
def stateConflict (s : State) (j : LoadJob) : Option Nat :=
  let bad := (regionCabs j.region).filter (fun l => stateBad j.kind (cabState s (physOf s l)))
  let others := if j.kind = 0 then (List.range 96).filter (fun l =>
      let st := cabState s (physOf s l)
      st = stRUNNING || st = stDRAINING || st = stLOADING) else []
  if bad.isEmpty && others.isEmpty then none
  else some ((findCl j.cls (fun c => (bad ++ others).any (fun l => clNames l c))).getD 0xFFFFFFFF)

/-- Plan `q` of cabinet `p` is current or pending while the cabinet runs. -/
def planBusy (s : State) (p q : Nat) : Bool :=
  cabState s p = stRUNNING &&
    (fget s CAB_PLAN_SEL_CUR p = q || (fgetB s CAB_PLAN_SEL_PEND p && fget s CAB_PLAN_SEL_REQ p = q))

/-- Plan register `q` of cabinet `p` names drawer `d`. -/
def planNames (s : State) (p q d : Nat) : Bool := (planList s p q).any (fun e => e.1 = d)

/-- A drawer write breaks R99. -/
def drawerBad (s : State) (cls : List (Nat × Cl)) (f : FrameWr) : Bool :=
  let p := physOf s f.l
  [0, 1].any (fun q => planNames s p q f.sec && (planBusy s p q || (findCl cls (isPlan f.l q)).isNone))

/-- DRAWER_IN_USE (R99): the clause it names. -/
def drawerInUse (s : State) (j : LoadJob) : Option Nat :=
  if j.kind != 2 then none
  else
    (j.cls.find? (fun c =>
      (match c.2 with | .tickplan l q _ => planBusy s (physOf s l) q | _ => false) ||
        (clFrames c.2).any (drawerBad s j.cls))).map (fun c => c.1)

/-- The DOORS clause in force of each cabinet, with its offset (R279). -/
def lastDoors (cls : List (Nat × Cl)) : List (Nat × Nat × DoorImg) :=
  cls.filterMap (fun c => match c.2 with
    | .doors l d => if cls.any (fun e => c.1 < e.1 && isDoors l e.2) then none else some (c.1, l, d)
    | _ => none)

/-- A pin that a stream may not take (R282): claimed, or owned by a cabinet it does not reload. -/
def pinTaken (s : State) (region n : Nat) : Bool :=
  fgetB s PIN_CLAIM_CLAIM n || (fgetB s PIN_CFG_CAB_OWNED n && !region.testBit (fget s PIN_CFG_CAB n))

/-- PIN_CONFLICT: the DOORS clause it names. -/
def pinConflict (s : State) (j : LoadJob) : Option Nat :=
  let ds := lastDoors j.cls
  let all := ds.flatMap (fun d => d.2.2.pins.map (fun e => e.1))
  (ds.find? (fun d => d.2.2.pins.any (fun e => pinTaken s j.region e.1 || 1 < (all.filter (fun n => n = e.1)).length))).map (fun d => d.1)

/-- The state class (R296): code and offset, code 0 where all pass. -/
def stateCheck (s : State) (j : LoadJob) : LoadRes :=
  match stateConflict s j with
  | some o => ⟨0x15, 0, o⟩
  | none =>
    match drawerInUse s j with
    | some o => ⟨0x16, 0, o⟩
    | none =>
      match pinConflict s j with
      | some o => ⟨0x17, 0, o⟩
      | none => ⟨0, 0, 0xFFFFFFFF⟩

/-! ### Admission in the staging pass (R297) -/

/-- The plans that a stream loads, as (logical cabinet, plan). -/
def jobPlans (j : LoadJob) : List (Nat × Nat) :=
  (regionCabs j.region).flatMap (fun l => ([0, 1].filter (fun q => (findCl j.cls (isPlan l q)).isSome)).map (fun q => (l, q)))

/-- The booking tables of edge stops that a FULL stream leaves. -/
def putEdges (s : State) (cls : List (Nat × Cl)) : State :=
  (List.range 40).foldl (fun s e =>
    putBooks (100 + e) 16 0 (cls.foldl (fun b c => match c.2 with | .doorsEdge x l => if x = 100 + e then l else b | _ => b) []) s) s

/-- The state in which the tests are made: the stream's plans, settings and bookings stand in their
registers and count as admitted. -/
def jobState (s : State) (j : LoadJob) : State :=
  let s1 := if j.kind = 0 then
      putEdges ((List.range 100).foldl (fun s p => if j.region.testBit (logicalOf s p) then s else setAdm (setAdm s p 0 false) p 1 false) s) j.cls
    else s
  let s2 := (regionCabs j.region).foldl (fun s l =>
    let p := physOf s l
    if j.kind = 2 then
      let g := imgLoad l {} j.cls
      [0, 1].foldl (fun s q => if (findCl j.cls (isPlan l q)).isSome then putPlan s p q (if q = 0 then g.planA else g.planB) else s) s
    else cabSettings s p (imgWhole l j.sid j.cls)) s1
  (jobPlans j).foldl (fun s e => setAdm s (physOf s e.1) e.2 true) s2

/-- The edge certificates agree with the edge bookings. -/
def edgeCertsOk (s : State) (cls : List (Nat × Cl)) : Bool :=
  cls.all (fun c => match c.2 with
    | .certEdge st k => linksAgree s st k && !sharedTarget s st
    | .doorsEdge st _ => !sharedTarget s st
    | _ => true)

/-- The admission class: the sub-reason, 0 where the stream is admitted. -/
def jobAdmission (s0 : State) (j : LoadJob) : Nat :=
  let s := jobState s0 j
  let l := jobPlans j
  if l.any (fun e => !planTest1 s (physOf s e.1) e.2) then subOVERRUN
  else if l.any (fun e => !planTest3 s (physOf s e.1) e.2) then subCERT
  else if l.any (fun e => !planTest4 s (physOf s e.1) e.2) || !edgeCertsOk s j.cls then subCERT
  else if overbooked s (activeBooks s) then subOVERBOOKED
  else if !schAdmits s (s.ctl.thr.map (fun e => e.2)) (admittedDemand s) then subDEADLINE
  else 0

/-! ### The staging pass -/

/-- A load, recovery reload or relocation is in progress (R295). -/
def loadBusy (s : State) : Bool :=
  s.cfg.job.isSome || s.cfg.compat.isSome || !s.cfg.due.isEmpty || s.array.cabs.any (fun e => e.2.reloc.isSome)

/-- The staging buffer's first byte, counted from the start of GDDR7 (R294). -/
def stageOfs (s : State) : Nat := fget s CFG_STAGE_BASE 0 - 0x1000000000

/-- The first `n` bytes of the staging buffer. -/
def stageRead (s : State) (n : Nat) : State × List Byte :=
  let q := gReadBytes (n / 128 + 2) (stageOfs s) n s
  (q.1, q.2.map (fun b => b.1))

/-- Zeroes the part of the staging buffer that a stream used (R294). -/
def stageZero (s : State) (n : Nat) : State :=
  gWriteBytes (n / 128 + 2) (stageOfs s) (List.replicate n (0, false)) s

/-- Sets CFG_LOAD_STAT. -/
def loadStat (s : State) (phase code sub ofs : Nat) : State :=
  fset (fset (fset (fset s CFG_LOAD_STAT_PHASE 0 phase) CFG_LOAD_STAT_CODE 0 code) CFG_LOAD_STAT_SUB 0 sub) CFG_LOAD_STAT_OFFSET 0 ofs

/-- A load ends: its outcome, the buffer zeroed, a LOAD_DONE event (R294, R371). -/
def loadEnd (s : State) (phase code sub ofs : Nat) : State :=
  let s1 := loadStat { s with cfg := { s.cfg with job := none, compat := none } } phase code sub ofs
  let s2 := stageZero s1 (fget s1 CFG_LOAD_CTL_STAGED 0)
  event s2 4 0 (code + sub * 256) (fget s2 CFG_LOAD_ID_SID 0)

/-- Every check of R296 over staged bytes: the outcome and the job. -/
def loadVerify (s : State) (b : List Byte) : LoadRes × LoadJob :=
  let w := bytesToWords (b.length / 8 + 1) b
  let h := w.take 16
  let none_ : LoadJob := ⟨hKind h, hRegion h, hSid h, []⟩
  let e := hdrCheck s b.length h
  if e != 0 then (⟨e, 0, 0xFFFFFFFF⟩, none_)
  else
    let z := sealCheck s (hSlot h) "AXRID-CFG" (b.take (hLen h))
    if z != 0 then (⟨z, 0, 0xFFFFFFFF⟩, none_)
    else
      let q := bodyRead s h (w.take (hLen h / 8))
      let j : LoadJob := ⟨hKind h, hRegion h, hSid h, q.2⟩
      if q.1.code != 0 then (q.1, j)
      else
        match incomplete j.kind j.region j.cls with
        | some o => (⟨0x14, 0, o⟩, j)
        | none =>
          let r := stateCheck s j
          if r.code != 0 then (r, j)
          else
            let a := jobAdmission s j
            if a != 0 then (⟨0x18, a, 0xFFFFFFFF⟩, j) else (r, j)

/-- The first load begins: the memory BIST of bring-up is over (R79, R132). -/
def bringOver (s : State) : State := { s with bst := { s.bst with bring := false } }

/-- GO of a FULL stream ends BRINGUP and begins LOAD (R310); the phase stays LOAD until Kaluno reports. -/
def loadPhase (s : State) (full : Bool) : State :=
  if full && fget s SYS_BOOT_STAT_PHASE 0 = 1 then fset s SYS_BOOT_STAT_PHASE 0 2 else s

/-- GO of a native stream of `staged` bytes (R295, R296): refused while another is in progress. -/
def loadGo (s : State) (staged : Nat) : State :=
  if loadBusy s then fset s CFG_LOAD_CTL_REFUSED 0 1
  else
    let s1 := fset (bringOver s) CFG_LOAD_CTL_STAGED 0 (min staged 67108864)
    let q := stageRead s1 (min staged 67108864)
    let v := loadVerify q.1 q.2
    let hdr := 128 ≤ q.2.length
    let s2 := fset (fset (loadPhase q.1 (hdr && v.2.kind = 0)) CFG_LOAD_STAT_KIND 0 (if hdr then v.2.kind else 0)) CFG_LOAD_ID_SID 0 (if hdr then v.2.sid else 0)
    if v.1.code = 0 then { loadStat s2 1 0 0 0xFFFFFFFF with cfg := { s2.cfg with job := some v.2 } }
    else loadEnd s2 4 v.1.code v.1.sub v.1.ofs

/-- LOAD_GO (R295). -/
def execLoadGo (staged : Nat) (s : State) : Host.Outcome State Fault Refusal :=
  run true (loadGo s (staged % 2 ^ 27))

/-! ### The write phase -/

/-- A FULL or PARTIAL load writes cabinet `l` (R299, R301). -/
def jobCab (j : LoadJob) (bad : List Nat) (s : State) (l : Nat) : State :=
  let p := physOf s l
  let g := imgWhole l j.sid j.cls
  let s1 := cabLoading (setImg s l g) p
  let s2 := fset s1 CFG_IMG_ID_SID l j.sid
  let s3 := cabWrite s2 p g (bad.contains l)
  if bad.contains l then s3 else putPins s3 p l g.doors.pins

/-- The drawers that a stream writes, as (column, row, drawer) of cabinet `l`. -/
def jobDrawers (j : LoadJob) (l : Nat) : List (Nat × Nat × Nat) :=
  ((j.cls.flatMap (fun c => clFrames c.2)).filter (fun f => f.l = l)).map (fun f => (f.col, f.row, f.sec))

/-- Writes drawer `d` of a cell from an image; a shadowed column is written in both physical columns
(R280). -/
def drawerPut (g : Img) (p : Nat) (s : State) (e : Nat × Nat × Nat) : State :=
  let b := 8 * e.1 + e.2.1
  let put (s : State) (k : Nat) : State :=
    let c := cell s k
    setCell s k { c with cfg := [0, 1, 2].foldl (fun m i =>
      let w := 12 + 3 * (e.2.2 - 1) + i
      smSet 0 w (eccEnc (smGet 0 g.cfg (64 * b + w))) m) c.cfg }
  let s1 := put s (cid p (pcolOf s p e.1) e.2.1)
  let x := cab s1 p
  if 1 ≤ x.gapPh && x.gapPh ≤ 3 && x.gapCol = e.1 then put s1 (cid p (gapPos s1 p) e.2.1) else s1

/-- A DRAWERS load writes cabinet `l` (R86, R299): the valid bit of a drawer it writes clears, and sets
where it has been written in every service cell. -/
def jobDrawerCab (j : LoadJob) (bad : List Nat) (s : State) (l : Nat) : State :=
  let p := physOf s l
  let g0 := imgLoad l (img s l) j.cls
  let g := { g0 with sid := j.sid }
  let t := jobDrawers j l
  let s1 := t.foldl (drawerPut g p) (setImg s l g)
  let s2 := [0, 1].foldl (fun s q => if (findCl j.cls (isPlan l q)).isSome then putPlan s p q (if q = 0 then g.planA else g.planB) else s) s1
  let full (d : Nat) : Bool := (List.range 128).all (fun b => t.contains (b / 8, b % 8, d))
  let v := (List.range 15).foldl (fun m i =>
    let was := (fget s2 CAB_DRAWER_VALID_VALID p).testBit i
    let now := if t.any (fun e => e.2.2 = i + 1) then full (i + 1) && !bad.contains l else was
    if now then m + 2 ^ i else m) 0
  let s3 := fset (fset s2 CAB_DRAWER_VALID_VALID p v) CFG_IMG_ID_SID l j.sid
  let s4 := setCab s3 p { cab s3 p with sid := j.sid }
  if bad.contains l then cabEvent s4 p clsU 0x1A p 6 false false
  else [0, 1].foldl (fun s q => if (findCl j.cls (isPlan l q)).isSome then planDone s p q else s) s4

/-- A FULL load empties the cabinets outside its region that hold content (R299 step 1). -/
def emptyOutside (s : State) (region : Nat) : State :=
  (List.range 96).foldl (fun s l =>
    let p := physOf s l
    if region.testBit l || cabState s p = stEMPTY || cabState s p = stOFF then s else cabEmpty s p) s

/-- The write phase of a load that has passed its staging pass; `bad` are the cabinets in which a write
fails (R298, R299, R301). -/
def loadWrite (s : State) (bad : List Nat) : State :=
  match s.cfg.job with
  | none => s
  | some j =>
    let r := stateCheck s j
    let js := jobState s j
    if r.code != 0 then loadEnd s 4 r.code 0 r.ofs
    else if overbooked js (activeBooks js) then loadEnd s 4 0x18 subOVERBOOKED 0xFFFFFFFF
    else
      let cabs := regionCabs j.region
      let hit := bad.filter (fun l => cabs.contains l)
      let s1 := fset (if j.kind = 0 then emptyOutside s j.region else s) CFG_LOAD_STAT_PHASE 0 2
      let s2 := if j.kind = 2 then cabs.foldl (jobDrawerCab j hit) s1 else cabs.foldl (jobCab j hit) s1
      let s3 := sumLinks (if j.kind = 0 then putEdges s2 j.cls else s2)
      let s4 := { s3 with cfg := { s3.cfg with bad := hit } }
      loadEnd s4 3 (if hit.isEmpty then 0 else 0x1A) 0 0xFFFFFFFF

/-- LOAD_WRITE_PHASE (R299): `bad` are the logical cabinets in which a word still differs after two
retries or whose image-store read is poisoned (R301). -/
def execLoadWritePhase (bad : List Nat) (s : State) : Host.Outcome State Fault Refusal :=
  run true (loadWrite s bad)

/-! ### Compatibility loads (R303 to R307) -/

/-- The cabinets that a compatibility load places. -/
def compatCabs (ofs regions : Nat) : List Nat :=
  ((List.range 24).filter (fun k => regions.testBit k)).map (fun k => ofs + k)

/-- A compatibility load aborts: every placed cabinet goes INCONSISTENT (R307). -/
def compatAbort (s : State) (c : CompatJob) (code ofs : Nat) : State :=
  let s1 := (compatCabs c.ofs c.regions).foldl (fun s l => cabGo s (physOf s l) stINCONSISTENT) s
  loadEnd s1 6 code 0 ofs

/-- The AXR-24 header is well formed (R304). -/
def compatHdrOk (w : List Word) : Bool :=
  wf (wAt w 0) 16 48 = 0x41583234 * 65536 + 1 && wf (wAt w 0) 0 16 = 0 && wf (wAt w 1) 24 40 = 0 &&
    (wAt w 2).toNat ≤ 67108864 && wf (wAt w 3) 32 32 = 0

/-- Every word essential (R305). -/
def invEssential : SMap Nat := (List.range 128).map (fun k => (k, (4 ^ 57 - 1) / 3 * 2))

/-- Door settings of a compatibility-loaded cabinet (R305): FIFOs FREE, outbound ones framed with ILENM1
63 and PRIO 0, no booking entry valid. -/
def compatDoors (bcen : Nat) (pins : List (Nat × Nat)) : DoorImg :=
  { bcen := bcen, fifos := List.replicate 8 0 ++ List.replicate 8 63, pins := pins }

/-- GO of an AXR-24 stream (R303, R304). RAM words for which the stream has no record keep what the cell held, as R68
speaks of FULL and PARTIAL loads alone (DESIGN CHOICE, entry 100). -/
def compatGo (s : State) (staged : Nat) : State :=
  if loadBusy s then fset s CFG_LOAD_CTL_REFUSED 0 1
  else
    let n := min staged 67108864
    let s1 := fset (fset (fset (bringOver s) CFG_LOAD_CTL_STAGED 0 n) CFG_LOAD_STAT_KIND 0 0xF) CFG_LOAD_ID_SID 0 0
    if !fgetB s1 CFG_COMPAT_EN 0 then loadEnd s1 4 0x20 0 0xFFFFFFFF
    else if n < 32 then loadEnd s1 4 0x09 0 0xFFFFFFFF
    else
      let q := stageRead s1 32
      let w := bytesToWords 5 q.2
      let ofs := fget s1 CFG_COMPAT_OFFSET 0
      let reg := wf (wAt w 1) 0 24
      let cabs := compatCabs ofs reg
      if crc32cR (q.2.take 24) != wf (wAt w 3) 0 32 then loadEnd q.1 4 0x21 0 0xFFFFFFFF
      else if !compatHdrOk w then loadEnd q.1 4 0x22 0 0xFFFFFFFF
      else if n < (wAt w 2).toNat then loadEnd q.1 4 0x09 0 0xFFFFFFFF
      else if cabs.any (fun l => stateBad 1 (cabState q.1 (physOf q.1 l))) then loadEnd q.1 4 0x15 0 0xFFFFFFFF
      else
        let put (s : State) (l : Nat) : State :=
          let g : Img := { compat := true, doors := compatDoors 0 [] }
          cabSettings (cabLoading (fset (setImg s l g) CFG_IMG_ID_SID l 0) (physOf s l)) (physOf s l) g
        let s2 := loadStat (cabs.foldl put q.1) 2 0 0 0xFFFFFFFF
        { s2 with cfg := { s2.cfg with compat := some { ofs := ofs, regions := reg, len := (wAt w 2).toNat, pos := 32 } } }

/-- COMPAT_LOAD_GO (R303). -/
def execCompatLoadGo (staged : Nat) (s : State) : Host.Outcome State Fault Refusal :=
  run true (compatGo s (staged % 2 ^ 27))

/-- Sets the position of a compatibility load. -/
def compatAt (s : State) (c : CompatJob) : State := { s with cfg := { s.cfg with compat := some c } }

/-- Writes a frame of a compatibility load into the image and the cell (R305). -/
def compatFrame (s : State) (c : CompatJob) (f : FrameWr) : State :=
  let g := imgFrame (img s f.l) f
  let s1 := setImg s f.l g
  let p := physOf s f.l
  let k := cid p (pcolOf s1 p f.col) f.row
  let x := cell s1 k
  let b := 8 * f.col + f.row
  let ws := frameAll f
  let base := if f.sec = 0 then 0 else 12 + 3 * (f.sec - 1)
  let x1 := if f.sec ≤ 15 then
      { x with cfg := ws.zipIdx.foldl (fun m e => smSet 0 (base + e.2) (eccEnc e.1) m) x.cfg }
    else ws.zipIdx.foldl (fun (y : Cell) e => ramWrite y (64 * (f.sec - 16) + e.2) e.1) x
  let wr := if 1 ≤ f.sec && f.sec ≤ 15 then smSet 0 (16 * f.l + f.sec) (smGet 0 c.wrote (16 * f.l + f.sec) ||| 2 ^ b) c.wrote else c.wrote
  let s2 := setCell s1 k (ffReset x1)
  let v := (List.range 15).foldl (fun m i => if smGet 0 wr (16 * f.l + i + 1) = 2 ^ 128 - 1 then m + 2 ^ i else m) 0
  compatAt (fset s2 CAB_DRAWER_VALID_VALID p v) { c with wrote := wr }

/-- A compatibility load's plan register (R304, R305). -/
def compatPlan (s : State) (l q : Nat) (slots : List (Nat × Nat)) : State :=
  let g := imgPlan (img s l) q (fun _ => { slots := slots, inv := invEssential })
  putPlan (setImg s l g) (physOf s l) q (if q = 0 then g.planA else g.planB)

/-- Its door word and pins; the pins take effect when the cabinet goes HELD (R327). -/
def compatDoor (s : State) (l bcen : Nat) (pins : List (Nat × Nat)) : State :=
  let g := { img s l with doors := compatDoors bcen pins }
  let s1 := setImg s l g
  setCab s1 (physOf s l) { cab s1 (physOf s l) with bcen := bcen }

/-- The pins of a compatibility load that may be taken. -/
def compatPins (s : State) (c : CompatJob) (l : Nat) : List (Nat × Nat) :=
  let reg := (compatCabs c.ofs c.regions).foldl (fun m l => m ||| 2 ^ l) 0
  (img s l).doors.pins.filter (fun e => !pinTaken s reg e.1)

/-- END: each plan is admitted on tests 1 and 2 (R305), every placed cabinet goes HELD. -/
def compatDone (s : State) (c : CompatJob) : State :=
  let cabs := compatCabs c.ofs c.regions
  let s1 := cabs.foldl (fun s l => putPins (cabHeld s (physOf s l)) (physOf s l) l (compatPins s c l)) s
  let plans := cabs.flatMap (fun l => [(physOf s l, 0), (physOf s l, 1)])
  let used := plans.filter (fun e => planSlots s1 e.1 e.2 != 0)
  let s2 := used.foldl (fun s e => if planTest s e.1 e.2 = 0 then setAdm s e.1 e.2 true else s) s1
  if used.any (fun e => !planTest1 s2 e.1 e.2) then loadEnd s2 3 0x18 subOVERRUN 0xFFFFFFFF
  else if used.any (fun e => !planTest2 s2 e.1 e.2) then loadEnd s2 3 0x18 subCERT 0xFFFFFFFF
  else loadEnd s2 3 0 0 0xFFFFFFFF

/-- One record with its words `w` (the record word and its payload) (R304, R306, R307). -/
def compatApply (s : State) (c : CompatJob) (w : List Word) : State :=
  let h := wAt w 0
  let t := wf h 56 8
  let n := wf h 32 24
  let a := wf h 0 32
  let p := w.drop 1
  let reg := a / 65536 % 128
  let l := c.ofs + reg
  let regOk := reg < 24 && c.regions.testBit reg
  let bad := compatAbort s c 0x22 c.pos
  let nx := { c with pos := c.pos + 8 * (n + 2) }
  if t = 0x01 then
    let fr := a / 2 ^ 12 % 128
    let f : FrameWr := ⟨c.ofs + fr, a / 256 % 16, a / 32 % 8, a % 32, 2 ^ secWords (a % 32) - 1, p⟩
    if a / 2 ^ 19 != 0 || 24 ≤ f.sec || !(fr < 24 && c.regions.testBit fr) || n != secWords f.sec then bad
    else if 1 ≤ f.sec && f.sec ≤ 15 && newOp (wAt p 0) then compatAbort s c 0x23 c.pos
    else compatFrame s nx f
  else if t = 0x10 then
    let ns := a % 64
    match slotsParse ns p with
    | none => bad
    | some sl =>
      if !regOk || a / 64 % 1024 != 0 || a / 2 ^ 23 % 256 != 0 || ns = 0 || 32 < ns || n != (ns + 1) / 2 then bad
      else compatAt (compatPlan s l (a / 2 ^ 31) sl) nx
  else if t = 0x11 then
    let np := a % 128
    let w0 := wAt p 0
    let pe := (p.drop 1).flatMap (fun w => [wf w 0 32, wf w 32 32])
    if !regOk || a / 128 % 512 != 0 || a / 2 ^ 23 != 0 || 96 < np || n != 1 + (np + 1) / 2 || wf w0 16 48 != 0 ||
        !((pe.take np).all (fun e => e / 2 ^ 31 = 0 && e / 2 ^ 24 % 128 < 96 && doorPinOk (e % 2 ^ 24))) ||
        !((pe.drop np).all (fun e => e = 0)) then bad
    else compatAt (compatDoor s l (wf w0 0 16) ((pe.take np).map (fun e => (e / 2 ^ 24 % 128, e % 2 ^ 24)))) nx
  else if t = 0x7E && n = 0 && a = 0 then compatDone s nx
  else bad

/-- The next record of a compatibility load (R305, R307): its CRC is checked before anything of it is
written. -/
def compatRecord (s : State) : State :=
  match s.cfg.compat with
  | none => s
  | some c =>
    if c.len < c.pos + 16 then compatAbort s c 0x22 c.pos
    else
      let q := gReadBytes 2 (stageOfs s + c.pos) 8 s
      let n := wf (wAt (bytesToWords 2 (q.2.map (fun b => b.1))) 0) 32 24
      if c.len < c.pos + 8 * (n + 2) then compatAbort q.1 c 0x22 c.pos
      else
        let r := gReadBytes (n / 16 + 3) (stageOfs s + c.pos) (8 * (n + 2)) q.1
        let b := r.2.map (fun b => b.1)
        let w := bytesToWords (n + 2) b
        if wAt w (n + 1) != BitVec.ofNat 64 (crc32cR (b.take (8 * (n + 1)))) then compatAbort r.1 c 0x21 c.pos
        else compatApply r.1 c (w.take (n + 1))

/-- COMPAT_RECORD (R305). -/
def execCompatRecord (s : State) : Host.Outcome State Fault Refusal := run true (compatRecord s)

/-- ABORT (R302, R307). -/
def loadAbort (s : State) : State :=
  match s.cfg.compat with
  | some c => compatAbort s c 0x19 c.pos
  | none => if s.cfg.job.isSome then loadEnd s 5 0x19 0 0xFFFFFFFF else s

/-- LOAD_ABORT (R302). -/
def execLoadAbort (s : State) : Host.Outcome State Fault Refusal := run true (loadAbort s)

/-- A write of CFG_COMPAT (R303, R309). -/
def compatCfg (s : State) (v : Nat) : State :=
  let s1 := if v.testBit 61 then fset s CFG_COMPAT_REFUSED 0 0 else s
  let enBad := v.testBit 63 && s.otp.compatForbid
  let ofBad := 72 < v % 128
  let s2 := if enBad then s1 else fsetB s1 CFG_COMPAT_EN 0 (v.testBit 63)
  let s3 := if ofBad then s2 else fset s2 CFG_COMPAT_OFFSET 0 (v % 128)
  if enBad || ofBad then fset s3 CFG_COMPAT_REFUSED 0 1 else s3

/-- COMPAT_CFG_WRITE (R303). -/
def execCompatCfgWrite (v : Nat) (s : State) : Host.Outcome State Fault Refusal := run true (compatCfg s v)

/-! ### Recovery reload (R408, R432, R299) -/

/-- Kaluno runs a recovered cabinet with the plan that was current at the fault, once the device is out
of SAFE (R408). -/
def recoveredRun (s : State) (p : Nat) : State :=
  if 0 < fget s FLT_STATE_STATE 0 then { s with cfg := { s.cfg with later := s.cfg.later ++ [p] } }
  else if planAdm s p (cab s p).planWas then setCab s p { cab s p with req := .run (cab s p).planWas } else s

/-- The gap column, which is suspect, is to be tested from its first slice (R432). -/
def suspectTest (s : State) (p : Nat) : State :=
  let s1 := fset (setCab s p { cab s p with gapPh := 7, gapSecond := false }) BST_CAB_PHASE p 3
  { s1 with bst := { s1.bst with units := smSet {} p { smGet ({} : BUnit) s1.bst.units p with done := 0 } s1.bst.units } }

/-- The recovery reload of logical cabinet `l`: a suspect column becomes the gap, the image is written,
the cabinet ends HELD and Kaluno runs it. -/
def reload (s : State) (l : Nat) (bad : Bool) : State :=
  let p := physOf s l
  let g := img s l
  let s1 := cabLoading s p
  let s2 := if fgetB s1 BST_CAB_SUSPECT_V p && !fgetB s1 CAB_GAP_PARKED p then
      suspectTest (fset s1 CAB_GAP_POS p (fget s1 BST_CAB_SUSPECT p)) p
    else s1
  let s3 := cabWrite s2 p g bad
  let s4 := sumLinks (if bad then s3 else putPins s3 p l g.doors.pins)
  if bad then s4
  else
    let s5 := if g.compat then
        [0, 1].foldl (fun s q => if planTest s p q = 0 then setAdm s p q true else setAdm s p q false) s4
      else [0, 1].foldl (fun s q => if planSlots s p q != 0 && planTest s p q != 0 then setAdm s p q false else s) s4
    recoveredRun (sumLinks s5) p

/-- The next recovery reload that is due (R295, R408): one at a time, in ascending logical order, none
while a load is in progress. -/
def recoveryReload (s : State) (bad : Bool) : State :=
  if s.cfg.job.isSome || s.cfg.compat.isSome then s
  else
    match s.cfg.due with
    | [] => s
    | l :: r =>
      let s1 := { s with cfg := { s.cfg with due := r } }
      if cabState s1 (physOf s1 l) = stFAULTED then reload s1 l bad else s1

/-- RECOVERY_RELOAD (R408): `bad` for a reload in which a write fails (R301). -/
def execRecoveryReload (bad : Bool) (s : State) : Host.Outcome State Fault Refusal := run true (recoveryReload s bad)

end Machine
end Sys2Proof
end

