-- ==== Sys2Proof/Machine/Cabinet.lean ====
section
/-!
DEFINITION. Cabinet commands outside the guard: fault record and plan selection (R97, R115), outbound
door buffers (R102, R124, R180), border channels (R101, R104), slots and drawer fetch (R87, R94 to R96),
the start-up order (R319, R320), captures (R112 to R114), requests for the guard (R106), the drain window
(R169), relocation (R111).
-/

namespace Sys2Proof
namespace Machine

/-- CFG_FAULT_CLEAR (R115): writing 1 to VALID clears the record and arms the register. -/
def execCfgFaultClear (p : Nat) (s : State) : Host.Outcome State Fault Refusal :=
  reach (p < 100) s (fset s CAB_CFG_FAULT_VALID p 0)

/-! ### Plan selection (R97) -/

/-- A request for plan `q`. REQ equal to CUR cancels the pending switch also where CUR's plan is no longer admitted:
two of R97's bullets fit that write, and the model takes the one that leaves nothing pending (DESIGN CHOICE, entry 171). -/
def planRequest (s : State) (p q : Nat) : State :=
  if cabState s p = stRUNNING && planAdm s p q then
    let s1 := fset s CAB_PLAN_SEL_REQ p q
    fsetB s1 CAB_PLAN_SEL_PEND p (fget s CAB_PLAN_SEL_CUR p != q)
  else if cabState s p = stRUNNING && fget s CAB_PLAN_SEL_CUR p = q then
    fset (fset s CAB_PLAN_SEL_REQ p q) CAB_PLAN_SEL_PEND p 0
  else fset s CAB_PLAN_SEL_REFUSED p 1

/-- A write of CAB_PLAN_SEL: with REFUSED = 1 it only clears REFUSED (R97). -/
def planSelWrite (s : State) (p v : Nat) : State :=
  if v.testBit 31 then fset s CAB_PLAN_SEL_REFUSED p 0 else planRequest s p (v / 2 % 2)

/-- PLAN_SELECT_WRITE (R97). -/
def execPlanSelectWrite (p v : Nat) (s : State) : Host.Outcome State Fault Refusal :=
  reach (p < 100) s (planSelWrite s p (v % 2 ^ 32))

/-! ### Outbound door buffers (R102, R124, R180) -/

/-- The FIFO behind outbound FIFO-backed door port `port` of cabinet `p`. -/
def portFifo (p port : Nat) : Option Nat :=
  if port < 8 then some (cabFifo p (8 + port)) else (convBlock p).map (fun j => convFifo j (4 + (port - 8)))

/-- The oldest word of a door buffer passes into its FIFO when the FIFO takes it, framed by FIFO_WFRAME:
WSTART on the first word after an end word, after reset and after a flush, WEND on the last of ILENM1 + 1
words or the last of a tick on a converter channel. -/
def doorDrain (s : State) (p port : Nat) : State :=
  let c := cab s p
  match portFifo p port, smGet [] c.dbuf port with
  | some k, d :: l =>
    let f := fifo s k
    let n := if f.wopen.isNone then 0 else smGet 0 c.dfrm port
    let len := fget s FIFO_WFRAME_ILENM1 k
    let st := n = 0
    let en := d.en || n = len
    if fifoWReady f st len then
      let s1 := setCab s p { c with dbuf := smSet [] port l c.dbuf, dfrm := smSet 0 port (if en then 0 else n + 1) c.dfrm }
      fifoWrite s1 k (eccEnc d.w) st en len (fget s FIFO_WFRAME_PRIO k) false (d.tick % 256)
    else s
  | _, _ => s

/-- DOOR_BUFFER_DRAIN (R102). -/
def execDoorBufferDrain (p port : Nat) (s : State) : Host.Outcome State Fault Refusal :=
  run (p < 100 && port < 12) (doorDrain s p port)

/-! ### Border channels (R101, R104) -/

/-- The edge cell of border channel `i` as (logical column, row, outward direction). -/
def borderCell (i : Nat) : Nat × Nat × Nat :=
  if i < 4 then (0, i, 3) else if i < 8 then (15, i - 4, 1) else if i < 12 then (4 * (i - 8), 0, 2)
  else (4 * (i - 12) + 3, 7, 0)

/-- A cycle of inbound border channel `i` of cabinet `p`: what the joined cabinet's edge cell presents is
taken into the border register, or discarded at the closed door and counted (R104). -/
def borderArrive (s : State) (p i : Nat) : State :=
  match borderPeer p i with
  | none => s
  | some (q, n) =>
    if borderOn s p i && (convChan p i).isNone then
      let e := borderCell n
      let k := cid q (pcolOf s q e.1) e.2.1
      let t := (cell s k).t
      let o := if doorsOpen s q then outWire s k e.2.2 t else (0, false)
      let s1 := advanceTo s t
      if doorsOpen s p then
        setCab s1 p { cab s1 p with bin := smSet {} i ((smGet ({} : OutReg) (cab s1 p).bin i).put t o.1 o.2) (cab s1 p).bin }
      else if o.2 then finc s1 CAB_DOOR_STAT_CLOSED_DROP p else s1
    else s

/-- BORDER_WORD_ARRIVAL (R104). -/
def execBorderWordArrival (p i : Nat) (s : State) : Host.Outcome State Fault Refusal :=
  run (p < 100 && i < 16) (borderArrive s p i)

/-! ### Drawer fetch (R87, R93) -/

/-- How one word fails at fetch: 0 not, 1 parity, 2 reserved encoding; and whether an injection made the
parity failure. -/
structure FetchWord where
  fail : Nat
  inj : Bool
  deriving DecidableEq, Repr

/-- Checks drawer word `i` (0-2) of a stored code: overall parity, then reserved encodings (R87). -/
def fetchWord (s : State) (p i : Nat) (c : Code) : State × FetchWord :=
  let q := injTake s (cabSrc p) (16 * (p % 4) + 1)
  let c1 := match q.2 with | some d => c ^^^ injMask d | none => c
  if parity c1 then (q.1, ⟨1, !parity c⟩)
  else (q.1, ⟨if drawerReserved i (eccData c) then 2 else 0, false⟩)

/-- The record of a fetch fault in CAB_CFG_FAULT (R115): a fault of a higher class replaces it. -/
def fetchRecord (s : State) (p cls kind word drawer lcol row : Nat) : State :=
  let s1 := finc s CAB_CFG_FAULT_COUNT p
  if fgetB s CAB_CFG_FAULT_VALID p && cls ≤ fget s CAB_CFG_FAULT_CLASS p then s1
  else
    fset (fset (fset (fset (fset (fset (fset s1 CAB_CFG_FAULT_VALID p 1) CAB_CFG_FAULT_CLASS p cls) CAB_CFG_FAULT_KIND p kind)
      CAB_CFG_FAULT_WORD p word) CAB_CFG_FAULT_DRAWER p drawer) CAB_CFG_FAULT_LCOL p lcol) CAB_CFG_FAULT_ROW p row

/-- Puts the configuration words `ws` of cell `k` first in the scrub queue of 16 words, lowest first; one that
finds it full is dropped (R87, R424). -/
def scrubQueue (s : State) (k : Nat) (ws : List Nat) : State :=
  let q := s.scr.queue.filter (fun e => !(e.1 = k && ws.contains e.2))
  { s with scr := { s.scr with queue := (ws.take (16 - q.length)).map (fun w => (k, w)) ++ q } }

/-- The fault class of an inventory class at fetch (R87). -/
def invFault (v : Nat) : Nat := if v = 3 then clsF else if v = 2 then clsU else clsC

/-- Fetches drawer `d` into a cell's next context, with upset bits for its three words. -/
def fetchCell (s : State) (p pcol lcol row d : Nat) (errs : List Code) : State :=
  let k := cid p pcol row
  let w (i : Nat) : Nat := 12 + 3 * (d - 1) + i
  let c := cell s k
  let cfg := [0, 1, 2].foldl (fun m i => smSet 0 (w i) (smGet 0 c.cfg (w i) ^^^ errs.getD i 0) m) c.cfg
  let s0 := setCell s k { c with cfg := cfg }
  let q0 := fetchWord s0 p 0 (smGet 0 cfg (w 0))
  let q1 := fetchWord q0.1 p 1 (smGet 0 cfg (w 1))
  let q2 := fetchWord q1.1 p 2 (smGet 0 cfg (w 2))
  let r := [q0.2, q1.2, q2.2]
  let bad := (r.zipIdx.filter (fun e => e.1.fail != 0))
  let data (i : Nat) : Word := eccData (smGet 0 cfg (w i))
  let put (s : State) (x : Ctx) : State := setCell s k { cell s k with nxt := x }
  match bad with
  | [] => put q2.1 { no := d, w0 := data 0, w1 := data 1, w2 := data 2, runs := true }
  | b :: bs =>
    let clsOf (e : FetchWord × Nat) : Nat := invFault (invClass s p lcol row (w e.2))
    let top := bs.foldl (fun m e => if clsOf m < clsOf e then e else m) b
    let cls := clsOf top
    let s1 := put q2.1 { no := d, zin := true }
    let s2 := scrubQueue s1 k (bad.map (fun e => w e.2))
    let s3 := fetchRecord s2 p cls (top.1.fail - 1) top.2 d lcol row
    cabEvent s3 p cls (16 + top.1.fail) (ramAddrId p pcol row (w top.2)) 3 top.1.inj false

/-- The drawer of slot `n` of the current plan, 0 beyond its last slot. -/
def slotDrawer (s : State) (p n : Nat) : Nat :=
  let q := fget s CAB_PLAN_SEL_CUR p
  if n < planSlots s p q then (planSlot s p q n).1 else 0

/-- The slot whose drawer the cells of `p` fetch next: the one after the slot that runs, or the first
of the next tick once the guard has run. -/
def nextSlot (s : State) (p : Nat) : Option Nat :=
  match (cab s p).slot with
  | some n => if n + 1 < planSlots s p (fget s CAB_PLAN_SEL_CUR p) then some (n + 1) else none
  | none => if s.time.guarded then some 0 else none

/-- The fetch of one cell (R87): only a cell that runs its next slot under the plan fetches. -/
def drawerFetch (s : State) (p pcol row : Nat) (errs : List Code) : State :=
  match lcolOf s p pcol, nextSlot s p with
  | some lcol, some n =>
    if cabRuns s p && slotDrawer s p n != 0 then fetchCell s p pcol lcol row (slotDrawer s p n) errs else s
  | _, _ => s

/-- DRAWER_FETCH (R87), with the upset bits of the three stored words. -/
def execDrawerFetch (p pcol row : Nat) (e0 e1 e2 : Code) (s : State) : Host.Outcome State Fault Refusal :=
  run (cellOk p pcol row) (drawerFetch s p pcol row [e0, e1, e2])

/-! ### Slots (R94 to R96) -/

/-- The fetch of every cell of a physical column that has not fetched drawer `d` yet. -/
def fetchCol (p d : Nat) (s : State) (pcol : Nat) : State :=
  (lcolOf s p pcol).elim s (fun lcol => (List.range 8).foldl (fun s row =>
    if (cell s (cid p pcol row)).nxt.no = d then s else fetchCell s p pcol lcol row d []) s)

/-- The fetch of every cell that has not fetched drawer `d` yet. -/
def fetchRest (s : State) (p d : Nat) : State := (List.range 17).foldl (fetchCol p d) s

/-- A cell takes its next context; PH is zero in the slot's first cycle (R96). -/
def cellSlot (t : Nat) (c : Cell) : Cell :=
  { latchOuts c with cur := c.nxt, nxt := {}, ph := 0, t := max c.t t }

/-- Slot `n` of the current plan begins in cabinet `p` at cycle `t`: what is due before it has landed, and it
reaches no further than the guard (R22). -/
def slotBegin (s : State) (p n t : Nat) : State :=
  let d := slotDrawer s p n
  let s1 := landCab (fetchRest s p d) p (t - 1)
  if cabRuns s1 p then
    let s2 := mapCells s1 p (cellSlot t)
    let len := min (planSlot s p (fget s CAB_PLAN_SEL_CUR p) n).2 (guardAt s - t)
    setCab s2 p { cab s2 p with slot := some n, slotStart := t, slotLen := len }
  else s1

/-- The slot that runs ends: the next one begins where it ends, before the guard, or the cells hold (R22,
R94). -/
def slotStep (s : State) (p : Nat) : State :=
  let c := cab s p
  match c.slot with
  | none => s
  | some n =>
    let t := c.slotStart + c.slotLen
    let s1 := advanceTo s t
    if !cabRuns s p then cellsHold s p
    else if n + 1 < planSlots s p (fget s CAB_PLAN_SEL_CUR p) && t < guardAt s then slotBegin s1 p (n + 1) t
    else cellsHold (landCab s1 p (t - 1)) p

/-- At the guard's first cycle no user slot runs (R22): the cells of a cabinet whose slot still stood hold. -/
def slotGuard (s : State) (p : Nat) : State :=
  if (cab s p).slot.isSome then cellsHold (landCab s p (guardAt s - 1)) p else s

/-- The plan of cabinet `p` has run its last slot of this tick (R20). -/
def planOver (s : State) (p : Nat) : Bool :=
  let c := cab s p
  match c.slot with
  | none => true
  | some n => planSlots s p (fget s CAB_PLAN_SEL_CUR p) ≤ n + 1 && c.slotStart + c.slotLen ≤ s.time.now

/-- SLOT_START (R94). -/
def execSlotStart (p : Nat) (s : State) : Host.Outcome State Fault Refusal := run (p < 100) (slotStep s p)

/-- The plan starts in a cabinet whose cells run from this tick's first cycle. -/
def planStart (s : State) (p : Nat) : State :=
  if cabRuns s p && slotDrawer s p 0 != 0 then slotBegin s p 0 s.time.tickStart else s

/-! ### The start-up order (R319, R320) -/

/-- The code of start-up step `k`. -/
def stepCode (s : State) (p k : Nat) : Nat := fget s CAB_STARTUP_ORDER p / 4 ^ k % 4

/-- The delay before step `k`; none before step 0 (R283). -/
def stepDelay (s : State) (p k : Nat) : Nat := if k = 0 then 0 else (cab s p).delays / 65536 ^ (k - 1) % 65536

/-- LOCK's condition (R319). -/
def stepLocked (s : State) : Bool :=
  s.time.pllA % 8 = 7 && (fget s SYS_TICK_CFG_SRC 0 = 0 || !fgetB s SYS_TICK_STAT_HOLDOVER 0)

/-- A step completes at this edge (R320). -/
def stepDo (s0 : State) (p k : Nat) : State :=
  let s := if stepCode s0 p k = stepOUTPUTS then pinsTrack s0 p else s0
  let s1 := if stepCode s p k = stepSETRESET then mapCells (fset s CAB_STATE_FFRST p 0) p ffReset else s
  let s2 := if k = 3 then
      fset (fset (fset s1 CAB_STARTUP_DONE p 1) CAB_STARTUP_ACTIVE p 0) CAB_STARTUP_WAIT p 0
    else fset (fset s1 CAB_STARTUP_NEXT p (k + 1)) CAB_STARTUP_WAIT p (stepDelay s1 p (k + 1))
  if !cabRuns s p && cabRuns s2 p then planStart s2 p else s2

/-- The next start-up step of cabinet `p`, at a tick edge (R319): it takes effect once its delay has run
out, and LOCK only with every active PLL locked and no holdover. -/
def startupStep (s : State) (p : Nat) : State :=
  let k := fget s CAB_STARTUP_NEXT p
  if cabState s p = stRUNNING && fgetB s CAB_STARTUP_ACTIVE p && cycOfs s = 0 && fget s CAB_STARTUP_WAIT p = 0 &&
      (stepCode s p k != stepLOCK || stepLocked s) then stepDo s p k
  else s

/-- STARTUP_STEP (R319). -/
def execStartupStep (p : Nat) (s : State) : Host.Outcome State Fault Refusal := run (p < 100) (startupStep s p)

/-- At a tick edge the wait of a sequence runs down; at the first RUNNING edge it begins (R319). -/
def startupEdge (s : State) (p : Nat) : State :=
  if cabState s p = stRUNNING && fgetB s CAB_STARTUP_ACTIVE p then
    if (cab s p).firstEdge then
      setCab (fset s CAB_STARTUP_WAIT p (stepDelay s p (fget s CAB_STARTUP_NEXT p))) p { cab s p with firstEdge := false }
    else fset s CAB_STARTUP_WAIT p (fget s CAB_STARTUP_WAIT p - 1)
  else s

/-! ### Capture (R112 to R114) -/

/-- Section 24 of a cell in cycle `t` (R112). -/
def liveWords (c : Cell) (t : Nat) : List Word :=
  let acc (n : Nat) : Word :=
    let a := cellAcc c n
    BitVec.ofNat 64 ((if a.sat then 2 ^ 57 else 0) + (if a.resc then 2 ^ 56 else 0) + a.e % 64 * 2 ^ 48 + a.a.toNat)
  [(c.y.see t).1, (c.f.see t).1, acc 0, acc 1, acc 2, acc 3,
   BitVec.ofNat 64 (c.ag1 % 512 * 2 ^ 48 + c.ag0 % 512 * 2 ^ 32 + (if (c.y.see t).2 then 2 ^ 31 else 0)
     + c.ph % 512 * 2 ^ 20 + c.ci % 16 * 2 ^ 16 + c.bx % 64 * 2 ^ 8 + c.cm % 256)]

/-- The capture of cabinet `p` at the end of cycle `t` (R114): results that have landed by then are in it. -/
def capture (s : State) (p t : Nat) : State :=
  let s1 := mapCells (advanceTo s t) p (fun c =>
    { c with cap := (liveWords (landDue t c).1 (t + 1)).zipIdx.foldl (fun m e => smSet 0 e.2 e.1 m) [] })
  fset (fset s1 CAB_CAPTURE_CTL_ARMED p 0) CAB_CAPTURE_CTL_DONE p 1

/-- An arm with MODE and OFFSET (R113). -/
def captureArm (s : State) (p mode ofs : Nat) : State :=
  if fgetB s CAB_STATE_CAP_GRANT p && (setInstances s CAB_CAPTURE_CTL_ARMED).length < 8 && s.time.tick < fget s CAB_CAPTURE_TICK_TICK p &&
      (mode = 0 || ofs < tickLen s) then
    fset (fset (fset s CAB_CAPTURE_CTL_ARMED p 1) CAB_CAPTURE_CTL_MODE p mode) CAB_CAPTURE_CTL_OFFSET p ofs
  else fset s CAB_CAPTURE_CTL_REFUSED p 1

/-- A write of CAB_CAPTURE_CTL by Kaluno in machine mode: the W1C flags, MODE and OFFSET, and ARM. A write of
another master or mode has no effect (R113). -/
def captureWrite (s : State) (p v : Nat) (mm : Bool) : State :=
  if !mm then s else
  let clr (s : State) (b : Nat) (f : Fld) : State := if v.testBit b then fset s f p 0 else s
  let s1 := clr (clr (clr s 30 CAB_CAPTURE_CTL_DONE) 29 CAB_CAPTURE_CTL_REFUSED) 28 CAB_CAPTURE_CTL_CANCELLED
  let s2 := fset (fset s1 CAB_CAPTURE_CTL_MODE p (v / 2 ^ 20 % 2)) CAB_CAPTURE_CTL_OFFSET p (v % 2 ^ 20)
  if v.testBit 26 then captureArm s2 p (v / 2 ^ 20 % 2) (v % 2 ^ 20) else s2

/-- CAPTURE_ARM_WRITE (R113): `mm` for a writer that is Kaluno in machine mode. -/
def execCaptureArmWrite (p v : Nat) (mm : Bool) (s : State) : Host.Outcome State Fault Refusal :=
  reach (p < 100) s (captureWrite s p (v % 2 ^ 32) mm)

/-! ### Requests for the guard (R106) -/

/-- Replaces a cabinet's guard request. -/
def setReq (s : State) (p : Nat) (r : GReq) : State := setCab s p { cab s p with req := r }

/-- The cabinet begins to run at guard cycle 7 (R106, R319). CAB_PLAN_SEL.REQ then reads the plan that runs, which the
spec does not say (DESIGN CHOICE, entry 171). -/
def cabStart (s : State) (p plan : Nat) : State :=
  let s1 := fset (fset (gapAbandon s p) CAB_PLAN_SEL_CUR p plan) CAB_STATE_SAFE_HELD p 0
  let s2 := fset (fset s1 CAB_PLAN_SEL_REQ p plan) CAB_PLAN_SEL_PEND p 0
  let s3 := if fgetB s2 CAB_STARTUP_DONE p then s2 else fset s2 CAB_STARTUP_ACTIVE p 1
  let c := cab s3 p
  cabGo (setCab s3 p { c with req := .none, ran := true, firstEdge := true, runTick := s.time.edges + 1, dcnt := [] }) p stRUNNING

/-- Its cells go to the hold drawer and the sequence stops (R106, R320). -/
def cabStop (s : State) (p st : Nat) : State :=
  let s1 := gapAbandon (cellsHold s p) p
  cabGo (fset (setReq s1 p .none) CAB_STARTUP_ACTIVE p 0) p st

/-- Contents of a domain that is gated off (R108): cells, RAM and FIFOs are lost; repair entries and the
gap position stay. -/
def cabOff (s : State) (p : Nat) : State :=
  let s1 := cabUnmark (cabGo (cabClear (captureCancel s p) p) p stOFF) p
  let s2 := mapCells s1 p (fun c => { rep := c.rep })
  let s3 := (List.range 16).foldl (fun s f => fifoLose s (cabFifo p f)) s2
  fset (setCab s3 p { cab s3 p with dbuf := [], bin := [], gapPh := 0 }) BST_CAB_PHASE p (if fgetB s3 CAB_GAP_PARKED p then 4 else 0)

/-- The relocation's map switch (R111 step 5): the destination, HELD, runs from the next tick with the plan that
was current, where that plan is admitted in it; otherwise it stays HELD. Where it is not HELD the map does not
switch (DESIGN CHOICE, entry 155). -/
def relocSwitch (s : State) (p : Nat) (r : Reloc) (plan : Nat) : State :=
  if cabState s r.dest != stHELD then s
  else
    let old := cab s p
    let s1 := setCab s p { old with pins := [] }
    let s2 := fset (fset s1 CFG_CAB_MAP_PHYS r.logical r.dest) CFG_CAB_MAP_RELOCATED r.logical (if isReserve r.dest then 1 else 0)
    let s3 := fset (fset s2 CAB_STATE_LOGICAL p 0x7F) CAB_STATE_LOGICAL r.dest r.logical
    let s4 := setCab s3 r.dest { cab s3 r.dest with pins := old.pins }
    let s5 := fset s4 CFG_IMG_ID_SID r.logical (img s4 r.logical).sid
    sumLinks (if planAdm s5 r.dest plan then cabStart s5 r.dest plan else s5)

/-- The drain window of a cabinet ends at guard cycle 7 (R169, R106): its stop is fenced first, then it goes EMPTY
or OFF as commanded. -/
def drainFinish (s : State) (p : Nat) : State :=
  if cabState s p = stDRAINING && (cab s p).drainEnd ≤ s.time.edges then
    let s0 := fenceSet s p
    let x := cab s0 p
    let plan := fget s0 CAB_PLAN_SEL_CUR p
    let s1 := setCab s0 p { x with reloc := none }
    let s2 := if fget s1 CAB_STATE_DRAIN_TO p = 1 then cabOff s1 p else cabEmpty s1 p
    x.reloc.elim s2 (fun r => relocSwitch s2 p r plan)
  else s

end Machine
end Sys2Proof
end

