-- ==== Sys2Proof/Machine/Lex.lean ====
section
/-!
DEFINITION. The lexicon (R204 to R212): entries and keys, lookups with their SEC-DED checks, the table
operations of LEX_CMD with moves and mirrors, the house order of the lookup slots (R195), patrol and
spare rows.
-/

namespace Sys2Proof
namespace Machine

/-- Writes the lexicon. -/
def setLex (s : State) (x : LexSt) : State := { s with lex := x }

/-! ### Entries and keys (R204 to R206) -/

/-- An entry's 128 bits. -/
def lexEnt (ty key flow tenant act : Nat) (hit : Bool) : Nat :=
  ty % 4 * 2 ^ 126 + 2 ^ 125 + (if hit then 2 ^ 124 else 0) + key % 2 ^ 48 * 2 ^ 76 + flow % 2 ^ 14 * 2 ^ 62 +
    tenant % 2 ^ 12 * 2 ^ 50 + act % 4 * 2 ^ 48

/-- TYPE and KEY as 50 bits. -/
def entTK (e : Nat) : Nat := nbits e 126 2 * 2 ^ 48 + nbits e 76 48
/-- VALID. -/
def entV (e : Nat) : Bool := nbits e 125 1 = 1
/-- FLOW. -/
def entFlow (e : Nat) : Nat := nbits e 62 14
/-- TENANT. -/
def entTen (e : Nat) : Nat := nbits e 50 12
/-- ACTION. -/
def entAct (e : Nat) : Nat := nbits e 48 2

/-- The bucket of a 50-bit TYPE and KEY in table `k` (R206). -/
def lexBucket (k tk : Nat) : Nat := crc32cBits tk 50 (if k = 0 then 0xFFFFFFFF else 0x5A5A5A5A) % 131072

/-- A slot's number as LOC spells it: table, bucket, way. -/
def lexLoc (k b w : Nat) : Nat := k * 262144 + b * 2 + w

/-- The four slots of a key: table 0 before 1, way 0 before 1. -/
def lexSlots (tk : Nat) : List Nat :=
  [lexLoc 0 (lexBucket 0 tk) 0, lexLoc 0 (lexBucket 0 tk) 1, lexLoc 1 (lexBucket 1 tk) 0, lexLoc 1 (lexBucket 1 tk) 1]

/-- The row of a slot: 64 entries, 4,096 rows a table (R212). -/
def lexRow (loc : Nat) : Nat := loc / 64

/-- Where a slot is stored: its row or the row's spare. -/
def lexPhys (x : LexSt) (loc : Nat) : Nat :=
  let m := smGet 0 x.map (lexRow loc)
  if m = 0 then loc else 524288 + (loc / 262144 * 41 + (m - 1)) * 64 + loc % 64

/-- The stored halves of a slot: low and high word. -/
def lexCodes (x : LexSt) (loc : Nat) : Code × Code :=
  (smGet 0 x.mem (2 * lexPhys x loc), smGet 0 x.mem (2 * lexPhys x loc + 1))

/-- Stores an entry: one atomic 128-bit write (R209). -/
def lexPut (x : LexSt) (loc e : Nat) : LexSt :=
  let p := lexPhys x loc
  { x with mem := smSet 0 (2 * p) (eccEnc (BitVec.ofNat 64 e)) (smSet 0 (2 * p + 1) (eccEnc (BitVec.ofNat 64 (e / 2 ^ 64))) x.mem) }

/-- Upset bits hit stored half-entries, by 2 × slot + half. -/
def lexUpset (s : State) (l : List (Nat × Code)) : State :=
  l.foldl (fun s e =>
    let k := 2 * lexPhys s.lex (e.1 / 2) + e.1 % 2
    setLex s { s.lex with mem := smSet 0 k (smGet 0 s.lex.mem k ^^^ e.2) s.lex.mem }) s

/-- A row gave a corrected error: a second one before patrol has passed it again wants a spare
(R212). The mark stands until patrol's next pass, for one that patrol itself found the pass after. -/
def lexRowCE (x : LexSt) (row : Nat) (patrol : Bool) : LexSt :=
  if smGet 0 x.ceRows row != 0 then (if x.want.contains row then x else { x with want := x.want ++ [row] })
  else { x with ceRows := smSet 0 row (if patrol then 2 else 1) x.ceRows }

/-- A row wants a spare. -/
def lexWant (x : LexSt) (row : Nat) : LexSt := if x.want.contains row then x else { x with want := x.want ++ [row] }

/-- Sends a mirror record (R210), which the Bureau has 1 ms to confirm. -/
def lexMirror (s : State) (m : Mirror) : State := setLex s { s.lex with mir := s.lex.mir ++ [{ m with since := s.time.now }] }

/-- An entry with VALID cleared. -/
def entClear (e : Nat) : Nat := e - nbits e 125 1 * 2 ^ 125

/-- Reads a slot with its checks (R211): a corrected entry is written back, counted and recorded; an
uncorrectable one is lost: its VALID clears. -/
def lexRead (s : State) (loc : Nat) (patrol : Bool) : State × Nat :=
  let c := lexCodes s.lex loc
  let (s1, a) := eccCheck s 41 0 c.1
  let (s2, b) := eccCheck s1 41 0 c.2
  let raw := (eccData c.2).toNat * 2 ^ 64 + (eccData c.1).toNat
  let acc := if patrol then 4 else 1
  let get (v : Verdict) (d : Word) : Nat := match v with | .clean x => x.toNat | .fixed x => x.toNat | _ => d.toNat
  let bad (v : Verdict) : Bool := match v with | .bad => true | .poison => true | _ => false
  let fix (v : Verdict) : Bool := match v with | .fixed _ => true | _ => false
  if bad a.v || bad b.v then
    let s3 := setLex s2 (lexWant (lexPut s2.lex loc (entClear raw)) (lexRow loc))
    let s4 := raise (finc s3 LEX_ERR_UE 0)
      { src := 41, cls := clsU, code := 1, addr := loc, access := acc, inj := a.inj || b.inj, coinc := a.coinc || b.coinc }
    (lexMirror s4 { kind := 2, op := Config.choice s4.free % 256, ty := nbits raw 126 2, key := nbits raw 76 48, flow := entFlow raw, old := entTen raw }, entClear raw)
  else
    let e := get b.v (eccData c.2) * 2 ^ 64 + get a.v (eccData c.1)
    if fix a.v || fix b.v then
      let s3 := setLex s2 (lexRowCE (lexPut s2.lex loc e) (lexRow loc) patrol)
      (raise (finc s3 LEX_ERR_CE 0) { src := 41, cls := clsC, code := 2, addr := loc, access := acc, inj := a.inj || b.inj }, e)
    else (s2, e)

/-- The entry of a slot that was read with its checks in the same operation. -/
def lexPeek (x : LexSt) (loc : Nat) : Nat :=
  let c := lexCodes x loc
  let g (y : Code) : Nat := match eccJudge y with | .clean d => d.toNat | .fixed d => d.toNat | _ => (eccData y).toNat
  g c.2 * 2 ^ 64 + g c.1

/-- Looks a key up in a list of slots: the state after the reads, and the matching slot and entry. -/
def lexFind (tk : Nat) : List Nat → State → State × Option (Nat × Nat)
  | [], s => (s, none)
  | l :: r, s =>
    let q := lexRead s l false
    let t := lexFind tk r q.1
    if entV q.2 && entTK q.2 = tk then (t.1, some (l, q.2)) else t

/-! ### The parser (R205) -/

/-- A byte of a frame. -/
def byteAt (l : List Byte) (i : Nat) : Nat := (l.getD i 0).toNat

/-- Two bytes of a frame, most significant first. -/
def be16 (l : List Byte) (i : Nat) : Nat := byteAt l i * 256 + byteAt l (i + 1)

/-- Where the EtherType stands behind tags beyond the second. -/
def skipTags (l : List Byte) : Nat → Nat → Nat
  | 0, i => i
  | n + 1, i => if be16 l i = 0x8100 ∨ be16 l i = 0x88A8 then skipTags l n (i + 4) else i

/-- The tags of a frame: how many of two, outer and inner VID, and where the EtherType stands. -/
def parseTags (l : List Byte) : Nat × Nat × Nat × Nat :=
  if be16 l 12 = 0x88A8 ∨ be16 l 12 = 0x8100 then
    let o := be16 l 14 % 4096
    if be16 l 16 = 0x8100 then (2, o, be16 l 18 % 4096, skipTags l 8 20) else (1, o, 0, 16)
  else (0, 0, 0, 12)

/-- The 50 bits TYPE and KEY of a frame from a source port (R205); none where the field is lacking. -/
def lexKey (kt port : Nat) (l : List Byte) (sdev rflow : Nat) : Option Nat :=
  let t := parseTags l
  let i := t.2.2.2
  if kt = 0 then some (port * 2 ^ 43 + t.1 * 2 ^ 41 + t.2.1 * 2 ^ 29 + t.2.2.1 * 2 ^ 17)
  else if kt = 1 then
    if be16 l i = 0x8847 then some (2 ^ 48 + port * 2 ^ 43 + (be16 l (i + 2) * 16 + byteAt l (i + 4) / 16) * 2 ^ 23) else none
  else if kt = 2 then
    if be16 l i = 0x0800 then some (2 ^ 49 + port * 2 ^ 43 + byteAt l (i + 3) / 4 * 2 ^ 36)
    else if be16 l i = 0x86DD then some (2 ^ 49 + port * 2 ^ 43 + 2 ^ 42 + (be16 l (i + 2) / 16 % 256) / 4 * 2 ^ 36)
    else none
  else some (3 * 2 ^ 48 + sdev % 1024 * 2 ^ 38 + rflow % 2 ^ 14 * 2 ^ 24)

/-- KTYPE of a source port; port 24 is always SPAN. -/
def portType (s : State) (port : Nat) : Nat := if port = 24 then 3 else fget s LEX_PORT_CFG_KTYPE port

/-- The result of a lookup of a frame (R206, R207): the matching entry's action, whose HIT sets, or the
source port's default. A reserved action is a free one of the three. -/
def lexLookup (s : State) (port : Nat) (l : List Byte) (sdev rflow : Nat) : State × LexHit :=
  let fix (s : State) (a : Nat) : State × Nat := if a = 3 then (drawFree s, Config.choice s.free % 3) else (s, a)
  let miss (s : State) : State × LexHit :=
    let q := fix s (fget s LEX_PORT_CFG_DACT port)
    (q.1, ⟨q.2, fget s LEX_PORT_CFG_DFLOW port, fget s LEX_PORT_CFG_DTENANT port⟩)
  match lexKey (portType s port) port l sdev rflow with
  | none => miss s
  | some tk =>
    let q := lexFind tk (lexSlots tk) s
    match q.2 with
    | none => miss q.1
    | some (loc, e) =>
      let s1 := setLex q.1 (lexPut q.1.lex loc (lexEnt (nbits e 126 2) (nbits e 76 48) (entFlow e) (entTen e) (entAct e) true))
      let a := fix s1 (entAct e)
      (a.1, ⟨a.2, entFlow e, entTen e⟩)

/-! ### The lookup slots (R195) -/

/-- Bytes in a port's receive buffer. -/
def rxBytes (p : CptPort) : Nat := p.rx.foldl (fun n f => n + f.data.length) 0

/-- A frame that an inlet builds may ask for its lookup: 64 bytes or all of it are there (R203). -/
def wantsLookup (x : InFrame) : Bool := x.hit.isNone && (64 ≤ x.data.length || x.done)

/-- The frames that queue manager port `k` builds, by their list's key. -/
def buildLists (s : State) (k : Nat) : List (Nat × InFrame) :=
  ([0, 1, 2, 3].flatMap (fun d => (qLink s (4 * k + d)).build.map (fun x => (4 * k + d, x)))) ++
    (if k = 0 then s.qm.span.map (fun x => (24 + x.sdev, x)) else [])

/-- The head frame that waits at one of the twelve sources: since when, and whether the buffer is more
than half full. -/
def srcWaits (s : State) (i : Nat) : Option (Nat × Bool) :=
  if i < 8 then
    match (cptPort s i).rx with
    | [] => none
    | f :: _ => some (f.since, 32768 < rxBytes (cptPort s i))
  else
    match (buildLists s (i - 8)).filter (fun e => wantsLookup e.2) with
    | [] => none
    | e :: r => some (r.foldl (fun n y => min n y.2.since) e.2.since, false)

/-- Source a goes before source b (R195). -/
def srcBefore (ptr : Nat) (a b : Nat × Nat × Bool) : Bool :=
  if a.2.2 != b.2.2 then a.2.2
  else if a.2.1 != b.2.1 then a.2.1 < b.2.1
  else (a.1 + 12 - ptr) % 12 < (b.1 + 12 - ptr) % 12

/-- The source that the next lookup slot goes to. -/
def srcPick (s : State) : Option Nat :=
  ((List.range 12).filterMap (fun i => (srcWaits s i).map (fun w => (i, w)))).foldl (fun b a =>
    match b with
    | none => some a
    | some x => if srcBefore s.lex.ptr a x then some a else some x) (none : Option (Nat × Nat × Bool)) |>.map (fun x => x.1)

/-- Gives a lookup's result to the first frame that waits for one. -/
def giveHit (h : LexHit) : List InFrame → List InFrame
  | [] => []
  | x :: r => if wantsLookup x then { x with hit := some h } :: r else x :: giveHit h r

/-- The lookup of the frame that waits longest at a queue manager port. -/
def qmLookup (s : State) (k since : Nat) : State :=
  match (buildLists s k).find? (fun e => wantsLookup e.2 && e.2.since = since) with
  | none => s
  | some (l, x) =>
    let q := lexLookup s x.port x.data x.sdev x.rflow
    let n := giveHit q.2 (built q.1 l)
    buildFlush l (n.length + 1) (setBuilt q.1 l n)

/-- One lookup slot (R195, R206, R207). -/
def lexSlot (s0 : State) (up : List (Nat × Code)) : State :=
  let s := lexUpset s0 up
  if !qmCan s then s
  else
    match srcPick s with
    | none => s
    | some i =>
      let s1 := setLex s { s.lex with ptr := (i + 1) % 12 }
      if i < 8 then
        match (cptPort s1 i).rx with
        | [] => s1
        | f :: r =>
          let s2 := setCptPort s1 i { cptPort s1 i with rx := r }
          let q := lexLookup s2 i f.data 0 0
          qmApply q.1 q.2 f.data i [] f.stamp
      else
        match srcWaits s1 i with
        | none => s1
        | some w => qmLookup s1 (i - 8) w.1

/-- The upsets that strike a half-entry of the table. -/
def upIn (up : List (Nat × Code)) : List (Nat × Code) := up.filter (fun e => e.1 < 1048576)

/-- LEXICON_LOOKUP (R206): `up` are upset bits of stored half-entries. -/
def execLexiconLookup (up : List (Nat × Code)) (s : State) : Host.Outcome State Fault Refusal :=
  run true (lexSlot s (upIn up))

/-! ### Table operations (R208 to R210) -/

/-- The staged entry. -/
def lexStaged (s : State) : Nat := fget s LEX_DATA_HI_DATA 0 * 2 ^ 64 + fget s LEX_DATA_LO_DATA 0

/-- Ends an operation. -/
def lexDone (s : State) (status loc moves : Nat) : State :=
  fset (fset (fset (fset s LEX_CMD_BUSY 0 0) LEX_CMD_STATUS 0 status) LEX_CMD_LOC 0 loc) LEX_CMD_MOVES 0 moves

/-- The slots the entry at `loc` may move to: its other table's bucket. -/
def lexAlt (x : LexSt) (loc : Nat) : List Nat :=
  let e := lexPeek x loc
  let k := 1 - loc / 262144
  [lexLoc k (lexBucket k (entTK e)) 0, lexLoc k (lexBucket k (entTK e)) 1]

/-- Reads the last slots of chains in turn, with their checks (R211), until one is free. -/
def lexScan : List (List Nat) → State → State × Option (List Nat)
  | [], s => (s, none)
  | p :: r, s =>
    let q := lexRead s (p.headD 0) false
    if entV q.2 then lexScan r q.1 else (q.1, some p)

/-- Breadth-first search for a free slot: `paths` are the chains so far, the slot reached last first. -/
def lexChain : Nat → List (List Nat) → State → State × Option (List Nat)
  | 0, _, s => (s, none)
  | n + 1, paths, s =>
    let next := paths.flatMap (fun p =>
      match p with
      | [] => []
      | h :: _ => (lexAlt s.lex h).filterMap (fun t => if p.contains t then none else some (t :: p)))
    let q := lexScan next s
    match q.2 with
    | some p => (q.1, some p)
    | none => lexChain n next q.1

/-- Moves entries along a chain, the free slot first (R209); the slot vacated last takes `e`. -/
def lexMoves (x : LexSt) (e : Nat) : List Nat → LexSt
  | [] => x
  | [t] => lexPut x t e
  | t :: u :: r => lexMoves (lexPut x t (lexPeek x u)) e (u :: r)

/-- Where an INSERT would put an entry: the chain of slots, free slot first; every slot on the way is read with its
checks. -/
def lexPlace (s : State) (tk : Nat) : State × Option (List Nat) :=
  let q := lexScan ((lexSlots tk).map (fun l => [l])) s
  match q.2 with
  | some p => (q.1, some p)
  | none => lexChain 4 ((lexSlots tk).map (fun l => [l])) q.1

/-- An entry that may be written: a defined action and zero reserved bits. -/
def lexEntOk (e : Nat) : Bool := entAct e != 3 && nbits e 0 48 = 0

/-- The mirror of a LEX_CMD operation goes out and the operation waits (R210). -/
def lexHold (s : State) (op e old new : Nat) : State :=
  lexMirror (fset s LEX_CMD_BUSY 0 1)
    { kind := 0, op := op, ty := nbits e 126 2, key := nbits e 76 48, flow := entFlow e, old := old, new := new, val := e }

/-- READ and CLEAR_TAINT, by location (R212). -/
def lexCmdLoc (s : State) (op loc : Nat) : State :=
  let q := lexRead s loc false
  let s1 := if op = 6 ∧ entV q.2 then
      setLex q.1 (lexPut q.1.lex loc (lexEnt (nbits q.2 126 2) (nbits q.2 76 48) (entFlow q.2) (entTen q.2) (entAct q.2) false))
    else q.1
  lexDone (fset (fset s1 LEX_DATA_LO_DATA 0 q.2) LEX_DATA_HI_DATA 0 (q.2 / 2 ^ 64)) 0 loc (fget s1 LEX_CMD_MOVES 0)

/-- A command by key that found entry `x` at `l`; `e` is the staged entry. -/
def lexCmdHit (s : State) (op loc e l x : Nat) : State :=
  let mv := fget s LEX_CMD_MOVES 0
  if op = 1 then lexDone s 0 l mv
  else if op = 2 then (if lexEntOk e then lexDone s 2 l 0 else lexDone s 5 loc 0)
  else if op = 3 then lexHold s 3 x (entTen x) 0
  else if !lexEntOk e then lexDone s 5 loc mv
  else if entTen e != entTen x then lexHold s 4 e (entTen x) (entTen e)
  else lexDone (setLex s (lexPut s.lex l (lexEnt (nbits x 126 2) (nbits x 76 48) (entFlow e) (entTen e) (entAct e) (nbits x 124 1 = 1)))) 0 l mv

/-- A command by key that found nothing. -/
def lexCmdMiss (s : State) (op loc e : Nat) : State :=
  let mv := fget s LEX_CMD_MOVES 0
  if op = 2 then
    if !lexEntOk e then lexDone s 5 loc 0
    else
      let q := lexPlace s (entTK e)
      if q.2.isNone then lexDone q.1 3 loc 0 else lexHold q.1 2 e 0 (entTen e)
  else lexDone s 1 loc mv

/-- A LEX_CMD operation (R208); while BUSY is 1 it is ignored. -/
def lexCmd (s0 : State) (op loc : Nat) (up : List (Nat × Code)) : State :=
  let s := lexUpset s0 up
  let e := lexStaged s
  if fgetB s LEX_CMD_BUSY 0 then s
  else if op = 5 ∨ op = 6 then lexCmdLoc s op loc
  else if op = 0 ∨ 6 < op then lexDone s 5 loc (fget s LEX_CMD_MOVES 0)
  else
    let q := lexFind (entTK e) (lexSlots (entTK e)) s
    match q.2 with
    | some (l, x) => lexCmdHit q.1 op loc e l x
    | none => lexCmdMiss q.1 op loc e

/-- The entry that a confirmed operation stores, over the taint of entry `old`. -/
def lexStore (e old : Nat) : Nat :=
  lexEnt (nbits e 126 2) (nbits e 76 48) (entFlow e) (entTen e) (entAct e) (nbits old 124 1 = 1)

/-- A confirmed INSERT of entry `e`: its key is there already, or it takes a slot, or none is found. -/
def lexCommitIns (s : State) (e : Nat) (hit : Option Nat) : State :=
  match hit with
  | some l => lexDone s 2 l 0
  | none =>
    let q := lexPlace s (entTK e)
    q.2.elim (lexDone q.1 3 0 0) (fun p =>
      lexDone (setLex q.1 (lexMoves q.1.lex (lexStore e e) p)) 0 ((p.getLast?).getD 0) (p.length - 1))

/-- A confirmed REMOVE or MODIFY of the entry found. -/
def lexCommitMod (s : State) (op e : Nat) (hit : Option (Nat × Nat)) : State :=
  match hit with
  | none => lexDone s 1 0 (fget s LEX_CMD_MOVES 0)
  | some (l, x) => lexDone (setLex s (lexPut s.lex l (if op = 3 then entClear x else lexStore e x))) 0 l (fget s LEX_CMD_MOVES 0)

/-- A confirmed LEX_CMD operation takes effect. -/
def lexCommit (s : State) (m : Mirror) : State :=
  let q := lexFind (entTK m.val) (lexSlots (entTK m.val)) s
  if m.op = 2 then lexCommitIns q.1 m.val (q.2.map (fun x => x.1)) else lexCommitMod q.1 m.op m.val q.2

/-- LEX_SEARCH (R208). -/
def execLexSearch (loc : Nat) (up : List (Nat × Code)) (s : State) : Host.Outcome State Fault Refusal :=
  run true (lexCmd s 1 (loc % 524288) (upIn up))

/-- LEX_INSERT (R209). -/
def execLexInsert (loc : Nat) (up : List (Nat × Code)) (s : State) : Host.Outcome State Fault Refusal :=
  run true (lexCmd s 2 (loc % 524288) (upIn up))

/-- LEX_DELETE (R208). -/
def execLexDelete (loc : Nat) (up : List (Nat × Code)) (s : State) : Host.Outcome State Fault Refusal :=
  run true (lexCmd s 3 (loc % 524288) (upIn up))

/-- LEX_UPDATE (R208). -/
def execLexUpdate (loc : Nat) (up : List (Nat × Code)) (s : State) : Host.Outcome State Fault Refusal :=
  run true (lexCmd s 4 (loc % 524288) (upIn up))

/-- LEX_READ (R208). -/
def execLexRead (loc : Nat) (up : List (Nat × Code)) (s : State) : Host.Outcome State Fault Refusal :=
  run true (lexCmd s 5 (loc % 524288) (upIn up))

/-- LEX_READ_CLEAR_HIT (R208). -/
def execLexReadClearHit (loc : Nat) (up : List (Nat × Code)) (s : State) : Host.Outcome State Fault Refusal :=
  run true (lexCmd s 6 (loc % 524288) (upIn up))

/-- Stores LEX_PORT_CFG of a source port from its written value. -/
def lexPortPut (s : State) (i v : Nat) : State :=
  fset (fset (fset (fset s LEX_PORT_CFG_KTYPE i (if i = 24 then 3 else nbits v 62 2)) LEX_PORT_CFG_DACT i (nbits v 60 2))
    LEX_PORT_CFG_DFLOW i (nbits v 46 14)) LEX_PORT_CFG_DTENANT i (nbits v 34 12)

/-- A write of LEX_PORT_CFG (R210): one that changes DTENANT waits for the Bureau. -/
def lexPortWrite (s : State) (i v : Nat) : State :=
  let old := fget s LEX_PORT_CFG_DTENANT i
  if nbits v 34 12 = old then lexPortPut (setLex s { s.lex with portEnd := 0 }) i v
  else lexMirror s { kind := 1, op := 0, old := old, new := nbits v 34 12, ix := i, val := v }

/-- LEX_PORT_CFG_WRITE (R210). -/
def execLexPortCfgWrite (i v : Nat) (s : State) : Host.Outcome State Fault Refusal :=
  reach (i < 25) s (lexPortWrite s i v)

/-! ### Mirrors (R210, R385, R386) -/

/-- The payload of a mirror record (R384). -/
def mirrorPayload (m : Mirror) : List Byte :=
  if m.kind = 1 then leBytes 1 m.ix ++ leBytes 2 m.old ++ leBytes 2 m.new
  else leBytes 1 m.op ++ leBytes 1 m.ty ++ leBytes 6 m.key ++ leBytes 2 m.flow ++ leBytes 2 m.old ++ leBytes 2 m.new

/-- Sets the state of the first mirror that the Bureau has not yet taken; a refused one leaves the list. -/
def mirrorMark (ok : Bool) : List Mirror → List Mirror
  | [] => []
  | m :: r => if m.st = 0 then (if ok then { m with st := 1 } :: r else r) else m :: mirrorMark ok r

/-- A held write ends without effect (R210): BUREAU_REFUSED, and LEX_PORT_CFG keeps its old value. -/
def mirrorEnd (s : State) (m : Mirror) : State :=
  if m.kind = 0 then lexDone s 4 (fget s LEX_CMD_LOC 0) (if m.op = 2 then 0 else fget s LEX_CMD_MOVES 0)
  else if m.kind = 1 then setLex s { s.lex with portEnd := 4 }
  else s

/-- The Bureau takes the first mirror in arrival order: into the trail, or refused when full (R385,
R386). A lost entry is a reserve type. -/
def mirrorRecord (s : State) : State :=
  match s.lex.mir.find? (fun m => m.st = 0) with
  | none => s
  | some m =>
    let q := audPut s (if m.kind = 1 then 2 else if m.kind = 2 then 3 else 1) (mirrorPayload m) (m.kind = 2)
    let ok := q.2 || m.kind = 2
    let s1 := setLex q.1 { q.1.lex with mir := mirrorMark ok q.1.lex.mir }
    if ok then s1 else mirrorEnd s1 m

/-- BUREAU_MIRROR_RECORD (R385). -/
def execBureauMirrorRecord (s : State) : Host.Outcome State Fault Refusal := run true (mirrorRecord s)

/-- The Bureau has not confirmed within 1 ms. -/
def mirrorLate (s : State) (m : Mirror) : Bool := Config.aclkKHz < s.time.now - m.since

/-- The Bureau confirms the first record in the trail; its write takes effect, or ends without effect after 1 ms
(R210). -/
def mirrorConfirm (s : State) : State :=
  match s.lex.mir with
  | [] => s
  | m :: r =>
    if m.st != 1 then s
    else
      let s1 := setLex s { s.lex with mir := r }
      if mirrorLate s m then mirrorEnd s1 m
      else if m.kind = 0 then lexCommit s1 m
      else if m.kind = 1 then lexPortPut (setLex s1 { s1.lex with portEnd := 0 }) m.ix m.val
      else s1

/-- MIRROR_CONFIRM (R210). -/
def execMirrorConfirm (s : State) : Host.Outcome State Fault Refusal := run true (mirrorConfirm s)

/-- The first held write ends without effect once 1 ms has gone by without a confirmation (R210). -/
def mirrorTimeout (s : State) : State :=
  match s.lex.mir with
  | [] => s
  | m :: r => if mirrorLate s m then mirrorEnd (setLex s { s.lex with mir := r }) m else s

/-- MIRROR_TIMEOUT (R210). -/
def execMirrorTimeout (s : State) : Host.Outcome State Fault Refusal := run true (mirrorTimeout s)

/-! ### Patrol and spare rows (R211, R212) -/

/-- Patrol reads the next entry; at the end of a row its pass is noted. -/
def lexPatrol (s0 : State) (up : List (Nat × Code)) : State :=
  let s := lexUpset s0 up
  let loc := s.lex.pat
  let s1 := (lexRead { s with lex := { s.lex with pat := (loc + 1) % 524288 } } loc true).1
  if loc % 64 = 63 then
    let row := lexRow loc
    setLex s1 { s1.lex with ceRows := smSet 0 row (smGet 0 s1.lex.ceRows row - 1) s1.lex.ceRows }
  else s1

/-- LEX_PATROL (R211). -/
def execLexPatrol (up : List (Nat × Code)) (s : State) : Host.Outcome State Fault Refusal :=
  run true (lexPatrol s (upIn up))

/-- Copies a row's entries, read with their checks (R211), to the place that `x` maps it to. -/
def lexCopy (old : LexSt) (row : Nat) (x : LexSt) : LexSt :=
  (List.range 64).foldl (fun x i => lexPut x (row * 64 + i) (lexPeek old (row * 64 + i))) x

/-- The first row that wants a spare is copied to one and the mapping switches; an uncorrectable entry is lost in the
read and copied as invalid. With no spare left the row stays, with a U-class record (R212). -/
def lexSpare (s : State) : State :=
  match s.lex.want with
  | [] => s
  | row :: _ =>
    let t := row / 4096
    let n := smGet 0 s.lex.used t
    let s1 := if n < 41 then (List.range 64).foldl (fun s i => (lexRead s (row * 64 + i) false).1) s else s
    let x := { s1.lex with want := s1.lex.want.filter (fun y => y != row), ceRows := smSet 0 row 0 s1.lex.ceRows }
    if n < 41 then
      let y := { x with map := smSet 0 row (n + 1) x.map, used := smSet 0 t (n + 1) x.used }
      fset (setLex s1 (lexCopy x row y)) LEX_ERR_SPARE_USED 0 (smGet 0 y.used 0 + smGet 0 y.used 1)
    else raise (setLex s1 x) { src := 41, cls := clsU, code := 3, addr := row }

/-- LEX_ROW_SPARE (R212). -/
def execLexRowSpare (s : State) : Host.Outcome State Fault Refusal := run true (lexSpare s)

end Machine
end Sys2Proof
end

