-- ==== Sys2Proof/Machine/Cpt.lean ====
section
/-!
DEFINITION. Client ports (R191 to R200): enabling, link up and down, receive and transmit frames, PTP
recognition and stamping, the time of day and its registers.
-/

namespace Sys2Proof
namespace Machine

/-! ### Modes and lanes (R191, R192) -/

/-- Lanes of a mode; 0 for a reserved one. -/
def modeLanes (m : Nat) : Nat := if m = 1 then 2 else if m = 2 then 4 else if m ≤ 5 then 1 else 0

/-- The lanes a port holds in a mode. -/
def portLanes (n m : Nat) : List Nat := (List.range (modeLanes m)).map (fun i => n + i)

/-- An enable that R192 allows: a defined mode, an allowed first lane, no lane of another enabled
port. -/
def portEnOk (s : State) (n m : Nat) : Bool :=
  modeLanes m != 0 && n % max 1 (modeLanes m) = 0 &&
    (List.range 8).all (fun o => o = n || !fgetB s CPT_PORT_CFG_EN o ||
      (portLanes o (fget s CPT_PORT_CFG_MODE o)).all (fun l => !(portLanes n m).contains l))

/-- A LINK event (R371) of unit `id` of a kind. -/
def linkEvent (s : State) (kind id st reason : Nat) : State := event s 7 0 (kind + id * 256 + st * 2 ^ 24) reason

/-- A client port goes down (R194): UP clears; a frame in transmission drops as FLUSHED. -/
def portDown (s : State) (n : Nat) (mid : Bool) : State :=
  let s1 := if fgetB s CPT_PORT_CFG_UP n then linkEvent (fset s CPT_PORT_CFG_UP n 0) 5 n 0 0 else s
  if mid then
    match (cptPort s1 n).tx with
    | [] => s1
    | f :: r =>
      let s2 := setCptPort s1 n { cptPort s1 n with tx := r }
      match f.flow with
      | none => s2
      | some fl => qmDrop s2 fl 7 f.data.length f.tenant f.counted
  else s1

/-- A write of CPT_PORT_CFG (R192). -/
def cptCfgWrite (s : State) (n v : Nat) : State :=
  let s0 := if nbits v 62 1 = 1 then fset s CPT_PORT_CFG_REFUSED n 0 else s
  let s1 := fset (fset (fset (fset (fset s0 CPT_PORT_CFG_MODE n (nbits v 59 3)) CPT_PORT_CFG_PTP_1S n (nbits v 58 1))
    CPT_PORT_CFG_PTP_TRAP n (nbits v 57 1)) CPT_PORT_CFG_MAXLEN n (nbits v 32 14)) CPT_PORT_CFG_PTP_FLOW n (nbits v 0 14)
  if nbits v 63 1 = 1 then
    if portEnOk s1 n (nbits v 59 3) then
      let s2 := fset s1 CPT_PORT_CFG_EN n 1
      if fgetB s CPT_PORT_CFG_EN n && fget s CPT_PORT_CFG_MODE n = nbits v 59 3 then s2 else portDown s2 n false
    else portDown (fset (fset s1 CPT_PORT_CFG_REFUSED n 1) CPT_PORT_CFG_EN n 0) n false
  else portDown (fset s1 CPT_PORT_CFG_EN n 0) n false

/-- ETH_PORT_ENABLE (R192): CPT_PORT_CFG is written with EN = 1. -/
def execEthPortEnable (n v : Nat) (s : State) : Host.Outcome State Fault Refusal :=
  reach (n < 8) s (cptCfgWrite s n (v % 2 ^ 63 + 2 ^ 63))

/-- ETH_LINK_DOWN (R194); `mid` says that a frame was in transmission. -/
def execEthLinkDown (n : Nat) (mid : Bool) (s : State) : Host.Outcome State Fault Refusal :=
  run (n < 8) (portDown s n mid)

/-- ETH_LINK_UP (R224): the PCS of an enabled port aligns and its FEC locks. -/
def execEthLinkUp (n : Nat) (s : State) : Host.Outcome State Fault Refusal :=
  run (n < 8) (if fgetB s CPT_PORT_CFG_EN n && !fgetB s CPT_PORT_CFG_UP n then
    linkEvent (fset s CPT_PORT_CFG_UP n 1) 5 n 1 0 else s)

/-! ### Recovered clocks (R200) -/

/-- The symbol rate of one lane of a mode, in Hz (R191): PAM4 carries two bits a symbol. -/
def laneBaud (m : Nat) : Nat := if m ≤ 2 then 53125000000 else if m = 3 then 26562500000 else 25781250000

/-- What pin SYNCE_OUTk carries: none while it is held low, else the lane clock it comes from in Hz and the divider. -/
def synceOut (s : State) (k : Nat) : Option (Nat × Nat) :=
  let p := fget s CPT_SYNCE_PORT k
  if fgetB s CPT_SYNCE_EN k && fgetB s CPT_PORT_CFG_UP p then some (laneBaud (fget s CPT_PORT_CFG_MODE p), fget s CPT_SYNCE_DIV k)
  else none

/-! ### PTP (R197 to R199) -/

/-- What a PTP message is: where it begins, its UDP checksum's place (0 for none), whether it goes over
IPv6, and whether it is an event message. -/
structure Ptp where
  at_ : Nat
  csum : Nat
  v6 : Bool
  evt : Bool
  deriving DecidableEq, Repr

/-- The PTP message a frame carries: EtherType 0x88F7, or UDP to port 319 or 320 over IPv4 or IPv6. -/
def ptpOf (l : List Byte) : Option Ptp :=
  let i := (parseTags l).2.2.2
  let evtTy (k : Nat) : Bool := byteAt l k % 16 < 4
  if be16 l i = 0x88F7 then some ⟨i + 2, 0, false, evtTy (i + 2)⟩
  else if be16 l i = 0x0800 ∧ byteAt l (i + 11) = 17 then
    let u := i + 2 + byteAt l (i + 2) % 16 * 4
    let p := be16 l (u + 2)
    if p = 319 ∨ p = 320 then some ⟨u + 8, u + 6, false, p = 319 && evtTy (u + 8)⟩ else none
  else if be16 l i = 0x86DD ∧ byteAt l (i + 8) = 17 then
    let u := i + 42
    let p := be16 l (u + 2)
    if p = 319 ∨ p = 320 then some ⟨u + 8, u + 6, true, p = 319 && evtTy (u + 8)⟩ else none
  else none

/-- Writes bytes into a frame at a place. -/
def putBytes (l : List Byte) (i : Nat) (b : List Byte) : List Byte := l.take i ++ b ++ l.drop (i + b.length)

/-- The bytes of a number, most significant first. -/
def beBytes (n v : Nat) : List Byte := (leBytes n v).reverse

/-- One shift of the IEEE 802.3 CRC-32, reflected. -/
def crc32Bit (c : Nat) : Nat := if c % 2 = 1 then (c / 2) ^^^ 0xEDB88320 else c / 2

/-- The FCS of a frame's bytes. -/
def fcs (l : List Byte) : Nat :=
  (l.foldl (fun c b => (List.range 8).foldl (fun c _ => crc32Bit c) (c ^^^ b.toNat)) 0xFFFFFFFF) ^^^ 0xFFFFFFFF

/-- A frame with its FCS recomputed (R194). -/
def withFcs (l : List Byte) : List Byte := l.take (l.length - 4) ++ leBytes 4 (fcs (l.take (l.length - 4)))

/-! ### Receive (R193, R195, R199) -/

/-- The frame's own FCS is right. -/
def fcsGood (l : List Byte) : Bool := 4 ≤ l.length && fcs (l.take (l.length - 4)) = leNat (l.drop (l.length - 4))

/-- A received frame; `err` says that the PCS marked it errored, `fec` counts uncorrectable FEC codewords. An event
message keeps its stamp (R197); with PTP_TRAP every PTP message bypasses the lexicon with its stamp (R199). -/
def rxFrame (s0 : State) (n : Nat) (l : List Byte) (err : Bool) (fec : Nat) : State :=
  if !fgetB s0 CPT_PORT_CFG_UP n then s0
  else
    let s := fadd s0 CPT_PORT_CNT_FEC_UNCORR n fec
    let p := cptPort s n
    if 65536 ≤ rxBytes p || 65536 < rxBytes p + l.length then finc s CPT_PORT_CNT_RX_OVF n
    else if err || !fcsGood l then finc s CPT_PORT_CNT_FCS_ERR n
    else if l.length < 64 || fget s CPT_PORT_CFG_MAXLEN n < l.length then finc s CPT_PORT_CNT_LEN_ERR n
    else if be16 l 12 = 0x8808 then s
    else if fgetB s CPT_PORT_CFG_PTP_TRAP n && (ptpOf l).isSome then
      qmEnqueue s (fget s CPT_PORT_CFG_PTP_FLOW n) { data := l, tenant := 0, port := n, tick := 0, counted := false, stamp := some s.time.tod }
    else
      let st := if (ptpOf l).any (fun m => m.evt) then some s.time.tod else none
      setCptPort s n { p with rx := p.rx ++ [⟨l, s.time.now, st⟩] }

/-- RX_FRAME (R193). -/
def execRxFrame (n : Nat) (l : List Byte) (err : Bool) (fec : Nat) (s : State) : Host.Outcome State Fault Refusal :=
  run (n < 8) (rxFrame s n l err fec)

/-! ### Transmit (R194, R198, R199) -/

/-- Puts a transmit stamp into the port's FIFO; a full FIFO loses the newest (R199). -/
def stampPut (s : State) (n seq : Nat) : State :=
  let p := cptPort s n
  if p.stamps.length < 64 then setCptPort s n { p with stamps := p.stamps ++ [(s.time.tod, seq)] }
  else fset s CPT_TXTS_OVF n 1

/-- A frame as it leaves, with the PTP work of R198 and R199, and the state after it. -/
def txStamp (s : State) (n : Nat) (l : List Byte) : State × List Byte :=
  match ptpOf l with
  | none => (s, l)
  | some m =>
    if !m.evt then (s, l)
    else
      let sync := byteAt l m.at_ % 16 = 0
      let twoStep := (byteAt l (m.at_ + 6)) / 2 % 2 = 1
      if fgetB s CPT_PORT_CFG_PTP_1S n && sync && !twoStep && !m.v6 then
        let a := putBytes l (m.at_ + 34) (beBytes 6 (todSec s) ++ beBytes 4 (todNs s))
        (s, if m.csum = 0 then a else putBytes a m.csum [0, 0])
      else (stampPut s n (be16 l (m.at_ + 30)), l)

/-- A client MAC sends one whole frame, the control complex's first (R199); its egress counts when the
tap can take it (R222, R377). The frame as sent is the answer. -/
def txFrame (s : State) (n : Nat) : State :=
  let p := cptPort s n
  if !portSends s n then s
  else
    match p.ctl, p.tx with
    | f :: r, _ =>
      let q := txStamp (setCptPort s n { p with ctl := r }) n f.data
      { q.1 with bus := { q.1.bus with bytes := withFcs q.2 } }
    | [], f :: r =>
      if f.counted && tapFull s 1 then s
      else
        let q := txStamp (setCptPort s n { p with tx := r }) n f.data
        let s1 := if f.counted then tapPut q.1 1 f.tenant f.data.length else q.1
        { s1 with bus := { s1.bus with bytes := withFcs q.2 } }
    | [], [] => s

/-- TX_FRAME (R194). -/
def execTxFrame (n : Nat) (s : State) : Host.Outcome State Fault Refusal := run (n < 8) (txFrame s n)

/-- The halves of CPT_TXTS that a stamp fills: NS with VALID, and FRAC with SEQID. -/
def stampHigh (x : Nat × Nat) : Nat := 2 ^ 31 + x.1 / 2 ^ 32 % 1000000000

/-- FRAC and SEQID of a stamp. -/
def stampLow (x : Nat × Nat) : Nat := x.1 / 65536 % 65536 * 65536 + x.2 % 65536

/-- A read of CPT_TXTS: the oldest stamp, which it removes, and OVF (R199). -/
def txtsRead (s : State) (n : Nat) : State × Nat :=
  let p := cptPort s n
  let ovf := fget s CPT_TXTS_OVF n * 2 ^ 62
  let s1 := fset s CPT_TXTS_OVF n 0
  match p.stamps with
  | [] => (setCptPort s1 n { p with half := none }, ovf + p.half.getD 0)
  | x :: r => (setCptPort s1 n { p with stamps := r, half := none }, ovf + stampHigh x * 2 ^ 32 + stampLow x)

/-- A 32-bit read of CPT_TXTS[31:0] (R8, R9): clears FRAC and SEQID of the stamp shown, and nothing else. -/
def txtsReadLow (s : State) (n : Nat) : State × Nat :=
  let p := cptPort s n
  match p.half, p.stamps with
  | some l, _ => (setCptPort s n { p with half := none }, l)
  | none, [] => (s, 0)
  | none, x :: r => (setCptPort s n { p with stamps := (x.1 / 2 ^ 32 * 2 ^ 32, 0) :: r }, stampLow x)

/-- A 32-bit read of CPT_TXTS[63:32] (R8, R9): clears VALID, OVF and NS; the stamp leaves the FIFO, and its low half
stays until it is read. -/
def txtsReadHigh (s : State) (n : Nat) : State × Nat :=
  let p := cptPort s n
  let ovf := fget s CPT_TXTS_OVF n * 2 ^ 30
  let s1 := fset s CPT_TXTS_OVF n 0
  match p.stamps with
  | [] => (s1, ovf)
  | x :: r => (setCptPort s1 n { p with stamps := r, half := some (stampLow x) }, ovf + stampHigh x)

/-- Gives a read's answer. -/
def answer (q : State × Nat) : State := { q.1 with bus := { q.1.bus with data := BitVec.ofNat 64 q.2, status := 0 } }

/-- TXTS_READ (R199). -/
def execTxtsRead (n : Nat) (s : State) : Host.Outcome State Fault Refusal := run true (answer (if n < 8 then txtsRead s n else (s, 0)))

/-! ### Time of day (R196) -/

/-- The range of the TOD in units of 2^-32 ns. -/
def todRange : Nat := 2 ^ 48 * (1000000000 * 2 ^ 32)

/-- A write of CPT_TOD_STEP: signed nanoseconds are added. -/
def todStep (s : State) (v : Nat) : State :=
  let d : Int := signedOf 64 (v % 2 ^ 64) * 2 ^ 32
  { s with time := { s.time with tod := (((s.time.tod : Int) + d) % (todRange : Int)).toNat } }

/-- TOD_STEP_WRITE (R196). -/
def execTodStepWrite (v : Nat) (s : State) : Host.Outcome State Fault Refusal := run true (todStep s v)

/-- A 64-bit read of CPT_TOD_SEC latches CPT_TOD_NS (R196). -/
def todRead (s : State) : State × Nat :=
  (fset (fset s CPT_TOD_NS_NS 0 (todNs s)) CPT_TOD_NS_FRAC 0 (todFrac s), todSec s)

/-- TOD_READ (R196). -/
def execTodRead (s : State) : Host.Outcome State Fault Refusal := run true (answer (todRead s))

end Machine
end Sys2Proof
end

