-- ==== Sys2Proof/Machine/TickSrc.lean ====
section
/-!
DEFINITION. The tick's source and length (R11 to R26): PLL pairs, source edges and holdover, TICK_LEN
and SRC writes, realignment, and the latched read of the tick count.
-/

namespace Sys2Proof
namespace Machine

/-- Writes the time structure. -/
def setTime (s : State) (t : TimeSt) : State := { s with time := t }

/-- A TICK event (R371). -/
def tickEvent (s : State) (realigned : Bool) : State :=
  event s 8 0 (fget s SYS_TICK_STAT_HOLDOVER 0 + (if realigned then 2 else 0)) (fget s SYS_TICK_STAT_PHASE_ERR 0)

/-- Clears or sets bit `k` of a small mask. -/
def bitSet (m k : Nat) (b : Bool) : Nat := if m.testBit k = b then m else if b then m + 2 ^ k else m - 2 ^ k

/-- The active PLL of pair `k` loses lock (R11, R12). -/
def pllLoss (s : State) (k : Nat) : State :=
  let t := s.time
  if t.pllB.testBit k then
    raise (setTime s { t with pllB := bitSet t.pllB k false }) { src := 55, cls := clsC, code := 1, addr := k }
  else raise (setTime s { t with pllA := bitSet t.pllA k false }) { src := 55, cls := clsF, code := 2, addr := k }

/-- PLL_LOSS_OF_LOCK (R11). -/
def execPllLossOfLock (k : Nat) (s : State) : Host.Outcome State Fault Refusal := run (k < 3) (pllLoss s k)

/-- A failed PLL locks again and becomes the standby (R11); where no PLL of the pair is locked it
becomes the active one. -/
def pllRelock (s : State) (k : Nat) : State :=
  let t := s.time
  if t.pllA.testBit k then setTime s { t with pllB := bitSet t.pllB k true }
  else setTime s { t with pllA := bitSet t.pllA k true }

/-- PLL_RELOCK (R11). -/
def execPllRelock (k : Nat) (s : State) : Host.Outcome State Fault Refusal := run (k < 3) (pllRelock s k)

/-! ### Source edges (R18, R19) -/

/-- A source edge with its signed phase error: PHASE_ERR shows it; within tolerance HOLDOVER clears. -/
def tickPhase (s : State) (err : Int) : State :=
  let s1 := fset s SYS_TICK_STAT_PHASE_ERR 0 (satSigned 8 err)
  if err.natAbs ≤ fget s SYS_TICK_CFG_TOL 0 then
    let s2 := setTime s1 { s1.time with inPhase := true }
    if fgetB s2 SYS_TICK_STAT_HOLDOVER 0 then tickEvent (fset s2 SYS_TICK_STAT_HOLDOVER 0 0) false else s2
  else s1

/-- TICK_SOURCE_EDGE (R18): only an external source is compared. -/
def execTickSourceEdge (err : Int) (s : State) : Host.Outcome State Fault Refusal :=
  run true (if fget s SYS_TICK_CFG_SRC 0 = 0 then s else tickPhase s err)

/-- No source edge within the window (R19). -/
def tickMissed (s : State) : State :=
  if fget s SYS_TICK_CFG_SRC 0 = 0 then s
  else
    let h := fgetB s SYS_TICK_STAT_HOLDOVER 0
    let s1 := finc (fset s SYS_TICK_STAT_HOLDOVER 0 1) SYS_TICK_STAT_MISSED 0
    let s2 := if h then s1 else tickEvent s1 false
    if s2.time.inPhase then raise (setTime s2 { s2.time with inPhase := false }) { src := 57, cls := clsC, code := 1 } else s2

/-- TICK_EDGE_MISSED (R19). -/
def execTickEdgeMissed (s : State) : Host.Outcome State Fault Refusal := run true (tickMissed s)

/-! ### TICK_LEN, SRC and realignment (R13, R20, R21) -/

/-- Some cabinet is RUNNING or DRAINING. -/
def anyRunning (s : State) : Bool :=
  (List.range 100).any (fun p => cabState s p = stRUNNING || cabState s p = stDRAINING)

/-- A TICK_LEN that R13 and R21 let take effect at the next edge. -/
def tickLenOk (s : State) (v : Nat) : Bool :=
  300 ≤ v && v ≤ 750000 && !anyRunning s &&
    !((List.range 16).any (fun l => fgetB s QMG_LINK_CFG_EN l) && v < fget s QMG_CFG_BUDGET_DL 0 + 600)

/-- A write of SYS_TICK_CFG.TICK_LEN; what the edge finds decides again (`lenTake`). -/
def tickLenWrite (s : State) (v : Nat) : State :=
  if tickLenOk s v then setTime s { s.time with lenNext := some v } else fset s SYS_TICK_STAT_LEN_REFUSED 0 1

/-- TICK_LEN_WRITE (R21). -/
def execTickLenWrite (v : Nat) (s : State) : Host.Outcome State Fault Refusal := run true (tickLenWrite s (v % 2 ^ 20))

/-- Asks for a realignment (R20): it joins one whose insertion has not begun, and waits for one whose
insertion has. -/
def tickAlign (s : State) : State :=
  if fgetB s SYS_TICK_STAT_ALIGN_PENDING 0 then
    if s.time.inserting then setTime s { s.time with held := true } else s
  else fset s SYS_TICK_STAT_ALIGN_PENDING 0 1

/-- A write of SYS_TICK_CFG.SRC: a change asks for a realignment. -/
def tickSrcWrite (s : State) (v : Nat) : State :=
  if v % 4 = fget s SYS_TICK_CFG_SRC 0 then s else tickAlign (fset s SYS_TICK_CFG_SRC 0 v)

/-- TICK_SOURCE_WRITE (R20). -/
def execTickSourceWrite (v : Nat) (s : State) : Host.Outcome State Fault Refusal := run true (if v % 4 = 3 then s else tickSrcWrite s (v % 4))

/-- A 64-bit read of SYS_TICK_CNT latches the offset (R26). -/
def tickCntRead (s : State) : State × Nat := (fset s SYS_TICK_OFS_OFFSET 0 (stampOfs s), s.time.tick)

/-- The level of TICK_OUT (R25): high in the first 24 cycles of a tick while TICK_OUT_EN is 1, low otherwise. -/
def tickOut (s : State) : Bool := s.time.running && fgetB s SYS_TICK_CFG_TICK_OUT_EN 0 && cycOfs s < 24

/-- TICK_COUNT_READ (R26). -/
def execTickCountRead (s : State) : Host.Outcome State Fault Refusal := run true (answer (tickCntRead s))

end Machine
end Sys2Proof
end

