-- ==== Sys2Proof/Machine/Span.lean ====
section
/-!
DEFINITION. Span links and systems (chapter 10): link states, frames with their retry and credits, the
span switch, tick markers and calibration.
-/

namespace Sys2Proof
namespace Machine

/-! ### Links (R250, R256, R257) -/

/-- A span lane. -/
def spLane (s : State) (n : Nat) : SpnLane := smGet {} s.spn.lane n

/-- Writes a span lane. -/
def setSpLane (s : State) (n : Nat) (x : SpnLane) : State :=
  { s with spn := { s.spn with lane := smSet {} n x s.spn.lane } }

/-- The state of link `k`: 0 OFF, 1 TRAIN, 2 IDENT, 3 UP, 4 DOWN, 5 FAILED. -/
def spState (s : State) (k : Nat) : Nat := fget s SPN_LINK_STAT_STATE k

/-- Lanes of a WIDTH code. -/
def spWidth (w : Nat) : Nat := if w = 0 then 1 else if w = 1 then 2 else 4

/-- The ports of a link named by port `k` with a WIDTH code. -/
def spPortsOf (k w : Nat) : List Nat := (List.range (spWidth w)).map (fun i => k + i)

/-- The ports of link `k` as configured. -/
def spPorts (s : State) (k : Nat) : List Nat := spPortsOf k (fget s SPN_LINK_CFG_WIDTH k)

/-- The link that holds port `n`: an enabled link that covers it. -/
def spLinkAt (s : State) (n : Nat) : Option Nat :=
  [0, 1, 2, 3, 4, 5, 6, 7].find? (fun k => spState s k != 0 && (spPorts s k).contains n)

/-- The configuration fields of SPN_LINK_CFG beside EN, RETRAIN and REFUSED. -/
def spCfgFlds : List Fld :=
  [SPN_LINK_CFG_WIDTH, SPN_LINK_CFG_TRUNK, SPN_LINK_CFG_DL, SPN_LINK_CFG_DIR, SPN_LINK_CFG_PEER_CHK, SPN_LINK_CFG_PEER,
   SPN_LINK_CFG_RTO]

/-- A configuration that R250 and R257 let be enabled. -/
def spValid (s : State) (k : Nat) : Bool :=
  let w := fget s SPN_LINK_CFG_WIDTH k
  w != 3 && k % spWidth w = 0 && fget s SPN_LINK_CFG_RTO k != 0 &&
    [0, 1, 2, 3, 4, 5, 6, 7].all (fun o => o = k || spState s o = 0 ||
      ((spPorts s o).all (fun p => !(spPortsOf k w).contains p) &&
        !(fget s SPN_LINK_CFG_TRUNK o = fget s SPN_LINK_CFG_TRUNK k && fget s SPN_LINK_CFG_DIR o = fget s SPN_LINK_CFG_DIR k)))

/-- A link enters a state with a REASON; a change is a LINK event (R371). -/
def spGo (s : State) (k st reason : Nat) : State :=
  let s1 := fset (fset s SPN_LINK_STAT_STATE k st) SPN_LINK_STAT_REASON k reason
  let s1 := if st = 1 then { s1 with spn := { s1.spn with trainAt := smSet 0 k s1.time.now s1.spn.trainAt } } else s1
  if spState s k = st then s1 else linkEvent s1 6 k st reason

/-! ### Transmitters (R252) -/

/-- The frames that wait at port `n`. -/
def txQueue (s : State) (n : Nat) : List SOut := smGet [] s.spn.txq n

/-- Writes them; where none waited, the transmitter is free from now on. -/
def setTxQueue (s : State) (n : Nat) (l : List SOut) : State :=
  let t := if (txQueue s n).isEmpty then max (smGet 0 s.spn.txAt n) (s.time.now * 300600) else smGet 0 s.spn.txAt n
  { s with spn := { s.spn with txq := smSet [] n l s.spn.txq, txAt := smSet 0 n t s.spn.txAt } }

/-- What goes ahead of DATA frames and resends (R265). -/
def txAhead (o : SOut) : List SOut → List SOut
  | [] => [o]
  | x :: r => match x with | .data _ => o :: x :: r | _ => x :: txAhead o r

/-- A frame that carries no SEQ waits at port `n`. -/
def txPut (s : State) (n : Nat) (o : SOut) : State := setTxQueue s n (txAhead o (txQueue s n))

/-- The timing lane: the lowest lane in service (R267). -/
def timingLane (s : State) (k : Nat) : Option Nat := (spPorts s k).find? (fun n => (spLane s n).up)

/-- A calibration of link `k` begins: CAL goes out on its timing lane (R267). -/
def calStart (s : State) (k : Nat) : State :=
  let s1 := { s with spn := { s.spn with cal := smSet false k true s.spn.cal, calAt := smSet 0 k s.time.edges s.spn.calAt } }
  (timingLane s k).elim s1 (fun n => txPut s1 n .cal)

/-- No measurement stands for the link (R267); a new one runs where `run` says so. -/
def calOff (s : State) (k : Nat) (run : Bool) : State :=
  let s1 := fset s SPN_CAL_VALID k 0
  if run then calStart s1 k else { s1 with spn := { s1.spn with cal := smSet false k false s1.spn.cal } }

/-- Clears the lanes of a link: sequence numbers and credits go back to 0. -/
def spClear (s : State) (k : Nat) (up : Bool) : State :=
  (spPorts s k).foldl (fun s n => setTxQueue (setSpLane s n { up := up, rx := (spLane s n).rx }) n []) s

/-- EN written 0 (R256); a link in DOWN leaves its fault state (R408). -/
def spOff (s : State) (k : Nat) : State :=
  fset (fset (fset (spGo (calOff (spClear s k false) k false) k 0 0) SPN_LINK_CFG_EN k 0) SPN_LINK_STAT_LANES k 0)
    FLT_UNIT_FAULTED (unitIx 6 k) 0

/-- A write of SPN_LINK_CFG of link `k` (R256, R257, R270): WIDTH 0b11 is refused, and so are other settings while the
link is not OFF; EN written 0 takes the link OFF whatever else the write holds. -/
def spLinkWrite (s0 : State) (k v : Nat) : State :=
  let s := if fldOf SPN_LINK_CFG_REFUSED v = 1 then fset s0 SPN_LINK_CFG_REFUSED k 0 else s0
  if spState s k = 0 then
    if fldOf SPN_LINK_CFG_WIDTH v = 3 then fset s SPN_LINK_CFG_REFUSED k 1
    else
      let s1 := fstore s spCfgFlds k v
      if fldOf SPN_LINK_CFG_EN v = 1 then
        if spValid s1 k then spGo (fset s1 SPN_LINK_CFG_EN k 1) k 1 0 else fset s1 SPN_LINK_CFG_REFUSED k 1
      else s1
  else
    let s1 := if fsame s spCfgFlds k v then s else fset s SPN_LINK_CFG_REFUSED k 1
    if fldOf SPN_LINK_CFG_EN v = 0 then spOff s1 k
    else if fsame s spCfgFlds k v && fldOf SPN_LINK_CFG_RETRAIN v = 1 && spState s k = 5 then spGo s1 k 1 0
    else s1

/-- SPAN_LINK_ENABLE (R256): SPN_LINK_CFG is written with EN = 1. -/
def execSpanLinkEnable (k v : Nat) (s : State) : Host.Outcome State Fault Refusal :=
  reach (k < 8) s (spLinkWrite s k (v % 2 ^ 63 + 2 ^ 63))

/-- SPAN_LINK_DISABLE (R256): EN is written 0, the other fields as they stand. -/
def execSpanLinkDisable (k : Nat) (s : State) : Host.Outcome State Fault Refusal :=
  reach (k < 8) s (if spState s k = 0 then s else spOff s k)

/-- SPAN_RETRAIN (R256): RETRAIN is written with the other fields as they stand. -/
def execSpanRetrain (k : Nat) (s : State) : Host.Outcome State Fault Refusal :=
  reach (k < 8) s (if spState s k = 5 then spGo s k 1 0 else s)

/-- What the IDENT frames of a link carry (R256). -/
structure Ident where
  dev : Nat
  port : Nat
  ring : Nat
  junction : Nat
  len : Nat
  deriving DecidableEq, Repr

/-- The IDENT that link `k` sends; none outside IDENT. -/
def identSent (s : State) (k : Nat) : Option Ident :=
  if spState s k = 2 then some ⟨ownDev s, k, fget s SPN_SYS_RING 0, fget s SPN_SYS_JUNCTION 0, tickLen s⟩ else none

/-- SPAN_FEC_LOCK (R256): the link goes to IDENT, where IDENT frames are exchanged. -/
def execSpanFecLock (k : Nat) (s : State) : Host.Outcome State Fault Refusal :=
  run (k < 8) (if spState s k = 1 then spGo s k 2 0 else s)

/-- SPAN_TRAIN_TIMEOUT (R256): 100 ms after TRAIN began. -/
def execSpanTrainTimeout (k : Nat) (s : State) : Host.Outcome State Fault Refusal :=
  run (k < 8) (if (spState s k = 1 ∨ spState s k = 2) ∧ passedMs s (smGet 0 s.spn.trainAt k) 100 then spGo s k 5 1 else s)

/-- The neighbour's IDENT is checked (R256); UP starts sequence numbers and credits at 0 and the
calibration of R267. -/
def spIdent (s : State) (k dev port width : Nat) : State :=
  if spState s k = 2 then
    if fgetB s SPN_LINK_CFG_PEER_CHK k && dev != fget s SPN_LINK_CFG_PEER k then spGo s k 5 2
    else if dev = ownDev s then spGo s k 5 3
    else if width != fget s SPN_LINK_CFG_WIDTH k then spGo s k 5 4
    else
      let s1 := spGo (spClear s k true) k 3 0
      let s2 := fset s1 SPN_LINK_STAT_LANES k (spWidth (fget s SPN_LINK_CFG_WIDTH k))
      let s3 := calOff (fset (fset s2 SPN_LINK_STAT_NBR_DEV k dev) SPN_LINK_STAT_NBR_PORT k port) k true
      { s3 with spn := { s3.spn with dropRec := false } }
  else s

/-- SPAN_IDENT_RECEIVED (R256): the neighbour's device number, port and width. -/
def execSpanIdentReceived (k dev port width : Nat) (s : State) : Host.Outcome State Fault Refusal :=
  run (k < 8) (spIdent s k (dev % 1024) (port % 8) width)

/-! ### Loss of lanes and links (R253, R258) -/

/-- Packets in a replay buffer: its heads, and a packet whose head has been acknowledged. -/
def replayPkts (l : List SFrame) : Nat :=
  match l with
  | [] => 0
  | _ :: r => 1 + (r.filter (fun x => x.flit.kind = 0 || x.flit.kind = 3)).length

/-- A lane leaves service: the packets in its replay buffer drop (R258). -/
def spLaneDrop (s : State) (k n : Nat) : State :=
  setTxQueue (setSpLane (fadd s SPN_LINK_ERR_DROP k (replayPkts (spLane s n).replay)) n { rx := (spLane s n).rx }) n []

/-- A link goes DOWN (R256, R258): its packets drop, a U-class record names it as containment unit. -/
def spDown (s : State) (k reason : Nat) : State :=
  let s1 := (spPorts s k).foldl (fun s n => spLaneDrop s k n) s
  let s2 := spGo (calOff (fset s1 SPN_LINK_STAT_LANES k 0) k false) k 4 reason
  raise (unitFault s2 6 k) { src := 45, cls := clsU, code := 1, addr := k, access := 7, ukind := 6, uid := k }

/-- A lane of an UP link loses lock (R256, R258, R267). -/
def spLockLoss (s : State) (n : Nat) : State :=
  match spLinkAt s n with
  | none => s
  | some k =>
    if spState s k = 3 ∧ (spLane s n).up then
      if fget s SPN_LINK_STAT_LANES k ≤ 1 then spDown s k 0
      else
        let tim := timingLane s k = some n
        let s1 := fset (spLaneDrop s k n) SPN_LINK_STAT_LANES k (fget s SPN_LINK_STAT_LANES k - 1)
        let s2 := raise s1 { src := 45, cls := clsU, code := 2, addr := n, access := 7 }
        if tim then calOff s2 k true else s2
    else s

/-- SPAN_LANE_LOCK_LOSS (R258). -/
def execSpanLaneLockLoss (n : Nat) (s : State) : Host.Outcome State Fault Refusal := run (n < 8) (spLockLoss s n)

/-! ### Frames (R252 to R255) -/

/-- A field of a span frame. -/
def frBits (x lo w : Nat) : Nat := x / 2 ^ lo % 2 ^ w

/-- The frame's CRC checks (R252). -/
def frameOk (x : Nat) : Bool := crc16Bits (x / 65536) 336 0xFFFF = x % 65536

/-- Notes that ACK of port `n` advances now. -/
def ackNow (s : State) (n : Nat) : State := { s with spn := { s.spn with ackAt := smSet 0 n s.time.now s.spn.ackAt } }

/-- The queue of a transmitter that resends: what goes ahead of DATA, and the frames from the oldest on (R253). -/
def txAgain (q : List SOut) (l : List SFrame) : List SOut :=
  q.filter (fun o => match o with | .data _ => false | _ => true) ++ l.map .data

/-- The resend of a replay buffer (R253): each counts in REPLAY; after eight without progress the next
one takes the link DOWN. -/
def spResend (s : State) (k n : Nat) : State :=
  let l := spLane s n
  if l.replay.isEmpty then s
  else if 8 ≤ l.tries then spDown s k 5
  else
    let s1 := setSpLane (finc s SPN_LINK_ERR_REPLAY k) n { l with tries := l.tries + 1 }
    ackNow (setTxQueue s1 n (txAgain (txQueue s1 n) l.replay)) n

/-- Frees the replay buffer up to the frame with the acknowledged number (R253). -/
def ackTo (ack : Nat) : List SFrame → Option (List SFrame)
  | [] => none
  | f :: r => if f.seq = ack then some r else ackTo ack r

/-- What a good frame acknowledges and returns: ACK and the credits of one lane (R253, R255). -/
def spAck (s : State) (n x : Nat) : State :=
  let l := spLane s n
  let back := smSet 0 (frBits x 47 4) (frBits x 35 12) l.back
  match ackTo (frBits x 51 12) l.replay with
  | none => setSpLane s n { l with back := back }
  | some r => ackNow (setSpLane s n { l with replay := r, tries := 0, back := back }) n

/-- A DATA frame that arrives in order joins its packet; a whole packet waits for the switch (R252). -/
def spAccept (s : State) (n x : Nat) : State :=
  let l := spLane s n
  let f : SFlit := ⟨frBits x 90 2, frBits x 89 1 = 1, frBits x 96 256⟩
  let l0 := { l with exp := (l.exp + 1) % 4096, nak := false }
  let p : Option SPkt :=
    if f.kind = 0 ∨ f.kind = 3 then
      some { net := frBits x 88 1, slane := frBits x 85 3, dir := frBits x 34 1, dring := frBits x 29 5, ddev := frBits x 75 10, flits := [f] }
    else l.part.map (fun p => { p with flits := p.flits ++ [f] })
  match p with
  | none => setSpLane s n l0
  | some q =>
    if f.kind = 2 ∨ f.kind = 3 then setSpLane s n { l0 with part := none, rx := l0.rx ++ [q] }
    else setSpLane s n { l0 with part := some q }

/-- A discarded frame (R253): the first one sends NAK, which names the SEQ expected. -/
def spBad (s : State) (n : Nat) : State :=
  let l := spLane s n
  if l.nak then s else txPut (setSpLane s n { l with nak := true }) n .nak

/-- A NAK naming frame `seq` at an UP lane of link `k` (R253): frames before it have arrived, and the sender resends from
there. -/
def spNakAt (s : State) (k n seq : Nat) : State :=
  let l := spLane s n
  match ackTo ((seq + 4095) % 4096) l.replay with
  | none => spResend s k n
  | some r => spResend (setSpLane s n { l with replay := r, tries := 0 }) k n

/-- A frame arrives at a port (R253): `fec` uncorrectable FEC codewords go with it. A CAL is answered by an ECHO
(R267); MARKER, ECHO and IDENT contents have commands of their own. -/
def spFrame (s : State) (n x fec : Nat) : State :=
  match spLinkAt s n with
  | none => s
  | some k =>
    if spState s k = 3 ∧ (spLane s n).up then
      let s0 := fadd s SPN_LINK_ERR_FEC_UNCORR k fec
      if frameOk x then
        let s1 := spAck s0 n x
        if frBits x 92 4 = 0 then
          if frBits x 63 12 = (spLane s1 n).exp then spAccept s1 n x else spBad s1 n
        else if frBits x 92 4 = 2 then spNakAt s1 k n (frBits x 63 12)
        else if frBits x 92 4 = 4 then txPut s1 n (.echo s1.time.now)
        else s1
      else spBad (finc s0 SPN_LINK_ERR_CRC_BAD k) n
    else s

/-- SPAN_FRAME_RECEIVED (R253). -/
def execSpanFrameReceived (n x fec : Nat) (s : State) : Host.Outcome State Fault Refusal :=
  run (n < 8) (spFrame s n (x % 2 ^ 352) fec)

/-- The link whose UP lane port `n` is. -/
def spUpAt (s : State) (n : Nat) : Option Nat :=
  (spLinkAt s n).bind (fun k => if spState s k = 3 ∧ (spLane s n).up then some k else none)

/-- A NAK arrives at a port. -/
def spNak (s : State) (n seq : Nat) : State := (spUpAt s n).elim s (fun k => spNakAt s k n seq)

/-- SPAN_NAK_RECEIVED (R253). -/
def execSpanNakReceived (n seq : Nat) (s : State) : Host.Outcome State Fault Refusal :=
  run (n < 8) (spNak s n (seq % 4096))

/-- ACK of port `n` has not advanced for RTO × 100 ns (R253). -/
def rtoOver (s : State) (k n : Nat) : Bool :=
  fget s SPN_LINK_CFG_RTO k * Config.aclkKHz ≤ (s.time.now - smGet 0 s.spn.ackAt n) * 10000

/-- The sender resends once its time-out is over. -/
def spTimeout (s : State) (n : Nat) : State := (spUpAt s n).elim s (fun k => if rtoOver s k n then spResend s k n else s)

/-- SPAN_RESEND_TIMEOUT (R253). -/
def execSpanResendTimeout (n : Nat) (s : State) : Host.Outcome State Fault Refusal := run (n < 8) (spTimeout s n)

/-! ### Frames that leave (R252, R255) -/

/-- A 352-bit frame of port `n`: its kind and what that kind carries, ACK, the credit return of lane `crl`, and the CRC
(R252). -/
def frameBits (s : State) (n fty kind pois net slane ddev seq dir dring data crl : Nat) : Nat :=
  let l := spLane s n
  let b := data % 2 ^ 256 * 2 ^ 96 + fty * 2 ^ 92 + kind % 4 * 2 ^ 90 + pois * 2 ^ 89 + net % 2 * 2 ^ 88 + slane % 8 * 2 ^ 85 +
    ddev % 1024 * 2 ^ 75 + seq % 4096 * 2 ^ 63 + (l.exp + 4095) % 4096 * 2 ^ 51 + crl % 16 * 2 ^ 47 +
    smGet 0 l.freed (crl % 16) % 4096 * 2 ^ 35 + dir % 2 * 2 ^ 34 + dring % 32 * 2 ^ 29
  b + crc16Bits (b / 65536) 336 0xFFFF

/-- The frame of what leaves a transmitter. The layout of a MARKER's, CAL's and ECHO's own content is not stated, so
those bits are `free`. -/
def frameOf (s : State) (n : Nat) (o : SOut) (crl free : Nat) : Nat :=
  match o with
  | .data f => frameBits s n 0 f.flit.kind f.flit.pois.toNat f.net f.slane f.ddev f.seq f.dir f.dring f.flit.data crl
  | .nak => frameBits s n 2 0 0 0 0 0 (spLane s n).exp 0 0 0 crl
  | .marker _ => frameBits s n 3 0 0 0 0 0 0 0 0 free crl
  | .cal => frameBits s n 4 0 0 0 0 0 0 0 0 free crl
  | .echo _ => frameBits s n 5 0 0 0 0 0 0 0 0 free crl

/-- The frame that a lane with nothing to send carries. -/
def idleFrame (s : State) (n crl : Nat) : Nat := frameBits s n 1 0 0 0 0 0 0 0 0 0 crl

/-- An ECHO leaves with the turnaround since its CAL came, in 1/32 cycle (R267). -/
def leaving (s : State) (o : SOut) : SOut :=
  match o with
  | .echo t => .echo (32 * (s.time.now - t))
  | _ => o

/-- Frames of port `n` leave, 300.6 million a second (R252), as far as time has come. -/
def spTx (n : Nat) : Nat → State → State
  | 0, s => s
  | fuel + 1, s =>
    match txQueue s n with
    | [] => s
    | o :: r =>
      let t := smGet 0 s.spn.txAt n
      if t ≤ s.time.now * 300600 then
        let b := frameOf s n o (Config.choice s.free) (Config.random s.free).toNat
        spTx n fuel (drawFree { s with spn := { s.spn with
          txq := smSet [] n r s.spn.txq, txAt := smSet 0 n (t + Config.aclkKHz) s.spn.txAt
          txLast := smSet none n (some (leaving s o, b)) s.spn.txLast } })
      else s

/-- Every transmitter sends what time allows. -/
def spanIdle (s : State) : State := s.spn.txq.foldl (fun s e => spTx e.1 e.2.length s) s

/-! ### The span switch (R255, R260, R261) -/

/-- What the routing of R260 answers. -/
inductive SRoute where
  | eject (st : Nat)
  | drop
  | send (link slane dir dring : Nat)
  deriving DecidableEq, Repr

/-- A link is UP. -/
def spUp (s : State) (k : Nat) : Bool := spState s k = 3

/-- The link of R257 for a leg and a direction. -/
def linkOf (s : State) (trunk : Bool) (dir : Nat) : Option Nat :=
  [0, 1, 2, 3, 4, 5, 6, 7].find? (fun k => spState s k != 0 && fgetB s SPN_LINK_CFG_TRUNK k = trunk && fget s SPN_LINK_CFG_DIR k = dir)

/-- The routing of R260 for a packet from input `src`: ports 0-7, stops 125 and 127 as 8 and 9. -/
def spRoute (s : State) (src : Nat) (p : SPkt) : SRoute :=
  if p.ddev = ownDev s then .eject (if src < 4 ∨ src = 8 then 125 else 127)
  else
    let inj := 8 ≤ src
    let v := fgetB s SPN_ROUTE_VALID p.ddev
    if inj && !v then .drop
    else
      let dring := if inj then fget s SPN_ROUTE_RING p.ddev else p.dring
      let arr := if inj then 3 else p.slane / 2
      let leg := if dring = fget s SPN_SYS_RING 0 then 2 else if fgetB s SPN_SYS_JUNCTION 0 then 1 else 0
      let go (k dir l : Nat) : SRoute := .send k (2 * leg + (if fgetB s SPN_LINK_CFG_DL k then 1 else l)) dir dring
      if leg != arr then
        if !v then .drop
        else
          let pri := fget s SPN_ROUTE_PRI p.ddev
          let alt := fget s SPN_ROUTE_ALT p.ddev
          if spUp s pri then go pri (fget s SPN_LINK_CFG_DIR pri) 0
          else if fgetB s SPN_ROUTE_ALT_EN p.ddev && spUp s alt then go alt (fget s SPN_LINK_CFG_DIR alt) 0
          else .drop
      else
        match linkOf s (leg = 1) p.dir with
        | none => .drop
        | some k => if spUp s k then go k p.dir (p.slane % 2) else .drop

/-- A queue of the switch: packets of one network from one input and system lane, or from a stop. -/
def spQueue (s : State) (net src sl : Nat) : Option SPkt :=
  if src < 8 then (spLane s src).rx.find? (fun p => p.net = net && p.slane = sl)
  else (smGet [] s.spn.inj (2 * net + (src - 8))).head?

/-- Removes the first packet that `f` picks. -/
def dropFirst {α : Type} (f : α → Bool) : List α → List α
  | [] => []
  | a :: r => if f a then r else a :: dropFirst f r

/-- The header of a switch packet. -/
def spHdr (p : SPkt) : Bool × Pkt :=
  hdrParse ((p.flits.headD ⟨0, false, 0⟩).data |> fun d =>
    [BitVec.ofNat 64 d, BitVec.ofNat 64 (d / 2 ^ 64), BitVec.ofNat 64 (d / 2 ^ 128), BitVec.ofNat 64 (d / 2 ^ 192)])

/-- A packet of the switch as an agent's packet. -/
def spPkt (p : SPkt) : Pkt :=
  { (spHdr p).2 with
    data := p.flits.tail.flatMap (fun f => [BitVec.ofNat 64 f.data, BitVec.ofNat 64 (f.data / 2 ^ 64), BitVec.ofNat 64 (f.data / 2 ^ 128),
      BitVec.ofNat 64 (f.data / 2 ^ 192)])
    pois := p.flits.tail.map (fun f => f.pois) }

/-- Takes the packet from its input; the frames freed there return as credits (R255), or the outbound
credit of the stop it came from (R261). -/
def spTake (s : State) (net src sl : Nat) (p : SPkt) : State :=
  if src < 8 then
    let l := spLane s src
    let c := 8 * net + sl
    setSpLane s src { l with
      rx := dropFirst (fun q => q.net = net && q.slane = sl) l.rx
      freed := smSet 0 c ((smGet 0 l.freed c + p.flits.length) % 4096) l.freed }
  else
    let q := 2 * net + (src - 8)
    let c := q * 140 + (spHdr p).2.sstop
    { s with spn := { s.spn with inj := smSet [] q (smGet [] s.spn.inj q).tail s.spn.inj, cred := smSet 0 c (smGet 0 s.spn.cred c - 1) s.spn.cred } }

/-- Frames of a lane's network and system lane that the neighbour still holds. -/
def spInUse (l : SpnLane) (c : Nat) : Nat := (smGet 0 l.used c + 4096 - smGet 0 l.back c) % 4096

/-- The newest packets that hold `u` frames together, newest first. -/
def newest : Nat → List (Nat × Bool) → List (Nat × Bool)
  | _, [] => []
  | u, (n, b) :: r => if u = 0 then [] else (min n u, b) :: newest (u - n) r

/-- The packets of a network and system lane that hold credits. -/
def spHeld (l : SpnLane) (c : Nat) : List (Nat × Bool) := newest (spInUse l c) (smGet [] l.hold c)

/-- Frames among packets, of the shared pool or of the lane's reserve. -/
def heldFrames (pool : Bool) (h : List (Nat × Bool)) : Nat := h.foldl (fun a e => if e.2 = pool then a + e.1 else a) 0

/-- A packet of `n` frames fits into the 18 frames reserved for its lane. -/
def spReserve (l : SpnLane) (c n : Nat) : Bool := heldFrames false (spHeld l c) + n ≤ 18

/-- A lane has credits for a packet of `n` frames, of its reserve or whole of the shared pool, and room for it in its
replay buffer (R254, R255). -/
def spRoom (l : SpnLane) (net sl n : Nat) : Bool :=
  let pool := (List.range 8).foldl (fun a i => a + heldFrames true (spHeld l (8 * net + i))) 0
  l.replay.length + n ≤ 744 && (spReserve l (8 * net + sl) n || pool + n ≤ 1536)

/-- The lane of a link with the fewest frames waiting, the lowest on a tie (R251). -/
def spPick (s : State) (k : Nat) : Option Nat :=
  (spPorts s k).foldl (fun b n =>
    if (spLane s n).up then
      match b with
      | none => some n
      | some m => if (txQueue s n).length < (txQueue s m).length then some n else b
    else b) none

/-- The frames of a packet from a sequence number on. -/
def spFrames (p : SPkt) (sl dir dring : Nat) : Nat → List SFlit → List SFrame
  | _, [] => []
  | q, f :: r => ⟨q % 4096, p.net, sl, dir, dring, p.ddev, f⟩ :: spFrames p sl dir dring (q + 1) r

/-- Sends a packet whole on lane `n` (R251 to R255). -/
def spSend (s : State) (n sl dir dring : Nat) (p : SPkt) : State :=
  let l := spLane s n
  let c := 8 * p.net + sl
  let k := p.flits.length
  let fs := spFrames p sl dir dring l.seq p.flits
  let s1 := setSpLane s n { l with
    replay := l.replay ++ fs
    seq := (l.seq + k) % 4096
    used := smSet 0 c ((smGet 0 l.used c + k) % 4096) l.used
    hold := smSet [] c ((k, !spReserve l c k) :: spHeld l c) l.hold }
  let s2 := setTxQueue s1 n (txQueue s1 n ++ fs.map .data)
  if l.replay.isEmpty then ackNow s2 n else s2

/-- The one record of an episode of drops. -/
def spDropNote (s : State) (h : Pkt) (k : Nat) : State :=
  if s.spn.dropRec then s else pktEvent { s with spn := { s.spn with dropRec := true } } 45 3 h k

/-- A packet with header `h` is discarded at link `k`: stop `st` answers one that awaits a response; any other is counted,
and the first of an episode recorded. -/
def spDropAt (s : State) (h : Bool × Pkt) (k st : Nat) : State :=
  if h.1 && nonPosted h.2.ty then queueRsp s st (errRsp h.2 (ownDev s) st 5) else spDropNote (finc s SPN_LINK_ERR_DROP k) h.2 k

/-- A dropped packet (R260): counted in DROP of the link it came by, or of its route's primary link; a
good non-posted request is answered NO_TARGET; the first drop of an episode raises a record. -/
def spDrop (s : State) (src : Nat) (p : SPkt) : State :=
  spDropAt s (spHdr p) (if src < 8 then (spLinkAt s src).getD src else fget s SPN_ROUTE_PRI p.ddev)
    (if src < 4 ∨ src = 8 then 125 else 127)

/-- An ejected packet goes to the internal ring at stop 125 or 127 with a fresh sideband (R260). -/
def spEject (s : State) (st : Nat) (p : SPkt) : State :=
  let q := spPkt p
  if p.net = 1 then queueRsp s st q else setStop s st { stop s st with reqQ := (stop s st).reqQ ++ [q] }

/-- A packet that asks for an output: input, system lane of arrival, packet, and what R255 ranks it by. -/
structure SReq where
  src : Nat
  sl : Nat
  p : SPkt
  r : SRoute
  deriving DecidableEq, Repr

/-- The output an answer names: links 0-7, stops 8 and 9, none for a drop. -/
def srOut (r : SRoute) : Option Nat :=
  match r with
  | .eject st => some (if st = 125 then 8 else 9)
  | .drop => none
  | .send k _ _ _ => some k

/-- The leg an answer travels in; an ejected packet has ended its IN leg. -/
def srLeg (r : SRoute) : Nat :=
  match r with
  | .send _ l _ _ => l / 2
  | _ => 3

/-- The packets at the heads of the switch's queues in a network. -/
def spReqs (s : State) (net : Nat) : List SReq :=
  [0, 1, 2, 3, 4, 5, 6, 7, 8, 9].flatMap (fun src =>
    (if src < 8 then [0, 1, 2, 3, 4, 5, 6, 7] else [0]).filterMap (fun sl =>
      (spQueue s net src sl).map (fun p => ⟨src, sl, p, spRoute s src p⟩)))

/-- The request can be granted now. -/
def srReady (s : State) (q : SReq) : Bool :=
  match q.r with
  | .send k sl _ _ =>
    match spPick s k with
    | none => false
    | some n => spRoom (spLane s n) q.p.net sl q.p.flits.length
  | _ => true

/-- The house order of the span switch (R255): the later leg; a through packet over an injected one, but for an injecting
stop that was denied 8 times; the rotating pointer. -/
def srBetter (s : State) (net ptr : Nat) (a b : SReq) : Bool :=
  let den (q : SReq) : Bool := 8 ≤ q.src && 8 ≤ smGet 0 s.spn.deny (2 * net + (q.src - 8))
  if srLeg a.r != srLeg b.r then srLeg b.r < srLeg a.r
  else if den a != den b then den a
  else if decide (a.src < 8) != decide (b.src < 8) then a.src < 8
  else (a.src + 10 - ptr) % 10 < (b.src + 10 - ptr) % 10

/-- The winner among requests. -/
def pickSr (s : State) (net ptr : Nat) : List SReq → Option SReq
  | [] => none
  | a :: r =>
    match pickSr s net ptr r with
    | none => some a
    | some b => if srBetter s net ptr b a then some b else some a

/-- The denial counts of the injecting stops after a grant to input `src`. -/
def spDeny (net : Nat) (rq : List SReq) (src : Nat) (d : SMap Nat) : SMap Nat :=
  [8, 9].foldl (fun d i =>
    let k := 2 * net + (i - 8)
    if src = i then smSet 0 k 0 d else if rq.any (fun y => y.src = i) then smSet 0 k (smGet 0 d k + 1) d else d) d

/-- The granted packet leaves its input by its output. -/
def spGrant (s : State) (net : Nat) (q : SReq) : State :=
  let s3 := spTake s net q.src q.sl q.p
  match q.r with
  | .eject st => spEject s3 st q.p
  | .drop => s3
  | .send k sl dir dring => (spPick s3 k).elim s (fun n => spSend s3 n sl dir dring q.p)

/-- A packet without a route leaves its input and is discarded. -/
def spDropOne (net : Nat) (s : State) (q : SReq) : State := spDrop (spTake s net q.src q.sl q.p) q.src q.p

/-- Every packet without a route is discarded. -/
def spDrops (s : State) (net : Nat) : State := ((spReqs s net).filter (fun q => q.r = .drop)).foldl (spDropOne net) s

/-- One of the requests `rq` for output `o` is granted. -/
def spArb (s : State) (net o : Nat) (rq : List SReq) : State :=
  (pickSr s net (smGet 0 s.spn.ptr (10 * net + o)) rq).elim s (fun q =>
    spGrant { s with spn := { s.spn with deny := spDeny net rq q.src s.spn.deny,
                                         ptr := smSet 0 (10 * net + o) ((q.src + 1) % 10) s.spn.ptr } } net q)

/-- One grant of output `o` of the switch in a network: the packets that R260 drops drop first; then
the winner of the house order goes (R255, R260). -/
def spSwitch (s : State) (net o : Nat) : State :=
  spArb (spDrops s net) net o ((spReqs (spDrops s net) net).filter (fun q => srOut q.r = some o && srReady (spDrops s net) q))

/-- SPAN_SWITCH_ROUTE (R260): one grant of output `o`, links 0-7, stops 125 and 127 as 8 and 9. -/
def execSpanSwitchRoute (net o : Nat) (s : State) : Host.Outcome State Fault Refusal :=
  run (net < 2 && o < 10) (spSwitch s net o)

/-! ### Markers (R265, R266, R268) -/

/-- The rank of a master: priority, then device number. -/
def mRank (prio dev : Nat) : Nat := prio * 1024 + dev

/-- The device's time of day at its own last edge. -/
def todAtEdge (s : State) : Nat := s.time.tod - cycOfs s * fget s CPT_TOD_INC_INC 0

/-- The last marker heard on the link the device follows; none where it follows none (R266). -/
def followed (s : State) : Option Marker :=
  if fget s SYS_TICK_CFG_SRC 0 = 2 && fgetB s SPN_TICK_STAT_HEARD 0 then
    (smGet none s.spn.heard (fget s SPN_TICK_LINK 0)).map (fun e => e.1)
  else none

/-- The marker a device sends when it leaves `dep` units of 1/32 cycle after its own edge (R265, R266). One that follows
a master gives its estimate of the master's edge and of the time of day there. -/
def ownMarker (s : State) (dep : Nat) : Marker :=
  let own : Marker := { prio := fget s SPN_TICK_PRIO 0, dev := ownDev s, hops := 1, n := s.time.tick, len := tickLen s, depart := dep, tod := todAtEdge s }
  if fgetB s SPN_TICK_IS_MASTER 0 then own
  else
    match followed s with
    | none => { own with hops := fget s SPN_TICK_HOPS 0 + 1 }
    | some m =>
      { own with
        prio := m.prio, dev := m.dev, hops := m.hops + 1
        depart := (dep : Int) - signedOf 20 (fget s SPN_TICK_STAT_FINE 0)
        tod := (m.tod + (s.time.tick - m.n) * tickLen s * fget s CPT_TOD_INC_INC 0) % todRange }

/-- A MARKER goes out on an UP link, once a tick (R265): on its timing lane, ahead of DATA frames and resends. -/
def markSend (s : State) (k dep : Nat) : State :=
  if spUp s k && smGet 0 s.spn.sent k != s.time.edges + 1 then
    let m := ownMarker s dep
    let s1 := { s with spn := { s.spn with sent := smSet 0 k (s.time.edges + 1) s.spn.sent, mark := some m } }
    (timingLane s k).elim s1 (fun n => txPut s1 n (.marker m))
  else s

/-- MARKER_SEND (R265). -/
def execMarkerSend (k dep : Nat) (s : State) : Host.Outcome State Fault Refusal := run (k < 8) (markSend s k dep)

/-- The link R266 follows: the lowest (PRIO, master), then the fewest HOPS, then the lowest link, of the
UP links that are calibrated and were heard within LOSS ticks. -/
def bestLink (s : State) : Option (Nat × Marker) :=
  [7, 6, 5, 4, 3, 2, 1, 0].foldl (fun b k =>
    match smGet none s.spn.heard k with
    | none => b
    | some (m, t) =>
      if spUp s k && fgetB s SPN_CAL_VALID k && s.time.edges - t < fget s SPN_TICK_LOSS 0 then
        match b with
        | none => some (k, m)
        | some (k', m') => if mRank m.prio m.dev * 64 + m.hops ≤ mRank m'.prio m'.dev * 64 + m'.hops then some (k, m) else some (k', m')
      else b) none

/-- FINE in whole cycles; which way an exact half goes is free (R266). -/
def fineCycles (s : State) (f : Int) : State × Int :=
  let q := f / 32
  let r := f % 32
  if r = 16 then (drawFree s, q + (Config.choice s.free % 2 : Nat)) else (s, if 16 < r then q + 1 else q)

/-- The followed marker updates FINE and PHASE_ERR (R266, R18). `arr` is its arrival after the own
edge, in 1/32 cycle. -/
def markFollow (s : State) (k : Nat) (m : Marker) (arr : Int) : State :=
  let fine := arr - (fget s SPN_CAL_DELAY k : Nat) - m.depart
  let s1 := fset (fset (fset s SPN_TICK_LINK 0 k) SPN_TICK_MDEV 0 m.dev) SPN_TICK_HOPS 0 m.hops
  let s2 := fset (fset s1 SPN_TICK_STAT_HEARD 0 1) SPN_TICK_STAT_FINE 0 (satSigned 20 fine)
  let q := fineCycles s2 fine
  tickPhase { q.1 with spn := { q.1.spn with phase := some (q.2, m.n, s.time.edges) } } q.2

/-- A MARKER arrives (R265, R266, R268). -/
def markRecv (s : State) (k : Nat) (m : Marker) (crcBad : Bool) (arr : Int) : State :=
  if !spUp s k then s
  else if crcBad then finc s SPN_LINK_ERR_CRC_BAD k
  else if 63 ≤ m.hops then s
  else if m.len != tickLen s then fset s SPN_TICK_STAT_LEN_MISMATCH 0 1
  else
    let s1 := { s with spn := { s.spn with heard := smSet none k (some (m, s.time.edges)) s.spn.heard } }
    let s2 := if mRank m.prio m.dev < mRank (fget s SPN_TICK_PRIO 0) (ownDev s) then
        fset { s1 with spn := { s1.spn with better := s.time.edges } } SPN_TICK_IS_MASTER 0 0
      else s1
    if fget s2 SYS_TICK_CFG_SRC 0 = 2 && !fgetB s2 SPN_TICK_IS_MASTER 0 then
      match bestLink s2 with
      | some (b, _) => if b = k then markFollow s2 k m arr else s2
      | none => s2
    else s2

/-- MARKER_RECEIVED (R266). -/
def execMarkerReceived (k prio dev hops n len : Nat) (depart : Int) (tod : Nat) (crcBad : Bool) (arr : Int) (s : State) :
    Host.Outcome State Fault Refusal :=
  run (k < 8) (markRecv s k ⟨prio % 256, dev % 1024, hops, n % 2 ^ 64, len, depart, tod⟩ crcBad arr)

/-- A better master has been silent for LOSS ticks (R268). -/
def masterLoss (s : State) : State :=
  if fgetB s SPN_TICK_MASTER_EN 0 && !fgetB s SPN_TICK_IS_MASTER 0 && fget s SPN_TICK_LOSS 0 ≤ s.time.edges - s.spn.better then
    fset (fset s SPN_TICK_IS_MASTER 0 1) SPN_TICK_HOPS 0 0
  else s

/-- MASTER_LOSS_TIMEOUT (R268). -/
def execMasterLossTimeout (s : State) : Host.Outcome State Fault Refusal := run true (masterLoss s)

/-- HEARD clears when the followed marker has been silent for LOSS ticks. -/
def heardEdge (s : State) : State :=
  if fgetB s SPN_TICK_STAT_HEARD 0 then
    match smGet none s.spn.heard (fget s SPN_TICK_LINK 0) with
    | some (_, t) => if s.time.edges - t < fget s SPN_TICK_LOSS 0 then s else fset s SPN_TICK_STAT_HEARD 0 0
    | none => fset s SPN_TICK_STAT_HEARD 0 0
  else s

/-- Span links at a tick edge: HEARD, and a calibration of each UP link 1,024 ticks after the last (R267). -/
def spanEdge (s : State) : State :=
  [0, 1, 2, 3, 4, 5, 6, 7].foldl (fun s k =>
    if spUp s k && smGet 0 s.spn.calAt k + 1024 ≤ s.time.edges then calStart s k else s) (heardEdge s)

/-! ### Calibration (R267) -/

/-- SPAN_CALIBRATION (R267): a CAL goes out on the timing lane of an UP link. -/
def execSpanCalibration (k : Nat) (s : State) : Host.Outcome State Fault Refusal :=
  run (k < 8) (if spUp s k then calStart s k else s)

/-- The ECHO answers a CAL: round trip `t`, the neighbour's turnaround `u` (R267). -/
def echo (s : State) (k t u : Nat) : State :=
  if spUp s k && smGet false s.spn.cal k then
    let s1 := fset (fset s SPN_CAL_DELAY k ((t - u) / 2)) SPN_CAL_VALID k 1
    { s1 with spn := { s1.spn with cal := smSet false k false s1.spn.cal } }
  else s

/-- ECHO_RECEIVED (R267). -/
def execEchoReceived (k t u : Nat) (s : State) : Host.Outcome State Fault Refusal := run (k < 8) (echo s k t u)

/-- What pin SPAN_RCLK carries (R264): none while EN is 0, else the port whose recovered lane clock of 56 GBd it is, that
rate in Hz, and the divider. -/
def spanRclk (s : State) : Option (Nat × Nat × Nat) :=
  if fgetB s SPN_RCLK_EN 0 then some (fget s SPN_RCLK_PORT 0, 56000000000, fget s SPN_RCLK_DIV 0) else none

/-! ### Register writes with rules of their own (R270) -/

/-- A write of SPN_SYS: refused while a link is not OFF. -/
def spSysWrite (s0 : State) (v : Nat) : State :=
  let s := if fldOf SPN_SYS_REFUSED v = 1 then fset s0 SPN_SYS_REFUSED 0 0 else s0
  if [0, 1, 2, 3, 4, 5, 6, 7].all (fun k => spState s k = 0) then
    fstore s [SPN_SYS_REMOTE_EN, SPN_SYS_JUNCTION, SPN_SYS_RING, SPN_SYS_DEVNUM] 0 v
  else fset s SPN_SYS_REFUSED 0 1

/-- A write of SPN_ROUTE of device `d`; drops start a new episode. -/
def spRouteWrite (s : State) (d v : Nat) : State :=
  let s1 := fstore s [SPN_ROUTE_VALID, SPN_ROUTE_RING, SPN_ROUTE_ALT_EN, SPN_ROUTE_ALT, SPN_ROUTE_PRI] d v
  { s1 with spn := { s1.spn with dropRec := false } }

end Machine
end Sys2Proof
end

