-- ==== Sys2Proof/Machine/Tick.lean ====
section
/-!
DEFINITION. The tick guard in the order of R24 (R22 to R24, R122, R126, R97, R105, R106, R114, R428 to
R430) and the tick edge (R14, R15, R20, R21, R71).
-/

namespace Sys2Proof
namespace Machine

/-! ### Guard cycles 0 to 3: landings and the status snapshot -/

/-- A service cell's accumulators as (SATURATED, RESCALED). -/
def cellFlags (c : Cell) : Bool × Bool := (c.acc.any (fun a => a.2.sat), c.acc.any (fun a => a.2.resc))

/-- CAB_ARITH_STAT of cabinet `p` at guard cycle 3 (R51, R52). -/
def arithSnap (s : State) (p : Nat) : State :=
  let l := s.array.cells.filter (fun e => e.1 / 136 = p && e.1 / 8 % 17 != gapPos s p)
  let s1 := fsetB (fsetB s CAB_ARITH_STAT_SAT_ANY p (l.any (fun e => (cellFlags e.2).1)))
    CAB_ARITH_STAT_RESC_ANY p (l.any (fun e => (cellFlags e.2).2))
  setCab (fset s1 CAB_ARITH_STAT_SCALE_TICK p (cab s1 p).scaleTick) p { cab s1 p with scaleTick := 0 }

/-! ### Guard cycle 6: the swap of a gap step (R430) -/

/-- The physical column that a step frees. -/
def freedCol (s : State) (p : Nat) : Nat := pcolOf s p (cab s p).gapCol

/-- The gap moves; the former live cells run the hold drawer. -/
def gapSwap (s : State) (p : Nat) : State :=
  let c := cab s p
  if c.gapPh = 3 && c.gapEnd ≤ s.time.edges then
    let q := freedCol s p
    let s1 := (List.range 8).foldl (fun s r =>
      let k := cid p q r
      setCell s k { latchOuts (cell s k) with cur := {}, nxt := {} }) s
    let s2 := fset (fset s1 CAB_GAP_POS p q) BST_CAB_PHASE p 3
    setCab s2 p { cab s2 p with gapPh := 4 }
  else if c.gapPh = 5 then
    let s1 := finc (fset (fset s CAB_GAP_POS p (freedCol s p)) BST_CAB_PHASE p 0) BST_CAB_STEPS p
    setCab s1 p { cab s1 p with gapPh := 0 }
  else s

/-! ### Guard cycle 7: plans and states -/

/-- A pending plan switch (R97, R98). -/
def planSwitch (s : State) (p : Nat) : State :=
  if cabState s p = stRUNNING && fgetB s CAB_PLAN_SEL_PEND p then
    let q := fget s CAB_PLAN_SEL_REQ p
    event (fset (fset s CAB_PLAN_SEL_CUR p q) CAB_PLAN_SEL_PEND p 0) 3 0 (logicalOf s p) q
  else s

/-- The state change that waits for this guard (R106). -/
def guardState (s : State) (p : Nat) : State :=
  let st := cabState s p
  match (cab s p).req with
  | .none => s
  | .run q => if st = stHELD && planAdm s p q then cabStart s p q else setReq s p .none
  | .hold => if st = stRUNNING then cabStop s p stHELD else setReq s p .none
  | .drain t =>
    if st = stRUNNING || st = stHELD then
      let s1 := fset (cabStop s p stDRAINING) CAB_STATE_DRAIN_TO p t
      setCab s1 p { cab s1 p with drainEnd := s1.time.edges + fget s1 NOC_CFG_DRAIN 0 }
    else setReq s p .none

/-- Guard cycle 7 of one cabinet: its plan switches first, then its state. -/
def guardCab (s : State) (p : Nat) : State := drainFinish (guardState (planSwitch s p) p) p

/-- Guard cycle 8 of one cabinet (R105): its doors open where it runs under an admitted plan, and close where it has
left RUNNING. -/
def doorLatch (s : State) (p : Nat) : State :=
  if cabState s p = stRUNNING then
    (if !doorsOpen s p && planAdm s p (fget s CAB_PLAN_SEL_CUR p) then openDoors s p else s)
  else closeDoors s p false

/-! ### Guard cycle 23 -/

/-- The state transfer of a gap step into the shadow cells (R428). -/
def gapTransfer (s : State) (p : Nat) : State :=
  let c := cab s p
  if c.gapPh = 2 then
    let q := freedCol s p
    let s1 := (List.range 8).foldl (fun s r =>
      let a := cell s (cid p q r)
      let k := cid p (gapPos s p) r
      let b := cell s k
      setCell s k { b with y := a.y, f := a.f, acc := a.acc, cm := a.cm, bx := a.bx, ci := a.ci, ph := a.ph,
                           ag0 := a.ag0, ag1 := a.ag1, outs := a.outs, jobs := [], cur := {}, nxt := {}, t := a.t }) s
    let n := if cabState s p = stRUNNING then fget s BST_CFG_COMPARE 0 else 1
    setCab (fset s1 BST_CAB_PHASE p 2) p { cab s1 p with gapPh := 3, gapEnd := s.time.edges + n }
  else s

/-- An armed capture at an offset that lies in the guard's cycles `a` to `b` (R114). -/
def offsetCapture (a b : Nat) (s : State) (p : Nat) : State :=
  let t := s.time.tickStart + fget s CAB_CAPTURE_CTL_OFFSET p
  if fgetB s CAB_CAPTURE_CTL_ARMED p && fget s CAB_CAPTURE_TICK_TICK p = s.time.tick && fgetB s CAB_CAPTURE_CTL_MODE p &&
      a ≤ t && t ≤ b then capture s p t
  else s

/-- A tick-boundary capture (R114). -/
def guardCapture (s : State) (p : Nat) : State :=
  if fgetB s CAB_CAPTURE_CTL_ARMED p && fget s CAB_CAPTURE_TICK_TICK p = s.time.tick && !fgetB s CAB_CAPTURE_CTL_MODE p then
    capture s p (s.time.tickStart + tickSpan s - 1)
  else s

/-! ### The whole guard -/

/-- Every physical cabinet in turn. -/
def eachCab (f : State → Nat → State) (s : State) : State := (List.range 100).foldl f s

/-- Guard cycles 0 to 3: no slot runs, what is in flight lands, the status is sampled, and the transmit
doors end the tick's last items (R124, R180), so that none is open at guard cycle 4. -/
def guardStatus (s : State) : State :=
  let g := guardAt s
  let s0 := eachCab slotGuard (advanceTo s g)
  txDoorsEdge (eachCab arithSnap (advanceTo ((busyCells s0).foldl (landCell (g + 3)) s0) (g + 3)))

/-- Guard cycles 4 to 8: banks, FIFO order, gap columns, plans and states, doors. -/
def guardSwitch (s : State) : State :=
  let g := guardAt s
  let s3 := advanceTo s (g + 4)
  let s4 := (setInstances s3 FIFO_MODE_SWAP).foldl fifoTickSwap s3
  let s5 := (setInstances s4 FIFO_MODE_ORDER_PEND).foldl fifoOrderGuard (advanceTo s4 (g + 5))
  let s6 := eachCab gapSwap (advanceTo (eachCab (offsetCapture g (g + 5)) s5) (g + 6))
  let s7 := eachCab guardCab (advanceTo s6 (g + 7))
  eachCab doorLatch (advanceTo s7 (g + 8))

/-- The guard of the present tick (R24), once. -/
def tickGuard (s : State) : State :=
  if s.time.guarded || !s.time.running then s
  else
    let g := guardAt s
    let s7 := eachCab (offsetCapture (g + 6) (g + 23)) (guardSwitch (guardStatus s))
    let s8 := eachCab gapTransfer (eachCab guardCapture (advanceTo s7 (g + 23)))
    setTime s8 { s8.time with guarded := true }

/-- TICK_GUARD (R24). -/
def execTickGuard (s : State) : Host.Outcome State Fault Refusal := run true (tickGuard s)

/-- The snapshot of an armed capture whose tick has come (R114): at the end of its offset, or, at a tick boundary
and at an offset within the guard, as the guard runs. -/
def captureDue (s : State) (p : Nat) : State :=
  let t := s.time.tickStart + fget s CAB_CAPTURE_CTL_OFFSET p
  if fgetB s CAB_CAPTURE_CTL_ARMED p && fget s CAB_CAPTURE_TICK_TICK p = s.time.tick then
    if fgetB s CAB_CAPTURE_CTL_MODE p && t < guardAt s then capture s p t else tickGuard s
  else s

/-- CAPTURE_SNAPSHOT (R114). -/
def execCaptureSnapshot (p : Nat) (s : State) : Host.Outcome State Fault Refusal := run (p < 100) (captureDue s p)

/-- The end of a drain window (R169): the guard in which it ends runs. -/
def drainWindowEnd (s : State) (p : Nat) : State :=
  if cabState s p = stDRAINING && (cab s p).drainEnd ≤ s.time.edges then tickGuard s else s

/-- DRAIN_WINDOW_END (R169). -/
def execDrainWindowEnd (p : Nat) (s : State) : Host.Outcome State Fault Refusal := run (p < 100) (drainWindowEnd s p)

/-! ### Realignment (R20, R15, R266) -/

/-- What a realignment to the span source does: the extra cycles that bring the next edge to one of the master's,
and the master's number of that edge (R266). Without a followed marker, and in the master itself (R268), no cycle
is inserted and the count stands (DESIGN CHOICE, entry 156). -/
def spanAlign (s : State) : Nat × Option Nat :=
  match s.spn.phase with
  | none => (0, none)
  | some (f, n, e) =>
    if fgetB s SPN_TICK_IS_MASTER 0 || !fgetB s SPN_TICK_STAT_HEARD 0 then (0, none)
    else
      let l : Int := max 1 (tickLen s)
      ((f % l).toNat, some (((n : Int) + (s.time.edges - e : Nat) + 1 - f / l) % 2 ^ 64).toNat)

/-- The insertion of a realignment tick begins (R20), once every plan has run its last slot and before the guard:
hold cycles align the next edge to the source, `n` of them where that is one of the two pins. -/
def realign (s : State) (n : Nat) : State :=
  let x := if fget s SYS_TICK_CFG_SRC 0 = 2 then spanAlign s else (n, none)
  if fgetB s SYS_TICK_STAT_ALIGN_PENDING 0 && !s.time.guarded && s.time.now < guardAt s && !s.time.inserting &&
      (List.range 100).all (planOver s) && x.1 < tickLen s then
    setTime s { s.time with extra := x.1, inserting := true, adopt := x.2 }
  else s

/-- REALIGNMENT_TICK (R17, R20): `sysref` and `tickIn` are the cycles by which the edge of SYSREF, or that on TICK_IN,
comes after the end of the tick's own length; the source selected when the insertion begins counts. -/
def execRealignmentTick (sysref tickIn : Nat) (s : State) : Host.Outcome State Fault Refusal :=
  run true (realign s (if fget s SYS_TICK_CFG_SRC 0 = 0 then sysref else tickIn))

/-! ### The tick edge -/

/-- A TICK_LEN that waits takes effect where R21 still allows it at the edge, and every plan has to be admitted
again; otherwise the write is refused. -/
def lenTake (s : State) : State :=
  match s.time.lenNext with
  | none => s
  | some v =>
    if !tickLenOk s v then fset (setTime s { s.time with lenNext := none }) SYS_TICK_STAT_LEN_REFUSED 0 1 else
    let s1 := fset (fset s SYS_TICK_CFG_TICK_LEN 0 v) SYS_TICK_CFG_OFS_SHIFT 0 (ofsShift v)
    let s2 := eachCab (fun s p => setAdm (setAdm s p 0 false) p 1 false) s1
    sumLinks (setTime s2 { s2.time with lenNext := none })

/-- The realignment tick ends (R20). -/
def alignEnd (s : State) : State :=
  if s.time.inserting then
    let s1 := setTime s { s.time with inserting := false, held := false, adopt := none }
    tickEvent (fsetB s1 SYS_TICK_STAT_ALIGN_PENDING 0 s.time.held) true
  else s

/-- The address generators of every cell with TICKRL reload (R71). -/
def cellReload (c : Cell) : Cell :=
  { c with ag0 := if agTICKRL (ag0Cfg c) then agBASE (ag0Cfg c) else c.ag0
           ag1 := if agTICKRL (ag1Cfg c) then agBASE (ag1Cfg c) else c.ag1 }

/-- What a cabinet does at a tick edge: ORDER_REQ returns to 0 in its first RUNNING tick (R126), its
start-up wait runs down, its door counts restart (R103), its plan starts (R94). -/
def cabEdge (s : State) (p : Nat) : State :=
  let s1 := if cabState s p = stRUNNING && (cab s p).runTick = s.time.edges then
      (List.range 16).foldl (fun s f => fifoOrderReq s (cabFifo p f) 0) s
    else s
  let s2 := startupEdge (setCab s1 p { cab s1 p with dcnt := [], slot := none, slotLen := 0 }) p
  planStart s2 p

/-- The tick edge (R15): the guard first where it has not run. -/
def tickEdge (s0 : State) : State :=
  if !s0.time.running then s0
  else
    let s := txDoorsEdge (tickGuard s0)
    let t := s.time
    let s1 := advanceTo s (t.tickStart + tickSpan s)
    let s2 := setTime s1 { s1.time with
      tickStart := t.tickStart + tickSpan s, tick := t.adopt.getD ((t.tick + 1) % 2 ^ 64), edges := t.edges + 1, lenNow := none, extra := 0, guarded := false }
    let s3 := alignEnd (lenTake s2)
    let s4 := { s3 with array := { s3.array with cells := smMap {} (fun _ c => cellReload c) s3.array.cells } }
    spanEdge (burEdge (qmEdge (eachCab cabEdge (jptEdge s4))))

/-- One ACLK cycle passes outside the tick guard, and the span transmitters send what time allows (R252): what the block
does when no command waits. -/
def idleCycle (s : State) : State :=
  spanIdle (if !s.time.running || s.time.now + 1 < guardAt s then advanceTo s (s.time.now + 1) else s)

end Machine
end Sys2Proof
end

