-- ==== Sys2Proof/Machine/Fault.lean ====
section
/-!
DEFINITION. The fault collector (chapter 16): one collector cycle with escalation (R402, R403), records
and their ring (R404, R405), SAFE and HALT (R399, R400), quiet periods, recovery and latching (R407 to
R410), injection (R411, R412), records raised by Kaluno (R415), register writes (R417).
-/

namespace Sys2Proof
namespace Machine

/-! ### Units -/

/-- A FLT_UNIT exists: logical cabinets, converter links, span links, flows, threads, the device (R417). -/
def unitOk (k id : Nat) : Bool :=
  (k = 0 && id < 96) || (k = 4 && id < 32) || (k = 6 && id < 8) || (k = 7 && id < 16384) || (k = 8 && id < 4096) ||
    (k = 10 && id = 0)

/-- A unit named by a U-class record on source 63, or by a C-class one raised to U, goes to its fault
state as if its own block had found the fault (R402, R415). -/
def unitEnter (s : State) (k id : Nat) : State :=
  if k = 0 ∧ id < 96 then cabFault s (physOf s id)
  else if k = 1 ∧ id < 100 then (if logicalOf s id < 96 then cabFault s id else s)
  else if k = 4 ∧ id < 32 ∧ jState s id != jOFF then unitFault (jptGo s id jFAULTED 0) 4 id
  else if k = 6 ∧ id < 8 ∧ (spState s id = 1 ∨ spState s id = 2 ∨ spState s id = 3) then
    let n := s.flt.raised.length
    let t := spDown s id 0
    { t with flt := { t.flt with raised := t.flt.raised.take n } }
  else if k = 7 ∧ id < 16384 ∧ (flow s id).en then
    let x := flow s id
    qmFlush id (x.q.length + 1) (unitFault (setFlow s id { x with faulted := true }) 7 id)
  else if k = 8 ∧ id < 4096 ∧ (thr s id).valid then thrFault s id
  else s

/-- The FLT_UNIT instance that a record's unit stands for: a physical cabinet is the logical cabinet mapped
there (R415). -/
def recUnit (s : State) (e : FaultEvt) : Option (Nat × Nat) :=
  let k := if e.ukind = 1 then 0 else e.ukind
  let id := if e.ukind = 1 then logicalOf s e.uid else e.uid
  if unitOk k id && k != 10 then some (k, id) else none

/-! ### SAFE and HALT (R399, R400) -/

/-- A RUNNING cabinet goes HELD at once; a run that waits for the guard is dropped. -/
def safeCab (s : State) (p : Nat) : State :=
  if cabState s p = stRUNNING then
    let s1 := closeDoors s p true
    let s2 := cabStop s1 p stHELD
    fset (fset s2 CAB_PLAN_SEL_PEND p 0) CAB_STATE_SAFE_HELD p 1
  else
    match (cab s p).req with
    | .run _ => setReq s p .none
    | _ => s

/-- The device enters SAFE, or HALT where `halt` (R399, R400). -/
def safeEnter (s : State) (src : Nat) (halt : Bool) : State :=
  let st := fget s FLT_STATE_STATE 0
  let s1 := if st = 0 then
      evtLine (fset (eachCab safeCab { s with flt := { s.flt with safeSrc := [] } }) FLT_UNIT_FAULTED (unitIx 10 0) 1) 32
    else s
  let s2 := { s1 with flt := { s1.flt with safeSrc := if s1.flt.safeSrc.contains src then s1.flt.safeSrc else s1.flt.safeSrc ++ [src] } }
  if halt then (if st = 2 then s2 else event (fset s2 FLT_STATE_STATE 0 2) 0xD 4 2 0)
  else if st = 0 then event (fset s2 FLT_STATE_STATE 0 1) 0xD 3 1 0 else s2

/-! ### Events and records -/

/-- The pending bit of a class. -/
def pendFld (cls : Nat) : Fld :=
  if cls = 0 then FLT_SRC_PEND_C else if cls = 1 then FLT_SRC_PEND_U else if cls = 2 then FLT_SRC_PEND_F else FLT_SRC_PEND_HALT

/-- FLT_SRC.CLASS: the highest pending class. -/
def srcClass (s : State) (src : Nat) : State :=
  fset s FLT_SRC_CLASS src (if fgetB s FLT_SRC_PEND_HALT src then 3 else if fgetB s FLT_SRC_PEND_F src then 2
    else if fgetB s FLT_SRC_PEND_U src then 1 else 0)

/-- An event after escalation, and whether it is recorded (R402, R405). -/
structure Judged where
  e : FaultEvt
  cls : Nat
  esc : Bool
  record : Bool
  deriving DecidableEq, Repr

/-- HELD mode of a source (R401). -/
def srcHeld (s : State) (src : Nat) : Bool := (fget s FLT_MODE_HELD 0).testBit src

/-- The class of an event after R402, its counts and pending bits. -/
def judge (s : State) (e : FaultEvt) : State × Judged :=
  let esc := fgetB s (pendFld e.cls) e.src && e.cls < 3
  let c := if esc then e.cls + 1 else e.cls
  let held := srcHeld s e.src
  let record := 1 ≤ c || held || fget s FLT_SRC_C_CNT e.src = 0
  let s1 := if esc then finc s FLT_SRC_ESC e.src else s
  let s2 := if c = 0 then finc s1 FLT_SRC_C_CNT e.src else finc s1 FLT_SRC_U_CNT e.src
  let s3 := if c != 0 || held then fset s2 (pendFld c) e.src 1 else s2
  (srcClass s3 e.src, ⟨e, c, esc, record⟩)

/-- The event that one source presents of those it detected in a collector cycle: the highest class, the
first of equals (R396). -/
def topEvent : List FaultEvt → Option FaultEvt
  | [] => none
  | e :: r =>
    match topEvent r with
    | none => some e
    | some x => if e.cls < x.cls then some x else some e

/-- The four words of a record (R404). -/
def recWords (j : Judged) (rseq : Nat) (first : Bool) : List Word :=
  let b (x : Bool) (n : Nat) : Nat := if x then 2 ^ n else 0
  let e := j.e
  [BitVec.ofNat 64 (j.cls * 2 ^ 62 + b j.esc 61 + b e.inj 60 + b e.coinc 59 + b first 58 + 2 ^ 57
      + e.src % 64 * 2 ^ 48 + e.code % 65536 * 2 ^ 32 + rseq % 2 ^ 32),
   BitVec.ofNat 64 e.addr,
   BitVec.ofNat 64 (e.master % 2 ^ 24 * 2 ^ 40 + e.access % 16 * 2 ^ 36 + e.ukind % 16 * 2 ^ 32 + e.uid % 65536 * 2 ^ 16 + e.ofs % 65536),
   BitVec.ofNat 64 e.tick]

/-- The check bits that a write into the collector's own storage stores (R414, R467). -/
def chkBits (w : Word) : BitVec 8 := (eccEnc w).extractLsb' 64 8

/-- A read of a word of the collector's own storage with its check bits, checker 0 of source 60 (R412, R414): a
corrected error is C-class there; the spec names no class for an uncorrectable one, which is U as R413
predicts it and reads as stored (DEDUCED, entry 172). -/
def ownRead (s : State) (chk : BitVec 8) (w : Word) (addr : Nat) : State × Word :=
  let q := eccCheck s 60 0 (chk ++ w : BitVec 72)
  match q.2.v with
  | .clean d => (q.1, d)
  | .fixed d => (raise q.1 { src := 60, cls := clsC, code := 1, addr := addr, inj := q.2.inj, coinc := q.2.coinc }, d)
  | _ => (raise q.1 { src := 60, cls := clsU, code := 2, addr := addr, inj := q.2.inj, coinc := q.2.coinc }, w)

/-- A read of word `i` of the record ring. -/
def recRead (s : State) (i : Nat) : State × Word :=
  ownRead s (smGet 0 s.flt.ringChk i) (smGet 0 s.flt.ring i) (0x8000 + 8 * i)

/-- Reads of several words of the record ring, in order. -/
def recReads : List Nat → State → State × List Word
  | [], s => (s, [])
  | i :: r, s =>
    let q := recRead s i
    let t := recReads r q.1
    (t.1, q.2 :: t.2)

/-- A read of word `i` of FLT_FIRST; while it is not valid there is nothing to check. -/
def firstRead (s : State) (i : Nat) : State × Word :=
  match s.flt.first[i]? with
  | some w => ownRead s (s.flt.firstChk.getD i 0) w (0x20 + 8 * i)
  | none => (s, 0)

/-- A read of a source's register, checked against the code its writes keep. -/
def srcRead (s : State) (src v : Nat) : State × Nat :=
  let q := ownRead s (chkBits (BitVec.ofNat 64 v)) (BitVec.ofNat 64 v) (0x100 + 8 * src)
  (q.1, q.2.toNat)

/-- Unread records. -/
def recUsed (s : State) : Nat := (fget s FLT_REC_IDX_PI 0 + 65536 - fget s FLT_REC_IDX_CI 0) % 65536

/-- Writes a record to the ring, or counts it as lost (R405, R406); it may become FLT_FIRST. -/
def recWrite (s : State) (j : Judged) (first : Bool) : State :=
  let w := recWords j s.flt.rseq first
  let s1 := if first then { s with flt := { s.flt with first := w, firstChk := w.map chkBits } } else s
  if recUsed s1 < 1024 then
    let n := s1.flt.rseq
    let ring := w.zipIdx.foldl (fun m e => smSet 0 (4 * (n % 1024) + e.2) e.1 m) s1.flt.ring
    let chk := w.zipIdx.foldl (fun m e => smSet 0 (4 * (n % 1024) + e.2) (chkBits e.1) m) s1.flt.ringChk
    let s2 := fset { s1 with flt := { s1.flt with ring := ring, ringChk := chk, rseq := (n + 1) % 2 ^ 32 } } FLT_REC_IDX_PI 0 ((n + 1) % 65536)
    evtLine (event s2 5 (j.cls + 1) (j.e.src + j.cls * 256) (s2.flt.first.getD 1 0).toNat) 32
  else finc s1 FLT_REC_IDX_LOST 0

/-- What a judged event makes the device do (R402, R407, R399, R400, R415). -/
def recAct (s : State) (j : Judged) : State :=
  if j.cls = 0 then s
  else
    let e := j.e
    let s1 := if (j.esc && e.cls = 0 && e.ukind != 3) || (e.src = 63 && j.cls = 1) then unitEnter s e.ukind e.uid else s
    let l1 := smSet 0 e.src (s1.time.edges + 1) s1.flt.last
    let s2 := { s1 with flt := { s1.flt with last := l1 } }
    let s3 := match recUnit s2 e with
      | some u => { s2 with flt := { s2.flt with inv := smSet 0 (unitIx u.1 u.2) (e.src + 1) s2.flt.inv } }
      | none => s2
    if j.cls = 2 then safeEnter s3 e.src false else if j.cls = 3 then safeEnter s3 e.src true else s3

/-- Events of one source, in one collector cycle, that were presented or not: those without a record still
contain their units, and the source has raised them (R396, R407). -/
def silentNote (s : State) (e : FaultEvt) : State :=
  if e.cls = 0 then s
  else
    match recUnit s e with
    | some u => { s with flt := { s.flt with inv := smSet 0 (unitIx u.1 u.2) (e.src + 1) s.flt.inv } }
    | none => s

/-- Judges the presented events in ascending source order. -/
def judgeAll : List FaultEvt → State → State × List Judged
  | [], s => (s, [])
  | e :: r, s =>
    let q := judge s e
    let t := judgeAll r q.1
    (t.1, q.2 :: t.2)

/-- The place, in ascending source order, of the event that may become the first-error record (R403). -/
def firstIx (l : List Judged) : Option Nat :=
  let rec_ := l.filter (fun j => j.record)
  let top := rec_.foldl (fun m j => max m j.cls) 0
  l.findIdx? (fun j => j.record && j.cls = top)

/-- The collector's comparator, checker 2 of source 60: its two copies run the same latching and escalation on
the same events, so they disagree only where an injection makes it report; that is F-class on source 60 (R412, R414). -/
def copiesCompare (s : State) : State :=
  let q := injTake s 60 2
  match q.2 with
  | some _ => raise q.1 { src := 60, cls := clsF, code := 3, inj := true }
  | none => q.1

/-- The events of one collector cycle: the oldest detected event with all of the same time-stamp (R396, R403). -/
def eventCycle (s : State) : State :=
  match s.flt.raised with
  | [] => s
  | e :: _ =>
    let now := s.flt.raised.filter (fun x => x.tick = e.tick && x.ofs = e.ofs)
    let rest := s.flt.raised.filter (fun x => !(x.tick = e.tick && x.ofs = e.ofs))
    let tops := (List.range 64).filterMap (fun src => topEvent (now.filter (fun x => x.src = src)))
    let s1 := now.foldl silentNote { s with flt := { s.flt with raised := rest } }
    let q := judgeAll tops s1
    let fi := if q.1.flt.first.isEmpty then firstIx q.2 else none
    let s2 := q.2.zipIdx.foldl (fun s x => if x.1.record then recWrite s x.1 (fi = some x.2) else s) q.1
    q.2.foldl recAct s2

/-- One collector cycle, with the comparison of its two copies (R403, R414). -/
def faultCycle (s : State) : State := copiesCompare (eventCycle s)

/-! ### The fault pins (R398, R414) -/

/-- A unit is FAULTED or latched, the device among them. -/
def unitDown (s : State) : Bool :=
  !(setInstances s FLT_UNIT_FAULTED).isEmpty || !(setInstances s FLT_UNIT_LATCHED).isEmpty

/-- The level of FATAL_N (R398): low in SAFE and HALT, and where no pair could be released (R331). Both copies of the
logic drive it alike. -/
def fatalN (s : State) : Bool := fget s FLT_STATE_STATE 0 = 0 && !s.boot.noPair

/-- The level of FAULT_N (R398): low while a U, F or HALT is pending, a unit is FAULTED or latched, or
the device is in SAFE or HALT. -/
def faultN (s : State) : Bool :=
  (setInstances s FLT_SRC_PEND_U).isEmpty && (setInstances s FLT_SRC_PEND_F).isEmpty && (setInstances s FLT_SRC_PEND_HALT).isEmpty &&
    !unitDown s && fget s FLT_STATE_STATE 0 = 0

/-- FAULT_EVENT (R403). -/
def execFaultEvent (s : State) : Host.Outcome State Fault Refusal := run true (faultCycle s)

/-! ### Register writes (R401, R405, R417) -/

/-- A W1C write of the pending bits of a source. -/
def srcAck (s : State) (src v : Nat) : State :=
  let clr (s : State) (b : Nat) (f : Fld) : State := if v.testBit b then fset s f src 0 else s
  srcClass (clr (clr (clr (clr s 63 FLT_SRC_PEND_HALT) 62 FLT_SRC_PEND_F) 61 FLT_SRC_PEND_U) 60 FLT_SRC_PEND_C) src

/-- FLT_SRC_ACK_WRITE (R401). -/
def execFltSrcAckWrite (src v : Nat) (s : State) : Host.Outcome State Fault Refusal :=
  reach (src < 64) s (srcAck s src v)

/-- FLT_FIRST_CLEAR (R417): VALID is written 1. -/
def execFltFirstClear (s : State) : Host.Outcome State Fault Refusal :=
  run true { s with flt := { s.flt with first := [], firstChk := [] } }

/-- A write of FLT_REC_IDX.CI: a value from the old CI up to PI, else ignored. -/
def recCi (s : State) (v : Nat) : State :=
  if (v % 65536 + 65536 - fget s FLT_REC_IDX_CI 0) % 65536 ≤ recUsed s then fset s FLT_REC_IDX_CI 0 v else s

/-- FLT_CI_WRITE (R405). -/
def execFltCiWrite (v : Nat) (s : State) : Host.Outcome State Fault Refusal := run true (recCi s (v % 65536))

/-- FLT_UNIT_SUB_WRITE (R417). -/
def execFltUnitSubWrite (k id n : Nat) (s : State) : Host.Outcome State Fault Refusal :=
  reach (unitOk k id) s (fsub s FLT_UNIT_RCNT (unitIx k id) (n % 65536))

/-! ### Injection (R411, R412) -/

/-- The source has this checker (R412). -/
def checkerOk (src chk : Nat) : Bool :=
  if src < 25 then chk < 64 && chk % 16 ≤ 4
  else if src < 35 then chk < 40 && chk % 4 ≤ 2
  else if src ≤ 60 || src = 63 then chk ≤ 2
  else false

/-- An arm of FLT_INJ with the fields written; a refused one leaves what is armed. -/
def injArm (s : State) (src chk count : Nat) (cont dbl : Bool) : State :=
  if checkerOk src chk && (count != 0 || cont) then
    fset (fset (fsetB (fsetB (fset s FLT_INJ_ACTIVE src 1) FLT_INJ_CONT src cont) FLT_INJ_DOUBLE src dbl) FLT_INJ_CHECKER src chk)
      FLT_INJ_COUNT src count
  else fset s FLT_INJ_REFUSED src 1

/-- FLT_INJ_ARM (R411). -/
def execFltInjArm (src chk count : Nat) (cont dbl : Bool) (s : State) : Host.Outcome State Fault Refusal :=
  reach (src < 64) s (injArm s src (chk % 128) (count % 256) cont dbl)

/-- FLT_INJ_STOP (R411). -/
def execFltInjStop (src : Nat) (s : State) : Host.Outcome State Fault Refusal :=
  reach (src < 64) s (fset s FLT_INJ_ACTIVE src 0)

/-! ### Records raised by Kaluno (R415) -/

/-- A write of FLT_RAISE with GO by logical pair `k`. -/
def raiseGo (s : State) (k v : Nat) : State :=
  let f (x : Fld) : Nat := fldOf x v
  let s1 := fset (fset (fset (fset s FLT_RAISE_CLASS 0 (f FLT_RAISE_CLASS)) FLT_RAISE_UKIND 0 (f FLT_RAISE_UKIND))
    FLT_RAISE_CODE 0 (f FLT_RAISE_CODE)) FLT_RAISE_UID 0 (f FLT_RAISE_UID)
  raise s1 { src := 63, cls := f FLT_RAISE_CLASS, code := f FLT_RAISE_CODE, addr := fget s FLT_RAISE_ADDR_ADDR 0,
             master := pairMaster s k, ukind := f FLT_RAISE_UKIND, uid := f FLT_RAISE_UID }

/-- FLT_RAISE_GO (R415): `mm` for a control pair in machine mode; a write of another master has no effect. -/
def execFltRaiseGo (k v : Nat) (mm : Bool) (s : State) : Host.Outcome State Fault Refusal :=
  run (k < 4) (if mm then raiseGo s k v else s)

/-! ### Leaving a fault state (R407 to R410) -/

/-- QUIET whole ticks have passed since the last U- or F-class event of a source. -/
def srcQuiet (s : State) (src : Nat) : Bool :=
  let l := smGet 0 s.flt.last src
  l = 0 || l - 1 + fget s FLT_CFG_QUIET 0 ≤ s.time.edges

/-- Recoveries of a unit within the latch window. -/
def recent (s : State) (ix : Nat) : List Nat :=
  (smGet [] s.flt.recs ix).filter (fun t => s.time.edges < t + fget s FLT_CFG_LATCH_WIN 0)

/-- Counts a recovery of a unit, and the device's (R410). -/
def recCount (s : State) (k id : Nat) : State :=
  let ix := unitIx k id
  let l := recent s ix ++ [s.time.edges]
  let s1 := { s with flt := { s.flt with recs := smSet [] ix l s.flt.recs } }
  let s2 := fset (finc s1 FLT_UNIT_RCNT ix) FLT_UNIT_RECENT ix (min 8 l.length)
  if k = 10 then s2 else finc s2 FLT_UNIT_RCNT (unitIx 10 0)

/-- Puts a logical cabinet into the list of reloads that are due, in ascending order. -/
def dueIns (l : Nat) : List Nat → List Nat
  | [] => [l]
  | a :: r => if l < a then l :: a :: r else if l = a then a :: r else a :: dueIns l r

/-- A unit is recovered (R408). -/
def unitRecover (s : State) (k id : Nat) : State :=
  let ix := unitIx k id
  let s1 := recCount (fset s FLT_UNIT_LATCHED ix 0) k id
  let s2 := event s1 6 0 (k + id * 256) (fget s1 FLT_UNIT_RCNT ix)
  if k = 0 then { s2 with cfg := { s2.cfg with due := dueIns id s2.cfg.due } }
  else if k = 4 then (if jState s2 id = jFAULTED then jptGo (unitClear s2 4 id) id jCDR 0 else unitClear s2 4 id)
  else if k = 6 then (if spState s2 id = 4 then spGo (unitClear s2 6 id) id 1 0 else unitClear s2 6 id)
  else if k = 7 then flowRecover (unitClear s2 7 id) id
  else if k = 8 then thrRecover (unitClear s2 8 id) id
  else s2

/-- The FAULTED units that have not been latched and wait for no reload, as FLT_UNIT instances. -/
def faultedUnits (s : State) : List Nat :=
  (setInstances s FLT_UNIT_FAULTED).filter (fun ix =>
    ix / 16384 != 10 && !fgetB s FLT_UNIT_LATCHED ix && !(ix / 16384 = 0 && s.cfg.due.contains (ix % 16384)))

/-- The end of one unit's quiet period: it is recovered, or latched after eight recoveries (R410). -/
def unitQuiet (s : State) (ix : Nat) : State :=
  let src := smGet 0 s.flt.inv ix
  if src != 0 && !srcQuiet s (src - 1) then s
  else if 8 ≤ (recent s ix).length then fset s FLT_UNIT_LATCHED ix 1
  else unitRecover s (ix / 16384) (ix % 16384)

/-- Kaluno runs the cabinets that SAFE held, and those reloaded meanwhile (R408, R409). -/
def safeRuns (s : State) : State :=
  let s1 := (setInstances s CAB_STATE_SAFE_HELD).foldl (fun s p =>
    if cabState s p = stHELD && planAdm s p (fget s CAB_PLAN_SEL_CUR p) then setReq s p (.run (fget s CAB_PLAN_SEL_CUR p)) else s) s
  let s2 := s1.cfg.later.foldl (fun s p =>
    if cabState s p = stHELD && planAdm s p (cab s p).planWas then setReq s p (.run (cab s p).planWas) else s) s1
  { s2 with cfg := { s2.cfg with later := [] } }

/-- The device leaves SAFE or HALT (R409, R410). -/
def safeLeave (s0 : State) : State :=
  let s := (List.range 96).foldl pinTrack s0
  let s1 := fset (fset (fset (fset s FLT_STATE_STATE 0 0) FLT_STATE_LATCHED 0 0) FLT_UNIT_FAULTED (unitIx 10 0) 0)
    FLT_UNIT_LATCHED (unitIx 10 0) 0
  safeRuns (event (recCount { s1 with flt := { s1.flt with safeSrc := [] } } 10 0) 0xD 0 0 0)

/-- The end of SAFE's quiet period (R407, R409, R410). -/
def safeQuiet (s : State) : State :=
  if fget s FLT_STATE_STATE 0 = 1 && !fgetB s FLT_STATE_LATCHED 0 && s.flt.safeSrc.all (fun x => srcQuiet s x) then
    if 8 ≤ (recent s (unitIx 10 0)).length then fset (fset s FLT_STATE_LATCHED 0 1) FLT_UNIT_LATCHED (unitIx 10 0) 1
    else safeLeave s
  else s

/-- Every quiet period that has ended by this tick edge. -/
def quietEnds (s : State) : State := safeQuiet ((faultedUnits s).foldl unitQuiet s)

/-- QUIET_PERIOD_END (R407). -/
def execQuietPeriodEnd (s : State) : Host.Outcome State Fault Refusal := run true (quietEnds s)

/-- FLT RECOVER of a unit (R410): 0 done, 1 in no fault state, 2 refused while a HALT is pending. -/
def fltRecover (s : State) (k id : Nat) : State × Nat :=
  if k = 10 then
    if fget s FLT_STATE_STATE 0 = 0 then (s, 1)
    else if fget s FLT_STATE_STATE 0 = 2 && !(setInstances s FLT_SRC_PEND_HALT).isEmpty then (s, 2)
    else (safeLeave s, 0)
  else
    let k1 := if k = 1 then 0 else k
    let id1 := if k = 1 then logicalOf s id else id
    if unitOk k1 id1 && fgetB s FLT_UNIT_FAULTED (unitIx k1 id1) then
      if k1 = 0 && s.cfg.due.contains id1 then (s, 0) else (unitRecover s k1 id1, 0)
    else (s, 1)

end Machine
end Sys2Proof
end

