-- ==== Sys2Proof/Machine/Scrub.lean ====
section
/-!
DEFINITION. Scrub, self-test and spares (chapter 17): the walk and the fetch queue (R421, R422, R424), the
controllers (R418 to R420), voted words (R423), gap steps (R425 to R433), the BIST engine (R434 to R437),
pair mapping (R336), test access (R438, R439), the settings (R442).
-/

namespace Sys2Proof
namespace Machine

/-- Writes the scrub controllers. -/
def setScr (s : State) (x : ScrSt) : State := { s with scr := x }

/-- Microseconds since power-on reset. -/
def nowUs (s : State) : Nat := s.time.now * 1000 / Config.aclkKHz

/-! ### BIST units -/

/-- A unit of the BIST engine. -/
def bunit (s : State) (u : Nat) : BUnit := smGet {} s.bst.units u

/-- Writes a unit. -/
def setBunit (s : State) (u : Nat) (x : BUnit) : State := { s with bst := { s.bst with units := smSet {} u x s.bst.units } }

/-- The units that the engine tests (R434): gap columns p, reserve cabinets 100 + p, routers 200 + stop,
pairs 300 + q, the standby scrub controller 310, standby PLLs 311 + k, and 320 for the memory BIST of
bring-up (R79, R132). -/
def bistUnits : List Nat :=
  List.range 100 ++ [144, 145, 154, 155] ++ (List.range 100).map (fun x => x + 200) ++ [300, 301, 302, 303, 304, 310, 311, 312, 313, 320]

/-- Slices of a unit's test (R434). -/
def unitSlices (u : Nat) : Nat :=
  if u < 100 then 16 else if u < 200 then 304 else if u < 300 then 4 else if u < 310 then 48 else if u = 310 then 2 else 1

/-- The cabinet in which a slice on a unit runs. -/
def unitCab (u : Nat) : Option Nat := if u < 300 then some (u % 100) else none

/-- The unit is to be tested now (R434, R336). -/
def unitDue (s : State) (u : Nat) : Bool :=
  if u < 100 then
    let g := (cab s u).gapPh
    (g = 4 || g = 6 || g = 7) && cabState s u != stOFF
  else if u < 200 then isReserve (u - 100) && cabState s (u - 100) = stEMPTY && 96 ≤ logicalOf s (u - 100)
  else if u < 300 then
    rtrState s (u - 200) = rtTEST || (rtrState s (u - 200) = rtNORMAL && testMay s (u - 200) && !ringBusy s (u - 200))
  else if u < 310 then u < 305 && (fget s SYS_PAIR_STAT_STATE (u - 300) = 1 || fget s SYS_PAIR_STAT_STATE (u - 300) = 2)
  else if u = 310 then
    s.scr.testing || (fgetB s SCR_STAT_STANDBY_OK 0 && (0 < (bunit s u).done || (bunit s u).last + 10000000 ≤ nowUs s))
  else if u < 314 then s.time.pllB.testBit (u - 311) && (bunit s u).last + 60000000 ≤ nowUs s
  else u = 320 && s.bst.bring

/-- A unit with a suspect mark: a gap column that is suspect or has a suspect row (R79, R431). -/
def unitSuspect (s : State) (u : Nat) : Bool :=
  u < 100 && ((fgetB s BST_CAB_SUSPECT_V u && fget s BST_CAB_SUSPECT u = gapPos s u) ||
    (List.range 8).any (fun r => !(cell s (cid u (gapPos s u) r)).susp.isEmpty))

/-- Brings a unit's waiting mark up to date: a unit that is no longer due starts again from its first
slice; a withheld one is taken up once source 53 is quiet (R436). -/
def unitMark (s : State) (u : Nat) : State :=
  let x := bunit s u
  let x1 := if x.held && srcQuiet s 53 then { x with held := false, done := 0 } else x
  if unitDue s u && !x1.held then
    if x1.want then setBunit s u x1 else setBunit s u { x1 with want := true, since := s.time.now }
  else if x1.run then setBunit s u { x1 with want := false }
  else setBunit s u { x1 with want := false, done := if unitDue s u then x1.done else 0 }

/-- Slices that run now. -/
def slicesRunning (s : State) : Nat := (s.bst.units.filter (fun e => e.2.run)).length

/-- No slice has started in the unit's cabinet in this tick (R434). -/
def cabSliceFree (s : State) (u : Nat) : Bool :=
  match unitCab u with
  | some p => smGet 0 s.bst.started p != s.time.edges + 1
  | none => true

/-- The house order of R434: suspect marks, then the longest wait, then the rotating pointer. -/
def unitBefore (s : State) (a b : Nat) : Bool :=
  let sa := unitSuspect s a
  let sb := unitSuspect s b
  let d (u : Nat) : Nat := (u + 1024 - s.bst.ptr) % 1024
  if sa != sb then sa
  else if (bunit s a).since != (bunit s b).since then (bunit s a).since < (bunit s b).since
  else d a < d b

/-- The best unit of a list. -/
def bestUnit (s : State) : List Nat → Option Nat
  | [] => none
  | u :: r =>
    match bestUnit s r with
    | none => some u
    | some v => if unitBefore s v u then some v else some u

/-- The unit's slices test memory (R434, R79, R132): a gap column, a reserve cabinet, or everything in bring-up. -/
def memUnit (u : Nat) : Bool := u < 200 || u = 320

/-- The FIFOs that a slice on a unit tests (R132): a reserve cabinet's own, every one in bring-up. -/
def unitFifo (u k : Nat) : Option Nat :=
  if u = 320 then (if fifoExists k then some k else none)
  else if 100 ≤ u && u < 200 then some (cabFifo (u - 100) (k % 16))
  else none

/-- Every FIFO of a unit. -/
def unitFifos (u : Nat) : List Nat :=
  if u = 320 then
    (List.range 100).flatMap (fun p => (List.range 16).map (fun f => cabFifo p f)) ++
      (List.range 64).map (fun i => 16384 + i / 8 * 16 + i % 8) ++ (List.range 16).map (fun c => 32768 + c)
  else if 100 ≤ u && u < 200 then (List.range 16).map (fun f => cabFifo (u - 100) f)
  else []

/-- The BIST engine writes ORDER_REQ of the FIFOs it tests (R126); the spec does not say which order it asks for
(entry 159). -/
def bistOrder (s : State) (u : Nat) : State :=
  if (unitFifos u).isEmpty then s
  else (unitFifos u).foldl (fun t k => fifoOrderReq t k (Config.choice s.free % 2)) (drawFree s)

/-- A reserve cabinet's router is placed in TEST for the last four of its slices, where R166 allows it; the order of a
unit's slices is not stated (DESIGN CHOICE, entry 165). -/
def routerTest (s : State) (u done : Nat) : State :=
  if 100 ≤ u && u < 200 && done = 300 && rtrState s (u - 100) = rtNORMAL && testMay s (u - 100) then rtrMode s (u - 100) 2 else s

/-- A reserve cabinet's router leaves the test (R166, R437). -/
def routerBack (s : State) (p : Nat) : State := if inTest s p then endTest s p else s

/-- A slice on unit `u` begins. -/
def sliceBegin (s : State) (u : Nat) : State :=
  let x := bunit s u
  let s1 := setBunit (routerTest (bistOrder s u) u x.done) u
    { x with run := true, want := false, began := s.time.now, last := if x.done = 0 then nowUs s else x.last }
  let started := match unitCab u with | some p => smSet 0 p (s.time.edges + 1) s1.bst.started | none => s1.bst.started
  { s1 with bst := { s1.bst with started := started, ptr := (u + 1) % 1024 } }

/-- The engine grants one slice (R434): at most 16 run at once, one start a tick in any one cabinet. A router is placed
in TEST first, and its slices wait until it has entered (R160, R166). -/
def bistStart (s0 : State) : State :=
  let s := bistUnits.foldl unitMark s0
  if 16 ≤ slicesRunning s then s
  else
    match bestUnit s (bistUnits.filter (fun u => (bunit s u).want && !(bunit s u).run && cabSliceFree s u)) with
    | none => s
    | some u => if 200 ≤ u && u < 300 && rtrState s (u - 200) != rtTEST then rtrMode s (u - 200) 2 else sliceBegin s u

/-- BIST_SLICE_START (R434). -/
def execBistSliceStart (s : State) : Host.Outcome State Fault Refusal := run true (bistStart s)

/-! ### Repairs by memory BIST (R78, R79, R132) -/

/-- A failing RAM row of a cell takes a spare row; `false` where both are in use. -/
def rowRepair (s : State) (k row : Nat) : State × Bool :=
  let c := cell s k
  let p := k / 136
  if c.rep.length < 2 then
    let rep := c.rep.map (fun r => if r = row then 128 else r) ++ [row]
    let s1 := finc (setCell s k { c with rep := rep }) CAB_RAM_SPARE_USED p
    ((if rep.length = 2 then finc s1 CAB_RAM_SPARE_FULL p else s1), true)
  else (s, false)

/-- A failing row of a FIFO bank takes a spare row; with four in use a U-class record names the FIFO. -/
def fifoRepair (s : State) (k bank : Nat) : State :=
  let f := if bank = 0 then FIFO_SPARE_BANK0 else FIFO_SPARE_BANK1
  if fget s f k < 4 then finc s f k
  else raise s { src := fifoSrc k, cls := clsU, code := 0x22, addr := k, ukind := 3, uid := k }

/-- The cells of a unit that a failing row names: eight of the gap column, 136 of a reserve cabinet, every
cell in bring-up. -/
def unitCell (s : State) (u c : Nat) : Nat :=
  if u < 100 then cid u (gapPos s u) (c % 8) else if u < 200 then (u - 100) * 136 + c % 136 else c

/-- Repairs what a memory slice found: the cells that could not be repaired, or that failed logic (row
128), are left over. -/
def rowRepairs (u : Nat) : List (Nat × Nat) → State → State × List Nat
  | [], s => (s, [])
  | (c, row) :: r, s =>
    let k := unitCell s u c
    let q := if row < 128 then rowRepair s k row else (s, false)
    let t := rowRepairs u r q.1
    (t.1, if q.2 then t.2 else k :: t.2)

/-- A column's cells have passed BIST: their error marks clear (R79). -/
def columnClean (s : State) (p q : Nat) : State :=
  (List.range 8).foldl (fun s r => let k := cid p q r; setCell s k { cell s k with ceRows := [], susp := [] }) s

/-! ### The end of a unit's test -/

/-- The gap parks (R433). -/
def gapPark (s : State) (p : Nat) : State :=
  let s1 := fset (fset s CAB_GAP_PARKED p 1) BST_CAB_PHASE p 4
  let s2 := setCab s1 p { cab s1 p with gapPh := 0, gapSecond := false }
  cabEvent s2 p clsC 0x20 (gapPos s2 p) 8 false false

/-- A tested gap column is no longer suspect (R431, R432). -/
def suspectClear (s : State) (p : Nat) : State :=
  if fget s BST_CAB_SUSPECT p = gapPos s p then fset s BST_CAB_SUSPECT_V p 0 else s

/-- The gap column of `p` passes: a step is done (R430), the gap of an EMPTY cabinet moves at the next guard
(R426), or the column in service becomes suspect and the step is repeated (R431). -/
def gapPass (s0 : State) (p : Nat) : State :=
  let s := fset (columnClean s0 p (gapPos s0 p)) BST_PASS_TICK_TICK p s0.time.tick
  let c := cab s p
  if c.gapPh = 6 then
    let s1 := fset (fset s BST_CAB_SUSPECT_V p 1) BST_CAB_SUSPECT p (pcolOf s p c.gapCol)
    fset (setCab s1 p { c with gapPh := 1, gapSecond := true }) BST_CAB_PHASE p 1
  else if c.gapPh = 7 then suspectClear (fset (setCab s p { c with gapPh := 0 }) BST_CAB_PHASE p 0) p
  else if cabState s p = stEMPTY then suspectClear (setCab s p { c with gapPh := 5 }) p
  else suspectClear (finc (fset (setCab s p { c with gapPh := 0, gapSecond := false }) BST_CAB_PHASE p 0) BST_CAB_STEPS p) p

/-- A record that no standby scrub controller remains (R419). -/
def standbyLost (s : State) : State :=
  raise (setScr (fset s SCR_STAT_STANDBY_OK 0 0) { s.scr with testing := false }) { src := 52, cls := clsU, code := 2 }

/-- A unit has passed every slice. -/
def unitPass (s : State) (u : Nat) : State :=
  if u < 100 then gapPass s u
  else if u < 200 then
    fset ((List.range 17).foldl (fun s q => columnClean s (u - 100) q) (routerBack s (u - 100))) BST_PASS_TICK_TICK (u - 100) s.time.tick
  else if u < 300 then routerBack s (u - 200)
  else if 300 ≤ u && u < 305 then fset s SYS_PAIR_STAT_STATE (u - 300) 1
  else if u = 310 then setScr (fset s SCR_STAT_STANDBY_OK 0 1) { s.scr with testing := false }
  else if u = 320 then { s with bst := { s.bst with bring := false } }
  else s

/-- A unit has failed. In bring-up, `cells` names the failing cells: the gap of each of their cabinets parks
on the failing column. -/
def unitFail (s : State) (u : Nat) (cells : List Nat) : State :=
  if u < 100 then gapPark s u
  else if u < 200 then cabOff (routerBack s (u - 100)) (u - 100)
  else if 300 ≤ u && u < 305 then fset s SYS_PAIR_STAT_STATE (u - 300) 3
  else if u = 310 then standbyLost s
  else if u = 320 then
    let s1 := cells.foldl (fun s k =>
      if fgetB s CAB_GAP_PARKED (k / 136) then s else gapPark (fset s CAB_GAP_POS (k / 136) (k / 8 % 17)) (k / 136)) s
    { s1 with bst := { s1.bst with bring := false } }
  else s

/-- The unit of a coverage-lapse record as (KIND, ID). -/
def unitName (u : Nat) : Nat × Nat :=
  if u < 200 then (1, u % 100) else if u < 300 then (2, u - 200) else if u < 310 then (9, u - 300) else (0xF, 0)

/-- BST_CAB.INCOMPLETE of a cabinet whose unit is under test. -/
def incShow (s : State) (u n : Nat) : State := if u < 200 then fset s BST_CAB_INCOMPLETE (u % 100) (min 15 n) else s

/-- An INCOMPLETE slice (R435, R436): queued again; sixteen in a row raise a coverage lapse and withhold the
unit's test. -/
def sliceIncomplete (s : State) (u : Nat) : State :=
  let x := bunit s u
  let n := min 255 (x.inc + 1)
  let s1 := incShow (setBunit s u { x with run := false, inc := n, held := x.held || n % 16 = 0 }) u n
  if n % 16 = 0 then
    raise s1 { src := 53, cls := clsU, code := 1, addr := u, ukind := (unitName u).1, uid := (unitName u).2 }
  else s1

/-- A slice reached its count: with the good signature it is PASS, else FAIL (R435). -/
def sliceDone (s : State) (u : Nat) (sig : Bool) (rows fifos : List (Nat × Nat)) : State :=
  let q := rowRepairs u (if memUnit u then rows else []) s
  let s1 := (fifos.filterMap (fun e => (unitFifo u e.1).map (fun k => (k, e.2)))).foldl (fun s e => fifoRepair s e.1 e.2) q.1
  let x := bunit s1 u
  if sig && q.2.isEmpty then
    let n := x.done + 1
    let all := unitSlices u ≤ n
    let y := { x with run := false, inc := 0, done := if all then 0 else n, pass := if all then s1.time.tick + 1 else x.pass }
    let s2 := incShow (setBunit s1 u y) u 0
    if all then unitPass s2 u else s2
  else
    unitFail (incShow (setBunit s1 u { x with run := false, inc := 0, done := 0, fails := min 65535 (x.fails + 1) }) u 0) u q.2

/-- A unit's slice has not run past its budget SLICE_US (R434, R435). -/
def inBudget (s : State) (u : Nat) : Bool := (s.time.now - (bunit s u).began) * 1000 ≤ fget s BST_CFG_SLICE_US 0 * Config.aclkKHz

/-- A slice ends: `full` where its pattern count was reached, `sig` where its signature equals the expected
one; failing RAM rows as (cell of the unit, row) and FIFO banks with a failing row as (identifier, bank).
A slice whose unit has changed state, or whose budget has run out, is INCOMPLETE. -/
def bistEnd (s : State) (u : Nat) (full sig : Bool) (rows fifos : List (Nat × Nat)) : State :=
  if (bunit s u).run then (if full && unitDue s u && inBudget s u then sliceDone s u sig rows fifos else sliceIncomplete s u) else s

/-- BIST_SLICE_END (R435): the failing rows and banks are those that a unit holds. -/
def execBistSliceEnd (u : Nat) (full sig : Bool) (rows fifos : List (Nat × Nat)) (s : State) : Host.Outcome State Fault Refusal :=
  run (bistUnits.contains u)
    (bistEnd s u full sig (rows.filter (fun e => e.1 < 13600 && e.2 < 129)) (fifos.filter (fun e => fifoExists e.1 && e.2 < 2)))

/-! ### Service wins over test (R437) -/

/-- The unit as it was before the slice. -/
def unitRestore (s : State) (u : Nat) : State :=
  if 100 ≤ u && u < 200 then
    let p := u - 100
    let s1 := cellsHold s p
    let s2 := (List.range 16).foldl (fun s f => fifoFlush s (cabFifo p f)) s1
    routerBack s2 p
  else if 200 ≤ u && u < 300 then routerBack s (u - 200)
  else s

/-- A service request for a unit under a slice: the slice is INCOMPLETE and the unit restored. -/
def bistAbort (s : State) (u : Nat) : State :=
  if (bunit s u).run then unitRestore (sliceIncomplete s u) u else s

/-- BIST_SLICE_ABORT (R437): the gap column is never preempted. -/
def execBistSliceAbort (u : Nat) (s : State) : Host.Outcome State Fault Refusal :=
  run (bistUnits.contains u) (if 100 ≤ u then bistAbort s u else s)

/-- A write of SYS_PAIR_MAP by a control pair in machine mode (R336): a pair in service elsewhere or FAILED is
refused; a spare that is called in leaves its slice. -/
def pairMap (s : State) (k v : Nat) : State :=
  let q := v % 8
  let old := fget s SYS_PAIR_MAP_PHYS k
  let wasOn := fgetB s SYS_PAIR_MAP_VALID k
  let busy := [0, 1, 2, 3].any (fun j => j != k && fgetB s SYS_PAIR_MAP_VALID j && fget s SYS_PAIR_MAP_PHYS j = q)
  let leave (t : State) : State := if wasOn && fget t SYS_PAIR_STAT_STATE old = 0 then fset t SYS_PAIR_STAT_STATE old 1 else t
  if !v.testBit 31 then schPreempt (fset (fset (leave s) SYS_PAIR_MAP_VALID k 0) SYS_PAIR_MAP_PHYS k q)
  else if 5 ≤ q then s
  else if busy || fget s SYS_PAIR_STAT_STATE q = 3 then fset s SYS_PAIR_STAT_REFUSED q 1
  else
    let s1 := bistAbort (leave s) (300 + q)
    schPreempt (fset (fset (fset s1 SYS_PAIR_MAP_VALID k 1) SYS_PAIR_MAP_PHYS k q) SYS_PAIR_STAT_STATE q 0)

/-- PAIR_MAP_WRITE (R336): `mm` for machine mode; a write of another master has no effect. -/
def execPairMapWrite (k v : Nat) (mm : Bool) (s : State) : Host.Outcome State Fault Refusal :=
  reach (k < 4) s (if mm then pairMap s k (v % 2 ^ 32) else s)

/-! ### The scrub controllers (R418 to R420) -/

/-- Two expected heartbeat toggles in a row have not come, 1,024 SCLK cycles of 500 MHz apart (R419), or the settings
digests differ. -/
def takeoverDue (s : State) : Bool :=
  (s.time.pllA.testBit 2 && 4096 * Config.aclkKHz ≤ (s.time.now - s.scr.beatAt) * 1000000) || s.scr.copy != fget s SCR_CFG_CYCLE_US 0

/-- The standby takes over on its own copy of the settings, or scrubbing stops (R419, R420). -/
def takeover (s : State) : State :=
  if fgetB s SCR_STAT_STOPPED 0 then s
  else if fgetB s SCR_STAT_STANDBY_OK 0 && !s.scr.testing then
    let s1 := bistAbort s 310
    let s2 := finc (fset s1 SCR_STAT_PRIMARY 0 (1 - fget s1 SCR_STAT_PRIMARY 0)) SCR_STAT_TAKEOVERS 0
    let x := s2.scr
    let s3 := fset (setBunit s2 310 { bunit s2 310 with done := 0 }) SCR_CFG_CYCLE_US 0 x.copy
    raise (setScr s3 { x with p := x.progP, w := 0, testing := true, beatAt := s3.time.now })
      { src := 52, cls := clsC, code := 1 }
  else
    raise (setScr (fset s SCR_STAT_STOPPED 0 1) { s.scr with walking := false }) { src := 52, cls := clsU, code := 3 }

/-- SCRUB_TAKEOVER (R419). -/
def execScrubTakeover (s : State) : Host.Outcome State Fault Refusal := run true (if takeoverDue s then takeover s else s)

/-- SCRUB_HEARTBEAT (R419): the primary's progress goes to the standby. -/
def execScrubHeartbeat (s : State) : Host.Outcome State Fault Refusal :=
  run true (setScr s { s.scr with progP := s.scr.p, progW := s.scr.w, beatAt := s.time.now })

/-- All three copies of a voted word disagree (R423, R419): kind 0 a plan register, 1 a door, framing, booking
or pin word of cabinet `p`; 2 a register of the primary. -/
def voteLost (s : State) (kind p : Nat) : State :=
  if kind = 0 then cabEvent (finc s SCR_ERR_UF 0) p clsU 0x23 p 5 false false
  else if kind = 1 then cabEvent (finc s SCR_ERR_UF 0) p clsF 0x24 p 5 false false
  else takeover s

/-- VOTE_DISAGREEMENT (R423). -/
def execVoteDisagreement (kind p : Nat) (s : State) : Host.Outcome State Fault Refusal :=
  run (kind < 3 && p < 100) (voteLost s kind p)

/-- A write of SCR_CFG (R421): a period outside its range is refused; REFUSED is W1C. -/
def scrCfg (s : State) (v : Nat) : State :=
  let s1 := if v.testBit 31 then fset s SCR_CFG_REFUSED 0 0 else s
  let n := v % 2 ^ 20
  if 2000 ≤ n && n ≤ 1000000 then setScr (fset s1 SCR_CFG_CYCLE_US 0 n) { s1.scr with copy := n }
  else fset s1 SCR_CFG_REFUSED 0 1

/-- SCR_CFG_WRITE (R421). -/
def execScrCfgWrite (v : Nat) (s : State) : Host.Outcome State Fault Refusal := run true (scrCfg s (v % 2 ^ 32))

/-! ### The scrub walk (R421, R422, R424) -/

/-- A new walk starts when its time has come and the SCLK PLL has locked; the start after it is one period
of SCR_CFG later. -/
def walkStart (s : State) : State :=
  if !fgetB s SCR_STAT_STOPPED 0 && !s.scr.walking && s.time.pllA.testBit 2 && s.scr.next ≤ nowUs s then
    let n := if s.scr.next = 0 then nowUs s else s.scr.next
    setScr s { s.scr with walking := true, p := 0, w := 0, start := nowUs s, next := n + fget s SCR_CFG_CYCLE_US 0 }
  else s

/-- SCRUB_WALK_START (R421). -/
def execScrubWalkStart (s : State) : Host.Outcome State Fault Refusal := run true (walkStart s)

/-- The logical column whose content physical column `q` of cabinet `p` holds; none for a gap column that is
not shadowing (R422). -/
def scrubCol (s : State) (p q : Nat) : Option Nat :=
  if q = gapPos s p then
    let g := (cab s p).gapPh
    if g = 1 || g = 2 || g = 3 then some (cab s p).gapCol else none
  else lcolOf s p q

/-- What the image store holds for a word; zero for a column with no content (R422). -/
def scrubImage (s : State) (p q row w : Nat) : Word :=
  match scrubCol s p q with
  | some l => if logicalOf s p < 96 then smGet 0 (img s (logicalOf s p)).cfg (64 * (8 * l + row) + w) else 0
  | none => 0

/-- Reads configuration word `w` of a cell, with upset bits, and repairs it by the table of R422. -/
def scrubWord (s : State) (k w : Nat) (err : Code) : State :=
  let p := k / 136
  let q := k / 8 % 17
  let row := k % 8
  let code := cfgCode (cell s k) w ^^^ err
  let put (t : State) (c : Code) : State := setCell t k { cell t k with cfg := smSet 0 w c (cell t k).cfg }
  let v := match scrubCol s p q with | some l => invClass s p l row w | none => 0
  let r := eccCheck s (cabSrc p) (16 * (p % 4) + 2) code
  let addr := (p * 17 + q) * 8192 + row * 1024 + w
  let rec_ (t : State) (cls code : Nat) : State :=
    cabEvent (if cls = clsC then t else finc t SCR_ERR_UF 0) p cls code addr 5 r.2.inj r.2.coinc
  match r.2.v with
  | .clean _ => put r.1 code
  | .fixed d => rec_ (finc (put r.1 (eccEnc d)) SCR_ERR_CE 0) (if w < 12 then invFault v else clsC) 0x25
  | _ => rec_ (finc (put r.1 (eccEnc (scrubImage s p q row w))) SCR_ERR_REWRITE 0) (invFault v) 0x26

/-- A cabinet that the walk skips: OFF, or being written by the configuration controller. -/
def walkSkips (s : State) (p : Nat) : Bool := cabState s p = stOFF || cabState s p = stLOADING

/-- The next cabinet, from `p`, that the walk reads. -/
def walkNext (s : State) : Nat → Nat → Nat
  | 0, p => p
  | n + 1, p => if p < 100 && walkSkips s p then walkNext s n (p + 1) else p

/-- The walk stands at cabinet `p`, word `w`; past the last cabinet it is complete. -/
def walkAt (s : State) (p w : Nat) : State :=
  if 100 ≤ p then
    setScr (fset s SCR_STAT_LAST_US 0 (nowUs s - s.scr.start)) { s.scr with walking := false, p := 0, w := 0 }
  else setScr s { s.scr with p := p, w := w }

/-- The walk reads one word. At the start of a cabinet's walk the settings digest is compared first (R419). -/
def walkRead (s : State) (err : Code) : State :=
  if !s.scr.walking || fgetB s SCR_STAT_STOPPED 0 then s
  else if s.scr.w = 0 && s.scr.copy != fget s SCR_CFG_CYCLE_US 0 then takeover s
  else
    let p := walkNext s 100 s.scr.p
    let w := if p = s.scr.p then s.scr.w else 0
    if 100 ≤ p then walkAt s p 0
    else
      let s1 := scrubWord s (p * 136 + w / 57) (w % 57) err
      if w + 1 < 7752 then walkAt s1 p (w + 1) else walkAt s1 (walkNext s1 100 (p + 1)) 0

/-- SCRUB_WORD_READ (R422), with the upset bits of the stored word. -/
def execScrubWordRead (err : Code) (s : State) : Host.Outcome State Fault Refusal := run true (walkRead s err)

/-- The word at the head of the fetch queue is read and repaired (R424). -/
def queueRepair (s : State) (err : Code) : State :=
  if fgetB s SCR_STAT_STOPPED 0 then s
  else
    match s.scr.queue with
    | [] => s
    | (k, w) :: r =>
      let s1 := setScr s { s.scr with queue := r }
      if cabState s (k / 136) = stOFF then s1 else scrubWord s1 k w err

/-- SCRUB_QUEUE_REPAIR (R424). -/
def execScrubQueueRepair (err : Code) (s : State) : Host.Outcome State Fault Refusal := run true (queueRepair s err)

/-! ### The test calendar (R442) -/

/-- A write of BST_CFG: a field outside its range keeps its value and sets REFUSED, which is W1C. -/
def bstCfg (s : State) (v : Nat) : State :=
  let c := fldOf BST_CFG_COMPARE v
  let u := fldOf BST_CFG_SLICE_US v
  let t := fldOf BST_CFG_STEP_TICKS v
  let s1 := fset (if v.testBit 62 then fset s BST_CFG_REFUSED 0 0 else s) BST_CFG_GAP_EN 0 (fldOf BST_CFG_GAP_EN v)
  let s2 := if 1 ≤ c then fset s1 BST_CFG_COMPARE 0 c else fset s1 BST_CFG_REFUSED 0 1
  let s3 := if 2 ≤ u && u ≤ 500 then fset s2 BST_CFG_SLICE_US 0 u else fset s2 BST_CFG_REFUSED 0 1
  if 1000 ≤ t then fset s3 BST_CFG_STEP_TICKS 0 t else fset s3 BST_CFG_REFUSED 0 1

/-- BST_CFG_WRITE (R442). -/
def execBstCfgWrite (v : Nat) (s : State) : Host.Outcome State Fault Refusal := run true (bstCfg s (v % 2 ^ 64))

/-! ### Gap steps (R425 to R431) -/

/-- A step may begin in cabinet `p` (R425, R426). -/
def gapMay (s : State) (p : Nat) : Bool :=
  let st := cabState s p
  fgetB s BST_CFG_GAP_EN 0 && (st = stRUNNING || st = stHELD || st = stEMPTY) && !fgetB s CAB_GAP_PARKED p &&
    !fgetB s CAB_CAPTURE_CTL_ARMED p && (cab s p).gapPh = 0 && (cab s p).gapStart + fget s BST_CFG_STEP_TICKS 0 ≤ s.time.edges

/-- The direction of the next step: it reverses at each end. -/
def gapDir (s : State) (p : Nat) : Nat :=
  if gapPos s p = 0 then 1 else if gapPos s p = 16 then 0 else fget s BST_CAB_DIR p

/-- Section 0 and the drawers of a logical column, from the image store, in the gap column's cells (R427). -/
def shadowCfg (s : State) (p : Nat) : State :=
  let l := (cab s p).gapCol
  let g := img s (logicalOf s p)
  (List.range 8).foldl (fun s r =>
    let k := cid p (gapPos s p) r
    let b := 8 * l + r
    let cw := (g.cfg.filter (fun e => 64 * b ≤ e.1 && e.1 < 64 * b + 57)).map (fun e => (e.1 - 64 * b, eccEnc e.2))
    setCell s k { cell s k with cfg := cw, cur := {}, nxt := {} }) s

/-- A gap step starts in cabinet `p`; where the gap column itself is suspect it is tested first. -/
def gapStep (s : State) (p : Nat) : State :=
  if gapMay s p then
    let s0 := setBunit (setCab s p { cab s p with gapStart := s.time.edges }) p { bunit s p with done := 0 }
    if fgetB s BST_CAB_SUSPECT_V p && fget s BST_CAB_SUSPECT p = gapPos s p then suspectTest s0 p
    else
      let d := gapDir s p
      let s1 := fset s0 BST_CAB_DIR p d
      let col := if d = 0 then gapPos s p - 1 else gapPos s p
      if cabState s p = stEMPTY then fset (setCab s1 p { cab s1 p with gapCol := col, gapPh := 4 }) BST_CAB_PHASE p 3
      else shadowCfg (fset (setCab s1 p { cab s1 p with gapCol := col, gapPh := 1, gapSecond := false }) BST_CAB_PHASE p 1) p
  else s

/-- GAP_STEP_START (R425). -/
def execGapStepStart (p : Nat) (s : State) : Host.Outcome State Fault Refusal := run (p < 100) (gapStep s p)

/-- Copies RAM word `a` of the live cell in row `r` to its shadow (R427). -/
def copyWord (p q r : Nat) (s : State) (a : Nat) : State :=
  let x := ramRead s p q r a 8 0
  let k := cid p (gapPos x.1 p) r
  if x.2.ue then x.1 else setCell x.1 k (ramWrite (cell x.1 k) a x.2.w)

/-- Copies the RAM of the cell in row `r` of column `q` to the gap column. -/
def copyRow (p q : Nat) (s : State) (r : Nat) : State := (List.range 512).foldl (copyWord p q r) s

/-- The copy phase ends, unless a copied word abandoned the step. -/
def copyEnd (s : State) (p : Nat) : State :=
  if (cab s p).gapPh = 1 then setCab s p { cab s p with gapPh := 2 } else s

/-- The copy ends (R427): the state transfer is set for guard cycle 23. -/
def shadowDone (s : State) (p : Nat) : State :=
  if (cab s p).gapPh = 1 then
    copyEnd ((List.range 8).foldl (copyRow p (pcolOf s p (cab s p).gapCol)) (shadowCfg s p)) p
  else s

/-- SHADOW_COPY_DONE (R427). -/
def execShadowCopyDone (p : Nat) (s : State) : Host.Outcome State Fault Refusal := run (p < 100) (shadowDone s p)

/-- A shadow cell disagrees with its live cell (R431). -/
def shadowMismatch (s : State) (p : Nat) : State :=
  let c := cab s p
  if c.gapPh = 3 then
    let s1 := (List.range 8).foldl (fun s r =>
      let k := cid p (gapPos s p) r
      setCell s k { cell s k with cur := {}, nxt := {} }) (finc s BST_CAB_MISMATCH p)
    if c.gapSecond then cabEvent s1 p clsU 0x28 c.gapCol 8 false false
    else
      let s2 := cabEvent s1 p clsC 0x27 c.gapCol 8 false false
      setBunit (fset (setCab s2 p { cab s2 p with gapPh := 6, gapEnd := 0 }) BST_CAB_PHASE p 3) p { bunit s2 p with done := 0 }
  else s

/-- SHADOW_MISMATCH (R431). -/
def execShadowMismatch (p : Nat) (s : State) : Host.Outcome State Fault Refusal := run (p < 100) (shadowMismatch s p)

/-! ### Test access (R438, R439) -/

/-- TEST_UNLOCK (R438): a fresh challenge, and the serial number after it. -/
def testUnlock (s : State) : State :=
  let c := beBytes 32 (Config.random s.free).toNat
  let s1 := drawFree { s with env := { s.env with chal := some c } }
  { s1 with bus := { data := 0, status := 0, bytes := c ++ beBytes 8 Config.serial } }

/-- TEST_UNLOCK (R438). -/
def execTestUnlock (s : State) : Host.Outcome State Fault Refusal := run true (testUnlock s)

/-- The signature is accepted (R438). -/
def unlockOk (s : State) (pk sig : List Byte) : Bool :=
  match s.env.chal with
  | none => false
  | some c =>
    !s.otp.testKey.isEmpty && !s.otp.testRevoked && shake256 pk 32 = s.otp.testKey && edVerify false (strBytes "AXRID-TST") pk c sig &&
      (List.range 100).all (fun p => cabState s p != stRUNNING && cabState s p != stDRAINING)

/-- Every secret-tagged granule of control SRAM is zeroed and the tags clear (R439). -/
def sramScrubSecrets (s : State) : State :=
  let l := s.ctl.sram.filter (fun e => !sramSecret s (8 * e.1))
  fset { s with ctl := { s.ctl with sram := l } } SYS_SRAM_SECRET_TAG 0 0

/-- The whole staging buffer of 128 MiB is zeroed (R294). -/
def stagingZero (s : State) : State :=
  let a := stageOfs s / 128
  setGdr s { s.gdr with mem := smClear (gKey a 0 0) (gKey (a + 1048576) 0 0) s.gdr.mem }

/-- The steps of R439, in order. The configuration controller holds no stream key between loads. -/
def scanOpen (s : State) : State :=
  let s1 := burTestAccess s
  let s2 := stagingZero { s1 with cfg := { s1.cfg with img := [] } }
  let s3 := sramScrubSecrets { s2 with env := { s2.env with secrets := false } }
  let s4 := fset s3 CFG_KEY_STAT_KEY_OFF 0 1
  { s4 with env := { s4.env with scan := true, chal := none } }

/-- TEST_UNLOCK_SIGNATURE (R439). -/
def execTestUnlockSignature (pk sig : List Byte) (s : State) : Host.Outcome State Fault Refusal :=
  run true (if unlockOk s pk sig then scanOpen s else s)

end Machine
end Sys2Proof
end

