-- ==== Sys2Proof/Machine/Boot.lean ====
section
/-!
DEFINITION. Boot (R310 to R318): the flash directory, authentication of a Kaluno image, attempts and rounds,
Kaluno's boot report, LOADSTAT, the failure count, the update record that a boot takes up (R370), and the
pair that the boot ROM runs on (R331).
-/

namespace Sys2Proof
namespace Machine

/-- Writes the boot ROM's state. -/
def setBoot (s : State) (b : BootSt) : State := { s with boot := b }

/-! ### The flash directory (R314) -/

/-- A directory copy as ten words. -/
def dirWords (s : State) (a : Nat) : List Word := bytesToWords 10 (flashBytes s a 80)

/-- A directory passes its check. -/
def dirOk (w : List Word) : Bool :=
  wAt w 0 = 0x4158444900000001 && wAt w 9 = BitVec.ofNat 64 (crc32cR (wordBytes (w.take 9)))

/-- The directory in force: the first, or the copy where the first fails its check. -/
def flashDir (s : State) : Option (List Word) :=
  if dirOk (dirWords s 0) then some (dirWords s 0) else if dirOk (dirWords s 4096) then some (dirWords s 4096) else none

/-- KOFS of a slot, none for an empty one. -/
def slotKofs (s : State) (n : Nat) : Option Nat :=
  match flashDir s with
  | none => none
  | some w => if wAt w (1 + 2 * n) = 0xFFFFFFFFFFFFFFFF then none else some (wAt w (1 + 2 * n)).toNat

/-- SOFS of a slot. -/
def slotSofs (s : State) (n : Nat) : Option Nat := (flashDir s).map (fun w => (wAt w (2 + 2 * n)).toNat)

/-- A directory with slots A and B exchanged and its check word made again. -/
def dirSwap (w : List Word) : List Word :=
  let b := [wAt w 0, wAt w 3, wAt w 4, wAt w 1, wAt w 2, wAt w 5, wAt w 6, wAt w 7, wAt w 8]
  b ++ [BitVec.ofNat 64 (crc32cR (wordBytes b))]

/-- Programs bytes into flash at `a`. -/
def flashPut (s : State) (a : Nat) (b : List Byte) : State :=
  { s with flash := b.zipIdx.foldl (fun m e => smSet 0xFF (a + e.2) e.1 m) s.flash }

/-- Slots A and B change places: the copy at 4,096 first, then the directory at 0 (R370). -/
def slotsExchange (s : State) : State :=
  match flashDir s with
  | none => s
  | some w => flashPut (flashPut s 4096 (wordBytes (dirSwap w))) 0 (wordBytes (dirSwap w))

/-! ### Kaluno images (R315) -/

/-- The image at a flash offset: its 64-byte header gives its length; none above 2 MiB or too short. -/
def imageAt (s : State) (a : Nat) : Option (List Byte) :=
  let n := Config.fwLength (flashBytes s a 64)
  if 256 ≤ n && n ≤ 2097152 then some (flashBytes s a n) else none

/-- An image passes: its key slot is not revoked, its SVN is no lower than the firmware minimum, and its seal
verifies with the context of firmware. An image built for the AXR-24 is not accepted (R3). -/
def imageOk (s : State) (b : List Byte) : Bool :=
  let h := b.take 64
  256 ≤ b.length && b.length ≤ 2097152 && !Config.fwOther h && Config.fwLength h = b.length && !s.otp.revoked.testBit (Config.fwSlot h % 4) &&
    s.otp.fwSvn ≤ Config.fwSvn h && sealCheck s (Config.fwSlot h % 4) "AXRID-FW" b = 0

/-- Copies an image to the start of control SRAM. -/
def imageLoad (s : State) (b : List Byte) : State :=
  (bytesToWords (b.length / 8 + 1) b).zipIdx.foldl (fun s e => sramPut s e.2 (eccEnc e.1)) s

/-! ### Attempts and rounds (R316, R317) -/

/-- The slots that BOOTSEL allows, in turn (R312). -/
def bootSlots (sel : Nat) : List Nat := if sel = 0 then [0, 1, 2, 3] else if sel = 1 then [2, 3] else []

/-- SYS_BOOT_STAT.BOOTSEL. -/
def bootSel (s : State) : Nat := fget s SYS_BOOT_STAT_BOOTSEL 0

/-- Sets the phase. -/
def bootPhase (s : State) (ph : Nat) : State := fset s SYS_BOOT_STAT_PHASE 0 ph

/-- RUN of the pair that logical pair 0 maps to is set and every other pair's cleared (R331). -/
def pairsReset (s : State) : State :=
  [0, 1, 2, 3, 4].foldl (fun s q =>
    fsetB s SYS_PAIR_STAT_RUN q (fgetB s SYS_PAIR_MAP_VALID 0 && fget s SYS_PAIR_MAP_PHYS 0 = q)) s

/-- Every mailbox is unsynchronised and no request runs (R360); windows and doorbells stay. -/
def svcRestart (s : State) : State :=
  let box := (List.range 16).foldl (fun (m : SMap Mbx) k => smSet {} k { smGet {} m k with sync := false } m) s.svc.box
  fset { s with svc := { s.svc with box := box, waits := [], held := [] } } MBX_BUSY_BUSY 0 0

/-- The control complex is reset; control SRAM keeps its words. -/
def controlReset (s : State) : State := svcRestart (pairsReset { s with ctl := { sram := s.ctl.sram } })

/-- The wait after one of `w` ms (R317). -/
def nextWait (w : Nat) : Nat := if w = 0 then 10 else min 10000 (2 * w)

/-- What follows a failed attempt: the next slot, or the back-off wait of a failed round, or, where BOOTSEL
allows no slot, the wait for a pushed image. -/
def bootNext (s : State) : State :=
  let sel := bootSel s
  if (bootSlots sel).isEmpty then bootPhase s 5
  else if !s.boot.left.isEmpty then bootPhase s 0
  else
    bootPhase (fset (finc (setBoot s { s.boot with waitAt := s.time.now }) SYS_BOOT_STAT_ROUNDS 0) SYS_BOOT_STAT_WAIT_MS 0
      (nextWait (fget s SYS_BOOT_STAT_WAIT_MS 0))) 4

/-- An attempt fails with a cause of R318. -/
def bootFail (s : State) (cause lcode : Nat) : State :=
  let s1 := controlReset (finc s SYS_LOAD_FAILS_COUNT 0)
  let s2 := fset s1 SYS_BOOT_STAT_CAUSE 0 cause
  let s3 := if 5 ≤ cause && cause ≤ 9 then fset s2 SYS_BOOT_STAT_LCODE 0 lcode else s2
  bootNext (setBoot s3 { s3.boot with rom := true, fw := false, first := false, push := none, done := false, slotImage := none, image := [] })

/-- An FW event with the update state (R371). -/
def fwEvent (s : State) (st : Nat) : State := event { s with fw := { s.fw with st := st } } 0xC 0 st 0

/-- The old Kaluno, run from slot B after a failed attempt of the new image, finds the update record and
exchanges A and B back (R370). -/
def fwOldImage (s : State) : State :=
  if bootSel s = 0 && s.boot.slotImage = some 1 && (s.fw.st = 3 || s.fw.st = 4) then
    fwEvent { slotsExchange s with fw := { s.fw with trial := 0 } } 5
  else s

/-- Kaluno starts from image `b`: BRINGUP begins, mailboxes are unsynchronised (R310, R360). -/
def kalunoStart (s : State) (b : List Byte) (slot : Option Nat) : State :=
  let s1 := bootPhase (imageLoad s b) 1
  let s2 := setBoot (svcRestart s1) { s1.boot with rom := false, fw := true, done := false, push := none, image := b, slotImage := slot, startAt := s1.time.now }
  fwOldImage s2

/-- An attempt on the next slot of the round (R316). -/
def bootAttempt (s : State) : State :=
  if s.boot.rom && fget s SYS_BOOT_STAT_PHASE 0 = 0 then
    match s.boot.left with
    | [] => s
    | n :: r =>
      let s1 := fset (fset (setBoot s { s.boot with left := r }) SYS_BOOT_STAT_SLOT 0 n) SYS_BOOT_STAT_PUSHED 0 0
      match slotKofs s1 n with
      | none => bootFail s1 1 0
      | some a =>
        match imageAt s1 a with
        | none => bootFail s1 2 0
        | some b => if imageOk s1 b then kalunoStart s1 b (some n) else bootFail s1 2 0
  else s

/-- BOOT_ATTEMPT (R316). -/
def execBootAttempt (s : State) : Host.Outcome State Fault Refusal := run true (bootAttempt s)

/-- Kaluno reports success (R316): the watchdog stops; an activated update goes on trial (R370). -/
def bootDone (s : State) : State :=
  if s.boot.fw && !s.boot.done then
    let s1 := bootPhase (setBoot s { s.boot with done := true }) 3
    if bootSel s1 = 0 && s1.fw.st = 3 && s1.boot.slotImage = some 0 then
      fwEvent { s1 with fw := { s1.fw with trialAt := s1.time.now } } 4
    else s1
  else s

/-- BOOT_DONE_WRITE (R316). -/
def execBootDoneWrite (s : State) : Host.Outcome State Fault Refusal := run true (bootDone s)

/-- Kaluno reports failure: CAUSE and LCODE of the written word (R316, R329). -/
def bootFailWrite (s : State) (v : Nat) : State :=
  if s.boot.fw && !s.boot.done then
    let c := fldOf SYS_BOOT_CTL_CAUSE v
    let l := fldOf SYS_BOOT_CTL_LCODE v
    bootFail (fset (fset s SYS_BOOT_CTL_CAUSE 0 c) SYS_BOOT_CTL_LCODE 0 l) c l
  else s

/-- BOOT_FAIL_WRITE (R316). -/
def execBootFailWrite (v : Nat) (s : State) : Host.Outcome State Fault Refusal := run true (bootFailWrite s (v % 2 ^ 32))

/-- BOOT_WATCHDOG_EXPIRY (R316): 5 s after Kaluno's first instruction the attempt fails with cause 10. -/
def execBootWatchdogExpiry (s : State) : Host.Outcome State Fault Refusal :=
  run true (if s.boot.fw && !s.boot.done && passedMs s s.boot.startAt 5000 then bootFail s 10 0 else s)

/-- A new round of slots begins once the wait has passed (R317). -/
def backoffEnd (s : State) : State :=
  if s.boot.rom && fget s SYS_BOOT_STAT_PHASE 0 = 4 && passedMs s s.boot.waitAt (fget s SYS_BOOT_STAT_WAIT_MS 0) then bootPhase (setBoot s { s.boot with left := bootSlots (bootSel s) }) 0 else s

/-- BACKOFF_WAIT_END (R317). -/
def execBackoffWaitEnd (s : State) : Host.Outcome State Fault Refusal := run true (backoffEnd s)

/-- LOAD_FAILS_SUB_WRITE (R329). -/
def execLoadFailsSubWrite (n : Nat) (s : State) : Host.Outcome State Fault Refusal :=
  run true (fsub s SYS_LOAD_FAILS_COUNT 0 (n % 2 ^ 32))

/-! ### LOADSTAT (R318) -/

/-- The cause pattern at `ms` into it: `n` pulses of 100 ms high and 200 ms low in every 4 s. -/
def causePattern (n ms : Nat) : Bool := ms % 4000 < 300 * n && ms % 4000 % 300 < 100

/-- The level of LOADSTAT at time `ms` of its pattern (R318, R331). -/
def loadstat (s : State) (ms : Nat) : Bool :=
  let ph := fget s SYS_BOOT_STAT_PHASE 0
  if fgetB s PIN_LOADSTAT_MODE 0 then fgetB s PIN_LOADSTAT_VALUE 0
  else if s.boot.held || s.boot.noPair || ph = 6 then false
  else if !s.cfg.due.isEmpty then ms % 250 < 125
  else if s.boot.done then true
  else if ph = 5 then ms % 1000 < 100
  else if ph = 4 || !s.boot.first then causePattern (fget s SYS_BOOT_STAT_CAUSE 0) ms
  else ms % 250 < 125

/-! ### The pair that runs the boot ROM (R331) -/

/-- Logical pair 0 is mapped before the ROM phase: to a spare, else to the pair of the lowest mapped logical
pair, which becomes unmapped; with neither no pair is released until a power-on reset. -/
def pairBoot (s : State) : State :=
  let s1 :=
    if fgetB s SYS_PAIR_MAP_VALID 0 then s
    else
      match [0, 1, 2, 3, 4].find? (fun q => fget s SYS_PAIR_STAT_STATE q = 1) with
      | some q => fset (fset (fset s SYS_PAIR_MAP_VALID 0 1) SYS_PAIR_MAP_PHYS 0 q) SYS_PAIR_STAT_STATE q 0
      | none =>
        match [1, 2, 3].find? (fun k => fgetB s SYS_PAIR_MAP_VALID k) with
        | some k => fset (fset (fset s SYS_PAIR_MAP_VALID 0 1) SYS_PAIR_MAP_PHYS 0 (fget s SYS_PAIR_MAP_PHYS k)) SYS_PAIR_MAP_VALID k 0
        | none => s
  pairsReset { s1 with boot := { s1.boot with noPair := !fgetB s1 SYS_PAIR_MAP_VALID 0 } }

/-! ### Resets (R106, R310 to R313, R331, R416, R456) -/

/-- The fields that survive warm reset (R311): RWS fields, repair counts, CAB_GAP and what stands with it
(R442), SYS_LOAD_FAILS, recovery counts (R416), secret tags (R339), KEY_OFF (R439), straps and bank levels,
and the Bureau's registers (R373). -/
def warmKeeps (f : Fld) : Bool :=
  f.acc = .rws || f.reg = R_CAB_GAP || f.reg = R_FIFO_SPARE || f.reg = R_CAB_RAM_SPARE || f.reg = R_SYS_LOAD_FAILS ||
    f.reg = R_SYS_SRAM_SECRET || f.reg = R_PIN_BANK_STAT ||
    (R_BUR_STAT ≤ f.reg && f.reg ≤ R_BUR_WARRANT_STAT) ||
    [BST_CAB_DIR, BST_CAB_SUSPECT_V, BST_CAB_SUSPECT, LEX_ERR_SPARE_USED, GDM_DEV_ERR_SPARE_USED, FLT_UNIT_RCNT,
      CFG_KEY_STAT_KEY_OFF, SYS_BOOT_STAT_BOOTSEL, SYS_BOOT_STAT_PREPULL, SYS_BOOT_STAT_BADSTRAP].contains f

/-- The numbers of the fields of `allFlds` that `keep` picks. -/
def fldIds (keep : Fld → Bool) : List Nat := (allFlds.filter keep).map (fun f => f.id)

/-- Registers after a reset that keeps the fields `ids`. -/
def regsKeep (ids : List Nat) (m : SMap Nat) : SMap Nat := m.filter (fun e => ids.contains (e.1 / 1048576))

/-- A cell after warm reset: repair entries survive, its stores keep their words, every state element is
zero. -/
def cellWarm (c : Cell) : Cell :=
  ffReset { rep := c.rep, ram := c.ram, cfg := c.cfg, ceRows := c.ceRows, susp := c.susp, t := c.t }

/-- Every cabinet as after power-on reset: EMPTY, its stop fenced, flip-flop reset asserted where the
register table says so. A parked gap keeps its phase. -/
def cabsWarm (s : State) : State :=
  (setInstances s CAB_GAP_PARKED).foldl (fun s p => fset s BST_CAB_PHASE p 4) s

/-- Warm reset (R311): PLLs and the tick go on; the tick in progress keeps its length. -/
def warmReset (s : State) : State :=
  let len := tickLen s
  let s1 := cabsWarm { s with regs := regsKeep (fldIds warmKeeps) s.regs }
  let t := s.time
  let t1 := { t with lenNow := some (t.lenNow.getD len), lenNext := none, inserting := false, held := false, adopt := none, tod := 0, inPhase := false }
  let s2 : State :=
    { pending := s.pending
      regs := s1.regs
      time := t1
      array := { cells := smMap {} (fun _ c => cellWarm c) s.array.cells, cabs := [] }
      flt := { recs := s.flt.recs }
      ctl := { sram := s.ctl.sram }
      bur := s.bur
      lex := { map := s.lex.map, used := s.lex.used }
      gdr := { spare := s.gdr.spare, dead := s.gdr.dead, full := s.gdr.full }
      flash := s.flash
      otp := s.otp
      boot := { held := true }
      fw := s.fw
      scr := { next := nowUs s, beatAt := s.time.now }
      bst := { bring := s.bst.bring }
      env := { s.env with chal := none, secrets := false, coef := [], tele := [] }
      free := s.free }
  pairBoot s2

/-- Seconds left of a trial (R370); its timer runs only where BOOTSEL reads 0. -/
def trialLeft (s : State) : Nat :=
  if bootSel s = 0 && s.fw.st = 4 then s.fw.trial - (s.time.now - s.fw.trialAt) / (Config.aclkKHz * 1000) else s.fw.trial

/-- The update record with the trial time left, counted from now on: at a reset the timer may have to stop. -/
def trialSave (s : State) (now : Nat) : FwSt :=
  if s.fw.st = 4 && s.fw.trial != 0 then { s.fw with trial := max 1 (trialLeft s), trialAt := now } else s.fw

/-- Power-on reset of everything but the Bureau (R15, R106, R311), with the bank levels sensed (R328). -/
def powerOn (s : State) (vsel : Nat) : State :=
  let s1 : State :=
    { pending := s.pending
      regs := regsKeep (fldIds (fun f => R_BUR_STAT ≤ f.reg && f.reg ≤ R_BUR_WARRANT_STAT)) s.regs
      bur := s.bur
      flash := s.flash
      otp := s.otp
      fw := trialSave s 0
      env := { temps := s.env.temps, vcore := s.env.vcore, vsram := s.env.vsram, bscan := s.env.bscan }
      free := s.free }
  [0, 1, 2, 3].foldl (fun s b => fset s PIN_BANK_STAT_VSEL b (vsel / 4 ^ b % 4)) s1

/-- POWER_ON_RESET (R106): the banks' sensed levels, two bits a bank. -/
def execPowerOnReset (vsel : Nat) (s : State) : Host.Outcome State Fault Refusal := run true (powerOn s (vsel % 256))

/-- POWER_GOOD_LOSS (R456): the device is held as by a low PORST_N. -/
def execPowerGoodLoss (s : State) : Host.Outcome State Fault Refusal :=
  run true (powerOn s ([0, 1, 2, 3].foldl (fun v b => v + fget s PIN_BANK_STAT_VSEL b * 4 ^ b) 0))

/-- Straps as latched (R312, R313): every pin takes the pull, and the ROM phase starts. -/
def strapLatch (s : State) (sel : Nat) (pull : Bool) : State :=
  let s0 := { s with fw := trialSave s s.time.now }
  let s1 := fsetB (fset s0 SYS_BOOT_STAT_BOOTSEL 0 sel) SYS_BOOT_STAT_PREPULL 0 pull
  let s2 := fsetB s1 SYS_BOOT_STAT_BADSTRAP 0 (5 ≤ sel)
  let s3 := (List.range 96).foldl (fun s n => fset s PIN_CFG_PINCFG n (0x400000 + (if pull then 0x20000 else 0))) s2
  let ph := if sel = 4 then 6 else if sel ≤ 1 then 0 else 5
  bootPhase (setBoot s3 { s3.boot with held := false, rom := !s3.boot.noPair, left := bootSlots sel, first := true }) ph

/-- RESET_RELEASE (R312): the rising edge of PORST_N or WARMRST_N with the straps' levels. -/
def execResetRelease (sel : Nat) (pull : Bool) (s : State) : Host.Outcome State Fault Refusal :=
  run true (if s.boot.held then strapLatch s (sel % 8) pull else s)

/-- A warm reset after which the device restarts at ROM with the straps it has. -/
def warmNow (s : State) : State := strapLatch (warmReset s) (bootSel s) (fgetB s SYS_BOOT_STAT_PREPULL 0)

/-- A warm reset by WARMRST_N going low (`pin`), after which the device is held, or the one that the SYS reset
command asked for, when its delay has passed, after which the device restarts at ROM with the straps it has. -/
def warmCmd (s : State) (pin : Bool) : State :=
  if pin then (if s.boot.held then s else warmReset s)
  else
    match s.boot.resetAt with
    | none => s
    | some t => if t ≤ s.time.now then warmNow s else s

/-- WARM_RESET (R311). -/
def execWarmReset (pin : Bool) (s : State) : Host.Outcome State Fault Refusal := run true (warmCmd s pin)

/-- The clock PLLs first lock in BRINGUP (R310): the tick starts counting. -/
def pllLock (s : State) : State :=
  if s.boot.fw && !s.time.running then
    setTime { s with scr := { s.scr with beatAt := s.time.now } }
      { s.time with running := true, tickStart := s.time.now, tick := 0, pllA := 7, pllB := 7 }
  else s

/-- PLL_LOCK (R310). -/
def execPllLock (s : State) : Host.Outcome State Fault Refusal := run true (pllLock s)

end Machine
end Sys2Proof
end

