-- ==== Sys2Proof/Machine/Mbx.lean ====
section
/-!
DEFINITION. The mailboxes beside their commands (R354 to R357): the windows, doorbells, the
acknowledgement of a response, and the SPI status byte.
-/

namespace Sys2Proof
namespace Machine

/-- Mailbox `m`. -/
def mbx (s : State) (m : Nat) : Mbx := smGet {} s.svc.box m

/-- Writes mailbox `m`. -/
def setMbx (s : State) (m : Nat) (x : Mbx) : State := { s with svc := { s.svc with box := smSet {} m x s.svc.box } }

/-- Replaces the service interface's state. -/
def setSvc (s : State) (x : SvcSt) : State := { s with svc := x }

/-- Places bytes in a window from byte `a`; what would pass its end is lost. -/
def winPut (w : SMap Byte) (a : Nat) (b : List Byte) : SMap Byte :=
  (b.zipIdx).foldl (fun m e => if a + e.2 < 4096 then smSet 0 (a + e.2) e.1 m else m) w

/-- The first `n` bytes of a window from byte `a`. -/
def winGet (w : SMap Byte) (a n : Nat) : List Byte := (List.range n).map (fun i => smGet 0 w (a + i))

/-- A write to a request window (R356): discarded and counted while DOORBELL or BUSY stands. -/
def mbxPut (s : State) (m a : Nat) (b : List Byte) : State :=
  if (fget s MBX_DOORBELL_DB 0).testBit m || (fget s MBX_BUSY_BUSY 0).testBit m then finc s MBX_STAT_WR_DROP 0
  else setMbx s m { mbx s m with req := winPut (mbx s m).req a b }

/-- MBX_REQUEST_WRITE (R356): one write of `b` at byte `a` of the window of mailbox `m`. -/
def execMbxRequestWrite (m a : Nat) (b : List Byte) (s : State) : Host.Outcome State Fault Refusal :=
  reach (m < 16 && a + b.length ≤ 4096) s (mbxPut s m a b)

/-- Mailboxes from the rotating pointer of R361 on. -/
def mbxFrom (p : Nat) : List Nat := (List.range 16).map (fun i => (p + i) % 16)

/-- A write of MBX_DOORBELL (R355, R356, R361): bits already set do nothing; the others ring in the order of
the rotating pointer, which moves past the last of them. -/
def mbxRing (s : State) (v : Nat) : State :=
  let new := (mbxFrom s.svc.ptr).filter (fun m => v.testBit m && !(fget s MBX_DOORBELL_DB 0).testBit m)
  let s1 := new.foldl (fun s m => evtLine (fset s MBX_DOORBELL_DB 0 (fget s MBX_DOORBELL_DB 0 + 2 ^ m)) m) s
  match new.getLast? with
  | none => s1
  | some m => setSvc s1 { s1.svc with order := s1.svc.order ++ new, ptr := (m + 1) % 16 }

/-- MBX_DOORBELL_WRITE (R355). -/
def execMbxDoorbellWrite (v : Nat) (s : State) : Host.Outcome State Fault Refusal := run true (mbxRing s v)

/-- Clears the bits of `v` in a flag field. -/
def clearBits (s : State) (f : Fld) (i v : Nat) : State := fset s f i (fget s f i ^^^ (fget s f i &&& v))

/-- MBX_RSP_ACK (R355): the bits written 1 clear. -/
def execMbxRspAck (v : Nat) (s : State) : Host.Outcome State Fault Refusal :=
  run true (clearBits s MBX_RSP_RDY_RDY 0 v)

/-- The boot ROM or Kaluno serves mailboxes. -/
def mbxServed (s : State) : Bool := s.boot.rom || s.boot.fw

/-- The SPI status byte (R357). -/
def spiStatus (s : State) : Nat :=
  (if mbxServed s then 128 else 0) + (if fget s MBX_RSP_RDY_RDY 0 != 0 then 64 else 0) + (if ringUsed s != 0 then 32 else 0)

/-- SPI_STATUS (R357): the byte is the answer. -/
def execSpiStatus (s : State) : Host.Outcome State Fault Refusal := run true (answer (s, spiStatus s))

end Machine
end Sys2Proof
end

