-- ==== Sys2Proof/Machine/RegMap.lean ====
section
/-!
DEFINITION. The map of register space (R116, R354, R447, R448 and the register index of chapter 19): rows of
registers by block, finding the register behind an address, and the value a read of it shows.
-/

namespace Sys2Proof
namespace Machine

/-- A row of the register index: a register, the offset of its first instance in its block, the distance
between instances, their number, and the instance number as `mul` × block instance + `add` + index. -/
structure RegRow where
  reg : Nat
  base : Nat
  stride : Nat := 8
  count : Nat := 1
  mul : Nat := 1
  add : Nat := 0
  deriving DecidableEq, Repr

/-! ### Places of register space that are no field registers -/

/-- A word of a request window, 512 × mailbox + word (R354). -/
def pREQ : Nat := 200
/-- A word of a response window. -/
def pRSP : Nat := 201
/-- A word of the event ring. -/
def pEVT : Nat := 202
/-- A word of FLT_FIRST. -/
def pFIRST : Nat := 203
/-- A word of the record ring. -/
def pREC : Nat := 204
/-- A word of SCH_DESC, 4 × thread + word. -/
def pDESC : Nat := 205
/-- A word of the warrant window (R374). -/
def pWAR : Nat := 206

/-- The bytes of a register or place. -/
def rowBytes (r : Nat) : Nat := if r < 200 then regBits r / 8 else 8

/-! ### The register index -/

/-- The FIFO registers of `n` FIFOs. -/
def fifoRows (base n mul add : Nat) : List RegRow :=
  [⟨R_FIFO_MODE, base, 0x40, n, mul, add⟩, ⟨R_FIFO_LEVEL, base + 0x08, 0x40, n, mul, add⟩,
   ⟨R_FIFO_PEAK, base + 0x10, 0x40, n, mul, add⟩, ⟨R_FIFO_ERR, base + 0x18, 0x40, n, mul, add⟩,
   ⟨R_FIFO_EVT, base + 0x20, 0x40, n, mul, add⟩, ⟨R_FIFO_CTL, base + 0x28, 0x40, n, mul, add⟩,
   ⟨R_FIFO_WFRAME, base + 0x30, 0x40, n, mul, add⟩, ⟨R_FIFO_SPARE, base + 0x38, 0x40, n, mul, add⟩]

/-- SYS. -/
def rowsSys : List RegRow :=
  [⟨R_SYS_TICK_CFG, 0x100, 8, 1, 0, 0⟩, ⟨R_SYS_TICK_CNT, 0x108, 8, 1, 0, 0⟩, ⟨R_SYS_TICK_OFS, 0x110, 8, 1, 0, 0⟩,
   ⟨R_SYS_TICK_STAT, 0x118, 8, 1, 0, 0⟩, ⟨R_SYS_BOOT_STAT, 0x200, 8, 1, 0, 0⟩, ⟨R_SYS_BOOT_CTL, 0x208, 8, 1, 0, 0⟩,
   ⟨R_SYS_LOAD_FAILS, 0x210, 8, 1, 0, 0⟩, ⟨R_SYS_LOAD_FAILS_SUB, 0x218, 8, 1, 0, 0⟩, ⟨R_SYS_PAIR_MAP, 0x300, 4, 4, 0, 0⟩,
   ⟨R_SYS_PAIR_STAT, 0x320, 4, 5, 0, 0⟩, ⟨R_SYS_SRAM_SECRET, 0x400, 8, 1, 0, 0⟩, ⟨R_SYS_SRAM_ERR, 0x408, 8, 1, 0, 0⟩]

/-- PIN. -/
def rowsPin : List RegRow :=
  [⟨R_PIN_CFG, 0, 4, 96, 0, 0⟩, ⟨R_PIN_CLAIM, 0x200, 4, 96, 0, 0⟩, ⟨R_PIN_OUT, 0x1000, 0x10, 4, 0, 0⟩,
   ⟨R_PIN_OE, 0x1004, 0x10, 4, 0, 0⟩, ⟨R_PIN_IN, 0x1008, 0x10, 4, 0, 0⟩, ⟨R_PIN_BANK_STAT, 0x100C, 0x10, 4, 0, 0⟩,
   ⟨R_PIN_LOADSTAT, 0x2000, 4, 1, 0, 0⟩]

/-- The rows of FLT_UNIT and FLT_UNIT_SUB: KIND, first offset, IDs. -/
def rowsUnit : List RegRow :=
  [(0, 0x10000, 96), (4, 0x11000, 32), (6, 0x12000, 8), (10, 0x13000, 1), (8, 0x14000, 4096), (7, 0x20000, 16384)].flatMap
    (fun e => [⟨R_FLT_UNIT, e.2.1, 4, e.2.2, 0, unitIx e.1 0⟩, ⟨R_FLT_UNIT_SUB, e.2.1 + 0x40000, 4, e.2.2, 0, unitIx e.1 0⟩])

/-- FLT. -/
def rowsFlt : List RegRow :=
  [⟨R_FLT_STATUS, 0, 8, 1, 0, 0⟩, ⟨R_FLT_MODE, 8, 8, 1, 0, 0⟩, ⟨R_FLT_CFG, 0x10, 8, 1, 0, 0⟩, ⟨R_FLT_STATE, 0x18, 8, 1, 0, 0⟩,
   ⟨pFIRST, 0x20, 8, 4, 0, 0⟩, ⟨R_FLT_REC_IDX, 0x40, 8, 1, 0, 0⟩, ⟨R_FLT_SRC, 0x100, 8, 64, 0, 0⟩, ⟨R_FLT_INJ, 0x400, 8, 64, 0, 0⟩,
   ⟨R_FLT_RAISE_ADDR, 0x800, 8, 1, 0, 0⟩, ⟨R_FLT_RAISE, 0x808, 8, 1, 0, 0⟩, ⟨pREC, 0x8000, 8, 4096, 0, 0⟩] ++ rowsUnit

/-- SCR. -/
def rowsScr : List RegRow := [⟨R_SCR_CFG, 0, 8, 1, 0, 0⟩, ⟨R_SCR_STAT, 8, 8, 1, 0, 0⟩, ⟨R_SCR_ERR, 0x10, 8, 1, 0, 0⟩]

/-- BST. -/
def rowsBst : List RegRow :=
  [⟨R_BST_CFG, 0, 8, 1, 0, 0⟩, ⟨R_BST_CAB, 0x100, 8, 100, 0, 0⟩, ⟨R_BST_PASS_TICK, 0x1000, 8, 100, 0, 0⟩]

/-- CFG. -/
def rowsCfg : List RegRow :=
  [⟨R_CFG_CAB_MAP, 0, 4, 96, 0, 0⟩, ⟨R_CFG_LOAD_CTL, 0x1000, 8, 1, 0, 0⟩, ⟨R_CFG_LOAD_STAT, 0x1008, 8, 1, 0, 0⟩,
   ⟨R_CFG_LOAD_ID, 0x1010, 8, 1, 0, 0⟩, ⟨R_CFG_STAGE, 0x1018, 8, 1, 0, 0⟩, ⟨R_CFG_COMPAT, 0x1020, 8, 1, 0, 0⟩,
   ⟨R_CFG_KEY_STAT, 0x1028, 8, 1, 0, 0⟩, ⟨R_CFG_IMG_ID, 0x1100, 8, 96, 0, 0⟩]

/-- SCH. -/
def rowsSch : List RegRow :=
  [⟨R_SCH_CFG, 0, 8, 1, 0, 0⟩, ⟨R_SCH_POST, 8, 8, 1, 0, 0⟩, ⟨R_SCH_STAT, 0x10, 8, 1, 0, 0⟩, ⟨R_SCH_EVT_BIND, 0x1000, 4, 64, 0, 0⟩,
   ⟨pDESC, 0x20000, 8, 16384, 0, 0⟩, ⟨R_SCH_FLOW, 0x40000, 4, 16384, 0, 0⟩]

/-- The windows of the 16 mailboxes. -/
def rowsWin : List RegRow :=
  (List.range 16).flatMap (fun m => [⟨pREQ, 0x10000 + 0x2000 * m, 8, 512, 0, 512 * m⟩, ⟨pRSP, 0x11000 + 0x2000 * m, 8, 512, 0, 512 * m⟩])

/-- MBX. -/
def rowsMbx : List RegRow :=
  [⟨R_MBX_DOORBELL, 0, 8, 1, 0, 0⟩, ⟨R_MBX_RSP_RDY, 8, 8, 1, 0, 0⟩, ⟨R_MBX_BUSY, 0x10, 8, 1, 0, 0⟩, ⟨R_MBX_STAT, 0x18, 8, 1, 0, 0⟩,
   ⟨R_MBX_EVT_IDX, 0x20, 8, 1, 0, 0⟩, ⟨R_MBX_EVT_CTL, 0x28, 8, 1, 0, 0⟩, ⟨R_MBX_CFG, 0x100, 8, 16, 0, 0⟩] ++ rowsWin ++
  [⟨pEVT, 0x40000, 8, 8192, 0, 0⟩]

/-- A stop; an edge stop has no NOC_RTR_CTL and sixteen bookings. -/
def rowsStop (edge : Bool) : List RegRow :=
  (if edge then [] else [⟨R_NOC_RTR_CTL, 0, 8, 1, 1, 0⟩]) ++
  [⟨R_NOC_RTR_ERR, 8, 8, 1, 1, 0⟩, ⟨R_NOC_LINK_LOAD, 0x10, 8, 1, 1, 0⟩, ⟨R_NOC_STOP_STAT, 0x18, 8, 1, 1, 0⟩,
   ⟨R_NOC_STOP_EVT, 0x20, 8, 1, 1, 0⟩, ⟨R_NOC_BOOK, 0x100, 8, if edge then 16 else 8, 16, 0⟩]

/-- What lies at the end of the edge block. -/
def rowsNocEnd : List RegRow := [⟨R_NOC_CFG, 0xF0000, 8, 1, 0, 0⟩, ⟨R_NOC_RING_STAT, 0xF0100, 8, 20, 0, 0⟩]

/-- CAB. -/
def rowsCab : List RegRow :=
  [⟨R_CAB_STATE, 0, 8, 1, 1, 0⟩, ⟨R_CAB_PLAN_SEL, 8, 8, 1, 1, 0⟩, ⟨R_CAB_DRAWER_VALID, 0x10, 8, 1, 1, 0⟩, ⟨R_CAB_GAP, 0x18, 8, 1, 1, 0⟩,
   ⟨R_CAB_DOOR_STAT, 0x20, 8, 1, 1, 0⟩, ⟨R_CAB_CFG_FAULT, 0x28, 8, 1, 1, 0⟩, ⟨R_CAB_CAPTURE_CTL, 0x30, 8, 1, 1, 0⟩,
   ⟨R_CAB_CAPTURE_TICK, 0x38, 8, 1, 1, 0⟩, ⟨R_CAB_PLAN_STAT, 0x48, 8, 1, 1, 0⟩, ⟨R_CAB_STARTUP, 0x50, 8, 1, 1, 0⟩,
   ⟨R_CAB_PLAN_A, 0x100, 4, 32, 32, 0⟩, ⟨R_CAB_PLAN_B, 0x180, 4, 32, 32, 0⟩, ⟨R_CAB_ARITH_STAT, 0x400, 8, 1, 1, 0⟩,
   ⟨R_CAB_SCALE_EVENTS, 0x408, 8, 1, 1, 0⟩, ⟨R_CAB_SCALE_SUB, 0x410, 8, 1, 1, 0⟩, ⟨R_CAB_RAM_CE, 0x420, 8, 1, 1, 0⟩,
   ⟨R_CAB_RAM_CE_SUB, 0x428, 8, 1, 1, 0⟩, ⟨R_CAB_RAM_LAST, 0x430, 8, 1, 1, 0⟩, ⟨R_CAB_RAM_SPARE, 0x438, 8, 1, 1, 0⟩] ++
  fifoRows 0x1000 16 128 0

/-- JPT. -/
def rowsJpt : List RegRow :=
  [⟨R_JPT_LINK_CFG, 0, 0x40, 4, 4, 0⟩, ⟨R_JPT_LINK_STAT, 8, 0x40, 4, 4, 0⟩, ⟨R_JPT_LINK_REL, 0x10, 0x40, 4, 4, 0⟩,
   ⟨R_JPT_SYSREF, 0x100, 8, 1, 1, 0⟩, ⟨R_JPT_PATH_CFG, 0x200, 0x10, 4, 4, 0⟩, ⟨R_JPT_LANE_ERR, 0x300, 8, 8, 8, 0⟩,
   ⟨R_JPT_PATH_ERR, 0x400, 8, 4, 4, 0⟩] ++ fifoRows 0x1000 8 16 16384

/-- CPT. -/
def rowsCpt : List RegRow :=
  [⟨R_CPT_PORT_CFG, 0, 0x100, 8, 0, 0⟩, ⟨R_CPT_PORT_CNT, 8, 0x100, 8, 0, 0⟩, ⟨R_CPT_TXTS, 0x10, 0x100, 8, 0, 0⟩,
   ⟨R_CPT_TOD_SEC, 0x800, 8, 1, 0, 0⟩, ⟨R_CPT_TOD_NS, 0x808, 8, 1, 0, 0⟩, ⟨R_CPT_TOD_INC, 0x810, 8, 1, 0, 0⟩,
   ⟨R_CPT_TOD_STEP, 0x818, 8, 1, 0, 0⟩, ⟨R_CPT_SYNCE, 0x840, 8, 2, 0, 0⟩]

/-- LEX. -/
def rowsLex : List RegRow :=
  [⟨R_LEX_DATA_LO, 0, 8, 1, 0, 0⟩, ⟨R_LEX_DATA_HI, 8, 8, 1, 0, 0⟩, ⟨R_LEX_CMD, 0x10, 8, 1, 0, 0⟩, ⟨R_LEX_ERR, 0x18, 8, 1, 0, 0⟩,
   ⟨R_LEX_PORT_CFG, 0x100, 8, 25, 0, 0⟩]

/-- QMG. -/
def rowsQmg : List RegRow :=
  [⟨R_QMG_CFG, 0, 8, 1, 0, 0⟩, ⟨R_QMG_POOL, 8, 8, 1, 0, 0⟩, ⟨R_QMG_POOL_BASE, 0x10, 8, 1, 0, 0⟩, ⟨R_QMG_LINK_CFG, 0x100, 0x10, 16, 0, 0⟩,
   ⟨R_QMG_LINK_STAT, 0x108, 0x10, 16, 0, 0⟩]

/-- GDM. -/
def rowsGdm : List RegRow :=
  [⟨R_GDM_CFG, 0, 8, 1, 0, 0⟩, ⟨R_GDM_STAT, 8, 8, 1, 0, 0⟩, ⟨R_GDM_CTL, 0x10, 8, 1, 0, 0⟩, ⟨R_GDM_ERR, 0x18, 8, 1, 0, 0⟩,
   ⟨R_GDM_LAST, 0x20, 8, 1, 0, 0⟩, ⟨R_GDM_DEV_ERR, 0x100, 8, 5, 0, 0⟩]

/-- DMA. -/
def rowsDma : List RegRow :=
  [⟨R_DMA_CH_CFG, 0, 0x40, 16, 0, 0⟩, ⟨R_DMA_RING_BASE, 8, 0x40, 16, 0, 0⟩, ⟨R_DMA_IDX, 0x10, 0x40, 16, 0, 0⟩,
   ⟨R_DMA_CH_STAT, 0x18, 0x40, 16, 0, 0⟩, ⟨R_DMA_CH_CTL, 0x20, 0x40, 16, 0, 0⟩] ++ fifoRows 0x1000 16 0 32768

/-- SPN. -/
def rowsSpn : List RegRow :=
  [⟨R_SPN_SYS, 0, 8, 1, 0, 0⟩, ⟨R_SPN_TICK, 8, 8, 1, 0, 0⟩, ⟨R_SPN_TICK_STAT, 0x10, 8, 1, 0, 0⟩, ⟨R_SPN_RCLK, 0x18, 8, 1, 0, 0⟩,
   ⟨R_SPN_LINK_CFG, 0x100, 0x20, 8, 0, 0⟩, ⟨R_SPN_LINK_STAT, 0x108, 0x20, 8, 0, 0⟩, ⟨R_SPN_LINK_ERR, 0x110, 0x20, 8, 0, 0⟩,
   ⟨R_SPN_CAL, 0x118, 0x20, 8, 0, 0⟩, ⟨R_SPN_ROUTE, 0x1000, 4, 1024, 0, 0⟩]

/-- PCI. -/
def rowsPci : List RegRow := [⟨R_PCI_WIN0, 0, 8, 1, 0, 0⟩, ⟨R_PCI_WIN1, 8, 8, 1, 0, 0⟩]

/-- BUR (R374). -/
def rowsBur : List RegRow :=
  [⟨R_BUR_STAT, 0, 8, 1, 0, 0⟩, ⟨R_BUR_TRAIL, 8, 8, 1, 0, 0⟩, ⟨R_BUR_CFG, 0x10, 8, 1, 0, 0⟩, ⟨R_BUR_WARRANT_STAT, 0x18, 8, 1, 0, 0⟩,
   ⟨pWAR, 0x80000, 8, 512, 0, 0⟩, ⟨R_BUR_WARRANT_CTL, 0x81000, 8, 1, 0, 0⟩]

/-- The block behind 1 MiB block `b` of register space and offset `o` in it: its rows, its instance and the
offset from its base; none where no block is listed (R448). -/
def blockAt (b o : Nat) : Option (List RegRow × Nat × Nat) :=
  if b = 0 then some (rowsSys, 0, o) else if b = 1 then some ([], 0, o) else if b = 2 then some (rowsPin, 0, o)
  else if b = 3 then some (rowsFlt, 0, o) else if b = 4 then some (rowsScr, 0, o) else if b = 5 then some (rowsBst, 0, o)
  else if b = 6 then some (rowsCfg, 0, o) else if b = 7 then some (rowsSch, 0, o) else if b = 8 then some (rowsMbx, 0, o)
  else if 16 ≤ b ∧ b < 26 then some (if o < 0xA0000 then rowsStop false else [], 10 * (b - 16) + o / 0x10000, o % 0x10000)
  else if b = 26 then some (if o < 0xA0000 then (rowsStop true, 100 + o / 0x4000, o % 0x4000) else (rowsNocEnd, 0, o))
  else if 256 ≤ b ∧ b < 356 then some (rowsCab, b - 256, o)
  else if 512 ≤ b ∧ b < 520 then some (rowsJpt, b - 512, o)
  else if b = 528 then some (rowsCpt, 0, o) else if b = 529 then some (rowsLex, 0, o) else if b = 530 then some (rowsQmg, 0, o)
  else if b = 544 then some (rowsGdm, 0, o) else if b = 545 then some (rowsDma, 0, o) else if b = 560 then some (rowsSpn, 0, o)
  else if b = 576 then some (rowsPci, 0, o) else if b = 752 then some (rowsBur, 0, o)
  else none

/-- A register instance with the byte of it that an offset names. -/
structure RegAt where
  reg : Nat
  inst : Nat
  byte : Nat
  deriving DecidableEq, Repr

/-- The register that offset `o` of a block's rows lies in. -/
def rowFind (blk o : Nat) : List RegRow → Option RegAt
  | [] => none
  | r :: l =>
    let k := (o - r.base) / r.stride
    let y := (o - r.base) % r.stride
    if r.base ≤ o && k < r.count && y < rowBytes r.reg then some ⟨r.reg, r.mul * blk + r.add + k, y⟩ else rowFind blk o l

/-- The start of register space (R447). -/
def regBase : Nat := 0x100000000

/-- The register behind an address of register space, the outer none for an unlisted block. -/
def regAt (a : Nat) : Option (Option RegAt) :=
  (blockAt ((a - regBase) / 0x100000) ((a - regBase) % 0x100000)).map (fun e => rowFind e.2.1 e.2.2 e.1)

/-! ### What a read shows -/

/-- Ticks left of SAFE's quiet period (FLT_STATE.QUIET_LEFT). -/
def quietLeft (s : State) : Nat :=
  if fget s FLT_STATE_STATE 0 = 1 then
    s.flt.safeSrc.foldl (fun n x =>
      let l := smGet 0 s.flt.last x
      max n (if l = 0 then 0 else l - 1 + fget s FLT_CFG_QUIET 0 - s.time.edges)) 0
  else 0

/-- A mask with bit `k` set where `p k`. -/
def maskOf (n : Nat) (p : Nat → Bool) : Nat := (List.range n).foldl (fun m k => if p k then m + 2 ^ k else m) 0

/-- Sources with a pending event (FLT_STATUS). -/
def fltPend (s : State) : Nat :=
  maskOf 64 (fun k => fgetB s FLT_SRC_PEND_HALT k || fgetB s FLT_SRC_PEND_F k || fgetB s FLT_SRC_PEND_U k || fgetB s FLT_SRC_PEND_C k)

/-- Fields of FIFO_LEVEL (R127). -/
def fifoView (s : State) (f : Fld) (k : Nat) : Nat :=
  let x := fifo s k
  if f = FIFO_LEVEL_OPEN then (if x.wopen.isSome then 1 else 0)
  else if f = FIFO_LEVEL_SKIP then (if x.skip then 1 else 0)
  else if f = FIFO_LEVEL_RBANK then x.rbank
  else if f = FIFO_LEVEL_ITEMS then fifoItems x
  else fifoWords x

/-- Fields that show fuses (R293, R303). -/
def fuseView (s : State) (f : Fld) : Nat :=
  if f = CFG_KEY_STAT_SVN_MIN then s.otp.svn
  else if f = CFG_KEY_STAT_ENC_REQ then (if s.otp.encReq then 1 else 0)
  else if f = CFG_KEY_STAT_REVOKED then s.otp.revoked
  else if f = CFG_KEY_STAT_PRESENT then maskOf 4 (fun k => !(smGet [] s.otp.digest k).isEmpty)
  else if f = CFG_COMPAT_FORBID then (if s.otp.compatForbid then 1 else 0)
  else fget s f 0

/-- The value that a read of a field shows: what it holds, or what it is a view of. A WO field reads zero
(R5). -/
def fview (s : State) (f : Fld) (i : Nat) : Nat :=
  if f.acc = .wo then 0
  else if f = SYS_TICK_CNT_COUNT then s.time.tick
  else if f = SYS_TICK_CFG_OFS_SHIFT then ofsShift (tickLen s)
  else if f.reg = R_FIFO_LEVEL then fifoView s f i
  else if f.reg = R_CFG_KEY_STAT ∨ f = CFG_COMPAT_FORBID then fuseView s f
  else if f = PIN_IN_LEVEL then pinInRead s i
  else if f = CPT_TOD_SEC_SEC then todSec s
  else if f = FLT_STATUS_PEND then fltPend s
  else if f = FLT_STATE_QUIET_LEFT then quietLeft s
  else if f = FLT_UNIT_RECENT then min 8 (recent s i).length
  else fget s f i

/-- The fields of a register. -/
def fldsOf (r : Nat) : List Fld := allFlds.filter (fun f => f.reg = r)

/-- The whole value of a register, without what a read does. -/
def regView (s : State) (r i : Nat) : Nat := (fldsOf r).foldl (fun n f => n + fview s f i % 2 ^ f.width * 2 ^ f.lo) 0

end Machine
end Sys2Proof
end

