-- ==== Sys2Proof/Machine/Bus.lean ====
section
/-!
DEFINITION. Accesses by address (R5 to R9, R447 to R451): reading and writing registers with the effect each
register's rules give, the address map, SPI transfers to the MBX block, and PCIe BAR0.

Masters are numbered: 0 to 3 a control pair in machine mode, by logical pair; 4 a control pair in another
mode; 5 PCIe; 6 SPI; 7 a DMA mover; 8 a remote device; 9 JTAG.
-/

namespace Sys2Proof
namespace Machine

/-- A control pair in machine mode. -/
def inMachineMode (m : Nat) : Bool := m < 4

/-- A control pair. -/
def isControlPair (m : Nat) : Bool := m ≤ 4

/-! ### Reads of registers -/

/-- Clears the RC fields that lie wholly in bits `lo` to `lo` + `n` - 1 of a register (R8, R9). -/
def rcClear (s : State) (r i lo n : Nat) : State :=
  ((fldsOf r).filter (fun f => f.acc = .rc && lo ≤ f.lo && f.lo + f.width ≤ lo + n)).foldl (fun s f => fset s f i 0) s

/-- The words of places that are no field registers (R354, R341). -/
def placeView (s : State) (r i : Nat) : Nat :=
  if r = pREQ then leNat (winGet (mbx s (i / 512)).req (8 * (i % 512)) 8)
  else if r = pRSP then leNat (winGet (mbx s (i / 512)).rsp (8 * (i % 512)) 8)
  else if r = pEVT then (smGet 0 s.evt.ring i).toNat
  else if r = pDESC then thrBits (thr s (i / 4)) / 2 ^ (64 * (i % 4)) % 2 ^ 64
  else 0

/-- A read of bits `lo` to `lo` + `n` - 1 of a register: the state after what the read does, and the bits. -/
def regRead (s : State) (r i lo n : Nat) : State × Nat :=
  let q : State × Nat :=
    if r = pREC then ((recRead s i).1, (recRead s i).2.toNat)
    else if r = pFIRST then ((firstRead s i).1, (firstRead s i).2.toNat)
    else if 200 ≤ r then (s, placeView s r i)
    else if r = R_FLT_SRC then srcRead s i (regView s r i)
    else if r = R_SYS_TICK_CNT ∧ n = 64 then tickCntRead s
    else if r = R_CPT_TOD_SEC ∧ n = 64 then todRead s
    else if r = R_CPT_TXTS then
      (if n = 64 then txtsRead s i
       else if lo = 0 then txtsReadLow s i
       else ((txtsReadHigh s i).1, (txtsReadHigh s i).2 * 2 ^ 32))
    else if r = R_FIFO_PEAK then fifoPeakRead s i
    else if r = R_PIN_IN then (drawFree s, regView s r i)
    else (rcClear s r i lo n, regView s r i)
  (q.1, q.2 / 2 ^ lo % 2 ^ n)

/-! ### Writes of registers -/

/-- Writes one field by its access code (R5). -/
def fldPut (s : State) (f : Fld) (i v : Nat) : State :=
  match f.acc with
  | .rw => fset s f i v
  | .rws => fset s f i v
  | .w1c => fset s f i (fget s f i ^^^ (fget s f i &&& v))
  | .w1s => fset s f i (fget s f i ||| v)
  | _ => s

/-- Writes every field of a register by its access code. -/
def regPutPlain (s : State) (r i v : Nat) : State := (fldsOf r).foldl (fun s f => fldPut s f i (fldOf f v)) s

/-- Writes the W1C fields of a register only. -/
def regPutW1c (s : State) (r i v : Nat) : State :=
  ((fldsOf r).filter (fun f => f.acc = .w1c)).foldl (fun s f => fldPut s f i (fldOf f v)) s

/-- SYS_TICK_CFG (R20, R21, R26): SRC 0b11 is refused; a TICK_LEN that differs from the one to be in force is a
TICK_LEN write. Where one of these two is refused, the other fields of the same write still take effect: R13 keeps
the old length and says nothing of the fields beside it (DESIGN CHOICE, entry 17). -/
def tickCfgPut (s : State) (v : Nat) : State :=
  let s1 := fset (fset s SYS_TICK_CFG_TICK_OUT_EN 0 (fldOf SYS_TICK_CFG_TICK_OUT_EN v)) SYS_TICK_CFG_TOL 0 (fldOf SYS_TICK_CFG_TOL v)
  let s2 := if fldOf SYS_TICK_CFG_SRC v = 3 then s1 else tickSrcWrite s1 (fldOf SYS_TICK_CFG_SRC v)
  let len := fldOf SYS_TICK_CFG_TICK_LEN v
  if len = s2.time.lenNext.getD (tickLen s2) then s2 else tickLenWrite s2 len

/-- A mode write of router `st` (R161, R437): a test that ends frees the BIST engine's slice. -/
def routerMode (s : State) (st mode : Nat) : State :=
  let s1 := rtrMode s st mode
  (ringsOf st).foldl (fun s r =>
    (List.range 100).foldl (fun s b =>
      if (bunit s (200 + b)).run && rtrState s b != rtTEST && (ringsOf b).contains r then bistAbort s (200 + b) else s) s) s1

/-- ROUTER_MODE_WRITE (R161). -/
def execRouterModeWrite (st mode : Nat) (s : State) : Host.Outcome State Fault Refusal :=
  reach (st < 100) s (routerMode s st (mode % 4))

/-- GDM_CFG (R227): only before training; an option outside the table is refused. -/
def gdmCfgPut (s : State) (v : Nat) : State :=
  let h := fldOf GDM_CFG_PATROL_H v
  let r := fldOf GDM_CFG_RATE v
  if s.gdr.trained || fgetB s GDM_STAT_TRAINED 0 || fldOf GDM_CFG_DENS v = 3 || h < 1 || 168 < h || r < 20 || 32 < r then fset s GDM_CTL_REFUSED 0 1
  else regPutPlain s R_GDM_CFG 0 v

/-- GDM_CTL (R235, R237). -/
def gdmCtlPut (s : State) (v : Nat) : State :=
  let s1 := fset (regPutW1c s R_GDM_CTL 0 v) GDM_CTL_DEV 0 (fldOf GDM_CTL_DEV v)
  let s2 := if fldOf GDM_CTL_FAIL v = 1 then
      (if fldOf GDM_CTL_DEV v < 5 then gDeclare s1 (fldOf GDM_CTL_DEV v) else fset s1 GDM_CTL_REFUSED 0 1)
    else s1
  if fldOf GDM_CTL_REBUILD v = 1 then gRebuild s2 else s2

/-- DMA_CH_CFG and DMA_RING_BASE (R249): refused while EN is 1, which sets REFUSED
whatever is written to it (R7); EN set to 1 begins a new unbooked stream. -/
def dmaCfgPut (s : State) (r c v : Nat) : State :=
  if fgetB s DMA_CH_CFG_EN c then
    fset s DMA_CH_CFG_REFUSED c 1
  else
    let s1 := regPutPlain s r c v
    if fgetB s1 DMA_CH_CFG_EN c then setDmaCh s1 c { dmaCh s1 c with rst := true } else s1

/-- DMA_CH_CTL (R246). -/
def dmaCtlPut (s : State) (c v : Nat) : State :=
  let s1 := if fldOf DMA_CH_CTL_ABORT v = 1 then dmaAbort s c 0 [] false else s
  if fldOf DMA_CH_CTL_RESUME v = 1 then fset s1 DMA_CH_STAT_HALT c 0 else s1

/-- QMG_CFG (R220). -/
def qmgCfgPut (s : State) (v : Nat) : State :=
  budgetDlWrite (fset (regPutW1c s R_QMG_CFG 0 v) QMG_CFG_COPY_FLOW 0 (fldOf QMG_CFG_COPY_FLOW v)) (fldOf QMG_CFG_BUDGET_DL v)

/-- JPT_SYSREF (R183). -/
def jptSysrefPut (s : State) (j v : Nat) : State :=
  let s1 := fset (regPutW1c s R_JPT_SYSREF j v) JPT_SYSREF_TOL j (fldOf JPT_SYSREF_TOL v)
  if fldOf JPT_SYSREF_ARM v = 1 then jptArm s1 j else s1

/-- CFG_LOAD_CTL (R295, R302, R309). -/
def loadCtlPut (s : State) (v : Nat) : State :=
  let s1 := regPutW1c s R_CFG_LOAD_CTL 0 v
  let n := fldOf CFG_LOAD_CTL_STAGED v
  let s2 := if fldOf CFG_LOAD_CTL_ABORT v = 1 then loadAbort s1 else s1
  if fldOf CFG_LOAD_CTL_GO v = 1 then (if fldOf CFG_LOAD_CTL_COMPAT v = 1 then compatGo s2 n else loadGo s2 n)
  else if loadBusy s2 then s2 else fset s2 CFG_LOAD_CTL_STAGED 0 (min n 67108864)

/-- SYS_BOOT_CTL (R316, R329). -/
def bootCtlPut (s : State) (v : Nat) : State :=
  let s1 := fset (fset s SYS_BOOT_CTL_LCODE 0 (fldOf SYS_BOOT_CTL_LCODE v)) SYS_BOOT_CTL_CAUSE 0 (fldOf SYS_BOOT_CTL_CAUSE v)
  if fldOf SYS_BOOT_CTL_FAIL v = 1 then bootFailWrite s1 v
  else if fldOf SYS_BOOT_CTL_DONE v = 1 then bootDone s1 else s1

/-- PIN_OUT and PIN_OE of bank `b` (R328). -/
def pinBankPut (s : State) (r b v : Nat) : State :=
  (List.range 24).foldl (fun s i => pinTrack s (24 * b + i)) (regPutPlain s r b v)

/-- FLT_CFG (R417): a zero leaves its timer unchanged. -/
def fltCfgPut (s : State) (v : Nat) : State :=
  let w := fldOf FLT_CFG_LATCH_WIN v
  let q := fldOf FLT_CFG_QUIET v
  let s1 := if w = 0 then s else fset s FLT_CFG_LATCH_WIN 0 w
  if q = 0 then s1 else fset s1 FLT_CFG_QUIET 0 q

/-- FLT_INJ of source `k` (R411, R412): the fields are the arm's; an armed injection keeps its own. -/
def fltInjPut (s : State) (k v : Nat) : State :=
  let s1 := regPutW1c s R_FLT_INJ k v
  if fldOf FLT_INJ_STOP v = 1 then fset s1 FLT_INJ_ACTIVE k 0
  else if fldOf FLT_INJ_ARM v = 1 then
    injArm s1 k (fldOf FLT_INJ_CHECKER v) (fldOf FLT_INJ_COUNT v) (fldOf FLT_INJ_CONT v = 1) (fldOf FLT_INJ_DOUBLE v = 1)
  else if fgetB s1 FLT_INJ_ACTIVE k then s1
  else fstore s1 [FLT_INJ_CONT, FLT_INJ_DOUBLE, FLT_INJ_CHECKER, FLT_INJ_COUNT] k v

/-- The meaning of a submitted warrant by the ORDER in the window (R392). -/
def burSubmit (s : State) (len : Nat) : State :=
  let o := leAt (winBytes s len) 0 2
  if o = 2 then warSubmit s 2 len warBegin else if o = 3 then warSubmit s 3 len warData
  else if o = 4 then warSubmit s 4 len warClear else if o = 5 then warSubmit s 5 len warArchive
  else if o = 6 then warSubmit s 6 len warNow else warSubmit s 1 len warParam

/-- Registers of cabinets and FIFOs whose writes have rules of their own. -/
def regPutCab (s : State) (m r i v : Nat) : Option State :=
  if r = R_CAB_SCALE_SUB then some (fsub s CAB_SCALE_EVENTS_COUNT i (fldOf CAB_SCALE_SUB_AMOUNT v))
  else if r = R_CAB_RAM_CE_SUB then some (fsub s CAB_RAM_CE_COUNT i (fldOf CAB_RAM_CE_SUB_AMOUNT v))
  else if r = R_CAB_RAM_LAST then some (if fldOf CAB_RAM_LAST_VALID v = 1 then ramLastClear s i else s)
  else if r = R_CAB_PLAN_SEL then some (planSelWrite s i v)
  else if r = R_CAB_CAPTURE_CTL then some (captureWrite s i v (inMachineMode m))
  else if r = R_FIFO_MODE then some (fifoOrderReq (regPutW1c s r i v) i (fldOf FIFO_MODE_ORDER_REQ v))
  else if r = R_FIFO_CTL then some (if v % 2 = 1 then fifoFlush s i else s)
  else if r = R_FIFO_WFRAME then some s
  else none

/-- Registers of the network, the ports and the memory. -/
def regPutPort (s : State) (r i v : Nat) : Option State :=
  if r = R_NOC_RTR_CTL then some (routerMode (regPutW1c s r i v) i (fldOf NOC_RTR_CTL_MODE v))
  else if r = R_NOC_CFG then
    some (nocCfg (regPutW1c s r i v) (fldOf NOC_CFG_REORDER_TO v) (fldOf NOC_CFG_DRAIN v) (fldOf NOC_CFG_REQ_TO v))
  else if r = R_JPT_LINK_CFG then some (jptLinkWrite s (i / 4) (i % 4) v)
  else if r = R_JPT_PATH_CFG then some (jptPathWrite s (i / 4) (i % 4) v)
  else if r = R_JPT_SYSREF then some (jptSysrefPut s i v)
  else if r = R_CPT_PORT_CFG then some (cptCfgWrite s i v)
  else if r = R_CPT_TOD_STEP then some (todStep s v)
  else if r = R_LEX_CMD then some (lexCmd s (fldOf LEX_CMD_OP v) (fldOf LEX_CMD_LOC v) [])
  else if r = R_LEX_PORT_CFG then some (lexPortWrite s i v)
  else if r = R_QMG_CFG then some (qmgCfgPut s v)
  else if r = R_QMG_POOL then some (poolWrite s false (fldOf QMG_POOL_CELLS v))
  else if r = R_QMG_POOL_BASE then some (poolWrite s true (fldOf QMG_POOL_BASE_BASE v))
  else if r = R_QMG_LINK_CFG then
    some (qmLinkWrite (regPutW1c s r i v) i (fldOf QMG_LINK_CFG_EN v = 1) (fldOf QMG_LINK_CFG_MAXB v))
  else if r = R_GDM_CFG then some (gdmCfgPut s v)
  else if r = R_GDM_CTL then some (gdmCtlPut s v)
  else if r = R_DMA_CH_CFG ∨ r = R_DMA_RING_BASE then some (dmaCfgPut s r i v)
  else if r = R_DMA_CH_CTL then some (dmaCtlPut s i v)
  else if r = R_SPN_SYS then some (spSysWrite s v)
  else if r = R_SPN_LINK_CFG then some (spLinkWrite s i v)
  else if r = R_SPN_ROUTE then some (spRouteWrite s i v)
  else none

/-- Registers of the control side. -/
def regPutCtl (s : State) (m r i v : Nat) : Option State :=
  if r = R_SYS_TICK_CFG then some (tickCfgPut s v)
  else if r = R_CFG_LOAD_CTL then some (loadCtlPut s v)
  else if r = R_CFG_COMPAT then some (compatCfg s v)
  else if r = R_SYS_BOOT_CTL then some (bootCtlPut s v)
  else if r = R_SYS_LOAD_FAILS_SUB then some (fsub s SYS_LOAD_FAILS_COUNT 0 (fldOf SYS_LOAD_FAILS_SUB_AMOUNT v))
  else if r = R_PIN_CFG then some (pinCfgWrite s i v)
  else if r = R_PIN_CLAIM then some (pinClaimWrite s i v)
  else if r = R_PIN_OUT ∨ r = R_PIN_OE then some (pinBankPut s r i v)
  else if r = R_SYS_PAIR_MAP then some (if inMachineMode m then pairMap s i v else s)
  else if r = R_SCH_CFG then some (schPreempt (regPutPlain s r i v))
  else if r = R_SCH_POST then some (schPost s (fldOf SCH_POST_THREAD v))
  else if r = R_MBX_DOORBELL then some (mbxRing s (fldOf MBX_DOORBELL_DB v))
  else if r = R_MBX_EVT_IDX then some (evtCi s (fldOf MBX_EVT_IDX_CI v))
  else if r = R_MBX_CFG then
    let s1 := regPutPlain s r i v
    some (if isControlPair m then fset s1 MBX_CFG_GMASK i (fldOf MBX_CFG_GMASK v) else s1)
  else if r = R_BUR_WARRANT_CTL then some (burSubmit s (fldOf BUR_WARRANT_CTL_SUBMIT v))
  else if r = R_FLT_CFG then some (fltCfgPut s v)
  else if r = R_FLT_REC_IDX then some (recCi s (fldOf FLT_REC_IDX_CI v))
  else if r = R_FLT_SRC then some (srcAck s i v)
  else if r = R_FLT_INJ then some (fltInjPut s i v)
  else if r = R_FLT_RAISE ∨ r = R_FLT_RAISE_ADDR then
    some (if !inMachineMode m then s else if r = R_FLT_RAISE ∧ fldOf FLT_RAISE_GO v = 1 then raiseGo s m v else regPutPlain s r i v)
  else if r = R_FLT_UNIT_SUB then some (fsub s FLT_UNIT_RCNT i (fldOf FLT_UNIT_SUB_AMOUNT v))
  else if r = R_SCR_CFG then some (scrCfg s v)
  else if r = R_BST_CFG then some (bstCfg s v)
  else none

/-- A write of a whole register by master `m`. -/
def regPut (s : State) (m r i v : Nat) : State :=
  (regPutCab s m r i v).getD ((regPutPort s r i v).getD ((regPutCtl s m r i v).getD (regPutPlain s r i v)))

/-- The value a register is written with where bits `lo` to `lo` + `n` - 1 are written `v` (R9): a field outside
them keeps what it holds if it is RW, and is written zero otherwise. -/
def regMerge (s : State) (r i lo n v : Nat) : Nat :=
  let old := (fldsOf r).foldl (fun x f => if f.acc = .rw || f.acc = .rws then x + fget s f i % 2 ^ f.width * 2 ^ f.lo else x) 0
  old % 2 ^ lo + v % 2 ^ n * 2 ^ lo + old / 2 ^ (lo + n) * 2 ^ (lo + n)

/-- A write to a place that is no field register. -/
def placePut (s : State) (m r i lo n v : Nat) : State :=
  if r = pREQ then mbxPut s (i / 512) (8 * (i % 512) + lo / 8) (leBytes (n / 8) v)
  else if r = pRSP then
    (if isControlPair m then
      let x := mbx s (i / 512)
      setMbx s (i / 512) { x with rsp := winPut x.rsp (8 * (i % 512) + lo / 8) (leBytes (n / 8) v) }
     else s)
  else if r = pFIRST then
    (if i = 0 && lo ≤ 57 && 57 < lo + n && (v * 2 ^ lo).testBit 57 then { s with flt := { s.flt with first := [], firstChk := [] } } else s)
  else if r = pDESC then
    (if inMachineMode m then
      let old := (smGet 0 s.ctl.desc i).toNat
      schDescWrite s (i / 4) (i % 4) (BitVec.ofNat 64 (old % 2 ^ lo + v % 2 ^ n * 2 ^ lo + old / 2 ^ (lo + n) * 2 ^ (lo + n)))
     else fset s SCH_STAT_REFUSED 0 1)
  else if r = pWAR then
    { s with bur := { s.bur with win := winPut s.bur.win (8 * i + lo / 8) (leBytes (n / 8) v) } }
  else s

/-- Bits `lo` to `lo` + `n` - 1 of a register hold a field that a write acts on: not RO or RC, nor reserved (R5, R6). -/
def regActs (r lo n : Nat) : Bool :=
  (fldsOf r).any (fun f => f.acc != .ro && f.acc != .rc && f.lo < lo + n && lo < f.lo + f.width)

/-- A write of bits `lo` to `lo` + `n` - 1 of a register by master `m`: one of RO, RC and reserved bits alone has no
effect. -/
def regWrite (s : State) (m r i lo n v : Nat) : State :=
  if 200 ≤ r then placePut s m r i lo n v
  else if regActs r lo n then regPut s m r i (regMerge s r i lo n v)
  else s

/-! ### Register space (R448) -/

/-- ERR_RSP codes (R164). -/
def esNO_TARGET : Nat := 5
/-- BAD_REQUEST. -/
def esBAD_REQUEST : Nat := 6
/-- ACCESS_DENIED. -/
def esACCESS_DENIED : Nat := 7

/-- A register access that R448 allows. -/
def regSizeOk (a n : Nat) : Bool := (n = 4 || n = 8) && a % n = 0

/-- The parts of an access of `n` bytes at `a`: as (register, low bit, bits) with the place in the data of each.
A 64-bit access to two 32-bit registers has two parts. -/
def regParts (a n : Nat) : List (Option (RegAt × Nat) × Nat) :=
  let part (x k : Nat) : Option (RegAt × Nat) := ((regAt x).getD none).map (fun r => (r, 8 * k))
  match (regAt a).getD none with
  | some r => if rowBytes r.reg = 8 ∨ n = 4 then [(some (r, 8 * n), 0)] else [(some (r, 32), 0), (part (a + 4) 4, 32)]
  | none => if n = 4 then [] else [(part (a + 4) 4, 32)]

/-- Reads one part of a register-space access: a register's bits, at their place in the data. -/
def partRead (s : State) (p : Option (RegAt × Nat) × Nat) : State × Nat :=
  match p.1 with
  | none => (s, 0)
  | some (r, w) => ((regRead s r.reg r.inst (8 * r.byte) w).1, (regRead s r.reg r.inst (8 * r.byte) w).2 * 2 ^ p.2)

/-- Reads the parts of a register-space access in address order. -/
def partsRead (l : List (Option (RegAt × Nat) × Nat)) (s : State) : State × Nat :=
  l.foldl (fun q p => ((partRead q.1 p).1, q.2 + (partRead q.1 p).2)) (s, 0)

/-- Writes one part of a register-space access. -/
def partWrite (m v : Nat) (s : State) (p : Option (RegAt × Nat) × Nat) : State :=
  match p.1 with
  | none => s
  | some (r, w) => regWrite s m r.reg r.inst (8 * r.byte) w (v / 2 ^ p.2 % 2 ^ w)

/-- A read of register space: state, error code (0 for none), data. -/
def spaceRead (s : State) (a n : Nat) : State × Nat × Nat :=
  if !regSizeOk a n then (s, esBAD_REQUEST, 0)
  else if (regAt a).isNone then (s, esNO_TARGET, 0)
  else ((partsRead (regParts a n) s).1, 0, (partsRead (regParts a n) s).2)

/-- A write of register space by master `m`: state and error code. -/
def spaceWrite (s : State) (m a n v : Nat) : State × Nat :=
  if !regSizeOk a n then (s, esBAD_REQUEST)
  else if (regAt a).isNone then (s, esNO_TARGET)
  else ((regParts a n).foldl (partWrite m v) s, 0)

/-! ### The address map (R447) -/

/-- An address lies in register space. -/
def inRegs (a : Nat) : Bool := regBase ≤ a && a < regBase + 0x30000000

/-- The local address that a remote window of this device names, else the address itself (R262). -/
def localAddr (s : State) (a : Nat) : Nat :=
  if 0x8000000000 ≤ a && a < 0x408000000000 && (a - 0x8000000000) / 2 ^ 36 = ownDev s then (a - 0x8000000000) % 2 ^ 36 else a

/-- The error code of an access of `n` bytes at `a` to memory, 0 where it may go on (R228, R294, R339). -/
def memError (s : State) (m a n : Nat) (wr : Bool) : Nat :=
  if a + n ≤ 0x20000 then 0
  else if inSram a n then (if spanSecret s a n && !isControlPair m then esACCESS_DENIED else 0)
  else if storeDenied s a n wr then esACCESS_DENIED
  else if inGddr s a n then 0
  else esNO_TARGET

/-- Status of an answer whose data is poisoned (the model's own number). -/
def esPOISONED : Nat := 0x80

/-- A read of `n` bytes at `a` by master `m`: state, error code, bytes (R447). -/
def busRead (s : State) (m a0 n : Nat) : State × Nat × List Byte :=
  let a := localAddr s a0
  if inRegs a then
    let q := spaceRead s a n
    (q.1, q.2.1, leBytes n q.2.2)
  else
    let e := memError s m a n false
    if e != 0 then (s, e, [])
    else if a < 0x20000 then (s, 0, (List.range n).map (fun i => Config.bootRom (a + i)))
    else
      let q := if inSram a n then sramReadBytes (n / 8 + 2) (a - sramBase) n s else gReadBytes (n / 128 + 2) (a - 0x1000000000) n s
      (q.1, if q.2.any (fun b => b.2) then esPOISONED else 0, q.2.map (fun b => b.1))

/-- A write of bytes at `a` by master `m`: state and error code. The boot ROM holds no byte that a write
changes. -/
def busWrite (s : State) (m a0 : Nat) (b : List Byte) (pois : Bool) : State × Nat :=
  let a := localAddr s a0
  let n := b.length
  if inRegs a then spaceWrite s m a n (leNat b)
  else
    let e := memError s m a n true
    if e != 0 then (s, e)
    else if a < 0x20000 then (s, 0)
    else
      let w := b.map (fun x => (x, pois))
      (if inSram a n then sramWriteBytes (n / 8 + 2) (a - sramBase) w s else gWriteBytes (n / 128 + 2) (a - 0x1000000000) w s, 0)

/-- Puts the answer of an access where the model keeps answers. -/
def busAnswer (s : State) (st : Nat) (b : List Byte) : State :=
  { s with bus := { data := BitVec.ofNat 64 (leNat (b.take 8)), status := st, bytes := b } }

/-- A read with its answer. -/
def busReadCmd (s : State) (m a n : Nat) : State :=
  let q := busRead s m a n
  busAnswer q.1 q.2.1 q.2.2

/-- The MASTER field of master `m` (R404, R468); a master that no stop and pair name has none (entry 57). -/
def masterField (s : State) (m : Nat) : Nat :=
  if m < 4 then pairMaster s m else if m = 5 then masterNum (ownDev s) 111 0 else 0xFFFFFF

/-- GENERIC_REGISTER_WRITE (R5, R448): master `m` writes the low `n` bytes of `v` at address `a` of register space; the
answer's status is 0 or the ERR_RSP code. -/
def execGenericRegisterWrite (m a n v : Nat) (s : State) : Host.Outcome State Fault Refusal :=
  run (m < 10)
    (let q := spaceWrite s m a n v
     accessBy s.flt.raised.length (masterField s m) (busAnswer q.1 q.2 []))

/-- RC_FIELD_READ (R8): a read of `n` bytes at address `a` of register space by any master. -/
def execRcFieldRead (m a n : Nat) (s : State) : Host.Outcome State Fault Refusal :=
  run (m < 10) (accessBy s.flt.raised.length (masterField s m) (busReadCmd s m a n))

/-! ### SPI (R357) -/

/-- The 32-bit group at offset `a` of the MBX block: reads zero above 0x4_FFFF. -/
def spiGroup (s : State) (a : Nat) : State × List Byte :=
  if 0x4FFFF < a then (s, leBytes 4 0)
  else
    let q := spaceRead s (regBase + 0x800000 + a) 4
    (q.1, leBytes 4 q.2.2)

/-- Reads `k` groups from offset `a`. -/
def spiGroups : Nat → Nat → State → State × List Byte
  | 0, _, s => (s, [])
  | k + 1, a, s =>
    let q := spiGroup s a
    let r := spiGroups k (a + 4) q.1
    (r.1, q.2 ++ r.2)

/-- A READ transfer of `n` bytes from offset `a`: each 32-bit group that it touches is one 32-bit read. -/
def spiRead (s : State) (a n : Nat) : State :=
  if n = 0 then busAnswer s 0 []
  else
    let q := spiGroups ((a + n - 1) / 4 - a / 4 + 1) (a / 4 * 4) s
    busAnswer q.1 0 ((q.2.drop (a % 4)).take n)

/-- SPI_READ (R357): the target is inactive in RESET (R321). -/
def execSpiRead (a n : Nat) (s : State) : Host.Outcome State Fault Refusal := run true (if s.boot.held then s else spiRead s (a % 2 ^ 24) n)

/-- Writes aligned 32-bit groups from offset `a`; a trailing part of a group is discarded. -/
def spiWrite : Nat → List Byte → State → State
  | a, b0 :: b1 :: b2 :: b3 :: r, s =>
    spiWrite (a + 4) r (if 0x4FFFF < a then s else (spaceWrite s 6 (regBase + 0x800000 + a) 4 (leNat [b0, b1, b2, b3])).1)
  | _, _, s => s

/-- SPI_WRITE (R357): an address that is no multiple of 4 begins no aligned group at it, and nothing is written. -/
def execSpiWrite (a : Nat) (b : List Byte) (s : State) : Host.Outcome State Fault Refusal :=
  run true (if !s.boot.held && a % 4 = 0 then spiWrite (a % 2 ^ 24) b s else s)

/-- The stop that an address decodes to (R136). -/
def addrStop (a : Nat) : Option Nat :=
  if inRegs a then some 101
  else if a < 0x20000 ∨ (sramBase ≤ a ∧ a < sramBase + 0x400000) then some 100
  else if 0x1000000000 ≤ a ∧ a < 0x8000000000 then some (120 + 2 * (a / 256 % 2 ^ 27 % 10))
  else none

/-- Where an access to address `a` goes, as device, stop and local address (R136, R262): a remote window names a device
and the local address there. For an address that no stop decodes, the stop `d` (DESIGN CHOICE, entry 164). -/
def accessDest (s : State) (a d : Nat) : Nat × Nat × Nat :=
  let w := a - 0x8000000000
  if 0x8000000000 ≤ a && a < 0x408000000000 then (w / 2 ^ 36, (addrStop (w % 2 ^ 36)).getD d, w % 2 ^ 36)
  else (ownDev s, (addrStop a).getD d, a)

/-- A packet of an edge agent (R136, R140): a read or write goes where its address decodes to, a message to the stop
named; the header fields that its type does not use are zero. -/
def agentPkt (s : State) (st ty ddev dstop tag size xhdr addr : Nat) (data : List Word) : Pkt :=
  let q := accessDest s addr dstop
  if ty ≤ 2 then
    { ty := ty, sdev := ownDev s, sstop := st, ddev := q.1, dstop := q.2.1, tag := tag, size := size, addr := q.2.2, data := data }
  else
    { ty := ty, sdev := ownDev s, sstop := st, ddev := ddev, dstop := dstop, tag := tag, xhdr := xhdr / 65536 * 65536, data := data }

/-- A tag that no request of the stop holds or waits with. -/
def freeTag (s : State) (st : Nat) : Nat :=
  let x := stop s st
  ((List.range 4096).find? (fun t => x.reqs.all (fun q => q.tag != t) && x.reqQ.all (fun p => p.tag != t))).getD 0

/-- The pieces of an access of `n` bytes at `a` that do not cross a 256-byte boundary (R140), as offset and length. -/
def pieces (a : Nat) : Nat → Nat → Nat → List (Nat × Nat)
  | 0, _, _ => []
  | fuel + 1, o, n =>
    if n = 0 then [] else
      let k := min n (256 - (a + o) % 256)
      (o, k) :: pieces a fuel (o + k) (n - k)

/-- Data words that carry bytes at their place (R140). -/
def placeBytes (a : Nat) (b : List Byte) : List Word :=
  bytesToWords ((a % 32 + b.length + 31) / 32 * 4) (List.replicate (a % 32) 0 ++ b ++ List.replicate 32 0)

/-- An access of stop `st` to another device's window waits for injection as requests (R262): a read, or a write. -/
def remoteAsk (s : State) (st a n : Nat) (wr : Option (List Byte)) : State :=
  (pieces a (n / 256 + 2) 0 n).foldl (fun s e =>
    let p := match wr with
      | none => agentPkt s st 0 0 0 (freeTag s st) (e.2 - 1) 0 (a + e.1) []
      | some b => agentPkt s st 2 0 0 0 (e.2 - 1) 0 (a + e.1) (placeBytes (a + e.1) ((b.drop e.1).take e.2))
    setStop s st { stop s st with reqQ := (stop s st).reqQ ++ [p] }) s

/-- An address lies in another device's window (R262). -/
def remoteWindow (s : State) (a : Nat) : Bool := 0x8000000000 ≤ a && a < 0x408000000000 && (a - 0x8000000000) / 2 ^ 36 != ownDev s

/-- Status of an access whose answer comes over the ring to its stop's inbox (the model's own number). -/
def esWAIT : Nat := 0x81

/-! ### PCIe (R449 to R451) -/

/-- PCI_WIN_WRITE (R450): the windows of BAR0. -/
def execPciWinWrite (w v : Nat) (s : State) : Host.Outcome State Fault Refusal :=
  reach (w < 2) s (regPutPlain s (if w = 0 then R_PCI_WIN0 else R_PCI_WIN1) 0 v)

/-- The internal address behind BAR0 offset `o` (R449): none where a window is off. -/
def barAddr (s : State) (o : Nat) : Option Nat :=
  if o < 0x1F00000 then some (regBase + o)
  else if o < 0x2000000 then some (0x124000000 + (o - 0x1F00000))
  else if o < 0x3000000 then
    (if fgetB s PCI_WIN0_EN 0 then some (fget s PCI_WIN0_BASE 0 * 2 ^ 24 + (o - 0x2000000)) else none)
  else if fgetB s PCI_WIN1_EN 0 then some (fget s PCI_WIN1_BASE 0 * 2 ^ 24 + (o - 0x3000000))
  else none

/-- PCIe completion status (R451): 0 Successful Completion, 1 Unsupported Request, 4 Completer Abort. Data that
comes poisoned completes with its poison. -/
def pcieStatus (e : Nat) : Nat :=
  if e = 0 ∨ e = esPOISONED then 0 else if e = esNO_TARGET ∨ e = esBAD_REQUEST then 1 else 4

/-- A TLP to BAR0: a read of `n` bytes, or a posted write, which has no completion and is discarded where it
fails (R451). One to another device's window leaves the endpoint's stop as packets (R262). -/
def pcieAccess (s : State) (o n : Nat) (wr : Option (List Byte)) : State :=
  match wr with
  | none =>
    (match barAddr s o with
     | none => busAnswer s (pcieStatus esNO_TARGET) []
     | some a =>
       if remoteWindow s a then busAnswer (remoteAsk s 111 a n none) esWAIT []
       else
         let q := busRead s 5 a n
         busAnswer q.1 (pcieStatus q.2.1) q.2.2)
  | some b =>
    (match barAddr s o with
     | none => s
     | some a => if remoteWindow s a then remoteAsk s 111 a b.length (some b) else (busWrite s 5 a b false).1)

/-- The PCIe endpoint is out of reset (R312, R321). -/
def pcieUp (s : State) : Bool := !s.boot.held && fget s SYS_BOOT_STAT_BOOTSEL 0 != 3

/-- PCIE_WINDOW_ACCESS (R450): no access reaches an endpoint that is held in reset. -/
def execPcieWindowAccess (o n : Nat) (wr : Option (List Byte)) (s : State) : Host.Outcome State Fault Refusal :=
  run true (if pcieUp s then accessBy s.flt.raised.length (masterField s 5) (pcieAccess s (o % 0x4000000) n wr) else s)

end Machine
end Sys2Proof
end

