-- ==== Sys2Proof/Machine/Eject.lean ====
section
/-!
DEFINITION. The ends of the ring network (chapter 06): injection with booking and pacing (R141, R144, R149,
R151, R159, R261), ejection and delivery (R142, R158, R164, R165, R169, R170), the order of streams (R153, R154),
request time-outs (R159), packets that abort a router's test (R166), and telemetry (R441).
-/

namespace Sys2Proof
namespace Machine

/-! ### Agents (R136) -/

/-- The converter block at an edge stop. -/
def convAt (st : Nat) : Option Nat := (List.range 8).find? (fun b => convStop b = st)

/-- The edge stop of queue manager port `k`. -/
def qmStop (k : Nat) : Nat := [118, 119, 121, 123].getD k 118

/-- The queue manager port at an edge stop. -/
def qmAt (st : Nat) : Option Nat := (List.range 4).find? (fun k => qmStop k = st)

/-- A stop that injects and ejects. -/
def hasAgent (st : Nat) : Bool := st < 140 && ! [133, 135, 137, 139].contains st

/-- A cross router whose bypass register stands in for its stop. -/
def bypassed (s : State) (st : Nat) : Bool := rtrState s st = rtBYPASS || rtrState s st = rtLEAVING

/-- A fenced cabinet stop (R169). -/
def stopFenced (s : State) (st : Nat) : Bool := st < 100 && fgetB s CAB_STATE_FENCED st

/-! ### Injection (R144) -/

/-- The span stop toward another device: that of its route's primary link (R261). -/
def spanStop (s : State) (d : Nat) : Nat := if fget s SPN_ROUTE_PRI d < 4 then 125 else 127

/-- The stop of this device that a packet travels to. -/
def ringDest (s : State) (p : Pkt) : Nat := if p.ddev = ownDev s then p.dstop else spanStop s p.ddev

/-- The outbound credit of a packet (R261). -/
def credKey (s : State) (st : Nat) (p : Pkt) : Nat :=
  (2 * netOf p.ty + (if spanStop s p.ddev = 125 then 0 else 1)) * 140 + st

/-- The injection lane: a booked packet goes into E (R146). -/
def injLane (st : Nat) (p : Pkt) (booked : Bool) : Nat := laneKey (netOf p.ty) st 0 (if booked then lnE0 else lnA)

/-- The injection port is free, and a packet to another device finds one of its two credits (R261). -/
def mayInject (s : State) (st : Nat) (p : Pkt) (booked : Bool) : Bool :=
  laneFree (lane s (injLane st p booked)) && (p.ddev = ownDev s || smGet 0 s.spn.cred (credKey s st p) < 2)

/-- A packet enters the injection port with its directions fixed (R138, R144). -/
def inject (s : State) (st : Nat) (p : Pkt) (booked : Bool) : State :=
  let k := injLane st p booked
  let d := ringDest s p
  let b0 : Sb := { booked := booked, dx := dirX st d, dy := dirY st d, ddev := p.ddev, dstop := d }
  let b := { b0 with la := if d = st then 0 else if booked then (escHop s st 0 lnE0 b0).1 else (candA s st 0 b0).headD 0 }
  let c := credKey s st p
  let s1 := if p.ddev = ownDev s then s else { s with spn := { s.spn with cred := smSet 0 c (smGet 0 s.spn.cred c + 1) s.spn.cred } }
  setLane s1 k { lane s1 k with q := mkFlits p b, esc := booked, out := none, front := s.time.now }

/-- A response that waits at the stop is injected. -/
def injRsp (s : State) (st : Nat) : State :=
  match (stop s st).rspQ with
  | [] => s
  | p :: r => if mayInject s st p false then inject (setStop s st { stop s st with rspQ := r }) st p false else s

/-- The tag is in no request of the stop, nor held back after a time-out (R159). -/
def tagFree (s : State) (st t : Nat) : Bool := (stop s st).reqs.all (fun q => q.tag != t)

/-- The packet is a non-posted request of the stop's own agent. -/
def ownReq (s : State) (st : Nat) (p : Pkt) : Bool := nonPosted p.ty && p.sdev = ownDev s && p.sstop = st

/-- Injects a request, noting it while it waits for its response (R159). -/
def sendReq (s : State) (st : Nat) (p : Pkt) : State :=
  if mayInject s st p false && (!ownReq s st p || tagFree s st p.tag) then
    let s1 := if ownReq s st p then setStop s st { stop s st with reqs := (stop s st).reqs ++ [⟨p.tag, s.time.edges, false⟩] } else s
    inject s1 st p false
  else s

/-- A request that waits at the stop is injected. -/
def injReq (s : State) (st : Nat) : State :=
  match (stop s st).reqQ with
  | [] => s
  | p :: r =>
    if mayInject s st p false && (!ownReq s st p || tagFree s st p.tag) then
      sendReq (setStop s st { stop s st with reqQ := r }) st p
    else s

/-! ### STREAM packets (R141, R149, R151) -/

/-- XHDR of a STREAM packet (R141). -/
def streamXhdr (st en : Bool) (ilen prio dfifo dcab n : Nat) (rst : Bool) : Nat :=
  st.toNat * 2 ^ 31 + en.toNat * 2 ^ 30 + ilen % 64 * 2 ^ 24 + prio % 8 * 2 ^ 21 + dfifo % 8 * 2 ^ 18 + dcab % 128 * 2 ^ 11
  + (n - 1) % 32 * 2 ^ 6 + rst.toNat * 2 ^ 5

/-- The poison mark of each data flit of a packet's words. -/
def flitPois : List Bool → List Bool
  | [] => []
  | a :: [] => [a]
  | a :: b :: [] => [a || b]
  | a :: b :: c :: [] => [a || b || c]
  | a :: b :: c :: d :: r => (a || b || c || d) :: flitPois r

/-- Words of one item that a packet takes: the words, whether the first starts the item and the last ends it. -/
structure Chunk where
  ws : List (Word × Bool)
  st : Bool
  en : Bool
  ilen : Nat
  prio : Nat
  deriving DecidableEq, Repr

/-- Flits of a STREAM packet, its head included. -/
def chunkFlits (n : Nat) : Nat := 1 + (n + 3) / 4

/-- The STREAM packet of a chunk. -/
def streamPkt (s : State) (st : Nat) (c : Chunk) (ddev dstop dcab dfifo seq : Nat) (rst : Bool) : Pkt :=
  { ty := 3, sdev := ownDev s, sstop := st, ddev := ddev, dstop := dstop, seq := seq
    xhdr := streamXhdr c.st c.en c.ilen c.prio dfifo dcab c.ws.length rst
    data := c.ws.map (fun w => w.1), pois := flitPois (c.ws.map (fun w => w.2)) }

/-- What the bucket of booking entry `e` lacks, in units of 1 / (TICK_LEN − 24) flit (R151). -/
def bucketDebt (s : State) (st e : Nat) : Nat :=
  let d := smGet (0, 0) (stop s st).debt e
  d.1 - fget s NOC_BOOK_FLITS (bookIx st e) * (s.time.ngc - d.2)

/-- The bucket holds `k` flits of its 9. -/
def bucketHas (s : State) (st e k : Nat) : Bool :=
  bucketDebt s st e + k * (tickLen s - 24) ≤ 9 * (tickLen s - 24)

/-- Booking entry `e` of stop `st` may send `n` words now. -/
def mayBook (s : State) (st e n : Nat) : Bool :=
  laneFree (lane s (laneKey 0 st 0 lnE0)) && bucketHas s st e (chunkFlits n)

/-- Sends a chunk by a booking entry: SEQ advances, the bucket pays, and the first packet after the entry was
written carries RST (R149, R151, R153). -/
def bookSend (s : State) (st e : Nat) (c : Chunk) : State :=
  let i := bookIx st e
  let seq := fget s NOC_BOOK_SEQ i
  let p := streamPkt s st c (ownDev s) (bookDest s i) (if fgetB s NOC_BOOK_DKIND i then 0x7F else fget s NOC_BOOK_DEST i)
    (fget s NOC_BOOK_DFIFO i) seq ((stop s st).fresh.contains e)
  let debt := bucketDebt s st e + chunkFlits c.ws.length * (tickLen s - 24)
  let s1 := inject s st p true
  let x := stop s1 st
  fset (setStop s1 st { x with debt := smSet (0, 0) e (debt, s.time.ngc) x.debt, fresh := x.fresh.filter (fun y => y != e) })
    NOC_BOOK_SEQ i (seq + 1)

/-- Reads `n` words of a FIFO. -/
def fifoReadN (k : Nat) : Nat → List Code → State → State × List RWord
  | 0, _, s => (s, [])
  | n + 1, e, s =>
    let q := fifoRead s k (e.headD 0)
    match q.2 with
    | none => (q.1, [])
    | some w =>
      let r := fifoReadN k n e.tail q.1
      (r.1, w :: r.2)

/-- The chunk of words read from a FIFO. -/
def chunkOf (i : FItem) (l : List RWord) : Chunk :=
  { ws := l.map (fun w => (w.w, w.pois)), st := (l.head?).elim false (fun w => w.st), en := (l.getLast?).elim false (fun w => w.en)
    ilen := i.decl, prio := i.prio }

/-- A stop may inject words of an item, its first ones where `start` (R107, R169): an edge stop always, a RUNNING
cabinet's, and a DRAINING one's that complete an item already started. -/
def mayStream (s : State) (st : Nat) (start : Bool) : Bool :=
  100 ≤ st || (!stopFenced s st && (cabState s st = stRUNNING || (cabState s st = stDRAINING && !start)))

/-- FIFO `k` sends words of its item by entry `e` (R149): a cross router's stop reads and discards the items of
a FIFO whose entry is not valid. -/
def injFifo (s : State) (st k e : Nat) (errs : List Code) : State :=
  match fifoHead s k with
  | none => s
  | some (_, start, i, _) =>
    let n := min 32 i.words.length
    if !mayStream s st start then s
    else if !fgetB s NOC_BOOK_VALID (bookIx st e) then (if st < 100 then (fifoReadN k n errs s).1 else s)
    else if mayBook s st e n then
      let q := fifoReadN k n errs s
      bookSend q.1 st e (chunkOf i q.2)
    else s

/-- The next words of an item of which `sent` words have gone. -/
def nextChunk (l : List (Word × Bool)) (sent prio : Nat) : Chunk :=
  let w := (l.drop sent).take 32
  { ws := w, st := sent = 0, en := sent + w.length = l.length, ilen := l.length - 1, prio := prio }

/-- Notes how many words of an agent's item have gone. -/
def setSent (s : State) (st key : Nat) (c : Chunk) : State :=
  let x := stop s st
  setStop s st { x with sent := smSet 0 key (if c.en then 0 else smGet 0 x.sent key + c.ws.length) x.sent }

/-- What channel `c` may send next: the chunk, whether its stop's booking entry c mod 8 carries it (R243), and the packet
it makes otherwise, unbooked with its own SEQ (R153). -/
def dmaChunk (s : State) (c : Nat) : Option (Chunk × Bool × Pkt) :=
  let st := dmaStop c
  let d := dmaCh s c
  match d.out with
  | [] => none
  | o :: _ =>
    let x := nextChunk o.words (smGet 0 (stop s st).sent (8 + c % 8)) o.prio
    some (x, o.dcab != 0x7F && fgetB s NOC_BOOK_VALID (bookIx st (c % 8)), streamPkt s st x o.ddev o.dstop o.dcab o.dfifo d.seq d.rst)

/-- Channel `c` has a packet that may go now. -/
def dmaReady (s : State) (c : Nat) : Bool :=
  match dmaChunk s c with
  | none => false
  | some q => if q.2.1 then mayBook s (dmaStop c) (c % 8) q.1.ws.length else mayInject s (dmaStop c) q.2.2 false

/-- Channel a goes before channel b (R246): PRIO, the longer wait, the rotating pointer. -/
def dmaBefore (s : State) (a b : Nat) : Bool :=
  let p (c : Nat) : Nat := fget s DMA_CH_CFG_PRIO c
  let w (c : Nat) : Nat := (dmaCh s c).since
  let t (c : Nat) : Nat := (c % 8 + 8 - (stop s (dmaStop c)).dmaPtr) % 8
  if p a != p b then p b < p a else if w a != w b then w a < w b else t a < t b

/-- Channel `c` is the one of its stop whose turn it is. -/
def dmaFirst (s : State) (c : Nat) : Bool :=
  dmaReady s c && (List.range 8).all (fun i => let o := c / 8 * 8 + i; o = c || !dmaReady s o || dmaBefore s c o)

/-- Channel `c` of the DMA movers sends words of its item in its turn: by its booking entry where that is valid, else
unbooked (R153, R243, R246). -/
def injDma (s : State) (c : Nat) : State :=
  let st := dmaStop c
  let d := dmaCh s c
  match dmaChunk s c, dmaFirst s c with
  | some (x, booked, p), true =>
    let out := if x.en then d.out.tail else d.out
    let s1 := setStop s st { stop s st with dmaPtr := (c % 8 + 1) % 8 }
    if booked then setSent (bookSend (setDmaCh s1 c { d with out := out, since := s.time.now }) st (c % 8) x) st (8 + c % 8) x
    else
      setSent (inject (setDmaCh s1 c { d with out := out, since := s.time.now, seq := (d.seq + 1) % 65536, rst := false }) st p false)
        st (8 + c % 8) x
  | _, _ => s

/-- Radio link `l` sends words of its item by entry l mod 4 of its port (R220). -/
def injRadio (s : State) (l : Nat) : State :=
  let st := qmStop (l / 4)
  let k := qLink s l
  match k.out with
  | [] => s
  | o :: r =>
    let x := nextChunk (o.map (fun w => (w, false))) (smGet 0 (stop s st).sent (l % 4)) 0
    if fgetB s NOC_BOOK_VALID (bookIx st (l % 4)) && mayBook s st (l % 4) x.ws.length then
      setSent (bookSend (setQLink s l { k with out := if x.en then r else k.out }) st (l % 4) x) st (l % 4) x
    else s

/-- A span flow's segment goes to inlet 4 of port 0 of its device (R217). -/
def injSpan (s : State) : State :=
  match s.qm.spanOut with
  | [] => s
  | (dev, ws) :: r =>
    let st := qmStop 0
    let x := nextChunk (ws.map (fun w => (w, false))) (smGet 0 (stop s st).sent 16) 0
    let seq := smGet 0 (stop s st).spanSeq dev
    let p := streamPkt s st x dev (qmStop 0) 0x7F 4 seq false
    if mayInject s st p false then
      let s1 := setSent (inject { s with qm := { s.qm with spanOut := if x.en then r else s.qm.spanOut } } st p false) st 16 x
      setStop s1 st { stop s1 st with spanSeq := smSet 0 dev ((seq + 1) % 65536) (stop s1 st).spanSeq }
    else s

/-- A packet from one of a stop's sources. A bypassed router's stop injects only what its bypass register answers
(R165); one in TEST injects nothing, and a cabinet's that is not RUNNING only responses (R107). -/
def injSrc (s : State) (st : Nat) (x : InjSrc) (errs : List Code) : State :=
  if rtrState s st = rtTEST then s
  else
    match x with
    | .rsp => injRsp s st
    | .req => if bypassed s st || !mayStream s st true then s else injReq s st
    | .fifo k => if bypassed s st then s else injFifo s st (cabFifo st (8 + k)) k errs
    | .conv k =>
      match convAt st with
      | none => s
      | some b => if fgetB s JPT_PATH_CFG_DEST (4 * b + k / 2) then injFifo s st (convFifo b k) k errs else s
    | .dma c => injDma s c
    | .radio l => injRadio s l
    | .span => injSpan s
    | .agent ty ddev dstop tag size xhdr addr data =>
      sendReq s st (agentPkt s st ty (ddev % 1024) dstop (tag % 4096) (size % 256) (xhdr % 2 ^ 32) (addr % 2 ^ 64) (data.take 32))

/-- The source stands at the stop, and a packet of an agent's own is one an agent sends: a request with the data its
type carries (R139). -/
def injOk (st : Nat) (x : InjSrc) : Bool :=
  hasAgent st &&
  (match x with
   | .rsp => true
   | .req => true
   | .fifo k => st < 100 && k < 8
   | .conv k => (convAt st).isSome && k < 4
   | .dma c => c < 16 && st = dmaStop c
   | .radio l => l < 16 && st = qmStop (l / 4)
   | .span => st = qmStop 0
   | .agent ty _ dstop _ _ _ _ data =>
     100 ≤ st && (ty ≤ 2 || ty = 4) && hasAgent dstop && (ty != 0 || data.isEmpty) && ((ty != 1 && ty != 2) || !data.isEmpty))

/-- PACKET_INJECT (R144): `errs` are the upset bits of the words read from a FIFO. -/
def execPacketInject (st : Nat) (x : InjSrc) (errs : List Code) (s : State) : Host.Outcome State Fault Refusal :=
  run (injOk st x) (injSrc s st x errs)

/-! ### The order of streams (R153, R154) -/

/-- A field of XHDR of a STREAM packet, by the bit numbers of R141. -/
def xh (p : Pkt) (hi lo : Nat) : Nat := p.xhdr / 2 ^ (lo - 128) % 2 ^ (hi + 1 - lo)
/-- START. -/
def xSTART (p : Pkt) : Bool := xh p 159 159 = 1
/-- END. -/
def xEND (p : Pkt) : Bool := xh p 158 158 = 1
/-- ILEN. -/
def xILEN (p : Pkt) : Nat := xh p 157 152
/-- PRIO. -/
def xPRIO (p : Pkt) : Nat := xh p 151 149
/-- DFIFO. -/
def xDFIFO (p : Pkt) : Nat := xh p 148 146
/-- DCAB. -/
def xDCAB (p : Pkt) : Nat := xh p 145 139
/-- WORDS. -/
def xWORDS (p : Pkt) : Nat := xh p 138 134 + 1
/-- RST. -/
def xRST (p : Pkt) : Bool := xh p 133 133 = 1

/-- The key of inlet `d` of stop `st`. -/
def inletKey (st d : Nat) : Nat := 65536 + st * 8 + d

/-- The stream order that a STREAM packet at stop `st` belongs to: an inbound FIFO, an agent's inlet, or a
device's span frames; none where the stop has no such FIFO or DCAB is not the cabinet mapped there (R154, R202). -/
def streamKey (s : State) (st : Nat) (p : Pkt) : Option Nat :=
  let d := xDFIFO p
  if st < 100 then (if xDCAB p = logicalOf s st && xDCAB p < 96 then some (cabFifo st d) else none)
  else if xDCAB p != 0x7F then none
  else if st = 102 ∨ st = 103 then some (dmaFifo (8 * (st - 102) + d))
  else if st = 116 ∨ st = 117 then (if d < 4 then some (inletKey st d) else none)
  else
    match convAt st with
    | some b => if 4 ≤ d then some (convFifo b d) else none
    | none =>
      match qmAt st with
      | some k => if d = 4 then (if k = 0 then some (131072 + p.sdev) else none)
                  else if d < 4 ∨ d = 7 then some (inletKey st d) else none
      | none => none

/-- The stop that keeps a stream order. -/
def keyStop (k : Nat) : Nat :=
  if k < 16384 then k / 128
  else if k < 32768 then convStop ((k - 16384) / 16)
  else if k < 65536 then dmaStop (k - 32768)
  else if k < 131072 then (k - 65536) / 8
  else qmStop 0

/-- The list that an inlet's words stand in: queue manager port `k` and client ports after them. -/
def inletIx (k : Nat) : Nat :=
  if 131072 ≤ k then 4
  else
    let st := (k - 65536) / 8
    let d := (k - 65536) % 8
    match qmAt st with
    | some q => 8 * q + d
    | none => 32 + 4 * (st - 116) + d

/-- The reorder state of a stream. -/
def seqr (s : State) (k : Nat) : Seqr := smGet {} s.noc.seqr k

/-- Writes it. -/
def setSeqr (s : State) (k : Nat) (x : Seqr) : State := { s with noc := { s.noc with seqr := smSet {} k x s.noc.seqr } }

/-- A client port takes whole segments from its transmit inlet (R199): a poisoned one, or one that is no whole
frame, is not sent. -/
def clientTake (n : Nat) : Nat → State → State
  | 0, s => s
  | fuel + 1, s =>
    match takeSeg (inlet s (32 + n)) with
    | none => s
    | some (h, ws, r) =>
      let v := h.w.toNat
      let slen := nbits v 22 14
      let good := nbits v 36 14 = 0 && nbits v 21 1 = 1 && nbits v 20 1 = 0 && !h.pois && !ws.any (fun x => x.pois) && nbits v 50 14 = slen
      let s1 := setInlet s (32 + n) r
      let c := cptPort s1 n
      let f : TxFrame := { data := (ws.flatMap (fun x => leBytes 8 x.w.toNat)).take slen }
      clientTake n fuel (if good then setCptPort s1 n { c with ctl := c.ctl ++ [f] } else s1)

/-- Words reach an inlet; a client port's inlet hands its whole segments on. -/
def inletPut (s : State) (k : Nat) (l : List InWord) : State :=
  let i := inletIx k
  let s1 := setInlet s i (inlet s i ++ l)
  if 32 ≤ i then clientTake (i - 32) (inlet s1 i).length s1 else s1

/-- An item is open at the stream's writer. -/
def itemOpen (s : State) (k : Nat) : Bool := if k < 65536 then (fifo s k).wopen.isSome else (seqr s k).mid

/-- Ends an open item with one zero word, WPOISON and WEND (R154). -/
def endOpen (s : State) (k : Nat) : State :=
  if !itemOpen s k then s
  else if k < 65536 then fifoWrite s k (eccEnc 0) false true 0 0 true (s.time.tick % 256)
  else setSeqr (inletPut s k [⟨0, false, true, if 131072 ≤ k then k - 131072 else ownDev s⟩]) k { seqr s k with mid := false }

/-- How far a SEQ lies ahead of the expected value. -/
def seqAhead (exp seq : Nat) : Nat := (seq + 65536 - exp) % 65536

/-- The gap timer runs while the expected packet is missing and a later one is here (R154). -/
def gapCheck (s : State) (k : Nat) (later : Bool) : State :=
  let x := seqr s k
  match x.exp with
  | none => s
  | some e =>
    if x.early.any (fun p => p.seq = e) then setSeqr s k { x with gap := 0 }
    else if later || !x.early.isEmpty then (if x.gap = 0 then setSeqr s k { x with gap := s.time.edges + 1 } else s)
    else setSeqr s k { x with gap := 0 }

/-- A stale packet is discarded and counted (R153). -/
def seqStale (s : State) (k : Nat) : State := finc s NOC_STOP_EVT_SEQ_STALE (keyStop k)

/-- A STREAM packet reaches its order (R153): RST begins it anew; an unsynchronised order takes START only; a
packet behind is stale; the others are held. -/
def seqTake (s : State) (k : Nat) (p : Pkt) : State :=
  if xRST p then
    let s1 := endOpen s k
    setSeqr s1 k { seqr s1 k with exp := some p.seq, early := [p], gap := 0, skipTo := false }
  else
    let x := seqr s k
    match x.exp with
    | none => if xSTART p then setSeqr s k { x with exp := some p.seq, early := [p], gap := 0, skipTo := false } else seqStale s k
    | some e =>
      if 32768 ≤ seqAhead e p.seq ∨ x.early.any (fun y => y.seq = p.seq) then seqStale s k
      else gapCheck (setSeqr s k { x with early := x.early ++ [p] }) k false

/-- The words of a STREAM packet with their marks, first to last. -/
def streamWords (p : Pkt) : List (Word × Nat × Bool) :=
  ((p.data.take (xWORDS p)).zipIdx).map (fun e => (e.1, e.2, p.pois.getD (e.2 / 4) false))

/-- Writes a packet's words into its FIFO or inlet. -/
def seqWrite (s : State) (k : Nat) (p : Pkt) : State :=
  let ws := streamWords p
  let last := ws.length - 1
  if k < 65536 then
    ws.foldl (fun s w =>
      fifoWrite s k (eccEnc w.1) (xSTART p && w.2.1 = 0) (xEND p && w.2.1 = last) (xILEN p) (xPRIO p) w.2.2 (s.time.tick % 256)) s
  else
    let s1 := inletPut s k (ws.map (fun w => ⟨w.1, xSTART p && w.2.1 = 0, w.2.2, p.sdev⟩))
    setSeqr s1 k { seqr s1 k with mid := !xEND p }

/-- The FIFO has room for the packet's words (R119). -/
def seqRoom (s : State) (k : Nat) (p : Pkt) : Bool :=
  if k < 65536 then
    let f := fifo s k
    if xSTART p then fifoWReady f true (xILEN p) else f.skip || f.disc || fifoWBank f + xWORDS p ≤ 512
  else true

/-- The packet with the expected SEQ is written, or discarded while the stream is discarded up to its next START
(R153, R154). -/
def seqStep (s : State) (k : Nat) : State :=
  let x := seqr s k
  match x.exp with
  | none => s
  | some e =>
    match x.early.find? (fun p => p.seq = e) with
    | none => s
    | some p =>
      let skip := x.skipTo && !xSTART p
      if !skip && !seqRoom s k p then s
      else
        let s1 := setSeqr s k { x with exp := some ((e + 1) % 65536), early := x.early.filter (fun y => y.seq != e), gap := 0, skipTo := skip }
        gapCheck (if skip then s1 else seqWrite s1 k p) k false

/-- A stream order of the device. -/
def keyOk (k : Nat) : Bool :=
  if k < 65536 then fifoExists k
  else if k < 131072 then
    (let st := (k - 65536) / 8
     let d := (k - 65536) % 8
     ((st = 116 || st = 117) && d < 4) || ((qmAt st).isSome && (d < 4 || d = 7)))
  else k < 131072 + 1024

/-- STREAM_REORDER_WRITE (R153): FIFOs by R117, inlets as `inletKey`, span frames as 131,072 + device. -/
def execStreamReorderWrite (k : Nat) (s : State) : Host.Outcome State Fault Refusal := run (keyOk k) (seqStep s k)

/-- The header of a packet whose head flit stands in an input lane of stop `st` for that stop. -/
def headAt (s : State) (st port ln : Nat) : Option Pkt :=
  match (lane s (laneKey 0 st port ln)).q with
  | [] => none
  | f :: _ =>
    if (f.sb.kind = 0 || f.sb.kind = 3) && f.sb.dstop = st then
      (let h := hdrParse (f.data.map eccData)
       if h.1 then some h.2 else none)
    else none

/-- SEQs of a stream's packets that wait in the lanes of its stop. -/
def seqWaiting (s : State) (k : Nat) : List Nat :=
  let st := keyStop k
  [0, 1, 2, 3, 4].flatMap (fun p => [0, 1, 2, 3, 4, 5].filterMap (fun ln =>
    match headAt s st p ln with
    | none => none
    | some q => if q.ty = 3 && q.ddev = ownDev s && streamKey s st q = some k then some q.seq else none))

/-- The SEQ nearest ahead of `e` among a list. -/
def seqNearest (e : Nat) : List Nat → Option Nat
  | [] => none
  | a :: r =>
    match seqNearest e r with
    | none => if seqAhead e a < 32768 then some a else none
    | some b => if seqAhead e a < seqAhead e b then some a else some b

/-- The REORDER_TO-th tick edge after the gap timer started: the missing numbers are skipped, an open item ends
poisoned, and the stream is discarded up to its next START (R154). -/
def seqGap (s : State) (k : Nat) : State :=
  let x := seqr s k
  match x.exp with
  | none => s
  | some e =>
    if x.gap = 0 ∨ s.time.edges + 1 < x.gap + fget s NOC_CFG_REORDER_TO 0 ∨ x.early.any (fun p => p.seq = e) then s
    else
      match seqNearest e (x.early.map (fun p => p.seq) ++ seqWaiting s k) with
      | none => s
      | some n =>
        let s1 := fadd s NOC_STOP_EVT_SEQ_SKIP (keyStop k) (seqAhead e n)
        let s2 := endOpen s1 k
        setSeqr s2 k { seqr s2 k with exp := some n, gap := 0, skipTo := true }

/-- SEQ_GAP_TIMEOUT (R154). -/
def execSeqGapTimeout (k : Nat) (s : State) : Host.Outcome State Fault Refusal := run (keyOk k) (seqGap s k)

/-! ### Requests at their target (R140, R142, R164, R263) -/

/-- The master that a packet's source is to registers and memory. -/
def pktMaster (s : State) (p : Pkt) : Nat :=
  if p.sdev != ownDev s then 8
  else if p.sstop = 100 then 0 else if p.sstop = 109 then 1 else if p.sstop = 129 then 2 else if p.sstop = 131 then 3
  else if p.sstop = 102 ∨ p.sstop = 103 then 7 else 5

/-- A GDDR7 port's stop (R136). -/
def gddrStop (st : Nat) : Bool := 120 ≤ st && st < 140 && st % 2 = 0

/-- A request for the address may be served at the stop: the one it decodes to, or any GDDR7 port for GDDR7 (R229). -/
def servedAt (st a : Nat) : Bool :=
  match addrStop a with
  | none => false
  | some x => x = st || (gddrStop x && gddrStop st)

/-- The error code of a request at stop `st` before the access itself, 0 for none (R140, R164, R229, R262, R263): while
REMOTE_EN is 0 every request of another device to these targets is denied, whatever it asks. -/
def reqError (s : State) (st : Nat) (p : Pkt) : Nat :=
  let n := p.size + 1
  let remote := p.sdev != ownDev s
  if remote && (st = 100 || st = 101) && !fgetB s SPN_SYS_REMOTE_EN 0 then esACCESS_DENIED
  else if !servedAt st p.addr then esNO_TARGET
  else if p.addr % 256 + n > 256 ∨ (p.ty != 0 ∧ pktFlits p != (p.addr % 32 + n + 31) / 32) then esBAD_REQUEST
  else if remote && 120 ≤ st then esNO_TARGET
  else 0

/-- The bytes of a write: byte b travels at place ADDR mod 32 + b (R140). -/
def pktBytes (p : Pkt) : List Byte :=
  ((p.data.flatMap (fun w => leBytes 8 w.toNat)).drop (p.addr % 32)).take (p.size + 1)

/-- The response that a target makes to a request. -/
def rspTo (s : State) (st : Nat) (p : Pkt) (ty : Nat) : Pkt :=
  { ty := ty, sdev := ownDev s, sstop := st, ddev := p.sdev, dstop := p.sstop, tag := p.tag }

/-- A read or write request at its target: the access, and the response of a non-posted one (R139, R156, R164). -/
def serveReq (s : State) (st : Nat) (p : Pkt) : State :=
  let e := reqError s st p
  let fail (t : State) (c : Nat) : State := if nonPosted p.ty then queueRsp t st (errRsp p (ownDev s) st c) else t
  if e != 0 then fail s e
  else if p.ty = 0 then
    let q := busRead s (pktMaster s p) p.addr (p.size + 1)
    if q.2.1 != 0 && q.2.1 != esPOISONED then fail q.1 q.2.1
    else
      let d := placeBytes p.addr q.2.2
      queueRsp q.1 st { rspTo s st p 8 with
        size := p.size, addr := p.addr, data := d, pois := List.replicate ((d.length + 3) / 4) (q.2.1 = esPOISONED) }
  else
    let q := busWrite s (pktMaster s p) p.addr (pktBytes p) (p.pois.any (fun b => b))
    if q.2 != 0 then fail q.1 q.2
    else if p.ty = 1 then queueRsp q.1 st (rspTo s st p 9) else q.1

/-! ### Ejection (R158) -/

/-- Adds to what a stop has delivered to its agent. -/
def toAgent (s : State) (st : Nat) (p : Pkt) : State := setStop s st { stop s st with inbox := (stop s st).inbox ++ [p] }

/-- A response retires its tag (R159); one whose tag timed out or is unknown is late. -/
def rspTake (s : State) (st : Nat) (p : Pkt) : State :=
  let x := stop s st
  if x.reqs.any (fun q => q.tag = p.tag && !q.timedOut) then
    toAgent (setStop s st { x with reqs := x.reqs.filter (fun q => q.tag != p.tag) }) st p
  else finc s NOC_STOP_EVT_LATE_RSP st

/-- The first packet that a fencing or bypass discards raises one record (R170). -/
def fenceRecord (s : State) (st : Nat) (byp : Bool) (p : Pkt) : State :=
  if (stop s st).fenceRec then s
  else
    let s1 := setStop s st { stop s st with fenceRec := true }
    raise s1 { src := if byp then 25 + st / 10 else st / 4, cls := clsU, code := 7 * 256 + p.dstop, addr := p.addr, access := 7,
               master := pktSource p }

/-- A packet at a fenced or bypassed stop (R165, R169, R170). -/
def fenceTake (s : State) (st : Nat) (p : Pkt) : State :=
  let byp := bypassed s st
  if 8 ≤ p.ty then finc s NOC_STOP_STAT_FENCE_RSP st
  else if nonPosted p.ty then queueRsp (finc s NOC_STOP_STAT_FENCE_ERR st) st (errRsp p (ownDev s) st (if byp then 4 else 1))
  else fenceRecord (finc s NOC_STOP_STAT_FENCE_DISC st) st byp p

/-- The flits of a packet as the span switch holds them. -/
def spanFlits (l : List Flit) : List SFlit :=
  l.map (fun f => ⟨f.sb.kind, f.sb.poison,
    (f.data.map (fun c => (eccData c).toNat)).foldr (fun w x => w + x * 2 ^ 64) 0⟩)

/-- The packet of ejected flits. -/
def pktOf (l : List Flit) : Bool × Pkt :=
  let h := hdrParse ((l.head?).elim [] (fun f => f.data.map eccData))
  (h.1, { h.2 with data := l.tail.flatMap (fun f => f.data.map eccData), pois := l.tail.map (fun f => f.sb.poison) })

/-- A good packet at its stop. -/
def deliverGood (s : State) (st : Nat) (p : Pkt) : State :=
  if stopFenced s st || bypassed s st then fenceTake s st p
  else if 8 ≤ p.ty then rspTake s st p
  else if p.ty = 4 then toAgent s st p
  else if p.ty = 3 then
    match streamKey s st p with
    | none => finc s NOC_STOP_EVT_MISDIR st
    | some k => seqTake s k p
  else accessBy s.flt.raised.length (pktSource p) (serveReq s st p)

/-- A whole packet of flits leaves the ring at `st`: dropped where HCRC or TYPE is bad (R158); to the span switch where
it is for another device; else delivered. -/
def deliver (s : State) (net st : Nat) (l : List Flit) : State :=
  let q := pktOf l
  let dev := (l.head?).elim 0 (fun f => f.sb.ddev)
  if !q.1 || !tyOk q.2.ty then pktEvent (finc s NOC_RTR_ERR_CRC_DROP st) (rtrSrc st) 6 q.2 st
  else if (st = 125 ∨ st = 127) ∧ dev ≠ ownDev s then
    let i := 2 * net + (if st = 125 then 0 else 1)
    let p : SPkt := { net := net, ddev := dev, flits := spanFlits l }
    { s with spn := { s.spn with inj := smSet [] i (smGet [] s.spn.inj i ++ [p]) s.spn.inj } }
  else deliverGood s st q.2

/-- A STREAM packet more than 4 ahead waits in its lane (R153). -/
def tooFar (s : State) (st : Nat) (p : Pkt) : Option Nat :=
  if p.ty != 3 || p.ddev != ownDev s || stopFenced s st || bypassed s st || xRST p then none
  else
    match streamKey s st p with
    | none => none
    | some k =>
      match (seqr s k).exp with
      | none => none
      | some e => if 4 < seqAhead e p.seq && seqAhead e p.seq < 32768 then some k else none

/-- The flits of a lane up to a packet's tail, the rest, and whether the tail is among them. -/
def cutTail : List Flit → List Flit × List Flit × Bool
  | [] => ([], [], false)
  | f :: r =>
    if f.sb.kind = 2 || f.sb.kind = 3 then ([f], r, true)
    else
      let q := cutTail r
      (f :: q.1, q.2.1, q.2.2)

/-- What stands in an input lane for this stop is ejected; the packet is delivered when its tail has come. A
packet for a router in TEST waits (R166). -/
def eject (s : State) (net st port ln : Nat) : State :=
  let k := laneKey net st port ln
  let l := lane s k
  let e := smGet [] s.noc.ej k
  match l.q with
  | [] => s
  | f :: _ =>
    let head := f.sb.kind = 0 || f.sb.kind = 3
    if f.sb.dstop != st || l.out.isSome || (e.isEmpty && !head) || rtrState s st = rtTEST then s
    else
      match (if net = 0 && head then ((headAt s st port ln).bind (tooFar s st)) else none) with
      | some q => gapCheck s q true
      | none =>
        let c := cutTail l.q
        let s1 := setLane s k { l with q := c.2.1, esc := l.esc && !c.2.2 }
        let put (t : State) (v : List Flit) : State := { t with noc := { t.noc with ej := smSet [] k v t.noc.ej } }
        if c.2.2 then deliver (put s1 []) net st (e ++ c.1) else put s1 (e ++ c.1)

/-- PACKET_EJECT (R158). -/
def execPacketEject (net st port ln : Nat) (s : State) : Host.Outcome State Fault Refusal :=
  run (net < 2 && hasAgent st && port < 5 && ln < 6) (eject s net st port ln)

/-! ### Time-outs, tests and telemetry -/

/-- Requests past REQ_TO are answered TIMEOUT; their tags stay unused for a further REQ_TO ticks (R159). -/
def reqTimeout (s : State) (st : Nat) : State :=
  let toSt := fget s NOC_CFG_REQ_TO 0
  let due (q : Req) : Bool := q.tick + toSt ≤ s.time.edges
  let x := stop s st
  let late := x.reqs.filter (fun q => !q.timedOut && due q)
  let keep := (x.reqs.filter (fun q => !(q.timedOut && due q))).map (fun q => if !q.timedOut && due q then { q with timedOut := true, tick := s.time.edges } else q)
  let err (q : Req) : Pkt := { ty := 0xA, sdev := ownDev s, sstop := st, ddev := ownDev s, dstop := st, tag := q.tag, status := 2 }
  fadd (setStop s st { x with reqs := keep, inbox := x.inbox ++ late.map err }) NOC_STOP_STAT_TIMEOUT st late.length

/-- REQUEST_TIMEOUT (R159). -/
def execRequestTimeout (st : Nat) (s : State) : Host.Outcome State Fault Refusal := run (hasAgent st) (reqTimeout s st)

/-- A packet needs the router in TEST: one addressed to its stop, or one in lane E that must turn here (R166). -/
def needsRouter (s : State) (st : Nat) : Bool :=
  [0, 1].any (fun net => [0, 1, 2, 3, 4].any (fun p => [0, 1, 2, 3, 4, 5].any (fun ln =>
    let l := lane s (laneKey net st p ln)
    match l.q with
    | [] => false
    | f :: _ =>
      let o := (escHop s st p ln f.sb).1
      l.out.isNone && (f.sb.dstop = st || ((ln != lnA || l.esc) && ((p ≤ 2 && p != 0 && 3 ≤ o) || (3 ≤ p && (o = 1 || o = 2))))))))

/-- The test of router `st` ends for a packet that needs it. -/
def testAbort (s : State) (st : Nat) : State :=
  if rtrState s st = rtTEST && needsRouter s st then
    (if (bunit s (200 + st)).run then bistAbort s (200 + st) else endTest s st)
  else s

/-- TEST_ABORT_BY_PACKET (R166). -/
def execTestAbortByPacket (st : Nat) (s : State) : Host.Outcome State Fault Refusal := run (st < 100) (testAbort s st)

/-- A stop's telemetry message of at most two flits, once in 1,024 ticks (R441); its destination, code and data are
the stop's. -/
def telemetry (s : State) (st ddev dstop code : Nat) (data : List Word) : State :=
  let last := smGet 0 s.env.tele st
  if (last != 0 && s.time.edges + 1 < last + 1024) || bypassed s st || stopFenced s st then s
  else
    let p : Pkt := { ty := 4, sdev := ownDev s, sstop := st, ddev := ddev, dstop := dstop, xhdr := code * 65536, data := data }
    setStop { s with env := { s.env with tele := smSet 0 st (s.time.edges + 1) s.env.tele } } st { stop s st with reqQ := (stop s st).reqQ ++ [p] }

/-- TELEMETRY_MSG (R441). -/
def execTelemetryMsg (st ddev dstop code : Nat) (data : List Word) (s : State) : Host.Outcome State Fault Refusal :=
  run (hasAgent st && hasAgent dstop) (telemetry s st (ddev % 1024) dstop (code % 65536) (data.take 4))

end Machine
end Sys2Proof
end

