-- ==== Sys2Proof/Machine/Kaluno.lean ====
section
/-!
DEFINITION. Kaluno's commands, first part (chapter 14): what a command answers, and the SYS, CAB, TICK and NET
groups (R366 to R368 with R13, R20, R21, R97, R106, R111 to R113, R161, R293).
-/

namespace Sys2Proof
namespace Machine

/-! ### Answers (R366) -/

/-- What a command answers: STATUS, SUB, MORE and the payload; or what its answer waits for (R362). -/
inductive Reply where
  | done (st sub : Nat) (more : Bool) (pay : List Byte)
  | wait (w : Wait)
  deriving DecidableEq, Repr

/-- OK with a payload. -/
def rOk (p : List Byte) : Reply := .done 0 0 false p

/-- A status with no payload. -/
def rErr (n : Nat) : Reply := .done n 0 false []

/-- BUSY_RETRY. -/
def kBUSY : Nat := 1
/-- BAD_COMMAND. -/
def kBAD_COMMAND : Nat := 2
/-- BAD_LENGTH. -/
def kBAD_LENGTH : Nat := 3
/-- PARAM_INVALID. -/
def kPARAM : Nat := 4
/-- SEQ_ERROR. -/
def kSEQ : Nat := 5
/-- CHECK_ERROR. -/
def kCHECK : Nat := 6
/-- NOT_PERMITTED. -/
def kNOT_PERMITTED : Nat := 7
/-- UNAVAILABLE. -/
def kUNAVAILABLE : Nat := 8
/-- STATE_CONFLICT. -/
def kCONFLICT : Nat := 9
/-- ADMISSION_REFUSED. -/
def kADMISSION : Nat := 0xA
/-- REGION_VIOLATION. -/
def kREGION : Nat := 0xB
/-- DOMAIN_OFF. -/
def kDOMAIN_OFF : Nat := 0xC
/-- LOAD_FAILED. -/
def kLOAD_FAILED : Nat := 0xD
/-- NOT_FOUND. -/
def kNOT_FOUND : Nat := 0xE
/-- TABLE_FULL. -/
def kTABLE_FULL : Nat := 0xF
/-- BUREAU_REFUSED. -/
def kBUREAU : Nat := 0x10
/-- LATCHED. -/
def kLATCHED : Nat := 0x11
/-- TIMEOUT. -/
def kTIMEOUT : Nat := 0x12
/-- AUTH_FAILED. -/
def kAUTH : Nat := 0x13

/-- Reads whole registers in turn, each laid out as its table gives it (R367): RC fields clear (R8). -/
def readRegs : List (Nat × Nat) → State → State × List Byte
  | [], s => (s, [])
  | (r, i) :: t, s =>
    let q := regRead s r i 0 (8 * rowBytes r)
    let u := readRegs t q.1
    (u.1, leBytes (rowBytes r) q.2 ++ u.2)

/-- Answers with registers. -/
def regAnswer (s : State) (l : List (Nat × Nat)) : State × Reply :=
  let q := readRegs l s
  (q.1, rOk q.2)

/-- Answers with one register. -/
def oneReg (s : State) (r i : Nat) : State × Reply := regAnswer s [(r, i)]

/-- Runs a register write and says whether it set the REFUSED flag `f`. -/
def tried (s : State) (f : Fld) (i : Nat) (g : State → State) : State × Bool :=
  let t := g (fset s f i 0)
  let r := fgetB t f i
  (if fgetB s f i then fset t f i 1 else t, r)

/-- A draw of a free value below `n`. -/
def drawBelow (s : State) (n : Nat) : State × Nat := (drawFree s, Config.choice s.free % n)

/-- A byte list made exactly `n` bytes long. -/
def padTo (n : Nat) (l : List Byte) : List Byte := (l ++ List.replicate n 0).take n

/-! ### SYS -/

/-- IDENTIFY. -/
def cIdentify (s : State) : State × Reply :=
  let h := s.boot.image.take 64
  (s, rOk (leBytes 4 idcode ++ leBytes 8 Config.serial ++ leBytes 4 (Config.fwVersion h) ++ leBytes 4 (Config.fwSvn h) ++
    leBytes 2 3 ++ leBytes 2 (ownDev s) ++ padTo 57 Config.attestKey))

/-- Cabinets in each state. -/
def nState (s : State) : List Byte :=
  (List.range 8).flatMap (fun k => leBytes 1 (min 255 ((List.range 100).filter (fun p => cabState s p = k)).length))

/-- A temperature in 0.1 °C as two bytes, signed. -/
def tempBytes (t : Int) : List Byte := leBytes 2 (t % 65536).toNat

/-- STATUS. TJMAX is the highest reading of the sensors, free before they have been read. -/
def cSysStatus (s : State) : State × Reply :=
  let q := readRegs [(R_SYS_BOOT_STAT, 0)] s
  let r := readRegs [(R_FLT_STATUS, 0)] q.1
  let tj : State × List Byte :=
    match s.env.temps with
    | [] => let d := drawBelow r.1 65536
            (d.1, leBytes 2 d.2)
    | a :: l => (r.1, tempBytes (l.foldl max a))
  (tj.1, rOk (q.2 ++ leBytes 1 (fget s FLT_STATE_STATE 0) ++ r.2 ++ nState s ++ tj.2))

/-- SHAKE256 over the 96 CFG_IMG_ID values. -/
def imageDigest (s : State) : List Byte :=
  shake256 ((List.range 96).flatMap (fun l => leBytes 8 (regView s R_CFG_IMG_ID l))) 32

/-- ATTEST: the signed bytes are NONCE, IDCODE, SERIAL and the three fields. -/
def cAttest (s : State) (nonce : List Byte) : State × Reply :=
  let f := shake256 s.boot.image 32 ++ imageDigest s ++ leBytes 8 s.time.tick
  (s, rOk (f ++ padTo 114 (Config.attestSign (nonce ++ leBytes 4 idcode ++ leBytes 8 Config.serial ++ f))))

/-- RESET: a warm reset DELAY ms after the response (R311). -/
def cSysReset (s : State) (d : Nat) : State × Reply :=
  (setBoot s { s.boot with resetAt := some (s.time.now + msCycles d) }, rOk [])

/-- SENSORS. -/
def cSensors (s : State) : State × Reply :=
  (s, rOk (leBytes 1 s.env.temps.length ++ s.env.temps.flatMap tempBytes ++ leBytes 2 s.env.vcore ++ leBytes 2 s.env.vsram))

/-- The signature of an OTP command: Ed448ph over GROUP, CODE, SERIAL and the fields before PK, under a key whose
digest is in an unrevoked slot. -/
def otpSigned (s : State) (code auth : Nat) (fields pk sig : List Byte) : Bool :=
  !s.otp.revoked.testBit auth && !(smGet [] s.otp.digest auth).isEmpty && pkDigest pk = smGet [] s.otp.digest auth &&
    edVerify true (strBytes "AXRID-OTP") pk (leBytes 1 1 ++ leBytes 1 code ++ leBytes 8 Config.serial ++ fields) sig

/-- KEY_REVOKE (R293). -/
def cKeyRevoke (s : State) (slot auth : Nat) (pk sig : List Byte) : State × Reply :=
  if 4 ≤ slot ∨ 4 ≤ auth then (s, rErr kPARAM)
  else if auth = slot || s.otp.revoked.testBit auth || (s.otp.revoked ||| 2 ^ slot) % 16 = 15 then (s, rErr kNOT_PERMITTED)
  else if !otpSigned s 6 auth (leBytes 1 slot ++ leBytes 1 auth) pk sig then (s, rErr kAUTH)
  else
    let s1 := { s with otp := { s.otp with revoked := s.otp.revoked ||| 2 ^ slot } }
    (s1, rOk (leBytes 1 (fuseView s1 CFG_KEY_STAT_PRESENT) ++ leBytes 1 (fuseView s1 CFG_KEY_STAT_REVOKED)))

/-- SVN_RAISE. -/
def cSvnRaise (s : State) (which svn auth : Nat) (pk sig : List Byte) : State × Reply :=
  let now := if which = 0 then s.otp.svn else s.otp.fwSvn
  if 1 < which ∨ 4 ≤ auth ∨ svn < now then (s, rErr kPARAM)
  else if !otpSigned s 7 auth (leBytes 1 which ++ leBytes 4 svn ++ leBytes 1 auth) pk sig then (s, rErr kAUTH)
  else
    ({ s with otp := if which = 0 then { s.otp with svn := svn } else { s.otp with fwSvn := svn } }, rOk (leBytes 4 svn))

/-! ### CAB -/

/-- The payload of a CAB LOAD response from CFG_LOAD_STAT (R368). -/
def loadPay (s : State) (code : Nat) : List Byte :=
  leBytes 1 code ++ leBytes 1 (fget s CFG_LOAD_STAT_SUB 0) ++ leBytes 1 (fget s CFG_LOAD_STAT_KIND 0) ++
    leBytes 4 (fget s CFG_LOAD_STAT_OFFSET 0) ++ leBytes 8 (fget s CFG_LOAD_ID_SID 0) ++
    leBytes 12 (if code = 0x1A then maskOf 96 (fun l => s.cfg.bad.contains l) else 0)

/-- The answer of a CAB LOAD that has ended (R368). -/
def loadReply (s : State) : Reply :=
  let c := fget s CFG_LOAD_STAT_CODE 0
  let b := fget s CFG_LOAD_STAT_SUB 0
  let st := if c = 0 ∨ c = 0x1A then 0 else if c = 1 then kBUSY else if c = 0xF then kREGION else if c = 0x18 then kADMISSION else kLOAD_FAILED
  .done st (if st = kADMISSION then b else if st = kLOAD_FAILED then c else 0) false (loadPay s c)

/-- The load of this controller goes on. -/
def loading (s : State) : Bool := s.cfg.job.isSome || s.cfg.compat.isSome

/-- LOAD (R368): a DMA mover copies BYTES into the staging buffer unless SRC is 0; `ext` is what it reads from host
memory. -/
def cCabLoad (s : State) (src compat cofs addr n : Nat) (ext : List Byte) : State × Reply :=
  if loadBusy s then (s, .done kBUSY 0 false (loadPay s 1))
  else if 3 < src ∨ 1 < compat ∨ 67108864 < n ∨ (compat = 1 ∧ 72 < cofs) ∨ (src = 3 ∧ !inGddr s addr n) then
    (s, .done kPARAM 0 false (loadPay s (fget s CFG_LOAD_STAT_CODE 0)))
  else
    let q : State × List (Byte × Bool) :=
      if src = 1 then (s, (padTo n ext).map (fun b => (b, false)))
      else if src = 2 then (s, (flashBytes s addr n).map (fun b => (b, false)))
      else if src = 3 then gReadBytes (n / 128 + 2) (addr - 0x1000000000) n s
      else (s, [])
    let s1 := if src = 0 then q.1 else gWriteBytes (n / 128 + 2) (stageOfs q.1) q.2 q.1
    let s2 := if compat = 1 then compatGo (fset s1 CFG_COMPAT_OFFSET 0 cofs) n else loadGo s1 n
    if loading s2 then (s2, .wait .load) else (s2, loadReply s2)

/-- The cabinet of a field l. -/
def cabArg (s : State) (l : Nat) (f : Nat → State × Reply) : State × Reply :=
  if 96 ≤ l then (s, rErr kPARAM) else f (physOf s l)

/-- A cabinet leaves the list of reloads that are due. -/
def dueDrop (s : State) (l : Nat) : State := { s with cfg := { s.cfg with due := s.cfg.due.filter (fun x => x != l) } }

/-- UNLOAD (R106). -/
def cUnload (s : State) (l : Nat) : State × Reply :=
  cabArg s l (fun p =>
    let st := cabState s p
    if st = stLOADING ∨ st = stOFF then (s, rErr kCONFLICT)
    else if st = stEMPTY then (s, rOk [0])
    else if st = stDRAINING then (s, .wait (.unload l))
    else if st = stFAULTED ∨ st = stINCONSISTENT then (cabEmpty (dueDrop s l) p, rOk [0])
    else (setReq s p (.drain 2), .wait (.unload l)))

/-- HOLD (R106). -/
def cHold (s : State) (l : Nat) : State × Reply :=
  cabArg s l (fun p => if cabState s p = stRUNNING then (setReq s p .hold, .wait (.hold l)) else (s, rErr kCONFLICT))

/-- A plan that is not admitted is tested (R95): the sub-reason of its first failing test, 0 where it is admitted. -/
def planSub (s : State) (p plan : Nat) : Nat := if planAdm s p plan then 0 else planTest s p plan

/-- RUN (R106). -/
def cRun (s : State) (l plan : Nat) : State × Reply :=
  cabArg s l (fun p =>
    let sub := planSub s p plan
    if 1 < plan then (s, rErr kPARAM)
    else if fgetB s FLT_UNIT_LATCHED (unitIx 0 l) then (s, rErr kLATCHED)
    else if cabState s p != stHELD then (s, rErr kCONFLICT)
    else if sub != 0 then (s, .done kADMISSION sub false [])
    else
      let s1 := if planAdm s p plan then s else sumLinks (setAdm s p plan true)
      (setReq s1 p (.run plan), .wait (.run l)))

/-- DRAIN (R106). -/
def cDrain (s : State) (l : Nat) : State × Reply :=
  cabArg s l (fun p =>
    if cabState s p = stRUNNING ∨ cabState s p = stHELD then (setReq s p (.drain 2), .wait (.drain l)) else (s, rErr kCONFLICT))

/-- POWER (R106): off gates the domain, at once or when its drain ends; on leaves it EMPTY. -/
def cPower (s : State) (l on : Nat) : State × Reply :=
  cabArg s l (fun p =>
    let st := cabState s p
    if 1 < on then (s, rErr kPARAM)
    else if on = 1 then (if st = stOFF then (cabGo s p stEMPTY, rOk [0]) else (s, rErr kCONFLICT))
    else if st = stEMPTY ∨ st = stFAULTED ∨ st = stINCONSISTENT then (cabOff (bistAbort (dueDrop s l) (100 + p)) p, rOk [7])
    else if st = stRUNNING ∨ st = stHELD then (setReq s p (.drain 1), .wait (.power l))
    else (s, rErr kCONFLICT))

/-- The state in which a relocation's link loads are summed: l's bookings and plans at the destination (R111). -/
def relocTrial (s : State) (l p r : Nat) : State :=
  let s1 := fset s CFG_CAB_MAP_PHYS l r
  let s2 := putBooks r 8 0 (img s l).doors.books (putBooks p 8 0 [] s1)
  setAdm (setAdm (setAdm (setAdm s2 r 0 (planAdm s p 0)) r 1 (planAdm s p 1)) p 0 false) p 1 false

/-- RELOCATE (R111): the destination is loaded from the staged image, then the old cabinet drains. -/
def cRelocate (s : State) (l target : Nat) : State × Reply :=
  cabArg s l (fun p =>
    let r := if target = 0xFF then CFG_CAB_MAP_PHYS.resetAt l else target
    if target != 0xFF && !isReserve target then (s, rErr kPARAM)
    else if loadBusy s then (s, rErr kBUSY)
    else if !fgetB s CAB_STATE_RELOC p then (s, rErr kNOT_PERMITTED)
    else if cabState s r != stEMPTY || (cabState s p != stRUNNING && cabState s p != stHELD) then (s, rErr kCONFLICT)
    else
      let t := relocTrial s l p r
      if overbooked t (activeBooks t) then (s, .done kADMISSION subOVERBOOKED false [])
      else
        let s1 := cabWrite (cabLoading (bistAbort s (100 + r)) r) r (img s l) false
        let s2 := setReq s1 p (.drain 2)
        (setCab s2 p { cab s2 p with reloc := some ⟨l, r⟩ }, .wait (.relocate l r)))

/-- PLAN (R97). -/
def cPlan (s : State) (l plan : Nat) : State × Reply :=
  cabArg s l (fun p =>
    let sub := planSub s p plan
    if 1 < plan then (s, rErr kPARAM)
    else if cabState s p != stRUNNING then (s, rErr kCONFLICT)
    else if sub != 0 then (s, .done kADMISSION sub false [])
    else
      let s1 := planRequest (if planAdm s p plan then s else sumLinks (setAdm s p plan true)) p plan
      (s1, rOk (leBytes 1 (fget s1 CAB_PLAN_SEL_CUR p) ++ leBytes 1 (fget s1 CAB_PLAN_SEL_PEND p))))

/-- CAPTURE (R113). -/
def cCapture (s : State) (l mode ofs tick : Nat) : State × Reply :=
  cabArg s l (fun p =>
    if !fgetB s CAB_STATE_CAP_GRANT p then (s, rErr kNOT_PERMITTED)
    else if 8 ≤ (setInstances s CAB_CAPTURE_CTL_ARMED).length then (s, rErr kCONFLICT)
    else if 1 < mode ∨ tick ≤ s.time.tick ∨ (mode = 1 ∧ tickLen s ≤ ofs) then (s, rErr kPARAM)
    else (captureArm (fset s CAB_CAPTURE_TICK_TICK p tick) p mode ofs, rOk []))

/-- The data of a stored word as the configuration port reads it. -/
def storedData (c : Code) : Word :=
  match eccJudge c with
  | .clean d => d
  | .fixed d => d
  | _ => eccData c

/-- Reads RAM words `a`, `a` + 1, … of a cell (R74). -/
def ramWords (p q r : Nat) : Nat → Nat → State → State × List Word
  | 0, _, s => (s, [])
  | n + 1, a, s =>
    let x := ramRead s p q r a 1 0
    let y := ramWords p q r n (a + 1) x.1
    (y.1, x.2.w :: y.2)

/-- READBACK (R112). -/
def cReadback (s : State) (l col row sec : Nat) : State × Reply :=
  cabArg s l (fun p =>
    let q := pcolOf s p col
    let c := cell s (cid p q row)
    let cfgw (b n : Nat) : List Word := (List.range n).map (fun i => storedData (smGet 0 c.cfg (b + i)))
    let w : State × List Word :=
      if sec = 0 then (s, cfgw 0 12)
      else if sec ≤ 15 then (s, cfgw (12 + 3 * (sec - 1)) 3)
      else if sec ≤ 23 then ramWords p q row 64 (64 * (sec - 16)) s
      else if sec = 24 then (s, liveWords (landDue s.time.now c).1 (s.time.now + 1))
      else (s, (List.range 7).map (fun i => smGet 0 c.cap i))
    if 16 ≤ col ∨ 8 ≤ row ∨ 25 < sec then (s, rErr kPARAM)
    else if cabState s p = stOFF then (s, rErr kDOMAIN_OFF)
    else (w.1, rOk (wordBytes w.2)))

/-- STATUS. -/
def cCabStatus (s : State) (l : Nat) : State × Reply :=
  cabArg s l (fun p =>
    let q := readRegs [(R_CAB_STATE, p), (R_CAB_PLAN_STAT, p), (R_CAB_DRAWER_VALID, p), (R_CAB_GAP, p), (R_CAB_STARTUP, p)] s
    (q.1, rOk (q.2 ++ leBytes 1 p ++ leBytes 8 (fget s CFG_IMG_ID_SID l))))

/-! ### TICK -/

/-- GET. -/
def cTickGet (s : State) : State × Reply :=
  regAnswer s [(R_SYS_TICK_CFG, 0), (R_SYS_TICK_CNT, 0), (R_SYS_TICK_OFS, 0), (R_SYS_TICK_STAT, 0)]

/-- SET_LEN (R13, R21). A command turned away by its status leaves LEN_REFUSED as it is: the spec names that bit for a
refused write of the register and not for the command (DESIGN CHOICE, entry 117). -/
def cSetLen (s : State) (n : Nat) : State × Reply :=
  if n < 300 ∨ 750000 < n then (s, rErr kPARAM) else if tickLenOk s n then (tickLenWrite s n, rOk []) else (s, rErr kCONFLICT)

/-- SET_SOURCE (R20). -/
def cSetSource (s : State) (src tol : Nat) : State × Reply :=
  if 3 ≤ src ∨ 2 ^ SYS_TICK_CFG_TOL.width ≤ tol then (s, rErr kPARAM)
  else (tickSrcWrite (fset s SYS_TICK_CFG_TOL 0 tol) src, rOk [])

/-- ALIGN (R20): answered when the realignment tick has ended. -/
def cAlign (s : State) : State × Reply := (tickAlign s, .wait .align)

/-- OUTPUT (R25). -/
def cOutput (s : State) (en : Nat) : State × Reply :=
  if 1 < en then (s, rErr kPARAM) else (fset s SYS_TICK_CFG_TICK_OUT_EN 0 en, rOk [])

/-! ### NET -/

/-- RING_STATUS. -/
def cRingStatus (s : State) (r : Nat) : State × Reply := if 20 ≤ r then (s, rErr kPARAM) else oneReg s R_NOC_RING_STAT r

/-- Whether a router has reached what a mode asks for. -/
def routerThere (s : State) (st mode : Nat) : Bool := if mode = 1 then rtrState s st = rtBYPASS else rtrState s st = rtNORMAL

/-- ROUTER (R161). -/
def cRouter (s : State) (st mode : Nat) : State × Reply :=
  if 100 ≤ st ∨ 1 < mode then (s, rErr kPARAM)
  else
    let q := tried s NOC_RTR_CTL_REFUSED st (fun t => routerMode t st mode)
    if q.2 then (q.1, rErr kCONFLICT)
    else if routerThere q.1 st mode then (q.1, rOk (leBytes 1 (rtrState q.1 st)))
    else (q.1, .wait (.router st mode s.time.now))

/-- LOAD. -/
def cNetLoad (s : State) (st : Nat) : State × Reply := if 140 ≤ st then (s, rErr kPARAM) else oneReg s R_NOC_LINK_LOAD st

/-- BOOKINGS. -/
def cBookings (s : State) (st : Nat) : State × Reply :=
  if 140 ≤ st then (s, rErr kPARAM)
  else
    let n := if st < 100 then 8 else 16
    let q := readRegs ((List.range n).map (fun k => (R_NOC_BOOK, bookIx st k))) s
    (q.1, rOk (leBytes 1 n ++ q.2))

/-- COUNTERS. -/
def cCounters (s : State) (st : Nat) : State × Reply :=
  if 140 ≤ st then (s, rErr kPARAM) else regAnswer s [(R_NOC_RTR_ERR, st), (R_NOC_STOP_STAT, st), (R_NOC_STOP_EVT, st)]

/-- TIMERS: a zero field leaves its timer unchanged. -/
def cTimers (s : State) (req drain reorder : Nat) : State × Reply :=
  let keep (f : Fld) (v : Nat) : Nat := if v = 0 then fget s f 0 else v
  oneReg (nocCfg s (keep NOC_CFG_REORDER_TO reorder) (keep NOC_CFG_DRAIN drain) (keep NOC_CFG_REQ_TO req)) R_NOC_CFG 0

end Machine
end Sys2Proof
end

