-- ==== Sys2Proof/Machine/KalunoIo.lean ====
section
/-!
DEFINITION. Kaluno's commands, second part (chapter 14): the PORT, FLOW, MEM and SCH groups (R362, R367 with R174,
R183, R192, R196, R208, R210, R213, R214, R235 to R238, R257, R341, R352).
-/

namespace Sys2Proof
namespace Machine

/-- The value of register `r` as it stands with one field put in. -/
def regWith (s : State) (r i : Nat) (f : Fld) (v : Nat) : Nat :=
  regView s r i - fview s f i % 2 ^ f.width * 2 ^ f.lo + v % 2 ^ f.width * 2 ^ f.lo

/-! ### PORT -/

/-- JESD_CFG (R190): the link and the path's link are OFF. -/
def cJesdCfg (s : State) (j n cfg rel q path : Nat) : State × Reply :=
  let i := 4 * j + n
  if 8 ≤ j ∨ 4 ≤ n ∨ 4 ≤ q ∨ fldOf JPT_LINK_CFG_EN cfg != 0 then (s, rErr kPARAM)
  else if jState s i != jOFF || jState s (pathLink s j q) != jOFF ||
      jState s (pathLink (fstore s jptPathFlds (4 * j + q) path) j q) != jOFF then (s, rErr kCONFLICT)
  else (jptPathWrite (regPutPlain (jptLinkWrite s j n cfg) R_JPT_LINK_REL i rel) j q path, rOk [])

/-- A write of EN of a converter link. -/
def jesdEnPut (j n en : Nat) (s : State) : State :=
  jptLinkWrite s j n (regWith s R_JPT_LINK_CFG (4 * j + n) JPT_LINK_CFG_EN en)

/-- A write of EN of a converter link, and whether it was refused. -/
def jesdEnTry (s : State) (j n en : Nat) : State × Bool := tried s JPT_LINK_CFG_REFUSED (4 * j + n) (jesdEnPut j n en)

/-- JESD_ENABLE (R174, R181, R186): answered when DATA, FAILED or OFF is reached. -/
def cJesdEnable (s : State) (j n en : Nat) : State × Reply :=
  if 8 ≤ j ∨ 4 ≤ n ∨ 1 < en then (s, rErr kPARAM)
  else ((jesdEnTry s j n en).1, if (jesdEnTry s j n en).2 then rErr kPARAM else .wait (.jesd (4 * j + n) s.time.now))

/-- JESD_SYSREF (R183): answered when ALIGNED. -/
def cJesdSysref (s : State) (j : Nat) : State × Reply :=
  if 8 ≤ j then (s, rErr kPARAM) else (jptArm s j, .wait (.sysref j s.time.now))

/-- JESD_STATUS. -/
def cJesdStatus (s : State) (j : Nat) : State × Reply :=
  if 8 ≤ j then (s, rErr kPARAM)
  else
    regAnswer s ((List.range 4).map (fun n => (R_JPT_LINK_STAT, 4 * j + n)) ++ (List.range 8).map (fun l => (R_JPT_LANE_ERR, 8 * j + l)) ++
      (List.range 4).map (fun q => (R_JPT_PATH_ERR, 4 * j + q)) ++ [(R_JPT_SYSREF, j)])

/-- ETH_CFG (R192). -/
def cEthCfg (s : State) (n v : Nat) : State × Reply :=
  if 8 ≤ n then (s, rErr kPARAM)
  else
    let q := tried s CPT_PORT_CFG_REFUSED n (fun t => cptCfgWrite t n v)
    (q.1, if q.2 then rErr kPARAM else rOk [])

/-- ETH_STATUS. -/
def cEthStatus (s : State) (n : Nat) : State × Reply :=
  if 8 ≤ n then (s, rErr kPARAM) else regAnswer s [(R_CPT_PORT_CFG, n), (R_CPT_PORT_CNT, n)]

/-- TOD (R196). -/
def cTod (s : State) (op v : Nat) : State × Reply :=
  if 2 < op ∨ (op = 2 ∧ 2 ^ 40 ≤ v) then (s, rErr kPARAM)
  else
    let s1 := if op = 1 then todStep s v else if op = 2 then fset s CPT_TOD_INC_INC 0 v else s
    regAnswer s1 [(R_CPT_TOD_SEC, 0), (R_CPT_TOD_NS, 0), (R_CPT_TOD_INC, 0)]

/-- Reads `k` stamps. -/
def stampsRead (n : Nat) : Nat → State → State × List Byte
  | 0, s => (s, [])
  | k + 1, s =>
    let q := txtsRead s n
    let r := stampsRead n k q.1
    (r.1, leBytes 8 q.2 ++ r.2)

/-- TXTS (R198). -/
def cTxts (s : State) (n most : Nat) : State × Reply :=
  if 8 ≤ n ∨ most < 1 ∨ 64 < most then (s, rErr kPARAM)
  else
    let k := min most (cptPort s n).stamps.length
    let q := stampsRead n k s
    (q.1, rOk (leBytes 1 k ++ q.2))

/-- SYNCE. -/
def cSynce (s : State) (o v : Nat) : State × Reply :=
  if 2 ≤ o then (s, rErr kPARAM) else (regPutPlain s R_CPT_SYNCE o v, rOk [])

/-- SPAN_CFG (R256, R257). -/
def cSpanCfg (s : State) (k v : Nat) : State × Reply :=
  if 8 ≤ k then (s, rErr kPARAM)
  else if spState s k != 0 then (s, rErr kCONFLICT)
  else
    let q := tried s SPN_LINK_CFG_REFUSED k (fun t => spLinkWrite t k v)
    (q.1, if q.2 then rErr kPARAM else rOk [])

/-- SPAN_STATUS. -/
def cSpanStatus (s : State) (k : Nat) : State × Reply :=
  if 8 ≤ k then (s, rErr kPARAM) else regAnswer s [(R_SPN_LINK_STAT, k), (R_SPN_LINK_ERR, k), (R_SPN_CAL, k)]

/-- SPAN_ROUTE. -/
def cSpanRoute (s : State) (d v : Nat) : State × Reply :=
  if 1024 ≤ d then (s, rErr kPARAM) else (spRouteWrite s d v, rOk [])

/-- SPAN_SYS (R250): nothing is written while a link is not OFF. -/
def cSpanSys (s : State) (sys tick rclk : Nat) : State × Reply :=
  let q := tried s SPN_SYS_REFUSED 0 (fun t => spSysWrite t sys)
  if q.2 then (q.1, rErr kCONFLICT)
  else oneReg (regPutPlain (regPutPlain q.1 R_SPN_TICK 0 tick) R_SPN_RCLK 0 rclk) R_SPN_TICK_STAT 0

/-! ### FLOW -/

/-- LEX (R208): the entry is staged and the operation goes; answered when the lexicon is done. -/
def cLex (s : State) (op loc ent : Nat) : State × Reply :=
  if op < 1 ∨ 6 < op ∨ 524288 ≤ loc then (s, rErr kPARAM)
  else if fgetB s LEX_CMD_BUSY 0 then (s, rErr kCONFLICT)
  else (lexCmd (fset (fset s LEX_DATA_LO_DATA 0 ent) LEX_DATA_HI_DATA 0 (ent / 2 ^ 64)) op loc [], .wait .lex)

/-- LEX_PORT (R210). -/
def cLexPort (s : State) (i v : Nat) : State × Reply :=
  if 25 ≤ i then (s, rErr kPARAM) else (lexPortWrite s i v, .wait .lexPort)

/-- FLOW_SET (R213). -/
def cFlowSet (s : State) (f desc : Nat) : State × Reply :=
  if 16384 ≤ f then (s, rErr kPARAM) else (flowSet s f desc, rOk [])

/-- FLOW_GET (R213, R221). -/
def cFlowGet (s : State) (f : Nat) : State × Reply :=
  let x := flow s f
  if 16384 ≤ f then (s, rErr kPARAM)
  else
    (s, rOk (leBytes 32 (flowBits x) ++ leBytes 8 x.enqF ++ leBytes 8 x.enqB ++ leBytes 8 x.deqF ++ leBytes 8 x.deqB ++
      (List.range 8).flatMap (fun r => leBytes 8 (smGet 0 x.dropF r)) ++ leBytes 8 x.dropB ++ leBytes 4 (flowCells x)))

/-- LINK (R220). -/
def cLink (s : State) (l v : Nat) : State × Reply :=
  if 16 ≤ l then (s, rErr kPARAM)
  else
    let q := tried s QMG_LINK_CFG_REFUSED l (fun t => qmLinkWrite t l (fldOf QMG_LINK_CFG_EN v = 1) (fldOf QMG_LINK_CFG_MAXB v))
    if q.2 then (q.1, rErr kPARAM) else oneReg q.1 R_QMG_LINK_STAT l

/-- QM_CFG (R214, R220): all of it, or none where one part is refused. -/
def cQmCfg (s : State) (cfg base cells : Nat) : State × Reply :=
  let b := fldOf QMG_POOL_BASE_BASE base
  let change := b != fget s QMG_POOL_BASE_BASE 0 || cells != fget s QMG_POOL_CELLS 0
  let dl := fldOf QMG_CFG_BUDGET_DL cfg
  if change && anyFlow s then (s, rErr kCONFLICT)
  else if 2 ^ 26 ≤ cells ∨ dl < 100 ∨ tickLen s < dl + 600 ∨ !poolOk s (b * 2 ^ 20) cells then (s, rErr kPARAM)
  else
    let s1 := if change then fset (fset (fset s QMG_POOL_BASE_BASE 0 b) QMG_POOL_CELLS 0 cells) QMG_POOL_FREE 0 cells else s
    oneReg (qmgCfgPut s1 cfg) R_QMG_POOL 0

/-! ### MEM -/

/-- STATUS. -/
def cMemStatus (s : State) : State × Reply :=
  regAnswer s ([(R_GDM_STAT, 0), (R_GDM_ERR, 0), (R_GDM_LAST, 0)] ++ (List.range 5).map (fun d => (R_GDM_DEV_ERR, d)))

/-- FAIL (R235, R236). -/
def cMemFail (s : State) (d : Nat) : State × Reply :=
  if 5 ≤ d then (s, rErr kPARAM) else oneReg (gDeclare s d) R_GDM_STAT 0

/-- RETRAIN (R237): answered when the device has trained. -/
def cMemRetrain (s : State) : State × Reply :=
  if fgetB s GDM_STAT_DEGRADED 0 then (setGdr s { s.gdr with retrained := false }, .wait (.retrain s.time.now))
  else (s, rErr kCONFLICT)

/-- REBUILD (R237). -/
def cMemRebuild (s : State) : State × Reply :=
  let q := tried s GDM_CTL_REFUSED 0 gRebuild
  (q.1, if q.2 then rErr kCONFLICT else rOk [])

/-- A spare mapping as one word. -/
def spareWord (e : Nat × Nat × Nat) : Nat := e.1 % 65536 * 2 ^ 48 + e.2.1 % 2 ^ 24 * 2 ^ 24 + e.2.2 % 2 ^ 24

/-- SPARE_GET (R238). -/
def cSpareGet (s : State) (d from_ : Nat) : State × Reply :=
  let l := (smGet [] s.gdr.spare d).drop from_
  let k := min 255 l.length
  let more := decide (k < l.length)
  if 5 ≤ d then (s, rErr kPARAM)
  else
    (s, .done 0 0 more (leBytes 1 k ++ (l.take k).flatMap (fun e => leBytes 8 (spareWord e)) ++ (if more then leBytes 4 (from_ + k) else [])))

/-- SPARE_SET (R238): the entries join the map; one of a row replaces what it had. -/
def cSpareSet (s : State) (d : Nat) (es : List Nat) : State × Reply :=
  let es1 := es.map (fun e => (e / 2 ^ 48 % 65536, e / 2 ^ 24 % 2 ^ 24, e % 2 ^ 24))
  if 5 ≤ d ∨ es1.any (fun e => 64 ≤ e.2.2) then (s, rErr kPARAM)
  else if s.gdr.traffic then (s, rErr kCONFLICT)
  else
    let l := es1.foldl (fun (l : List (Nat × Nat × Nat)) e => l.filter (fun x => !(x.1 = e.1 && x.2.1 = e.2.1)) ++ [e]) (smGet [] s.gdr.spare d)
    (fset (setGdr s { s.gdr with spare := smSet [] d l s.gdr.spare }) GDM_DEV_ERR_SPARE_USED d l.length, rOk [])

/-- DMA_STATUS. -/
def cDmaStatus (s : State) (c : Nat) : State × Reply :=
  if 16 ≤ c then (s, rErr kPARAM) else regAnswer s [(R_DMA_CH_STAT, c), (R_DMA_IDX, c)]

/-! ### SCH -/

/-- The first failing pair and band as two bytes; free where it is the count of periodic threads that fails, or
where nothing fails. -/
def pairBand (s : State) (ths : List Thr) : State × List Byte :=
  match schFirst s (schPairs s ths (admittedDemand s)) with
  | some e => (s, leBytes 1 e.1 ++ leBytes 1 e.2)
  | none => let d := drawBelow s 65536
            (d.1, leBytes 2 d.2)

/-- THREAD_SET (R341, R352). -/
def cThreadSet (s : State) (t desc : Nat) : State × Reply :=
  let x := thrOf desc
  let o := thr s t
  if 4096 ≤ t ∨ !thrOk x then (s, rErr kPARAM)
  else if o.valid && o.st != thIDLE then (s, rErr kCONFLICT)
  else if !schAdmits s (thrsWith s t x) (admittedDemand s) then
    let q := pairBand s (thrsWith s t x)
    (q.1, .done kADMISSION subDEADLINE false q.2)
  else (setThr s t x, rOk [])

/-- THREAD_GET. -/
def cThreadGet (s : State) (t : Nat) : State × Reply :=
  if 4096 ≤ t then (s, rErr kPARAM) else (s, rOk (leBytes 32 (thrBits (thr s t))))

/-- THREAD_DEL. -/
def cThreadDel (s : State) (t : Nat) : State × Reply :=
  if 4096 ≤ t then (s, rErr kPARAM)
  else if (thr s t).valid && (thr s t).st = thIDLE then (setThr s t {}, rOk [])
  else (s, rErr kCONFLICT)

/-- Threads of the scheduler with those of a list replaced or added. -/
def thrsTrial (s : State) (l : List (Nat × Nat)) : List Thr :=
  let m := l.foldl (fun (m : SMap Thr) e => smPut e.1 (thrOf e.2) m) s.ctl.thr
  m.map (fun e => e.2)

/-- Utilisation in 1/1,000, rounded down or up (the spec names no rounding: `up`). -/
def utilMilli (s : State) (l : List SchCls) (up : Bool) : Nat :=
  let f := utilFrac l
  let n := f.1 * (cclkUnit s).2 * 1000
  let d := max 1 (f.2 * (cclkUnit s).1)
  min 65535 (n / d + (if up && n % d != 0 then 1 else 0))

/-- ADMIT_TEST (R352): nothing is changed. -/
def cAdmitTest (s : State) (ts descs : List Nat) : State × Reply :=
  if ts.any (fun t => 4096 ≤ t) || descs.any (fun v => !thrOk (thrOf v)) then (s, rErr kPARAM)
  else
    let ths := thrsTrial s (ts.zip descs)
    let pass := schAdmits s ths (admittedDemand s)
    let q := pairBand s ths
    let d := drawBelow q.1 16
    let ps := schPairs s ths (admittedDemand s)
    (d.1, rOk (leBytes 1 (if pass then 1 else 0) ++ q.2 ++
      [0, 1, 2, 3].flatMap (fun k => leBytes 2 (utilMilli s (ps.getD k []) (d.2.testBit k)))))

/-- POST (R342). -/
def cPost (s : State) (t : Nat) : State × Reply :=
  if 4096 ≤ t then (s, rErr kPARAM) else (schPost s t, rOk [])

/-- STATUS. -/
def cSchStatus (s : State) : State × Reply :=
  regAnswer s ([(R_SCH_STAT, 0)] ++ (List.range 4).map (fun k => (R_SYS_PAIR_MAP, k)) ++ (List.range 5).map (fun q => (R_SYS_PAIR_STAT, q)))

end Machine
end Sys2Proof
end

