-- ==== Sys2Proof/Machine/KalunoFw.lean ====
section
/-!
DEFINITION. Kaluno's commands, third part (chapter 14): the FLT, TEST, LOG, BUR and FW groups (R367, R369, R370 with
R292, R293, R315, R317, R381 to R384, R401, R404, R410 to R412, R417, R421, R434 to R436).
-/

namespace Sys2Proof
namespace Machine

/-! ### FLT -/

/-- RECORDS (R404): the records of the ring from index FROM up to PI. -/
def cRecords (s : State) (from_ : Nat) : State × Reply :=
  let q := readRegs [(R_FLT_STATUS, 0)] s
  let n := (fget s FLT_REC_IDX_PI 0 + 65536 - from_ % 65536) % 65536
  let k := min 126 n
  let more := decide (k < n)
  if 1024 < n then (s, rErr kPARAM)
  else
    let r := recReads ((List.range (4 * k)).map (fun i => (4 * from_ + i) % 4096)) q.1
    (r.1, .done 0 0 more (q.2 ++ leBytes 1 k ++ wordBytes r.2 ++ (if more then leBytes 2 (from_ + k) else [])))

/-- ACK (R401): every pending class bit of the source clears. -/
def cAck (s : State) (src : Nat) : State × Reply :=
  if 64 ≤ src then (s, rErr kPARAM) else (srcAck s src (15 * 2 ^ 60), rOk [])

/-- INJECT (R411, R412). -/
def cInject (s : State) (src chk count : Nat) : State × Reply :=
  if 64 ≤ src then (s, rErr kPARAM)
  else if count = 0xFF then (fset s FLT_INJ_ACTIVE src 0, rOk [])
  else
    let q := tried s FLT_INJ_REFUSED src (fun t => injArm t src chk count (count = 0) false)
    (q.1, if q.2 then rErr kPARAM else rOk [])

/-- RECOVER (R410). -/
def cRecover (s : State) (k id : Nat) : State × Reply :=
  let q := fltRecover s k id
  (q.1, if q.2 = 0 then rOk [] else if q.2 = 1 then rErr kNOT_FOUND else rErr kCONFLICT)

/-- CONFIG (R417). -/
def cFltConfig (s : State) (quiet mode : Nat) : State × Reply :=
  (fset (if quiet = 0 then s else fset s FLT_CFG_QUIET 0 quiet) FLT_MODE_HELD 0 mode, rOk [])

/-! ### TEST -/

/-- CALENDAR_GET. -/
def cCalendarGet (s : State) : State × Reply :=
  (s, rOk (leBytes 4 (fget s SCR_CFG_CYCLE_US 0) ++ leBytes 2 (fget s BST_CFG_SLICE_US 0) ++ leBytes 2 (fget s BST_CFG_COMPARE 0) ++
    leBytes 1 (fget s BST_CFG_GAP_EN 0)))

/-- CALENDAR_SET (R421, R434): all of it, or none where a field is out of its range. -/
def cCalendarSet (s : State) (scrub slice cmp gap : Nat) : State × Reply :=
  if scrub < 2000 ∨ 1000000 < scrub ∨ slice < 2 ∨ 500 < slice ∨ cmp < 1 ∨ 1 < gap then (s, rErr kPARAM)
  else
    let s1 := setScr (fset s SCR_CFG_CYCLE_US 0 scrub) { s.scr with copy := scrub }
    (fset (fset (fset s1 BST_CFG_SLICE_US 0 slice) BST_CFG_COMPARE 0 cmp) BST_CFG_GAP_EN 0 gap, rOk [])

/-- The BIST unit of a (KIND, ID), and the cabinet whose spare column it uses. -/
def testUnit (s : State) (k id : Nat) : Option (Nat × Option Nat) :=
  if k = 0 && id < 96 then some (physOf s id, some (physOf s id))
  else if k = 1 && id < 100 then some (if isReserve id then 100 + id else id, some id)
  else if k = 2 && id < 100 then some (200 + id, none)
  else if k = 9 && id < 5 then some (300 + id, none)
  else none

/-- RESULTS (R436). -/
def cResults (s : State) (k id : Nat) : State × Reply :=
  match testUnit s k id with
  | none => (s, rErr kNOT_FOUND)
  | some (u, p) =>
    let x := bunit s u
    (s, rOk (leBytes 8 (x.pass - 1) ++ leBytes 1 x.inc ++ leBytes 2 x.fails ++
      leBytes 1 (p.elim 0 (fun p => fget s CAB_GAP_PARKED p))))

/-- The unit that TEST RUN may test: an EMPTY reserve cabinet, the spare pair, a router whose stop is fenced. -/
def idleUnit (s : State) (k id : Nat) : Option Nat :=
  if k = 1 && id < 100 && isReserve id && cabState s id = stEMPTY then some (100 + id)
  else if k = 2 && id < 100 && fgetB s CAB_STATE_FENCED id then some (200 + id)
  else if k = 9 && id < 5 && fget s SYS_PAIR_STAT_STATE id = 1 then some (300 + id)
  else none

/-- A whole test of a unit ends with a result: 0 PASS, 1 FAIL, 2 INCOMPLETE (R435). -/
def testEnds (s0 : State) (u res : Nat) : State :=
  let s := bistAbort s0 u
  let x := bunit s u
  if res = 0 then unitPass (incShow (setBunit s u { x with inc := 0, done := 0, pass := s.time.tick + 1 }) u 0) u
  else if res = 1 then unitFail (incShow (setBunit s u { x with inc := 0, done := 0, fails := min 65535 (x.fails + 1) }) u 0) u []
  else sliceIncomplete s u

/-- RUN: what the unit's logic gives comes from outside the model, as `res`. -/
def cTestRun (s : State) (k id res : Nat) : State × Reply :=
  match idleUnit s k id with
  | none => (s, rErr kCONFLICT)
  | some u => (testEnds s u (res % 3), rOk (leBytes 1 (res % 3)))

/-! ### LOG (R369) -/

/-- The number of the oldest entry of the log. -/
def logOldest (s : State) : Nat := (s.evt.next - s.evt.log.length) % 2 ^ 32

/-- READ: entries from FROM on; what has left the log is skipped and counted. -/
def cLogRead (s : State) (from_ most : Nat) : State × Reply :=
  let d := (from_ + 2 ^ 32 - logOldest s) % 2 ^ 32
  let old := decide (2 ^ 31 ≤ d)
  let l := if old then s.evt.log else s.evt.log.drop d
  let k := min most l.length
  if most < 1 ∨ 126 < most then (s, rErr kPARAM)
  else
    (s, rOk (leBytes 1 k ++ leBytes 4 (if old then logOldest s else from_) ++ leBytes 4 (if old then 2 ^ 32 - d else 0) ++
      (l.take k).flatMap (fun e => wordBytes (eventWords e))))

/-- INFO. -/
def cLogInfo (s : State) : State × Reply :=
  (s, rOk (leBytes 4 (logOldest s) ++ leBytes 4 s.evt.next ++ leBytes 4 s.evt.logLost))

/-! ### BUR: the Bureau's data, unchanged -/

/-- IDENTIFY (R383, R394). -/
def cBurIdentify (s : State) : State × Reply :=
  let v := tratyNow s
  (s, rOk (leBytes 4 v.1 ++ padTo 32 v.2 ++ leBytes 8 Config.burBid ++ padTo 57 Config.burPublicKey ++
    leBytes 1 (fget s BUR_STAT_SEAL_OPEN 0)))

/-- TOTALS (R376). -/
def cTotals (s : State) (from_ n : Nat) : State × Reply :=
  if n < 1 ∨ 64 < n ∨ 4096 < from_ + n then (s, rErr kPARAM)
  else (s, rOk ((List.range (5 * n)).flatMap (fun i => leBytes 12 (smGet 0 s.bur.cnt (5 * from_ + i)))))

/-- STATEMENT (R382). -/
def cStatement (s : State) (index : Nat) : State × Reply :=
  match sheetAt s index with
  | none => (s, rErr kNOT_FOUND)
  | some b => (s, rOk b)

/-- A record as stored. -/
def audRecord (a : Aud) : List Byte := audBytes a ++ padTo 32 a.mac

/-- AUDIT (R384): records from IDX FROM on, as many as MAX and the window allow. -/
def cAudit (s : State) (from_ most : Nat) : State × Reply :=
  let l := s.bur.trail.filter (fun a => from_ ≤ a.idx)
  let k := min (min most 31) l.length
  let more := decide (k < l.length)
  if s.bur.nextIdx ≤ from_ || from_ < s.bur.nextIdx - s.bur.trail.length then (s, rErr kNOT_FOUND)
  else (s, .done 0 0 more ((l.take k).flatMap audRecord ++ (if more then leBytes 4 (from_ + k) else [])))

/-- STATUS: FILL counts the records in the trail. -/
def cBurStatus (s : State) : State × Reply :=
  (s, rOk (leBytes 4 (audUsed s) ++ leBytes 1 (fget s BUR_STAT_NOTICE 0) ++ leBytes 1 (fget s BUR_STAT_SEAL_OPEN 0) ++
    leBytes 1 (fget s BUR_STAT_TAMPER 0)))

/-! ### FW (R370) -/

/-- The 64-byte header of a slot's image; free bytes for an empty slot. -/
def slotNumbers (s : State) (f : List Byte → Nat) (n : Nat) : List Byte :=
  match slotKofs s n with
  | some a => leBytes 4 (f (flashBytes s a 64))
  | none => leBytes 4 (Config.freeWord (s.free + n)).toNat

/-- STATUS. -/
def cFwStatus (s : State) : State × Reply :=
  (drawFree s, rOk (leBytes 1 s.fw.st ++ leBytes 1 s.fw.parts ++ [0, 1, 2, 3].flatMap (slotNumbers s Config.fwVersion) ++
    [0, 1, 2, 3].flatMap (slotNumbers s Config.fwSvn) ++ leBytes 4 (trialLeft s)))

/-- The area of a part of a slot: its directory offset and the bytes to the next higher offset of a slot that is not empty, to
the end of flash where there is none (R370). -/
def fwArea (s : State) (slot part : Nat) : Option (Nat × Nat) :=
  match flashDir s with
  | none => none
  | some w =>
    let a := (wAt w (1 + 2 * slot + part)).toNat
    if a = 2 ^ 64 - 1 then none
    else
      let later := (((w.drop 1).take 8).map (fun x => x.toNat)).filter (fun x => a < x && x != 2 ^ 64 - 1)
      some (a, (match later with | [] => Config.flashSize | x :: r => r.foldl min x) - a)

/-- Erases an area. -/
def fwErase (s : State) (a : Option (Nat × Nat)) : State :=
  match a with
  | none => s
  | some (o, n) => { s with flash := smClear o (o + n) s.flash }

/-- BEGIN. -/
def cFwBegin (s : State) : State × Reply :=
  if s.fw.st = 0 ∨ s.fw.st = 2 ∨ s.fw.st = 5 then
    let s1 := fwErase (fwErase s (fwArea s 1 0)) (fwArea s 1 1)
    (fwEvent { s1 with fw := { s1.fw with parts := 0, pos := [] } } 1, rOk [])
  else (s, rErr kCONFLICT)

/-- Programs bytes of a part at an offset: only while WRITING, in rising order and within the area. -/
def fwProgram (s : State) (part ofs : Nat) (b : List Byte) : State × Reply :=
  if s.fw.st != 1 then (s, rErr kCONFLICT)
  else if 1 < part ∨ ofs < smGet 0 s.fw.pos part then (s, rErr kPARAM)
  else
    match fwArea s 1 part with
    | none => (s, rErr kPARAM)
    | some (a, n) =>
      if n < ofs + b.length then (s, rErr kPARAM)
      else
        let s1 := flashPut s (a + ofs) b
        ({ s1 with fw := { s1.fw with pos := smSet 0 part (ofs + b.length) s1.fw.pos } }, rOk [])

/-- DATA. -/
def cFwData (s : State) (part ofs : Nat) (b : List Byte) : State × Reply := fwProgram s part ofs b

/-- WRITE: from host memory (`ext`) or GDDR7. -/
def cFwWrite (s : State) (part src addr ofs n : Nat) (ext : List Byte) : State × Reply :=
  if s.fw.st != 1 then (s, rErr kCONFLICT)
  else if (src != 1 && src != 3) || (src = 3 && !inGddr s addr n) then (s, rErr kPARAM)
  else if src = 1 then fwProgram s part ofs (padTo n ext)
  else
    let q := gReadBytes (n / 128 + 2) (addr - 0x1000000000) n s
    fwProgram q.1 part ofs (q.2.map (fun b => b.1))

/-- COPY: the whole area of the part in slot A. -/
def cFwCopy (s : State) (part : Nat) : State × Reply :=
  match fwArea s 0 part with
  | none => (s, if s.fw.st != 1 then rErr kCONFLICT else rErr kPARAM)
  | some (a, n) => fwProgram s part 0 (flashBytes s a n)

/-- A FULL stream passes: its seal, its key slot and its SVN (R292, R293). -/
def streamOk (s : State) (b : List Byte) : Bool :=
  let h := bytesToWords 16 (b.take 128)
  128 ≤ b.length && hLen h ≤ b.length && !s.otp.revoked.testBit (hSlot h) && s.otp.svn ≤ hSvn h &&
    sealCheck s (hSlot h) "AXRID-CFG" (b.take (hLen h)) = 0

/-- VERIFY. -/
def cFwVerify (s : State) (part n : Nat) : State × Reply :=
  if s.fw.st != 1 then (s, rErr kCONFLICT)
  else
    match fwArea s 1 part with
    | none => (s, rErr kPARAM)
    | some (a, k) =>
      if 1 < part ∨ k < n then (s, rErr kPARAM)
      else
        let b := flashBytes s a n
        if (if part = 0 then imageOk s b else streamOk s b) then
          let p := s.fw.parts ||| 2 ^ part
          let s1 := { s with fw := { s.fw with parts := p } }
          (if p = 3 then fwEvent s1 2 else s1, rOk (shake256 b 32))
        else ({ s with fw := { s.fw with parts := bitSet s.fw.parts part false } }, rErr kAUTH)

/-- ACTIVATE. -/
def cFwActivate (s : State) (trial reset : Nat) : State × Reply :=
  if bootSel s != 0 then (s, rErr kNOT_PERMITTED)
  else if s.fw.st != 2 || s.fw.parts != 3 then (s, rErr kCONFLICT)
  else if 1 < reset then (s, rErr kPARAM)
  else
    let s1 := slotsExchange s
    let s2 := fwEvent { s1 with fw := { s1.fw with trial := trial } } 3
    (if reset = 1 then setBoot s2 { s2.boot with resetAt := some s2.time.now } else s2, rOk [])

/-- COMMIT. -/
def cFwCommit (s : State) (up : Nat) : State × Reply :=
  if bootSel s != 0 then (s, rErr kNOT_PERMITTED)
  else if s.fw.st != 4 then (s, rErr kCONFLICT)
  else if 1 < up then (s, rErr kPARAM)
  else
    let s1 := if up = 1 then { s with otp := { s.otp with fwSvn := max s.otp.fwSvn (Config.fwSvn (s.boot.image.take 64)) } } else s
    (fwEvent { s1 with fw := { s1.fw with trial := 0 } } 0, rOk [])

/-- Slot B's Kaluno image authenticates. -/
def slotBOk (s : State) : Bool :=
  match slotKofs s 1 with
  | none => false
  | some a => match imageAt s a with
    | none => false
    | some b => imageOk s b

/-- A and B are exchanged back. -/
def fwBack (s : State) : State :=
  let s1 := slotsExchange s
  fwEvent { s1 with fw := { s1.fw with trial := 0 } } 5

/-- ROLLBACK: a warm reset follows the answer. -/
def cFwRollback (s : State) : State × Reply :=
  if bootSel s != 0 then (s, rErr kNOT_PERMITTED)
  else if s.fw.st != 0 && s.fw.st != 4 then (s, rErr kCONFLICT)
  else if !slotBOk s then (s, rErr kNOT_PERMITTED)
  else
    let s1 := fwBack s
    (setBoot s1 { s1.boot with resetAt := some s1.time.now }, rOk [])

/-- The trial timer ends (R370): A and B are exchanged back, with a warm reset. -/
def trialEnd (s : State) : State :=
  if s.boot.fw && bootSel s = 0 && s.fw.st = 4 && s.fw.trial != 0 && trialLeft s = 0 then warmNow (fwBack s) else s

/-- FW_TRIAL_EXPIRY (R370). -/
def execFwTrialExpiry (s : State) : Host.Outcome State Fault Refusal := run true (trialEnd s)

/-- PUSH_BEGIN (R317). -/
def cPushBegin (s : State) (n : Nat) : State × Reply :=
  if 2097152 < n then (s, rErr kPARAM) else (setBoot s { s.boot with push := some (n, []) }, rOk [])

/-- PUSH_DATA (R317): bytes that no command has written stay zero. -/
def cPushData (s : State) (ofs : Nat) (b : List Byte) : State × Reply :=
  match s.boot.push with
  | none => (s, rErr kCONFLICT)
  | some (n, d) =>
    if n < ofs + b.length then (s, rErr kPARAM)
    else
      let d1 := padTo (max d.length ofs) d
      (setBoot s { s.boot with push := some (n, d1.take ofs ++ b ++ d1.drop (ofs + b.length)) }, rOk [])

/-- PUSH_END (R315, R317): a good image starts. -/
def cPushEnd (s : State) : State × Reply :=
  match s.boot.push with
  | none => (s, rErr kCONFLICT)
  | some (n, d) =>
    if imageOk s (padTo n d) then (kalunoStart (fset s SYS_BOOT_STAT_PUSHED 0 1) (padTo n d) none, rOk [])
    else (setBoot s { s.boot with push := none }, rErr kAUTH)

end Machine
end Sys2Proof
end

