-- ==== Sys2Proof/Machine/Mailbox.lean ====
section
/-!
DEFINITION. The service interface's exchanges (R355, R358 to R366): reading a request, the order and the checks of
requests, running one, writing its answer, answers that wait, and every mailbox command of the table.
-/

namespace Sys2Proof
namespace Machine

/-! ### Payloads of requests (R358, R367) -/

/-- Splits a payload into fields of these widths; none where the payload's length differs. -/
def splitFields : List Nat → List Byte → Option (List Nat)
  | [], l => if l.isEmpty then some [] else none
  | w :: ws, l => if l.length < w then none else (splitFields ws (l.drop w)).map (fun r => leNat (l.take w) :: r)

/-- Field widths of the commands of the SYS, CAB, TICK and NET groups. -/
def widthsA (g c : Nat) : Option (List Nat) :=
  if g = 1 then
    (if c = 1 ∨ c = 2 ∨ c = 5 then some [] else if c = 3 then some [32] else if c = 4 then some [2]
     else if c = 6 then some [1, 1, 57, 114] else if c = 7 then some [1, 4, 1, 57, 114] else none)
  else if g = 2 then
    (if c = 1 then some [1, 1, 1, 8, 4] else if c = 2 ∨ c = 3 ∨ c = 5 ∨ c = 11 then some [1]
     else if c = 4 ∨ c = 6 ∨ c = 7 ∨ c = 8 then some [1, 1] else if c = 9 then some [1, 1, 4, 8]
     else if c = 10 then some [1, 1, 1, 1] else none)
  else if g = 3 then
    (if c = 1 ∨ c = 4 then some [] else if c = 2 then some [4] else if c = 3 then some [1, 1] else if c = 5 then some [1] else none)
  else if c = 1 ∨ c = 3 ∨ c = 4 ∨ c = 5 then some [1] else if c = 2 then some [1, 1] else if c = 6 then some [2, 1, 1] else none

/-- Field widths of the commands of the PORT, FLOW, MEM and SCH groups over a payload. -/
def widthsB (g c : Nat) (p : List Byte) : Option (List Nat) :=
  if g = 5 then
    (if c = 1 then some [1, 1, 8, 8, 1, 8] else if c = 2 then some [1, 1, 1] else if c = 3 ∨ c = 4 ∨ c = 6 ∨ c = 11 then some [1]
     else if c = 5 ∨ c = 7 ∨ c = 10 then some [1, 8] else if c = 8 then some [1, 1] else if c = 9 then some [1, 4]
     else if c = 12 then some [2, 4] else if c = 13 then some [8, 8, 4] else none)
  else if g = 6 then
    (if c = 1 then some [1, 4, 16] else if c = 2 ∨ c = 5 then some [1, 8] else if c = 3 then some [2, 32] else if c = 4 then some [2]
     else if c = 6 then some [8, 8, 4] else none)
  else if g = 7 then
    (if c = 1 ∨ c = 3 ∨ c = 4 then some [] else if c = 2 ∨ c = 7 then some [1] else if c = 5 then some [1, 4]
     else if c = 6 then some ([1, 1] ++ List.replicate (p.getD 1 0).toNat 8) else none)
  else if c = 1 then some [2, 32] else if c = 2 ∨ c = 3 ∨ c = 5 then some [2]
  else if c = 4 then some ([1] ++ List.replicate (p.getD 0 0).toNat 2 ++ List.replicate (p.getD 0 0).toNat 32)
  else if c = 6 then some [] else none

/-- Field widths of the commands of the FLT, TEST, FW, LOG and BUR groups over a payload. -/
def widthsC (g c : Nat) (p : List Byte) : Option (List Nat) :=
  if g = 9 then
    (if c = 1 then some [2] else if c = 2 then some [1] else if c = 3 then some [1, 1, 1] else if c = 4 then some [1, 2]
     else if c = 5 then some [4, 8] else none)
  else if g = 10 then
    (if c = 1 then some [] else if c = 2 then some [4, 2, 2, 1] else if c = 3 ∨ c = 4 then some [1, 2] else none)
  else if g = 11 then
    (if c = 1 ∨ c = 2 ∨ c = 9 ∨ c = 12 then some [] else if c = 3 then some [1, 4, 2, leNat ((p.drop 5).take 2)]
     else if c = 4 then some [1, 1, 8, 4, 4] else if c = 5 ∨ c = 8 then some [1] else if c = 6 then some [1, 4]
     else if c = 7 then some [4, 1] else if c = 10 then some [4] else if c = 11 then some [4, 2, leNat ((p.drop 4).take 2)] else none)
  else if g = 12 then (if c = 1 then some [4, 1] else if c = 2 then some [] else none)
  else if g = 13 then
    (if c = 1 ∨ c = 5 then some [] else if c = 2 then some [2, 1] else if c = 3 then some [4] else if c = 4 then some [4, 1] else none)
  else none

/-- The field widths of a command; none for an unknown GROUP or CODE. -/
def widths (g c : Nat) (p : List Byte) : Option (List Nat) :=
  if g = 0 then none else if g ≤ 4 then widthsA g c else if g ≤ 8 then widthsB g c p else widthsC g c p

/-! ### Commands by GROUP and CODE (R367) -/

/-- Field `i`. -/
def arg (a : List Nat) (i : Nat) : Nat := a.getD i 0

/-- SYS. -/
def kSys (c : Nat) (a : List Nat) (s : State) : State × Reply :=
  if c = 1 then cIdentify s else if c = 2 then cSysStatus s else if c = 3 then cAttest s (leBytes 32 (arg a 0))
  else if c = 4 then cSysReset s (arg a 0) else if c = 5 then cSensors s
  else if c = 6 then cKeyRevoke s (arg a 0) (arg a 1) (leBytes 57 (arg a 2)) (leBytes 114 (arg a 3))
  else cSvnRaise s (arg a 0) (arg a 1) (arg a 2) (leBytes 57 (arg a 3)) (leBytes 114 (arg a 4))

/-- CAB. -/
def kCab (c : Nat) (a : List Nat) (ext : List Byte) (s : State) : State × Reply :=
  let l := arg a 0
  if c = 1 then cCabLoad s (arg a 0) (arg a 1) (arg a 2) (arg a 3) (arg a 4) ext
  else if c = 2 then cUnload s l else if c = 3 then cHold s l else if c = 4 then cRun s l (arg a 1) else if c = 5 then cDrain s l
  else if c = 6 then cPower s l (arg a 1) else if c = 7 then cRelocate s l (arg a 1) else if c = 8 then cPlan s l (arg a 1)
  else if c = 9 then cCapture s l (arg a 1) (arg a 2) (arg a 3) else if c = 10 then cReadback s l (arg a 1) (arg a 2) (arg a 3)
  else cCabStatus s l

/-- TICK and NET. -/
def kTickNet (g c : Nat) (a : List Nat) (s : State) : State × Reply :=
  if g = 3 then
    (if c = 1 then cTickGet s else if c = 2 then cSetLen s (arg a 0) else if c = 3 then cSetSource s (arg a 0) (arg a 1)
     else if c = 4 then cAlign s else cOutput s (arg a 0))
  else if c = 1 then cRingStatus s (arg a 0) else if c = 2 then cRouter s (arg a 0) (arg a 1) else if c = 3 then cNetLoad s (arg a 0)
  else if c = 4 then cBookings s (arg a 0) else if c = 5 then cCounters s (arg a 0) else cTimers s (arg a 0) (arg a 1) (arg a 2)

/-- PORT. -/
def kPort (c : Nat) (a : List Nat) (s : State) : State × Reply :=
  let n := arg a 0
  if c = 1 then cJesdCfg s n (arg a 1) (arg a 2) (arg a 3) (arg a 4) (arg a 5) else if c = 2 then cJesdEnable s n (arg a 1) (arg a 2)
  else if c = 3 then cJesdSysref s n else if c = 4 then cJesdStatus s n else if c = 5 then cEthCfg s n (arg a 1)
  else if c = 6 then cEthStatus s n else if c = 7 then cTod s n (arg a 1) else if c = 8 then cTxts s n (arg a 1)
  else if c = 9 then cSynce s n (arg a 1) else if c = 10 then cSpanCfg s n (arg a 1) else if c = 11 then cSpanStatus s n
  else if c = 12 then cSpanRoute s n (arg a 1) else cSpanSys s n (arg a 1) (arg a 2)

/-- FLOW and MEM. -/
def kFlowMem (g c : Nat) (a : List Nat) (s : State) : State × Reply :=
  let n := arg a 0
  if g = 6 then
    (if c = 1 then cLex s n (arg a 1) (arg a 2) else if c = 2 then cLexPort s n (arg a 1) else if c = 3 then cFlowSet s n (arg a 1)
     else if c = 4 then cFlowGet s n else if c = 5 then cLink s n (arg a 1) else cQmCfg s n (arg a 1) (arg a 2))
  else if c = 1 then cMemStatus s else if c = 2 then cMemFail s n else if c = 3 then cMemRetrain s else if c = 4 then cMemRebuild s
  else if c = 5 then cSpareGet s n (arg a 1) else if c = 6 then cSpareSet s n (a.drop 2) else cDmaStatus s n

/-- SCH and FLT. -/
def kSchFlt (g c : Nat) (a : List Nat) (s : State) : State × Reply :=
  let n := arg a 0
  if g = 8 then
    (if c = 1 then cThreadSet s n (arg a 1) else if c = 2 then cThreadGet s n else if c = 3 then cThreadDel s n
     else if c = 4 then cAdmitTest s ((a.drop 1).take n) (a.drop (1 + n)) else if c = 5 then cPost s n else cSchStatus s)
  else if c = 1 then cRecords s n else if c = 2 then cAck s n else if c = 3 then cInject s n (arg a 1) (arg a 2)
  else if c = 4 then cRecover s n (arg a 1) else cFltConfig s n (arg a 1)

/-- TEST, LOG and BUR. -/
def kRest (g c : Nat) (a : List Nat) (ext : List Byte) (s : State) : State × Reply :=
  let n := arg a 0
  if g = 10 then
    (if c = 1 then cCalendarGet s else if c = 2 then cCalendarSet s n (arg a 1) (arg a 2) (arg a 3)
     else if c = 3 then cResults s n (arg a 1) else cTestRun s n (arg a 1) (ext.getD 0 0).toNat)
  else if g = 12 then (if c = 1 then cLogRead s n (arg a 1) else cLogInfo s)
  else if c = 1 then cBurIdentify s else if c = 2 then cTotals s n (arg a 1) else if c = 3 then cStatement s n
  else if c = 4 then cAudit s n (arg a 1) else cBurStatus s

/-- FW. -/
def kFw (c : Nat) (a : List Nat) (ext : List Byte) (s : State) : State × Reply :=
  let n := arg a 0
  if c = 1 then cFwStatus s else if c = 2 then cFwBegin s else if c = 3 then cFwData s n (arg a 1) (leBytes (arg a 2) (arg a 3))
  else if c = 4 then cFwWrite s n (arg a 1) (arg a 2) (arg a 3) (arg a 4) ext else if c = 5 then cFwCopy s n
  else if c = 6 then cFwVerify s n (arg a 1) else if c = 7 then cFwActivate s n (arg a 1) else if c = 8 then cFwCommit s n
  else if c = 9 then cFwRollback s else if c = 10 then cPushBegin s n
  else if c = 11 then cPushData s n (leBytes (arg a 1) (arg a 2)) else cPushEnd s

/-- A known command with its fields; `ext` is what comes from outside the device for it: bytes that a mover reads in
host memory, or the result of a test. -/
def kCmd (g c : Nat) (a : List Nat) (ext : List Byte) (s : State) : State × Reply :=
  if g = 1 then kSys c a s else if g = 2 then kCab c a ext s else if g ≤ 4 then kTickNet g c a s else if g = 5 then kPort c a s
  else if g ≤ 7 then kFlowMem g c a s else if g ≤ 9 then kSchFlt g c a s else if g = 11 then kFw c a ext s else kRest g c a ext s

/-! ### Units (R361) -/

/-- The logical cabinets that a CAB LOAD names: the REGION of its stream's header (R271, R304), where the stream stands. -/
def loadNames (s : State) (a : List Nat) (ext : List Byte) : List Nat :=
  let b : List Byte :=
    if arg a 0 = 1 then ext.take 128 else if arg a 0 = 2 then flashBytes s (arg a 3) 128
    else if arg a 0 = 3 then (gReadBytes 3 (arg a 3 - 0x1000000000) 128 s).2.map (fun x => x.1)
    else (stageRead s 128).2
  if arg a 1 = 1 then compatCabs (arg a 2) (wf (wAt (bytesToWords 5 b) 1) 0 24) else regionCabs (hRegion (bytesToWords 16 b))

/-- The units that a command names, as the FLT group's KIND and number: logical and physical cabinets 0 and 1, links 4
(converter) and 6 (span), client ports 5, flows 7, threads 8, control pairs 9; beside them routers 2, the lexicon 20 and
radio links 21. -/
def cmdUnits (s : State) (g c : Nat) (a : List Nat) (ext : List Byte) : List (Nat × Nat) :=
  let n := arg a 0
  if g = 2 ∧ c = 1 then (loadNames s a ext).map (fun l => (0, l))
  else if g = 2 ∧ c = 7 then [(0, n), (1, if arg a 1 = 0xFF then CFG_CAB_MAP_PHYS.resetAt n else arg a 1)]
  else if g = 2 then [(0, n)]
  else if g = 4 ∧ c = 2 then [(2, n)]
  else if g = 5 then
    (if c = 1 ∨ c = 2 then [(4, 4 * n + arg a 1)] else if c = 3 ∨ c = 4 then (List.range 4).map (fun k => (4, 4 * n + k))
     else if c = 5 ∨ c = 6 ∨ c = 8 then [(5, n)] else if c = 10 ∨ c = 11 then [(6, n)] else [])
  else if g = 6 then (if c = 1 ∨ c = 2 then [(20, 0)] else if c = 3 ∨ c = 4 then [(7, n)] else if c = 5 then [(21, n)] else [])
  else if g = 8 then (if c = 1 ∨ c = 2 ∨ c = 3 ∨ c = 5 then [(8, n)] else [])
  else if g = 9 ∧ c = 4 then
    [if n = 1 then (0, logicalOf s (arg a 1)) else (n, arg a 1)]
  else if g = 10 ∧ (c = 3 ∨ c = 4) then [(n, arg a 1)]
  else []

/-- The units of a waiting answer. -/
def waitUnits (s : State) (w : Wait) : List (Nat × Nat) :=
  match w with
  | .load =>
    (match s.cfg.job with | some j => (regionCabs j.region).map (fun l => (0, l)) | none => []) ++
    (match s.cfg.compat with | some c => (compatCabs c.ofs c.regions).map (fun l => (0, l)) | none => [])
  | .hold l => [(0, l)]
  | .run l => [(0, l)]
  | .drain l => [(0, l)]
  | .unload l => [(0, l)]
  | .power l => [(0, l)]
  | .relocate l dest => [(0, l), (1, dest)]
  | .align => []
  | .router stop _ _ => [(2, stop)]
  | .jesd i _ => [(4, i)]
  | .sysref j _ => (List.range 4).map (fun k => (4, 4 * j + k))
  | .lex => [(20, 0)]
  | .lexPort => [(20, 0)]
  | .retrain _ => []

/-- An earlier request still holds one of a command's units. -/
def unitsBusy (s : State) (g c : Nat) (a : List Nat) (ext : List Byte) : Bool :=
  let l := s.svc.waits.flatMap (fun e => waitUnits s e.2) ++ s.svc.held.flatMap (fun h => cmdUnits s h.grp h.code h.args h.ext)
  (cmdUnits s g c a ext).any (fun u => l.contains u)

/-! ### Answers (R355, R358, R359) -/

/-- A message: header `h` with its answer and payload; `more` flags beside CHK. -/
def respBytes (h : Mbx) (flags : Nat) : List Byte :=
  let f := (if h.flags.testBit 0 then 1 else 0) + flags
  let hdr (chk : Nat) : List Byte :=
    leBytes 4 h.tag ++ leBytes 2 h.seq ++ leBytes 1 h.code ++ leBytes 1 h.grp ++ leBytes 3 0 ++ leBytes 1 h.sub ++ leBytes 1 h.st ++
      leBytes 1 f ++ leBytes 2 h.pay.length ++ leBytes 4 0 ++ leBytes 4 chk
  (if h.flags.testBit 0 then hdr (crc32cR (hdr 0 ++ h.pay)) else hdr 0) ++ h.pay

/-- Steps 4 and 5 of an exchange: the response `h` goes into the window of mailbox `m`, BUSY clears and RSP_RDY sets. -/
def sendRsp (s : State) (m : Nat) (h : Mbx) (replay : Bool) : State :=
  let x := mbx s m
  let f := (if h.more then 8 else 0) + (if replay then 16 else 0)
  let s1 := setMbx s m { x with rsp := winPut x.rsp 0 (respBytes h f) }
  let s2 := fset (clearBits s1 MBX_BUSY_BUSY 0 (2 ^ m)) MBX_RSP_RDY_RDY 0 (fget s1 MBX_RSP_RDY_RDY 0 ||| 2 ^ m)
  if fgetB s2 MBX_CFG_IRQ_EN m && !h.flags.testBit 2 then msix s2 (fget s2 MBX_CFG_VEC m) else s2

/-- The running request of mailbox `m` is answered; the answer is kept for a replay (R360). -/
def finish (s : State) (m st sub : Nat) (more : Bool) (pay : List Byte) : State :=
  let x := { mbx s m with st := st, sub := sub, more := more, pay := pay }
  sendRsp (setMbx s m x) m x false

/-- What a waiting answer has reached, none while it still waits (R362, R106, R111). A relocation that ended without
the new cabinet taking over answers STATE_CONFLICT (DESIGN CHOICE, entry 155). -/
def waitNow (s : State) (w : Wait) : Option (State × Reply) :=
  let st (l : Nat) : Nat := cabState s (physOf s l)
  let quiet (l : Nat) : Bool := (cab s (physOf s l)).req = .none
  let late (since ms : Nat) : Bool := since + msCycles ms ≤ s.time.now
  match w with
  | .load => if loading s then none else some (s, loadReply s)
  | .hold l => if st l = stHELD then some (s, rOk []) else if quiet l then some (s, rErr kCONFLICT) else none
  | .run l => if st l = stRUNNING then some (s, rOk []) else if quiet l then some (s, rErr kCONFLICT) else none
  | .drain l =>
    if st l = stDRAINING ∨ st l = stEMPTY ∨ st l = stOFF then some (s, rOk [])
    else if quiet l then some (s, rErr kCONFLICT) else none
  | .unload l =>
    if st l = stEMPTY ∨ st l = stOFF then some (s, rOk (leBytes 1 (st l)))
    else if st l = stDRAINING ∨ !quiet l then none else some (s, .done kCONFLICT 0 false (leBytes 1 (st l)))
  | .power l =>
    if st l = stEMPTY ∨ st l = stOFF then some (s, rOk (leBytes 1 (st l)))
    else if st l = stDRAINING ∨ !quiet l then none else some (s, .done kCONFLICT 0 false (leBytes 1 (st l)))
  | .relocate l dest =>
    if physOf s l = dest then some (s, rOk (leBytes 1 dest))
    else if (cab s (physOf s l)).reloc.isSome then none else some (s, rErr kCONFLICT)
  | .align => if fgetB s SYS_TICK_STAT_ALIGN_PENDING 0 then none else some (s, rOk (leBytes 8 s.time.tick))
  | .router stp mode since =>
    if routerThere s stp mode then some (s, rOk (leBytes 1 (rtrState s stp)))
    else if late since 10 then some (s, rErr kTIMEOUT) else none
  | .jesd i since =>
    if jState s i = jDATA ∨ jState s i = jFAILED ∨ jState s i = jOFF then some (oneReg s R_JPT_LINK_STAT i)
    else if late since (fget s JPT_LINK_REL_BRINGUP_TO i + 2) then some (s, rErr kTIMEOUT) else none
  | .sysref j since =>
    if fgetB s JPT_SYSREF_ALIGNED j then some (oneReg s R_JPT_SYSREF j)
    else if late since 1000 then some (s, rErr kTIMEOUT) else none
  | .lex =>
    if fgetB s LEX_CMD_BUSY 0 then none
    else
      let e := fget s LEX_CMD_STATUS 0
      some (s, if e = 0 then rOk (leBytes 4 (fget s LEX_CMD_LOC 0) ++ leBytes 1 (fget s LEX_CMD_MOVES 0) ++ leBytes 16 (lexStaged s))
        else if e = 1 then rErr kNOT_FOUND else if e = 2 then rErr kCONFLICT else if e = 3 then rErr kTABLE_FULL
        else if e = 4 then rErr kBUREAU else rErr kPARAM)
  | .lexPort =>
    if s.lex.mir.any (fun m => m.kind = 1) then none else some (s, if s.lex.portEnd = 0 then rOk [] else rErr kBUREAU)
  | .retrain since =>
    if s.gdr.retrained || !fgetB s GDM_STAT_DEGRADED 0 then some (s, rOk [])
    else if late since 100 then some (s, rErr kTIMEOUT) else none

/-- Answers mailbox `m` with what a command gave, at once or when what it waits for is reached. -/
def conclude (s : State) (m : Nat) (r : Reply) : State :=
  match r with
  | .done st sub more pay => finish s m st sub more pay
  | .wait w =>
    match waitNow s w with
    | some (s1, .done st sub more pay) => finish s1 m st sub more pay
    | _ => setSvc s { s.svc with waits := s.svc.waits ++ [(m, w)] }

/-- In SAFE and HALT these commands are answered STATE_CONFLICT (R364). -/
def safeForbids (s : State) (g c : Nat) (a : List Nat) : Bool :=
  fget s FLT_STATE_STATE 0 != 0 &&
    ((g = 2 && (c = 4 || c = 8)) || (g = 5 && c = 2 && arg a 2 = 1) || (g = 5 && c = 5 && fldOf CPT_PORT_CFG_EN (arg a 1) = 1))

/-- CAB LOAD and CAB RELOCATE are answered BUSY_RETRY, and wait for no unit, while a load, a reload or a relocation is in
progress (R363). -/
def loadRetry (s : State) (g c : Nat) : Bool := g = 2 && (c = 1 || c = 7) && loadBusy s

/-- Runs the request of mailbox `m`, or holds it while an earlier one has its unit (R361). -/
def kRun (s : State) (m g c : Nat) (a : List Nat) (ext : List Byte) : State :=
  if safeForbids s g c a then finish s m kCONFLICT 0 false []
  else if unitsBusy s g c a ext && !loadRetry s g c then setSvc s { s.svc with held := s.svc.held ++ [⟨m, g, c, a, ext⟩] }
  else
    let q := kCmd g c a ext s
    conclude q.1 m q.2

/-- Why a command is not run, none where it is (R312, R364, R365): board test hold, the ROM phase, or
the mailbox's GMASK. -/
def gate (s : State) (m g c : Nat) : Option Nat :=
  if fget s SYS_BOOT_STAT_PHASE 0 = 6 then (if g = 1 ∧ c = 1 then none else some kUNAVAILABLE)
  else if s.boot.rom then
    (if (g = 1 ∧ (c = 1 ∨ c = 2)) ∨ (g = 11 ∧ (c = 1 ∨ c = 10 ∨ c = 11 ∨ c = 12)) then none else some kUNAVAILABLE)
  else if 1 ≤ g ∧ g ≤ 13 ∧ !(fget s MBX_CFG_GMASK m).testBit (g - 1) then some kNOT_PERMITTED
  else if g = 11 ∧ 10 ≤ c ∧ c ≤ 12 then some kUNAVAILABLE
  else none

/-- Answers a request that is not run: what the mailbox keeps stays (R360). -/
def reject (s : State) (m : Nat) (h : Mbx) (st : Nat) : State := sendRsp s m { h with st := st, sub := 0, more := false, pay := [] } false

/-- The request `h` of mailbox `m` becomes the last one run. -/
def keepReq (s : State) (m : Nat) (h : Mbx) : State :=
  setMbx s m { mbx s m with grp := h.grp, code := h.code, seq := h.seq, tag := h.tag, flags := h.flags, sync := true }

/-- Runs a request that R360 lets run. -/
def kStart (s : State) (m : Nat) (h : Mbx) (p ext : List Byte) : State :=
  match gate s m h.grp h.code with
  | some st => reject s m h st
  | none =>
    let s1 := keepReq s m h
    match widths h.grp h.code p with
    | none => finish s1 m kBAD_COMMAND 0 false []
    | some ws =>
      match splitFields ws p with
      | none => finish s1 m kBAD_LENGTH 0 false []
      | some a => kRun s1 m h.grp h.code a ext

/-- A taken request with header `h` (R358 to R360). -/
def kHandle (s : State) (m : Nat) (h : Mbx) (len chk : Nat) (ext : List Byte) : State :=
  let x := mbx s m
  let p := winGet x.req 24 len
  if 4072 < len then reject s m h kBAD_LENGTH
  else if h.flags.testBit 0 && chk != crc32cR (winGet x.req 0 20 ++ leBytes 4 0 ++ p) then reject (finc s MBX_STAT_CHK_ERR m) m h kCHECK
  else if h.flags.testBit 1 || (x.sync && h.seq = (x.seq + 1) % 65536) then kStart s m h p ext
  else if x.sync && h.seq = x.seq && h.grp = x.grp && h.code = x.code && h.tag = x.tag then
    sendRsp (finc s MBX_STAT_REPLAY m) m { x with flags := h.flags } true
  else reject (finc s MBX_STAT_SEQ_ERR m) m h kSEQ

/-! ### Answers that wait, requests that wait for a unit -/

/-- Answers what has been reached. -/
def settleOne (s : State) (e : Nat × Wait) : State :=
  match waitNow s e.2 with
  | some (s1, .done st sub more pay) =>
    finish (setSvc s1 { s1.svc with waits := s1.svc.waits.filter (fun x => x != e) }) e.1 st sub more pay
  | _ => s

/-- Held requests in take order: each runs when no earlier one has its unit. -/
def retry : List HeldReq → State → State
  | [], s => s
  | h :: r, s => retry r (kRun s h.box h.grp h.code h.args h.ext)

/-- Answers what can be answered, then runs held requests whose units are free (R361, R362). -/
def settle (s : State) : State :=
  let s1 := s.svc.waits.foldl settleOne s
  retry s1.svc.held (setSvc s1 { s1.svc with held := [] })

/-- MBX_TAKE (R355 step 3, R361): the first rung mailbox that runs nothing is taken. -/
def mbxTake (s0 : State) (ext : List Byte) : State :=
  let s := settle s0
  if !mbxServed s then s
  else
    match s.svc.order.find? (fun m => !(fget s MBX_BUSY_BUSY 0).testBit m) with
    | none => s
    | some m =>
      let s1 := setSvc s { s.svc with order := s.svc.order.erase m }
      let s2 := clearBits (clearBits s1 MBX_DOORBELL_DB 0 (2 ^ m)) MBX_RSP_RDY_RDY 0 (2 ^ m)
      let s3 := fset s2 MBX_BUSY_BUSY 0 (fget s2 MBX_BUSY_BUSY 0 ||| 2 ^ m)
      let w := winGet (mbx s3 m).req 0 24
      let f (i n : Nat) : Nat := leNat ((w.drop i).take n)
      kHandle s3 m { grp := f 7 1, code := f 6 1, seq := f 4 2, tag := f 0 4, flags := f 13 1 } (f 14 2) (f 20 4) ext

/-- MBX_TAKE: `ext` is what comes from outside the device for the command. -/
def execMbxTake (ext : List Byte) (s : State) : Host.Outcome State Fault Refusal := run true (mbxTake s ext)

/-- TICK_EDGE (R13, R15): the edge, with the answers that it completes. -/
def execTickEdge (s : State) : Host.Outcome State Fault Refusal := run true (settle (tickEdge s))

/-- Kaluno's work on one command of mailbox `m` from its take to its answer, its sequence checks passed. -/
def mbxCmd (s : State) (m g c : Nat) (a : List Nat) (ext : List Byte) : State :=
  if !mbxServed s || (fget s MBX_BUSY_BUSY 0).testBit m then s
  else
    let s1 := fset (clearBits s MBX_RSP_RDY_RDY 0 (2 ^ m)) MBX_BUSY_BUSY 0 (fget s MBX_BUSY_BUSY 0 ||| 2 ^ m)
    let h : Mbx := { mbx s1 m with grp := g, code := c }
    match gate s1 m g c with
    | some st => reject s1 m h st
    | none => kRun (setMbx s1 m h) m g c a ext

/-- A payload field of `n` bytes holds so many of a value's bytes. -/
def fit (v n : Nat) : Nat := v % 256 ^ n

/-! ### The commands of the table -/

/-- SYS_IDENTIFY (R367). -/
def execSysIdentify (m : Nat) (s : State) : Host.Outcome State Fault Refusal :=
  run (m < 16) (mbxCmd s m 1 1 [] [])

/-- SYS_STATUS (R367). -/
def execSysStatus (m : Nat) (s : State) : Host.Outcome State Fault Refusal :=
  run (m < 16) (mbxCmd s m 1 2 [] [])

/-- SYS_ATTEST (R367). -/
def execSysAttest (m : Nat) (nonce : List Byte) (s : State) : Host.Outcome State Fault Refusal :=
  run (m < 16) (mbxCmd s m 1 3 [fit (leNat nonce) 32] [])

/-- SYS_RESET (R367). -/
def execSysReset (m : Nat) (delay : Nat) (s : State) : Host.Outcome State Fault Refusal :=
  run (m < 16) (mbxCmd s m 1 4 [fit delay 2] [])

/-- SYS_SENSORS (R367). -/
def execSysSensors (m : Nat) (s : State) : Host.Outcome State Fault Refusal :=
  run (m < 16) (mbxCmd s m 1 5 [] [])

/-- SYS_KEY_REVOKE (R367). -/
def execSysKeyRevoke (m : Nat) (slot : Nat) (auth : Nat) (pk : List Byte) (sig : List Byte) (s : State) : Host.Outcome State Fault Refusal :=
  run (m < 16) (mbxCmd s m 1 6 [fit slot 1, fit auth 1, fit (leNat pk) 57, fit (leNat sig) 114] [])

/-- SYS_SVN_RAISE (R367). -/
def execSysSvnRaise (m : Nat) (which : Nat) (svn : Nat) (auth : Nat) (pk : List Byte) (sig : List Byte) (s : State) : Host.Outcome State Fault Refusal :=
  run (m < 16) (mbxCmd s m 1 7 [fit which 1, fit svn 4, fit auth 1, fit (leNat pk) 57, fit (leNat sig) 114] [])

/-- CAB_LOAD (R368): `ext` is what the mover reads in host memory. -/
def execCabLoad (m : Nat) (src : Nat) (compat : Nat) (cofs : Nat) (addr : Nat) (n : Nat) (ext : List Byte) (s : State) : Host.Outcome State Fault Refusal :=
  run (m < 16) (mbxCmd s m 2 1 [fit src 1, fit compat 1, fit cofs 1, fit addr 8, fit n 4] ext)

/-- CAB_UNLOAD (R367). -/
def execCabUnload (m : Nat) (l : Nat) (s : State) : Host.Outcome State Fault Refusal :=
  run (m < 16) (mbxCmd s m 2 2 [fit l 1] [])

/-- CAB_HOLD (R367). -/
def execCabHold (m : Nat) (l : Nat) (s : State) : Host.Outcome State Fault Refusal :=
  run (m < 16) (mbxCmd s m 2 3 [fit l 1] [])

/-- CAB_RUN (R367). -/
def execCabRun (m : Nat) (l : Nat) (plan : Nat) (s : State) : Host.Outcome State Fault Refusal :=
  run (m < 16) (mbxCmd s m 2 4 [fit l 1, fit plan 1] [])

/-- CAB_DRAIN (R367). -/
def execCabDrain (m : Nat) (l : Nat) (s : State) : Host.Outcome State Fault Refusal :=
  run (m < 16) (mbxCmd s m 2 5 [fit l 1] [])

/-- CAB_POWER (R367). -/
def execCabPower (m : Nat) (l : Nat) (on : Nat) (s : State) : Host.Outcome State Fault Refusal :=
  run (m < 16) (mbxCmd s m 2 6 [fit l 1, fit on 1] [])

/-- CAB_RELOCATE (R367). -/
def execCabRelocate (m : Nat) (l : Nat) (target : Nat) (s : State) : Host.Outcome State Fault Refusal :=
  run (m < 16) (mbxCmd s m 2 7 [fit l 1, fit target 1] [])

/-- CAB_PLAN (R367). -/
def execCabPlan (m : Nat) (l : Nat) (plan : Nat) (s : State) : Host.Outcome State Fault Refusal :=
  run (m < 16) (mbxCmd s m 2 8 [fit l 1, fit plan 1] [])

/-- CAB_CAPTURE (R367). -/
def execCabCapture (m : Nat) (l : Nat) (mode : Nat) (ofs : Nat) (tick : Nat) (s : State) : Host.Outcome State Fault Refusal :=
  run (m < 16) (mbxCmd s m 2 9 [fit l 1, fit mode 1, fit ofs 4, fit tick 8] [])

/-- CAB_READBACK (R367). -/
def execCabReadback (m : Nat) (l : Nat) (col : Nat) (row : Nat) (sec : Nat) (s : State) : Host.Outcome State Fault Refusal :=
  run (m < 16) (mbxCmd s m 2 10 [fit l 1, fit col 1, fit row 1, fit sec 1] [])

/-- CAB_STATUS (R367). -/
def execCabStatus (m : Nat) (l : Nat) (s : State) : Host.Outcome State Fault Refusal :=
  run (m < 16) (mbxCmd s m 2 11 [fit l 1] [])

/-- TICK_GET (R367). -/
def execTickGet (m : Nat) (s : State) : Host.Outcome State Fault Refusal :=
  run (m < 16) (mbxCmd s m 3 1 [] [])

/-- TICK_SET_LEN (R367). -/
def execTickSetLen (m : Nat) (len : Nat) (s : State) : Host.Outcome State Fault Refusal :=
  run (m < 16) (mbxCmd s m 3 2 [fit len 4] [])

/-- TICK_SET_SOURCE (R367). -/
def execTickSetSource (m : Nat) (src : Nat) (tol : Nat) (s : State) : Host.Outcome State Fault Refusal :=
  run (m < 16) (mbxCmd s m 3 3 [fit src 1, fit tol 1] [])

/-- TICK_ALIGN (R367). -/
def execTickAlign (m : Nat) (s : State) : Host.Outcome State Fault Refusal :=
  run (m < 16) (mbxCmd s m 3 4 [] [])

/-- TICK_OUTPUT (R367). -/
def execTickOutput (m : Nat) (en : Nat) (s : State) : Host.Outcome State Fault Refusal :=
  run (m < 16) (mbxCmd s m 3 5 [fit en 1] [])

/-- NET_RING_STATUS (R367). -/
def execNetRingStatus (m : Nat) (ring : Nat) (s : State) : Host.Outcome State Fault Refusal :=
  run (m < 16) (mbxCmd s m 4 1 [fit ring 1] [])

/-- NET_ROUTER (R367). -/
def execNetRouter (m : Nat) (st : Nat) (mode : Nat) (s : State) : Host.Outcome State Fault Refusal :=
  run (m < 16) (mbxCmd s m 4 2 [fit st 1, fit mode 1] [])

/-- NET_LOAD (R367). -/
def execNetLoad (m : Nat) (st : Nat) (s : State) : Host.Outcome State Fault Refusal :=
  run (m < 16) (mbxCmd s m 4 3 [fit st 1] [])

/-- NET_BOOKINGS (R367). -/
def execNetBookings (m : Nat) (st : Nat) (s : State) : Host.Outcome State Fault Refusal :=
  run (m < 16) (mbxCmd s m 4 4 [fit st 1] [])

/-- NET_COUNTERS (R367). -/
def execNetCounters (m : Nat) (st : Nat) (s : State) : Host.Outcome State Fault Refusal :=
  run (m < 16) (mbxCmd s m 4 5 [fit st 1] [])

/-- NET_TIMERS (R367). -/
def execNetTimers (m : Nat) (req : Nat) (drain : Nat) (reorder : Nat) (s : State) : Host.Outcome State Fault Refusal :=
  run (m < 16) (mbxCmd s m 4 6 [fit req 2, fit drain 1, fit reorder 1] [])

/-- PORT_JESD_CFG (R367). -/
def execPortJesdCfg (m : Nat) (j : Nat) (n : Nat) (cfg : Nat) (rel : Nat) (q : Nat) (path : Nat) (s : State) : Host.Outcome State Fault Refusal :=
  run (m < 16) (mbxCmd s m 5 1 [fit j 1, fit n 1, fit cfg 8, fit rel 8, fit q 1, fit path 8] [])

/-- PORT_JESD_ENABLE (R367). -/
def execPortJesdEnable (m : Nat) (j : Nat) (n : Nat) (en : Nat) (s : State) : Host.Outcome State Fault Refusal :=
  run (m < 16) (mbxCmd s m 5 2 [fit j 1, fit n 1, fit en 1] [])

/-- PORT_JESD_SYSREF (R367). -/
def execPortJesdSysref (m : Nat) (j : Nat) (s : State) : Host.Outcome State Fault Refusal :=
  run (m < 16) (mbxCmd s m 5 3 [fit j 1] [])

/-- PORT_JESD_STATUS (R367). -/
def execPortJesdStatus (m : Nat) (j : Nat) (s : State) : Host.Outcome State Fault Refusal :=
  run (m < 16) (mbxCmd s m 5 4 [fit j 1] [])

/-- PORT_ETH_CFG (R367). -/
def execPortEthCfg (m : Nat) (n : Nat) (v : Nat) (s : State) : Host.Outcome State Fault Refusal :=
  run (m < 16) (mbxCmd s m 5 5 [fit n 1, fit v 8] [])

/-- PORT_ETH_STATUS (R367). -/
def execPortEthStatus (m : Nat) (n : Nat) (s : State) : Host.Outcome State Fault Refusal :=
  run (m < 16) (mbxCmd s m 5 6 [fit n 1] [])

/-- PORT_TOD (R367). -/
def execPortTod (m : Nat) (op : Nat) (v : Nat) (s : State) : Host.Outcome State Fault Refusal :=
  run (m < 16) (mbxCmd s m 5 7 [fit op 1, fit v 8] [])

/-- PORT_TXTS (R367). -/
def execPortTxts (m : Nat) (n : Nat) (most : Nat) (s : State) : Host.Outcome State Fault Refusal :=
  run (m < 16) (mbxCmd s m 5 8 [fit n 1, fit most 1] [])

/-- PORT_SYNCE (R367). -/
def execPortSynce (m : Nat) (o : Nat) (v : Nat) (s : State) : Host.Outcome State Fault Refusal :=
  run (m < 16) (mbxCmd s m 5 9 [fit o 1, fit v 4] [])

/-- PORT_SPAN_CFG (R367). -/
def execPortSpanCfg (m : Nat) (k : Nat) (v : Nat) (s : State) : Host.Outcome State Fault Refusal :=
  run (m < 16) (mbxCmd s m 5 10 [fit k 1, fit v 8] [])

/-- PORT_SPAN_STATUS (R367). -/
def execPortSpanStatus (m : Nat) (k : Nat) (s : State) : Host.Outcome State Fault Refusal :=
  run (m < 16) (mbxCmd s m 5 11 [fit k 1] [])

/-- PORT_SPAN_ROUTE (R367). -/
def execPortSpanRoute (m : Nat) (d : Nat) (v : Nat) (s : State) : Host.Outcome State Fault Refusal :=
  run (m < 16) (mbxCmd s m 5 12 [fit d 2, fit v 4] [])

/-- PORT_SPAN_SYS (R367). -/
def execPortSpanSys (m : Nat) (sys : Nat) (tick : Nat) (rclk : Nat) (s : State) : Host.Outcome State Fault Refusal :=
  run (m < 16) (mbxCmd s m 5 13 [fit sys 8, fit tick 8, fit rclk 4] [])

/-- FLOW_LEX (R367). -/
def execFlowLex (m : Nat) (op : Nat) (loc : Nat) (ent : Nat) (s : State) : Host.Outcome State Fault Refusal :=
  run (m < 16) (mbxCmd s m 6 1 [fit op 1, fit loc 4, fit ent 16] [])

/-- FLOW_LEX_PORT (R367). -/
def execFlowLexPort (m : Nat) (i : Nat) (v : Nat) (s : State) : Host.Outcome State Fault Refusal :=
  run (m < 16) (mbxCmd s m 6 2 [fit i 1, fit v 8] [])

/-- FLOW_SET (R367). -/
def execFlowSet (m : Nat) (f : Nat) (desc : Nat) (s : State) : Host.Outcome State Fault Refusal :=
  run (m < 16) (mbxCmd s m 6 3 [fit f 2, fit desc 32] [])

/-- FLOW_GET (R367). -/
def execFlowGet (m : Nat) (f : Nat) (s : State) : Host.Outcome State Fault Refusal :=
  run (m < 16) (mbxCmd s m 6 4 [fit f 2] [])

/-- FLOW_LINK (R367). -/
def execFlowLink (m : Nat) (l : Nat) (v : Nat) (s : State) : Host.Outcome State Fault Refusal :=
  run (m < 16) (mbxCmd s m 6 5 [fit l 1, fit v 8] [])

/-- FLOW_QM_CFG (R367). -/
def execFlowQmCfg (m : Nat) (cfg : Nat) (base : Nat) (cells : Nat) (s : State) : Host.Outcome State Fault Refusal :=
  run (m < 16) (mbxCmd s m 6 6 [fit cfg 8, fit base 8, fit cells 4] [])

/-- MEM_STATUS (R367). -/
def execMemStatus (m : Nat) (s : State) : Host.Outcome State Fault Refusal :=
  run (m < 16) (mbxCmd s m 7 1 [] [])

/-- MEM_FAIL (R367). -/
def execMemFail (m : Nat) (d : Nat) (s : State) : Host.Outcome State Fault Refusal :=
  run (m < 16) (mbxCmd s m 7 2 [fit d 1] [])

/-- MEM_RETRAIN (R367). -/
def execMemRetrain (m : Nat) (s : State) : Host.Outcome State Fault Refusal :=
  run (m < 16) (mbxCmd s m 7 3 [] [])

/-- MEM_REBUILD (R367). -/
def execMemRebuild (m : Nat) (s : State) : Host.Outcome State Fault Refusal :=
  run (m < 16) (mbxCmd s m 7 4 [] [])

/-- MEM_SPARE_GET (R367). -/
def execMemSpareGet (m : Nat) (d : Nat) (from_ : Nat) (s : State) : Host.Outcome State Fault Refusal :=
  run (m < 16) (mbxCmd s m 7 5 [fit d 1, fit from_ 4] [])

/-- MEM_SPARE_SET (R367). -/
def execMemSpareSet (m : Nat) (d : Nat) (es : List Nat) (s : State) : Host.Outcome State Fault Refusal :=
  run (m < 16) (mbxCmd s m 7 6 ([fit d 1, (es.take 255).length] ++ (es.take 255).map (fun e => fit e 8)) [])

/-- MEM_DMA_STATUS (R367). -/
def execMemDmaStatus (m : Nat) (c : Nat) (s : State) : Host.Outcome State Fault Refusal :=
  run (m < 16) (mbxCmd s m 7 7 [fit c 1] [])

/-- SCH_THREAD_SET (R367). -/
def execSchThreadSet (m : Nat) (t : Nat) (desc : Nat) (s : State) : Host.Outcome State Fault Refusal :=
  run (m < 16) (mbxCmd s m 8 1 [fit t 2, fit desc 32] [])

/-- SCH_THREAD_GET (R367). -/
def execSchThreadGet (m : Nat) (t : Nat) (s : State) : Host.Outcome State Fault Refusal :=
  run (m < 16) (mbxCmd s m 8 2 [fit t 2] [])

/-- SCH_THREAD_DEL (R367). -/
def execSchThreadDel (m : Nat) (t : Nat) (s : State) : Host.Outcome State Fault Refusal :=
  run (m < 16) (mbxCmd s m 8 3 [fit t 2] [])

/-- SCH_ADMIT_TEST (R352, R367): threads with their descriptors. -/
def execSchAdmitTest (m : Nat) (ts : List (Nat × Nat)) (s : State) : Host.Outcome State Fault Refusal :=
  run (m < 16) (mbxCmd s m 8 4 ([(ts.take 255).length] ++ (ts.take 255).map (fun e => fit e.1 2) ++ (ts.take 255).map (fun e => fit e.2 32)) [])

/-- SCH_POST (R367). -/
def execSchPost (m : Nat) (t : Nat) (s : State) : Host.Outcome State Fault Refusal :=
  run (m < 16) (mbxCmd s m 8 5 [fit t 2] [])

/-- SCH_STATUS (R367). -/
def execSchStatus (m : Nat) (s : State) : Host.Outcome State Fault Refusal :=
  run (m < 16) (mbxCmd s m 8 6 [] [])

/-- FLT_RECORDS (R367). -/
def execFltRecords (m : Nat) (from_ : Nat) (s : State) : Host.Outcome State Fault Refusal :=
  run (m < 16) (mbxCmd s m 9 1 [fit from_ 2] [])

/-- FLT_ACK (R367). -/
def execFltAck (m : Nat) (src : Nat) (s : State) : Host.Outcome State Fault Refusal :=
  run (m < 16) (mbxCmd s m 9 2 [fit src 1] [])

/-- FLT_INJECT (R367). -/
def execFltInject (m : Nat) (src : Nat) (chk : Nat) (count : Nat) (s : State) : Host.Outcome State Fault Refusal :=
  run (m < 16) (mbxCmd s m 9 3 [fit src 1, fit chk 1, fit count 1] [])

/-- FLT_RECOVER (R367). -/
def execFltRecover (m : Nat) (k : Nat) (id : Nat) (s : State) : Host.Outcome State Fault Refusal :=
  run (m < 16) (mbxCmd s m 9 4 [fit k 1, fit id 2] [])

/-- FLT_CONFIG (R367). -/
def execFltConfig (m : Nat) (quiet : Nat) (mode : Nat) (s : State) : Host.Outcome State Fault Refusal :=
  run (m < 16) (mbxCmd s m 9 5 [fit quiet 4, fit mode 8] [])

/-- TEST_CALENDAR_GET (R367). -/
def execTestCalendarGet (m : Nat) (s : State) : Host.Outcome State Fault Refusal :=
  run (m < 16) (mbxCmd s m 10 1 [] [])

/-- TEST_CALENDAR_SET (R367). -/
def execTestCalendarSet (m : Nat) (scrub : Nat) (slice : Nat) (cmp : Nat) (gap : Nat) (s : State) : Host.Outcome State Fault Refusal :=
  run (m < 16) (mbxCmd s m 10 2 [fit scrub 4, fit slice 2, fit cmp 2, fit gap 1] [])

/-- TEST_RESULTS (R367). -/
def execTestResults (m : Nat) (k : Nat) (id : Nat) (s : State) : Host.Outcome State Fault Refusal :=
  run (m < 16) (mbxCmd s m 10 3 [fit k 1, fit id 2] [])

/-- TEST_RUN (R367): `res` is the result, 0 PASS, 1 FAIL, 2 INCOMPLETE. -/
def execTestRun (m : Nat) (k : Nat) (id : Nat) (res : Nat) (s : State) : Host.Outcome State Fault Refusal :=
  run (m < 16) (mbxCmd s m 10 4 [fit k 1, fit id 2] [BitVec.ofNat 8 (min res 2)])

/-- LOG_READ (R367). -/
def execLogRead (m : Nat) (from_ : Nat) (most : Nat) (s : State) : Host.Outcome State Fault Refusal :=
  run (m < 16) (mbxCmd s m 12 1 [fit from_ 4, fit most 1] [])

/-- LOG_INFO (R367). -/
def execLogInfo (m : Nat) (s : State) : Host.Outcome State Fault Refusal :=
  run (m < 16) (mbxCmd s m 12 2 [] [])

/-- BUR_IDENTIFY (R367). -/
def execBurIdentify (m : Nat) (s : State) : Host.Outcome State Fault Refusal :=
  run (m < 16) (mbxCmd s m 13 1 [] [])

/-- BUR_TOTALS (R367). -/
def execBurTotals (m : Nat) (from_ : Nat) (n : Nat) (s : State) : Host.Outcome State Fault Refusal :=
  run (m < 16) (mbxCmd s m 13 2 [fit from_ 2, fit n 1] [])

/-- BUR_STATEMENT (R367). -/
def execBurStatement (m : Nat) (index : Nat) (s : State) : Host.Outcome State Fault Refusal :=
  run (m < 16) (mbxCmd s m 13 3 [fit index 4] [])

/-- BUR_AUDIT (R367). -/
def execBurAudit (m : Nat) (from_ : Nat) (most : Nat) (s : State) : Host.Outcome State Fault Refusal :=
  run (m < 16) (mbxCmd s m 13 4 [fit from_ 4, fit most 1] [])

/-- BUR_STATUS (R367). -/
def execBurStatus (m : Nat) (s : State) : Host.Outcome State Fault Refusal :=
  run (m < 16) (mbxCmd s m 13 5 [] [])

/-- FW_STATUS (R367, R370). -/
def execFwStatus (m : Nat) (s : State) : Host.Outcome State Fault Refusal :=
  run (m < 16) (mbxCmd s m 11 1 [] [])

/-- FW_BEGIN (R367, R370). -/
def execFwBegin (m : Nat) (s : State) : Host.Outcome State Fault Refusal :=
  run (m < 16) (mbxCmd s m 11 2 [] [])

/-- FW_DATA (R367, R370). -/
def execFwData (m : Nat) (part : Nat) (ofs : Nat) (b : List Byte) (s : State) : Host.Outcome State Fault Refusal :=
  run (m < 16) (mbxCmd s m 11 3 [fit part 1, fit ofs 4, (b.take 4095).length, leNat (b.take 4095)] [])

/-- FW_WRITE (R367, R370): `ext` is what the mover reads in host memory. -/
def execFwWrite (m : Nat) (part : Nat) (src : Nat) (addr : Nat) (ofs : Nat) (n : Nat) (ext : List Byte) (s : State) : Host.Outcome State Fault Refusal :=
  run (m < 16) (mbxCmd s m 11 4 [fit part 1, fit src 1, fit addr 8, fit ofs 4, fit n 4] ext)

/-- FW_COPY (R367, R370). -/
def execFwCopy (m : Nat) (part : Nat) (s : State) : Host.Outcome State Fault Refusal :=
  run (m < 16) (mbxCmd s m 11 5 [fit part 1] [])

/-- FW_VERIFY (R367, R370). -/
def execFwVerify (m : Nat) (part : Nat) (n : Nat) (s : State) : Host.Outcome State Fault Refusal :=
  run (m < 16) (mbxCmd s m 11 6 [fit part 1, fit n 4] [])

/-- FW_ACTIVATE (R367, R370). -/
def execFwActivate (m : Nat) (trial : Nat) (reset : Nat) (s : State) : Host.Outcome State Fault Refusal :=
  run (m < 16) (mbxCmd s m 11 7 [fit trial 4, fit reset 1] [])

/-- FW_COMMIT (R367, R370). -/
def execFwCommit (m : Nat) (up : Nat) (s : State) : Host.Outcome State Fault Refusal :=
  run (m < 16) (mbxCmd s m 11 8 [fit up 1] [])

/-- FW_ROLLBACK (R367, R370). -/
def execFwRollback (m : Nat) (s : State) : Host.Outcome State Fault Refusal :=
  run (m < 16) (mbxCmd s m 11 9 [] [])

/-- FW_PUSH_BEGIN (R367, R370). -/
def execFwPushBegin (m : Nat) (n : Nat) (s : State) : Host.Outcome State Fault Refusal :=
  run (m < 16) (mbxCmd s m 11 10 [fit n 4] [])

/-- FW_PUSH_DATA (R367, R370). -/
def execFwPushData (m : Nat) (ofs : Nat) (b : List Byte) (s : State) : Host.Outcome State Fault Refusal :=
  run (m < 16) (mbxCmd s m 11 11 [fit ofs 4, (b.take 4095).length, leNat (b.take 4095)] [])

/-- FW_PUSH_END (R367, R370). -/
def execFwPushEnd (m : Nat) (s : State) : Host.Outcome State Fault Refusal :=
  run (m < 16) (mbxCmd s m 11 12 [] [])

end Machine
end Sys2Proof
end

