-- ==== Sys2Proof/Machine/Env.lean ====
section
/-!
DEFINITION. What happens at the device's supplies, sensors and test pins (R321, R441, R453, R454, R458), and GDDR7
training (R227, R228, R235, R294, R318).
-/

namespace Sys2Proof
namespace Machine

/-- Replaces the environment's state. -/
def setEnv (s : State) (e : EnvSt) : State := { s with env := e }

/-- At least `us` µs have passed since cycle `t`. -/
def passedUs (s : State) (t us : Nat) : Bool := us * Config.aclkKHz ≤ (s.time.now - t) * 1000

/-- A VOUT_COMMAND of `mv` that the regulator acknowledges (R453, R454): in range, a multiple of 5 mV, at most
25 mV from the last, 250 µs after it; once per second while the regulator had not answered. -/
def avsRequest (s : State) (mv : Nat) : State :=
  let e := s.env
  let far := e.vreq + 25 < mv || mv + 25 < e.vreq
  let early := (e.vat.elim false (fun t => !passedUs s t 250)) || (e.vstop.elim false (fun t => !passedUs s t 1000000))
  if !s.boot.fw || mv < 700 || 850 < mv || mv % 5 != 0 || far || early then s
  else setEnv s { e with vreq := mv, vat := some s.time.now, vstop := none }

/-- AVS_REQUEST (R454). -/
def execAvsRequest (mv : Nat) (s : State) : Host.Outcome State Fault Refusal := run true (avsRequest s (mv % 65536))

/-- AVS_ALERT (R454): STATUS_WORD is read once and the event recorded. -/
def execAvsAlert (s : State) : Host.Outcome State Fault Refusal := run true (raise s { src := 56, cls := clsC, code := 1 })

/-- The regulator does not answer (R454): adaptation stops, with one record. -/
def avsLost (s : State) : State :=
  let s1 := if s.env.vstop.isNone then raise s { src := 56, cls := clsC, code := 2 } else s
  setEnv s1 { s1.env with vstop := some s1.time.now }

/-- AVS_NO_ANSWER (R454). -/
def execAvsNoAnswer (s : State) : Host.Outcome State Fault Refusal := run true (avsLost s)

/-- VDD_CORE measured at `mv` for 10 µs (R454). -/
def underVolt (s : State) (mv : Nat) : State :=
  if mv + 30 < s.env.vreq then raise s { src := 56, cls := clsF, code := 3 } else s

/-- VCORE_UNDERVOLTAGE (R454). -/
def execVcoreUndervoltage (mv : Nat) (s : State) : Host.Outcome State Fault Refusal := run true (underVolt s (mv % 65536))

/-- The thresholds of R458 as (bit of `therm`, hot, 0.1 °C, class). -/
def thermTable : List (Nat × Bool × Int × Nat) :=
  [(0, true, 1080, clsC), (1, true, 1150, clsF), (2, true, 1200, clsH), (3, false, -450, clsC)]

/-- One threshold against the hottest reading: a crossing is recorded once, and 3 °C back it is armed again. -/
def thermOne (t : Int) (s : State) (e : Nat × Bool × Int × Nat) : State :=
  let ovr := if e.2.1 then decide (e.2.2.1 ≤ t) else decide (t ≤ e.2.2.1)
  let back := if e.2.1 then decide (t ≤ e.2.2.1 - 30) else decide (e.2.2.1 + 30 ≤ t)
  if s.env.therm.testBit e.1 then (if back then setEnv s { s.env with therm := bitSet s.env.therm e.1 false } else s)
  else if ovr then raise (setEnv s { s.env with therm := bitSet s.env.therm e.1 true }) { src := 56, cls := e.2.2.2, code := 4 + e.1 }
  else s

/-- The reaction to the hottest of the last readings. -/
def thermCheck (s : State) : State :=
  match s.env.temps with
  | [] => s
  | a :: l => thermTable.foldl (thermOne (l.foldl max a)) s

/-- THERMAL_THRESHOLD (R458). -/
def execThermalThreshold (s : State) : Host.Outcome State Fault Refusal := run true (thermCheck s)

/-- SENSOR_POLL (R441, R458): the temperatures of the sixteen sensors in 0.1 °C and the two voltages in mV are
converted, a temperature to 16 bits signed; a sensor that gives none keeps its last. -/
def execSensorPoll (temps : List Int) (vcore vsram : Nat) (s : State) : Host.Outcome State Fault Refusal :=
  let read := (temps.take 16).map (fun t => (BitVec.ofInt 16 t).toInt)
  run true (setEnv s { s.env with temps := read ++ s.env.temps.drop read.length, vcore := vcore % 65536, vsram := vsram % 65536 })

/-- GDDR7 training ends with the devices `bad` failing: capacity, staging buffer and TRAINED, or devices declared
failed; before Kaluno's report a failure ends the attempt with cause 4. -/
def gTrain (s : State) (bad : List Nat) : State :=
  if !s.boot.fw then s
  else
    let u := usableMiB (fget s GDM_CFG_DENS 0)
    let s1 := fset (fset (setGdr s { s.gdr with trained := true }) GDM_STAT_USABLE 0 u) CFG_STAGE_BASE 0 (0x1000000000 + (u - 128) * 2 ^ 20)
    let s2 := bad.foldl gDeclare (if bad.isEmpty then fset s1 GDM_STAT_TRAINED 0 1 else s1)
    let s3 := if fgetB s2 GDM_STAT_DEGRADED 0 && !bad.contains (fget s2 GDM_STAT_FAILED_DEV 0) then setGdr s2 { s2.gdr with retrained := true } else s2
    if !bad.isEmpty && !s3.boot.done then bootFail s3 4 0 else s3

/-- GDDR7_TRAINING (R227, R235): the devices that failed training. -/
def execGddr7Training (bad : List Nat) (s : State) : Host.Outcome State Fault Refusal := run true (gTrain s (bad.filter (fun d => d < 5)))

/-- REFRESH (R441): stored data stay; the time of the last refresh is kept. -/
def execRefresh (s : State) : Host.Outcome State Fault Refusal := run true (setEnv s { s.env with refresh := s.time.now })

/-- COEFFICIENT_UPDATE (R441) of a lane: the new coefficient is free. -/
def execCoefficientUpdate (lane : Nat) (s : State) : Host.Outcome State Fault Refusal :=
  run (lane < 146) (setEnv (drawFree s) { s.env with coef := smSet 0 lane (Config.choice s.free) s.env.coef })

/-- BOUNDARY_SCAN (R321): an instruction that controls pins comes into force, with what it drives on the pins it
names (0 low, 1 high, 2 high-Z), or ends. A name that is no pin's, or a drive that is none of the three, drives nothing. -/
def execBoundaryScan (drive : Option (List (Nat × Nat))) (s : State) : Host.Outcome State Fault Refusal :=
  run true (setEnv s { s.env with bscan := drive.map (fun l => l.filter (fun e => e.1 < 96 && e.2 < 3)) })

end Machine
end Sys2Proof
end

