-- ==== Sys2Proof/Machine/Dispatch.lean ====
section
/-!
DEFINITION. The meaning of every command: one arm for each constructor, one direct call of its meaning.
-/

namespace Sys2Proof
namespace Machine

def exec (i : Instr) (s : State) : Host.Outcome State Fault Refusal :=
  match i with
  | .powerOnReset vsel => Sys2Proof.Machine.execPowerOnReset vsel s
  | .resetRelease sel pull => Sys2Proof.Machine.execResetRelease sel pull s
  | .warmReset pin => Sys2Proof.Machine.execWarmReset pin s
  | .powerGoodLoss => Sys2Proof.Machine.execPowerGoodLoss s
  | .genericRegisterWrite m a n v => Sys2Proof.Machine.execGenericRegisterWrite m a n v s
  | .rcFieldRead m a n => Sys2Proof.Machine.execRcFieldRead m a n s
  | .pllLossOfLock k => Sys2Proof.Machine.execPllLossOfLock k s
  | .pllRelock k => Sys2Proof.Machine.execPllRelock k s
  | .tickEdge => Sys2Proof.Machine.execTickEdge s
  | .tickGuard => Sys2Proof.Machine.execTickGuard s
  | .tickSourceEdge err => Sys2Proof.Machine.execTickSourceEdge err s
  | .tickEdgeMissed => Sys2Proof.Machine.execTickEdgeMissed s
  | .tickLenWrite v => Sys2Proof.Machine.execTickLenWrite v s
  | .tickSourceWrite v => Sys2Proof.Machine.execTickSourceWrite v s
  | .realignmentTick sysref tickIn => Sys2Proof.Machine.execRealignmentTick sysref tickIn s
  | .tickCountRead => Sys2Proof.Machine.execTickCountRead s
  | .slotStart p => Sys2Proof.Machine.execSlotStart p s
  | .drawerFetch p pcol row e0 e1 e2 => Sys2Proof.Machine.execDrawerFetch p pcol row e0 e1 e2 s
  | .nop r => Sys2Proof.Machine.execNop r s
  | .mov r => Sys2Proof.Machine.execMov r s
  | .and r => Sys2Proof.Machine.execAnd r s
  | .or r => Sys2Proof.Machine.execOr r s
  | .xor r => Sys2Proof.Machine.execXor r s
  | .andn r => Sys2Proof.Machine.execAndn r s
  | .shl r => Sys2Proof.Machine.execShl r s
  | .shr r => Sys2Proof.Machine.execShr r s
  | .shuf r => Sys2Proof.Machine.execShuf r s
  | .sel r => Sys2Proof.Machine.execSel r s
  | .add r => Sys2Proof.Machine.execAdd r s
  | .sub r => Sys2Proof.Machine.execSub r s
  | .neg r => Sys2Proof.Machine.execNeg r s
  | .abs r => Sys2Proof.Machine.execAbs r s
  | .max r => Sys2Proof.Machine.execMax r s
  | .min r => Sys2Proof.Machine.execMin r s
  | .cmpgt r => Sys2Proof.Machine.execCmpgt r s
  | .cmpeq r => Sys2Proof.Machine.execCmpeq r s
  | .mul r => Sys2Proof.Machine.execMul r s
  | .mulResultLanding p pcol row => Sys2Proof.Machine.execMulResultLanding p pcol row s
  | .mac4 r => Sys2Proof.Machine.execMac4 r s
  | .msu4 r => Sys2Proof.Machine.execMsu4 r s
  | .dot4 r => Sys2Proof.Machine.execDot4 r s
  | .mac32 r => Sys2Proof.Machine.execMac32 r s
  | .cmac r => Sys2Proof.Machine.execCmac r s
  | .cmacj r => Sys2Proof.Machine.execCmacj r s
  | .macAddStage p pcol row => Sys2Proof.Machine.execMacAddStage p pcol row s
  | .xlExtraction p pcol row => Sys2Proof.Machine.execXlExtraction p pcol row s
  | .clra r => Sys2Proof.Machine.execClra r s
  | .clrf r => Sys2Proof.Machine.execClrf r s
  | .extract r => Sys2Proof.Machine.execExtract r s
  | .norm r => Sys2Proof.Machine.execNorm r s
  | .exp r => Sys2Proof.Machine.execExp r s
  | .bexp r => Sys2Proof.Machine.execBexp r s
  | .bnorm r => Sys2Proof.Machine.execBnorm r s
  | .min2 r => Sys2Proof.Machine.execMin2 r s
  | .msel r => Sys2Proof.Machine.execMsel r s
  | .crot r => Sys2Proof.Machine.execCrot r s
  | .lut r => Sys2Proof.Machine.execLut r s
  | .ramWriteBack p pcol row => Sys2Proof.Machine.execRamWriteBack p pcol row s
  | .ramPatrolRead p pcol row err => Sys2Proof.Machine.execRamPatrolRead p pcol row err s
  | .configPortRamAccess p pcol row a wr w err => Sys2Proof.Machine.execConfigPortRamAccess p pcol row a wr w err s
  | .scaleSubWrite p amount => Sys2Proof.Machine.execScaleSubWrite p amount s
  | .ramCeSubWrite p amount => Sys2Proof.Machine.execRamCeSubWrite p amount s
  | .ramLastClear p => Sys2Proof.Machine.execRamLastClear p s
  | .cfgFaultClear p => Sys2Proof.Machine.execCfgFaultClear p s
  | .planSelectWrite p v => Sys2Proof.Machine.execPlanSelectWrite p v s
  | .doorBufferDrain p port => Sys2Proof.Machine.execDoorBufferDrain p port s
  | .borderWordArrival p k => Sys2Proof.Machine.execBorderWordArrival p k s
  | .drainWindowEnd p => Sys2Proof.Machine.execDrainWindowEnd p s
  | .captureArmWrite p v mm => Sys2Proof.Machine.execCaptureArmWrite p v mm s
  | .captureSnapshot p => Sys2Proof.Machine.execCaptureSnapshot p s
  | .fifoWrite k w st en len prio poison => Sys2Proof.Machine.execFifoWrite k w st en len prio poison s
  | .fifoRead k err => Sys2Proof.Machine.execFifoRead k err s
  | .fifoFreeSwap k => Sys2Proof.Machine.execFifoFreeSwap k s
  | .fifoFlush k => Sys2Proof.Machine.execFifoFlush k s
  | .fifoModeWrite k v => Sys2Proof.Machine.execFifoModeWrite k v s
  | .fifoPeakRead k => Sys2Proof.Machine.execFifoPeakRead k s
  | .packetInject st x errs => Sys2Proof.Machine.execPacketInject st x errs s
  | .flitForward net st out errs sbErr => Sys2Proof.Machine.execFlitForward net st out errs sbErr s
  | .escapeEntry net st port => Sys2Proof.Machine.execEscapeEntry net st port s
  | .packetEject net st port ln => Sys2Proof.Machine.execPacketEject net st port ln s
  | .streamReorderWrite k => Sys2Proof.Machine.execStreamReorderWrite k s
  | .seqGapTimeout k => Sys2Proof.Machine.execSeqGapTimeout k s
  | .requestTimeout st => Sys2Proof.Machine.execRequestTimeout st s
  | .routerModeWrite st mode => Sys2Proof.Machine.execRouterModeWrite st mode s
  | .bypassSwitchClose st => Sys2Proof.Machine.execBypassSwitchClose st s
  | .routerInternalFault st => Sys2Proof.Machine.execRouterInternalFault st s
  | .testAbortByPacket st => Sys2Proof.Machine.execTestAbortByPacket st s
  | .nocCfgWrite reorder drain req => Sys2Proof.Machine.execNocCfgWrite reorder drain req s
  | .jesdLinkEnable j n v => Sys2Proof.Machine.execJesdLinkEnable j n v s
  | .jesdLinkDisable j n v => Sys2Proof.Machine.execJesdLinkDisable j n v s
  | .jesdRetrain j n => Sys2Proof.Machine.execJesdRetrain j n s
  | .jesdCdrLock j n => Sys2Proof.Machine.execJesdCdrLock j n s
  | .jesdBlockLock j n => Sys2Proof.Machine.execJesdBlockLock j n s
  | .jesdFrameLock j n ilas skew => Sys2Proof.Machine.execJesdFrameLock j n ilas skew s
  | .jesdRelease j n lat => Sys2Proof.Machine.execJesdRelease j n lat s
  | .jesdBringupTimeout j n => Sys2Proof.Machine.execJesdBringupTimeout j n s
  | .jesdLockLoss j n lane => Sys2Proof.Machine.execJesdLockLoss j n lane s
  | .sysrefArm j => Sys2Proof.Machine.execSysrefArm j s
  | .sysrefEdge j at_ => Sys2Proof.Machine.execSysrefEdge j at_ s
  | .rxSampleWord j p smp hdr crc => Sys2Proof.Machine.execRxSampleWord j p smp hdr crc s
  | .txSampleRead j p e0 e1 => Sys2Proof.Machine.execTxSampleRead j p e0 e1 s
  | .ethPortEnable n v => Sys2Proof.Machine.execEthPortEnable n v s
  | .ethLinkDown n mid => Sys2Proof.Machine.execEthLinkDown n mid s
  | .rxFrame n l err fec => Sys2Proof.Machine.execRxFrame n l err fec s
  | .lexiconLookup up => Sys2Proof.Machine.execLexiconLookup up s
  | .txFrame n => Sys2Proof.Machine.execTxFrame n s
  | .todStepWrite v => Sys2Proof.Machine.execTodStepWrite v s
  | .todRead => Sys2Proof.Machine.execTodRead s
  | .txtsRead n => Sys2Proof.Machine.execTxtsRead n s
  | .lexSearch loc up => Sys2Proof.Machine.execLexSearch loc up s
  | .lexInsert loc up => Sys2Proof.Machine.execLexInsert loc up s
  | .lexDelete loc up => Sys2Proof.Machine.execLexDelete loc up s
  | .lexUpdate loc up => Sys2Proof.Machine.execLexUpdate loc up s
  | .lexRead loc up => Sys2Proof.Machine.execLexRead loc up s
  | .lexReadClearHit loc up => Sys2Proof.Machine.execLexReadClearHit loc up s
  | .lexPortCfgWrite k v => Sys2Proof.Machine.execLexPortCfgWrite k v s
  | .mirrorConfirm => Sys2Proof.Machine.execMirrorConfirm s
  | .mirrorTimeout => Sys2Proof.Machine.execMirrorTimeout s
  | .lexPatrol up => Sys2Proof.Machine.execLexPatrol up s
  | .lexRowSpare => Sys2Proof.Machine.execLexRowSpare s
  | .segmentArrival k d => Sys2Proof.Machine.execSegmentArrival k d s
  | .budgetWord k => Sys2Proof.Machine.execBudgetWord k s
  | .budgetDeadline ue => Sys2Proof.Machine.execBudgetDeadline ue s
  | .clientSelection span id ue => Sys2Proof.Machine.execClientSelection span id ue s
  | .qmgPoolWrite isBase v => Sys2Proof.Machine.execQmgPoolWrite isBase v s
  | .budgetDlWrite v => Sys2Proof.Machine.execBudgetDlWrite v s
  | .qmgLinkEnable l en maxb => Sys2Proof.Machine.execQmgLinkEnable l en maxb s
  | .gddrLineRead line up edc => Sys2Proof.Machine.execGddrLineRead line up edc s
  | .gddrLineWrite line ws edc => Sys2Proof.Machine.execGddrLineWrite line ws edc s
  | .gddrPartialWrite line off b pois up edc => Sys2Proof.Machine.execGddrPartialWrite line off b pois up edc s
  | .gdmFailWrite d => Sys2Proof.Machine.execGdmFailWrite d s
  | .gdmRebuildWrite => Sys2Proof.Machine.execGdmRebuildWrite s
  | .gddrRebuildDone => Sys2Proof.Machine.execGddrRebuildDone s
  | .gddrRowSpare => Sys2Proof.Machine.execGddrRowSpare s
  | .gddrPatrol up edc => Sys2Proof.Machine.execGddrPatrol up edc s
  | .dmaPiWrite c v => Sys2Proof.Machine.execDmaPiWrite c v s
  | .dmaDescFetch c host => Sys2Proof.Machine.execDmaDescFetch c host s
  | .dmaDescComplete c st moved ext pois => Sys2Proof.Machine.execDmaDescComplete c st moved ext pois s
  | .dmaAbort c moved ext pois => Sys2Proof.Machine.execDmaAbort c moved ext pois s
  | .dmaResume c => Sys2Proof.Machine.execDmaResume c s
  | .spanLinkEnable k v => Sys2Proof.Machine.execSpanLinkEnable k v s
  | .spanLinkDisable k => Sys2Proof.Machine.execSpanLinkDisable k s
  | .spanRetrain k => Sys2Proof.Machine.execSpanRetrain k s
  | .spanFecLock k => Sys2Proof.Machine.execSpanFecLock k s
  | .spanIdentReceived k dev port width => Sys2Proof.Machine.execSpanIdentReceived k dev port width s
  | .spanTrainTimeout k => Sys2Proof.Machine.execSpanTrainTimeout k s
  | .spanLaneLockLoss n => Sys2Proof.Machine.execSpanLaneLockLoss n s
  | .spanFrameReceived n x fec => Sys2Proof.Machine.execSpanFrameReceived n x fec s
  | .spanNakReceived n seq => Sys2Proof.Machine.execSpanNakReceived n seq s
  | .spanResendTimeout n => Sys2Proof.Machine.execSpanResendTimeout n s
  | .spanSwitchRoute net o => Sys2Proof.Machine.execSpanSwitchRoute net o s
  | .markerSend k dep => Sys2Proof.Machine.execMarkerSend k dep s
  | .markerReceived k prio dev hops n len depart tod crcBad arr => Sys2Proof.Machine.execMarkerReceived k prio dev hops n len depart tod crcBad arr s
  | .spanCalibration k => Sys2Proof.Machine.execSpanCalibration k s
  | .echoReceived k t u => Sys2Proof.Machine.execEchoReceived k t u s
  | .masterLossTimeout => Sys2Proof.Machine.execMasterLossTimeout s
  | .loadGo staged => Sys2Proof.Machine.execLoadGo staged s
  | .loadWritePhase bad => Sys2Proof.Machine.execLoadWritePhase bad s
  | .loadAbort => Sys2Proof.Machine.execLoadAbort s
  | .compatLoadGo staged => Sys2Proof.Machine.execCompatLoadGo staged s
  | .compatRecord => Sys2Proof.Machine.execCompatRecord s
  | .compatCfgWrite v => Sys2Proof.Machine.execCompatCfgWrite v s
  | .recoveryReload bad => Sys2Proof.Machine.execRecoveryReload bad s
  | .bootAttempt => Sys2Proof.Machine.execBootAttempt s
  | .bootDoneWrite => Sys2Proof.Machine.execBootDoneWrite s
  | .bootFailWrite v => Sys2Proof.Machine.execBootFailWrite v s
  | .bootWatchdogExpiry => Sys2Proof.Machine.execBootWatchdogExpiry s
  | .backoffWaitEnd => Sys2Proof.Machine.execBackoffWaitEnd s
  | .startupStep p => Sys2Proof.Machine.execStartupStep p s
  | .pinCfgWrite n v => Sys2Proof.Machine.execPinCfgWrite n v s
  | .pinClaimWrite n v => Sys2Proof.Machine.execPinClaimWrite n v s
  | .loadFailsSubWrite n => Sys2Proof.Machine.execLoadFailsSubWrite n s
  | .lockstepMismatch q => Sys2Proof.Machine.execLockstepMismatch q s
  | .pairMapWrite k v mm => Sys2Proof.Machine.execPairMapWrite k v mm s
  | .pairRunWrite q on => Sys2Proof.Machine.execPairRunWrite q on s
  | .sramSecretWrite v => Sys2Proof.Machine.execSramSecretWrite v s
  | .sramPatrol err => Sys2Proof.Machine.execSramPatrol err s
  | .threadDescWrite t w mm => Sys2Proof.Machine.execThreadDescWrite t w mm s
  | .schPostWrite t => Sys2Proof.Machine.execSchPostWrite t s
  | .eventLinePost e => Sys2Proof.Machine.execEventLinePost e s
  | .tickListRelease => Sys2Proof.Machine.execTickListRelease s
  | .cycleListRelease => Sys2Proof.Machine.execCycleListRelease s
  | .schTake k cc => Sys2Proof.Machine.execSchTake k cc s
  | .threadDispatch => Sys2Proof.Machine.execThreadDispatch s
  | .schComplete k t cc => Sys2Proof.Machine.execSchComplete k t cc s
  | .schYield k t cc => Sys2Proof.Machine.execSchYield k t cc s
  | .schSleep k t delay cc => Sys2Proof.Machine.execSchSleep k t delay cc s
  | .schStop k t cc => Sys2Proof.Machine.execSchStop k t cc s
  | .deadlineMiss t => Sys2Proof.Machine.execDeadlineMiss t s
  | .budgetOverrun k cc => Sys2Proof.Machine.execBudgetOverrun k cc s
  | .mbxRequestWrite m a b => Sys2Proof.Machine.execMbxRequestWrite m a b s
  | .mbxDoorbellWrite v => Sys2Proof.Machine.execMbxDoorbellWrite v s
  | .mbxTake ext => Sys2Proof.Machine.execMbxTake ext s
  | .mbxRspAck v => Sys2Proof.Machine.execMbxRspAck v s
  | .spiRead a n => Sys2Proof.Machine.execSpiRead a n s
  | .spiWrite a b => Sys2Proof.Machine.execSpiWrite a b s
  | .spiStatus => Sys2Proof.Machine.execSpiStatus s
  | .evtCiWrite v => Sys2Proof.Machine.execEvtCiWrite v s
  | .sysIdentify m => Sys2Proof.Machine.execSysIdentify m s
  | .sysStatus m => Sys2Proof.Machine.execSysStatus m s
  | .sysAttest m nonce => Sys2Proof.Machine.execSysAttest m nonce s
  | .sysReset m delay => Sys2Proof.Machine.execSysReset m delay s
  | .sysSensors m => Sys2Proof.Machine.execSysSensors m s
  | .sysKeyRevoke m slot auth pk sig => Sys2Proof.Machine.execSysKeyRevoke m slot auth pk sig s
  | .sysSvnRaise m which svn auth pk sig => Sys2Proof.Machine.execSysSvnRaise m which svn auth pk sig s
  | .cabLoad m src compat cofs addr n ext => Sys2Proof.Machine.execCabLoad m src compat cofs addr n ext s
  | .cabUnload m l => Sys2Proof.Machine.execCabUnload m l s
  | .cabHold m l => Sys2Proof.Machine.execCabHold m l s
  | .cabRun m l plan => Sys2Proof.Machine.execCabRun m l plan s
  | .cabDrain m l => Sys2Proof.Machine.execCabDrain m l s
  | .cabPower m l on => Sys2Proof.Machine.execCabPower m l on s
  | .cabRelocate m l target => Sys2Proof.Machine.execCabRelocate m l target s
  | .cabPlan m l plan => Sys2Proof.Machine.execCabPlan m l plan s
  | .cabCapture m l mode ofs tick => Sys2Proof.Machine.execCabCapture m l mode ofs tick s
  | .cabReadback m l col row sec => Sys2Proof.Machine.execCabReadback m l col row sec s
  | .cabStatus m l => Sys2Proof.Machine.execCabStatus m l s
  | .tickGet m => Sys2Proof.Machine.execTickGet m s
  | .tickSetLen m len => Sys2Proof.Machine.execTickSetLen m len s
  | .tickSetSource m src tol => Sys2Proof.Machine.execTickSetSource m src tol s
  | .tickAlign m => Sys2Proof.Machine.execTickAlign m s
  | .tickOutput m en => Sys2Proof.Machine.execTickOutput m en s
  | .netRingStatus m ring => Sys2Proof.Machine.execNetRingStatus m ring s
  | .netRouter m st mode => Sys2Proof.Machine.execNetRouter m st mode s
  | .netLoad m st => Sys2Proof.Machine.execNetLoad m st s
  | .netBookings m st => Sys2Proof.Machine.execNetBookings m st s
  | .netCounters m st => Sys2Proof.Machine.execNetCounters m st s
  | .netTimers m req drain reorder => Sys2Proof.Machine.execNetTimers m req drain reorder s
  | .portJesdCfg m j n cfg rel q path => Sys2Proof.Machine.execPortJesdCfg m j n cfg rel q path s
  | .portJesdEnable m j n en => Sys2Proof.Machine.execPortJesdEnable m j n en s
  | .portJesdSysref m j => Sys2Proof.Machine.execPortJesdSysref m j s
  | .portJesdStatus m j => Sys2Proof.Machine.execPortJesdStatus m j s
  | .portEthCfg m n v => Sys2Proof.Machine.execPortEthCfg m n v s
  | .portEthStatus m n => Sys2Proof.Machine.execPortEthStatus m n s
  | .portTod m op v => Sys2Proof.Machine.execPortTod m op v s
  | .portTxts m n most => Sys2Proof.Machine.execPortTxts m n most s
  | .portSynce m o v => Sys2Proof.Machine.execPortSynce m o v s
  | .portSpanCfg m k v => Sys2Proof.Machine.execPortSpanCfg m k v s
  | .portSpanStatus m k => Sys2Proof.Machine.execPortSpanStatus m k s
  | .portSpanRoute m d v => Sys2Proof.Machine.execPortSpanRoute m d v s
  | .portSpanSys m sys tick rclk => Sys2Proof.Machine.execPortSpanSys m sys tick rclk s
  | .flowLex m op loc ent => Sys2Proof.Machine.execFlowLex m op loc ent s
  | .flowLexPort m k v => Sys2Proof.Machine.execFlowLexPort m k v s
  | .flowSet m f desc => Sys2Proof.Machine.execFlowSet m f desc s
  | .flowGet m f => Sys2Proof.Machine.execFlowGet m f s
  | .flowLink m l v => Sys2Proof.Machine.execFlowLink m l v s
  | .flowQmCfg m cfg base cells => Sys2Proof.Machine.execFlowQmCfg m cfg base cells s
  | .memStatus m => Sys2Proof.Machine.execMemStatus m s
  | .memFail m d => Sys2Proof.Machine.execMemFail m d s
  | .memRetrain m => Sys2Proof.Machine.execMemRetrain m s
  | .memRebuild m => Sys2Proof.Machine.execMemRebuild m s
  | .memSpareGet m d from_ => Sys2Proof.Machine.execMemSpareGet m d from_ s
  | .memSpareSet m d es => Sys2Proof.Machine.execMemSpareSet m d es s
  | .memDmaStatus m c => Sys2Proof.Machine.execMemDmaStatus m c s
  | .schThreadSet m t desc => Sys2Proof.Machine.execSchThreadSet m t desc s
  | .schThreadGet m t => Sys2Proof.Machine.execSchThreadGet m t s
  | .schThreadDel m t => Sys2Proof.Machine.execSchThreadDel m t s
  | .schAdmitTest m ts => Sys2Proof.Machine.execSchAdmitTest m ts s
  | .schPost m t => Sys2Proof.Machine.execSchPost m t s
  | .schStatus m => Sys2Proof.Machine.execSchStatus m s
  | .fltRecords m from_ => Sys2Proof.Machine.execFltRecords m from_ s
  | .fltAck m src => Sys2Proof.Machine.execFltAck m src s
  | .fltInject m src chk count => Sys2Proof.Machine.execFltInject m src chk count s
  | .fltRecover m k id => Sys2Proof.Machine.execFltRecover m k id s
  | .fltConfig m quiet mode => Sys2Proof.Machine.execFltConfig m quiet mode s
  | .testCalendarGet m => Sys2Proof.Machine.execTestCalendarGet m s
  | .testCalendarSet m scrub slice cmp gap => Sys2Proof.Machine.execTestCalendarSet m scrub slice cmp gap s
  | .testResults m k id => Sys2Proof.Machine.execTestResults m k id s
  | .testRun m k id res => Sys2Proof.Machine.execTestRun m k id res s
  | .logRead m from_ most => Sys2Proof.Machine.execLogRead m from_ most s
  | .logInfo m => Sys2Proof.Machine.execLogInfo m s
  | .burIdentify m => Sys2Proof.Machine.execBurIdentify m s
  | .burTotals m from_ n => Sys2Proof.Machine.execBurTotals m from_ n s
  | .burStatement m index => Sys2Proof.Machine.execBurStatement m index s
  | .burAudit m from_ most => Sys2Proof.Machine.execBurAudit m from_ most s
  | .burStatus m => Sys2Proof.Machine.execBurStatus m s
  | .fwStatus m => Sys2Proof.Machine.execFwStatus m s
  | .fwBegin m => Sys2Proof.Machine.execFwBegin m s
  | .fwData m part ofs b => Sys2Proof.Machine.execFwData m part ofs b s
  | .fwWrite m part src addr ofs n ext => Sys2Proof.Machine.execFwWrite m part src addr ofs n ext s
  | .fwCopy m part => Sys2Proof.Machine.execFwCopy m part s
  | .fwVerify m part n => Sys2Proof.Machine.execFwVerify m part n s
  | .fwActivate m trial reset => Sys2Proof.Machine.execFwActivate m trial reset s
  | .fwCommit m up => Sys2Proof.Machine.execFwCommit m up s
  | .fwRollback m => Sys2Proof.Machine.execFwRollback m s
  | .fwTrialExpiry => Sys2Proof.Machine.execFwTrialExpiry s
  | .fwPushBegin m n => Sys2Proof.Machine.execFwPushBegin m n s
  | .fwPushData m ofs b => Sys2Proof.Machine.execFwPushData m ofs b s
  | .fwPushEnd m => Sys2Proof.Machine.execFwPushEnd m s
  | .bureauTapEvent tap => Sys2Proof.Machine.execBureauTapEvent tap s
  | .bureauMirrorRecord => Sys2Proof.Machine.execBureauMirrorRecord s
  | .statementIssue oscUs => Sys2Proof.Machine.execStatementIssue oscUs s
  | .statementStored => Sys2Proof.Machine.execStatementStored s
  | .sealChange isOpen => Sys2Proof.Machine.execSealChange isOpen s
  | .tamperEdge => Sys2Proof.Machine.execTamperEdge s
  | .warrantParam len => Sys2Proof.Machine.execWarrantParam len s
  | .warrantTratyBegin len => Sys2Proof.Machine.execWarrantTratyBegin len s
  | .warrantTratyData len => Sys2Proof.Machine.execWarrantTratyData len s
  | .warrantClearTamper len => Sys2Proof.Machine.execWarrantClearTamper len s
  | .warrantArchive len => Sys2Proof.Machine.execWarrantArchive len s
  | .warrantStatementNow len => Sys2Proof.Machine.execWarrantStatementNow len s
  | .vddBurRestore => Sys2Proof.Machine.execVddBurRestore s
  | .bureauFault kind => Sys2Proof.Machine.execBureauFault kind s
  | .faultEvent => Sys2Proof.Machine.execFaultEvent s
  | .fltSrcAckWrite src v => Sys2Proof.Machine.execFltSrcAckWrite src v s
  | .quietPeriodEnd => Sys2Proof.Machine.execQuietPeriodEnd s
  | .fltInjArm src chk count cont dbl => Sys2Proof.Machine.execFltInjArm src chk count cont dbl s
  | .fltInjStop src => Sys2Proof.Machine.execFltInjStop src s
  | .fltRaiseGo k v mm => Sys2Proof.Machine.execFltRaiseGo k v mm s
  | .fltFirstClear => Sys2Proof.Machine.execFltFirstClear s
  | .fltCiWrite v => Sys2Proof.Machine.execFltCiWrite v s
  | .fltUnitSubWrite k id n => Sys2Proof.Machine.execFltUnitSubWrite k id n s
  | .scrubWalkStart => Sys2Proof.Machine.execScrubWalkStart s
  | .scrubWordRead err => Sys2Proof.Machine.execScrubWordRead err s
  | .scrubQueueRepair err => Sys2Proof.Machine.execScrubQueueRepair err s
  | .scrubHeartbeat => Sys2Proof.Machine.execScrubHeartbeat s
  | .scrubTakeover => Sys2Proof.Machine.execScrubTakeover s
  | .voteDisagreement kind p => Sys2Proof.Machine.execVoteDisagreement kind p s
  | .scrCfgWrite v => Sys2Proof.Machine.execScrCfgWrite v s
  | .bstCfgWrite v => Sys2Proof.Machine.execBstCfgWrite v s
  | .gapStepStart p => Sys2Proof.Machine.execGapStepStart p s
  | .shadowCopyDone p => Sys2Proof.Machine.execShadowCopyDone p s
  | .shadowMismatch p => Sys2Proof.Machine.execShadowMismatch p s
  | .bistSliceStart => Sys2Proof.Machine.execBistSliceStart s
  | .bistSliceEnd u full sig rows fifos => Sys2Proof.Machine.execBistSliceEnd u full sig rows fifos s
  | .bistSliceAbort u => Sys2Proof.Machine.execBistSliceAbort u s
  | .testUnlock => Sys2Proof.Machine.execTestUnlock s
  | .testUnlockSignature pk sig => Sys2Proof.Machine.execTestUnlockSignature pk sig s
  | .pciWinWrite w v => Sys2Proof.Machine.execPciWinWrite w v s
  | .pcieWindowAccess o n wr => Sys2Proof.Machine.execPcieWindowAccess o n wr s
  | .avsRequest mv => Sys2Proof.Machine.execAvsRequest mv s
  | .avsAlert => Sys2Proof.Machine.execAvsAlert s
  | .avsNoAnswer => Sys2Proof.Machine.execAvsNoAnswer s
  | .vcoreUndervoltage mv => Sys2Proof.Machine.execVcoreUndervoltage mv s
  | .thermalThreshold => Sys2Proof.Machine.execThermalThreshold s
  | .sensorPoll temps vcore vsram => Sys2Proof.Machine.execSensorPoll temps vcore vsram s
  | .ethLinkUp n => Sys2Proof.Machine.execEthLinkUp n s
  | .pllLock => Sys2Proof.Machine.execPllLock s
  | .gddr7Training bad => Sys2Proof.Machine.execGddr7Training bad s
  | .leavingDone st => Sys2Proof.Machine.execLeavingDone st s
  | .telemetryMsg st ddev dstop code data => Sys2Proof.Machine.execTelemetryMsg st ddev dstop code data s
  | .refresh => Sys2Proof.Machine.execRefresh s
  | .coefficientUpdate lane => Sys2Proof.Machine.execCoefficientUpdate lane s
  | .boundaryScan drive => Sys2Proof.Machine.execBoundaryScan drive s

end Machine
end Sys2Proof
end

