-- ==== Sys2Proof/Safety.lean ====
section
/-!
DEFINITION. What claims say of every step: the fuses only move one way (R293, R367), a key slot is always
left (R293), and a command runs apart from the queue.
-/

namespace Sys2Proof
namespace Machine

/-- A digest slot is left whose revoke fuse is not blown (R293). -/
def keyLeft (o : OtpSt) : Bool := o.revoked % 16 != 15

/-- Fuses `b` may follow fuses `a`: blown revoke fuses stay blown, the last slot is not revoked (R293), the
minima of SVN_RAISE and COMMIT do not fall, and everything else that OTP holds stays. -/
structure FuseStep (a b : OtpSt) : Prop where
  revoked : ∀ i, a.revoked.testBit i = true → b.revoked.testBit i = true
  left : keyLeft a = true → keyLeft b = true
  svn : a.svn ≤ b.svn
  fwSvn : a.fwSvn ≤ b.fwSvn
  digest : b.digest = a.digest
  key : b.key = a.key
  encReq : b.encReq = a.encReq
  compatForbid : b.compatForbid = a.compatForbid
  testKey : b.testKey = a.testKey
  testRevoked : b.testRevoked = a.testRevoked
  authority : b.authority = a.authority

/-- What every command does to the queue and the fuses: the queue stays, the fuses move one way. -/
structure Kept (s t : State) : Prop where
  pending : t.pending = s.pending
  fuses : FuseStep s.otp t.otp

/-! ### What statements say of a command -/

/-- Command `c` in state `s` answers a next state, and `P` holds of it. -/
abbrev Does (c : Instr) (s : State) (P : State → Prop) : Prop := ∃ t, exec c s = .next t ∧ P t

/-- The fields of `l`, instances and all, are the only register fields in which `s` and `t` differ. -/
def OnlyFields (l : List (Fld × Nat)) (s t : State) : Prop :=
  ∀ f i, (∀ e ∈ l, fkey e.1 e.2 ≠ fkey f i) → fget t f i = fget s f i

/-- Nothing but register fields, of them only those of `l`, differs between `s` and `t`. -/
def OnlyRegs (l : List (Fld × Nat)) (s t : State) : Prop := t = { s with regs := t.regs } ∧ OnlyFields l s t

/-! ### Registers -/

/-- Register `r` has fields whose writes follow their access codes alone (R5). -/
def plainWrites (r : Nat) : Bool :=
  r < 200 && (regPutCab State.reset 0 r 0 0).isNone && (regPutPort State.reset r 0 0).isNone && (regPutCtl State.reset 0 r 0 0).isNone

/-- Register `r` has fields whose reads clear RC fields and do nothing else. -/
def plainReads (r : Nat) : Bool :=
  r < 200 && !(List.contains [R_FLT_SRC, R_SYS_TICK_CNT, R_CPT_TOD_SEC, R_CPT_TXTS, R_FIFO_PEAK, R_PIN_IN] r)

/-- FIFO `k` is about to have a FREE-mode swap cycle (R121). -/
def swapDue (s : State) (k : Nat) : Bool :=
  fget s FIFO_MODE_SWAP k = 0 && fifoREmpty (fifo s k) && !(fifo s k).w.isEmpty && (fifo s k).wopen.isNone

/-! ### Cells -/

/-- The cell that an opcode command names. -/
abbrev cellAt (s : State) (r : CellRef) : Cell := cell s (cid r.p r.pcol r.row)

/-- The instruction word of its drawer. -/
abbrev insAt (s : State) (r : CellRef) : Word := (cellAt s r).cur.w0

/-- The value of operand source `sel` in the cell's next cycle, the RAM operand apart (R32). -/
def operandAt (s : State) (r : CellRef) (sel : Nat) : Word :=
  operand (cellAt s r) (cellAt s r).t
    (fun n => (srcWire s r.p r.pcol ((lcolOf s r.p r.pcol).getD 0) r.row (inSel (cellAt s r).cur n) (cellAt s r).t).1) 0 sel

/-- Operand A. -/
abbrev opA (s : State) (r : CellRef) : Word := operandAt s r (insSA (insAt s r))
/-- Operand B. -/
abbrev opB (s : State) (r : CellRef) : Word := operandAt s r (insSB (insAt s r))
/-- Operand C. -/
abbrev opC (s : State) (r : CellRef) : Word := operandAt s r (insSC (insAt s r))

/-- A service cell away from the cabinet's outer columns stands in a running slot under a drawer with opcode `op`,
with nothing in flight and no gap step about (R34 to R38, R83, R85). -/
structure InSlot (op : Nat) (s : State) (r : CellRef) : Prop where
  ref : cellRefOk r = true
  place : ∃ lcol, lcolOf s r.p r.pcol = some lcol ∧ 1 ≤ lcol ∧ lcol ≤ 14
  service : r.pcol ≠ gapPos s r.p
  gap : (cab s r.p).gapPh = 0
  runs : cabRuns s r.p = true
  slot : (cab s r.p).slot ≠ none
  first : (cab s r.p).slotStart ≤ (cellAt s r).t
  last : (cellAt s r).t < (cab s r.p).slotStart + (cab s r.p).slotLen
  drawer : (cellAt s r).cur.runs = true
  opcode : insOP (insAt s r) = op
  good : insReserved (insAt s r) = false
  idle : (cellAt s r).jobs = []
  yDone : (cellAt s r).y.vc ≤ (cellAt s r).t
  fDone : (cellAt s r).f.vc ≤ (cellAt s r).t
  ag1 : (cellAt s r).ag1 < 512

/-- Such a cell issues: VGATE is 0, its condition is true, and it reads no RAM word. -/
structure Issues (op : Nat) (s : State) (r : CellRef) : Prop extends InSlot op s r where
  gate : insVGATE (insAt s r) = false
  cond : condTrue (insAt s r) (cellAt s r) = true
  mem : insAG0RD (insAt s r) = false

/-- What a cycle left in Y and F: `v` where the mask `dst` names the register, else what was there, without valid. -/
structure CellYF (s t : State) (r : CellRef) (dst : Nat) (v : Word) : Prop where
  y : (cellAt t r).y.see ((cellAt s r).t + 1) = if dst.testBit 0 then (v, true) else ((cellAt s r).y.val, false)
  f : (cellAt t r).f.see ((cellAt s r).t + 1) = if dst.testBit 1 then (v, true) else ((cellAt s r).f.val, false)

/-- Nothing outside the cell changed but time and pin levels: no other cell, no register field, no FIFO, no cabinet. -/
structure CellAlone (s t : State) (r : CellRef) : Prop where
  others : ∀ j, j ≠ cid r.p r.pcol r.row → cell t j = cell s j
  cabs : t.array.cabs = s.array.cabs
  regs : t.regs = s.regs
  fifo : t.fifo = s.fifo
  flt : t.flt = s.flt

/-- One issue cycle has passed: the result `v`, if the operation has one, is in Y, F and the RAM word at the AG1
pointer as DST names them; accumulators, CM, BX, CI and the results in flight are those of `x`; the rest of the cell,
but PH and its cycle, stays. -/
structure CellDid (s t : State) (r : CellRef) (v : Option Word) (x : Cell) : Prop where
  yf : CellYF s t r (if v.isSome then insDST (insAt s r) else 0) (v.getD 0)
  ram : ∀ a, a < 512 → ramCode (cellAt t r) a =
    if v.isSome ∧ (insDST (insAt s r)).testBit 2 = true ∧ a = (cellAt s r).ag1 then eccEnc (v.getD 0) else ramCode (cellAt s r) a
  acc : (cellAt t r).acc = x.acc
  cm : (cellAt t r).cm = x.cm
  bx : (cellAt t r).bx = x.bx
  ci : (cellAt t r).ci = x.ci
  jobs : (cellAt t r).jobs = x.jobs
  ag0 : (cellAt t r).ag0 = (cellAt s r).ag0
  cfg : (cellAt t r).cfg = (cellAt s r).cfg
  drawer : (cellAt t r).cur = (cellAt s r).cur
  ph : (cellAt t r).ph = if (cellAt s r).ph = insPLEN (insAt s r) then 0 else ((cellAt s r).ph + 1) % 512
  time : (cellAt t r).t = (cellAt s r).t + 1
  alone : CellAlone s t r

/-- Lane `i` of `v` holds the low bits of the exact value `e`, clamped to the lane first under SAT and SCALE (R43). -/
def LaneIs (ins : Word) (v : Word) (i : Nat) (e : Int) : Prop :=
  laneU (insFMT ins) v i = wrapN (laneW (insFMT ins)) (if insOVF ins = 0 then e else clampI (laneW (insFMT ins)) e)

/-- Every lane of `v` holds `e` of its number. -/
def LanesAre (ins : Word) (v : Word) (e : Nat → Int) : Prop := ∀ i, i < laneN (insFMT ins) → LaneIs ins v i (e i)

/-! ### The lexicon -/

/-- Slot `loc` of the lexicon holds the entry `e`, both its halves clean (R211). -/
def SlotHolds (s : State) (loc e : Nat) : Prop :=
  ∃ a b, eccJudge (lexCodes s.lex loc).1 = .clean a ∧ eccJudge (lexCodes s.lex loc).2 = .clean b ∧ e = b.toNat * 2 ^ 64 + a.toNat

/-- A valid entry of TYPE and KEY `tk`. -/
def EntryFor (tk e : Nat) : Prop := entV e = true ∧ entTK e = tk

/-- Of the four clean slots of `tk`, slot `l` alone holds a valid entry of it: `e` (R206). -/
def KeyAt (s : State) (tk l e : Nat) : Prop :=
  l ∈ lexSlots tk ∧ SlotHolds s l e ∧ EntryFor tk e ∧ ∀ m ∈ lexSlots tk, m ≠ l → ∃ x, SlotHolds s m x ∧ ¬ EntryFor tk x

/-- The four slots of `tk` are clean and none holds a valid entry of it. -/
def KeyNowhere (s : State) (tk : Nat) : Prop := ∀ m ∈ lexSlots tk, ∃ x, SlotHolds s m x ∧ ¬ EntryFor tk x

/-! ### Compatibility loads -/

/-- The next record of the compatibility load `c` lies whole in the staging buffer, its CRC is good, and `w` are its
record word and payload (R304, R307); `u` is the state after the reads. -/
def NextRecord (s : State) (c : CompatJob) (u : State) (w : List Word) : Prop :=
  let q := gReadBytes 2 (stageOfs s + c.pos) 8 s
  let n := wf (wAt (bytesToWords 2 (q.2.map (fun b => b.1))) 0) 32 24
  let r := gReadBytes (n / 16 + 3) (stageOfs s + c.pos) (8 * (n + 2)) q.1
  let b := r.2.map (fun b => b.1)
  s.cfg.compat = some c ∧ c.pos + 16 ≤ c.len ∧ c.pos + 8 * (n + 2) ≤ c.len ∧ u = r.1 ∧ w = (bytesToWords (n + 2) b).take (n + 1) ∧
    wAt (bytesToWords (n + 2) b) (n + 1) = BitVec.ofNat 64 (crc32cR (b.take (8 * (n + 1)))) ∧ wf (wAt w 0) 32 24 = n

/-- Every logical cabinet stands on a physical one, and a cabinet owns board pins only (R110, R327). -/
structure Placed (s : State) : Prop where
  phys : ∀ l, l < 96 → physOf s l < 100
  pins : ∀ p, p < 100 → ∀ n ∈ (cab s p).pins, n < 96
  doors : ∀ l, l < 96 → ∀ e ∈ (img s l).doors.pins, e.1 < 96

/-! ### The scheduler -/

/-- Thread `x` is in service on pair `k`, and `cc` further cycles of its job stay within its budget (R345, R351). -/
structure Serves (s : State) (k x cc : Nat) : Prop where
  pair : k < 4
  thread : x < 4096
  serves : inService s k = some x
  notOver : (thr s x).ovr = false
  within : (thr s x).budget = 0 ∨ (thr s x).svc + cc ≤ (thr s x).budget
  flow : (thr s x).flow < 16384

/-! ### Mailbox commands -/

/-- The state once Kaluno has taken command `c` of group `g` in mailbox `m` (R355): RSP_RDY clear, BUSY set, the request's
group and code kept. -/
def taken (s : State) (m g c : Nat) : State :=
  let u := fset (clearBits s MBX_RSP_RDY_RDY 0 (2 ^ m)) MBX_BUSY_BUSY 0 (fget s MBX_BUSY_BUSY 0 ||| 2 ^ m)
  setMbx u m { mbx u m with grp := g, code := c }

/-- Nothing keeps command `c` of group `g` with fields `a` and the bytes `ext` it fetches in mailbox `m` from running: the
mailbox is served and runs nothing, neither the phase nor GMASK forbids the command (R364, R365), nor SAFE, and no earlier
request has its unit (R361), or the command does not wait for one (R363). -/
structure MbxRuns (s : State) (m g c : Nat) (a : List Nat) (ext : List Byte := []) : Prop where
  box : m < 16
  served : mbxServed s = true
  idle : (fget s MBX_BUSY_BUSY 0).testBit m = false
  permitted : gate (taken s m g c) m g c = none
  allowed : safeForbids (taken s m g c) g c a = false
  free : (unitsBusy (taken s m g c) g c a ext && !loadRetry (taken s m g c) g c) = false

/-- Command `i`, run in mailbox `m`, leaves `w` and is answered OK with the payload `pay`. -/
abbrev Answers (i : Instr) (s : State) (m : Nat) (w : State) (pay : List Byte) : Prop := exec i s = .next (finish w m 0 0 false pay)

/-- It leaves `w` and is answered with the status `st` and no payload. -/
abbrev Declines (i : Instr) (s : State) (m : Nat) (w : State) (st : Nat) : Prop := exec i s = .next (finish w m st 0 false [])

/-- It leaves `w`, and its answer waits for `x` (R362). -/
abbrev Waits (i : Instr) (s : State) (m : Nat) (w : State) (x : Wait) : Prop :=
  exec i s = .next (setSvc w { w.svc with waits := w.svc.waits ++ [(m, x)] })

/-- The response window of mailbox `m` holds an answer with status `st`, SUB `sub` and the payload `pay`; RSP_RDY is set and
BUSY clear (R355, R358). -/
structure Answered (t : State) (m st sub : Nat) (pay : List Byte) : Prop where
  ready : (fget t MBX_RSP_RDY_RDY 0).testBit m = true
  idle : (fget t MBX_BUSY_BUSY 0).testBit m = false
  status : smGet 0 (mbx t m).rsp 12 = BitVec.ofNat 8 st
  sub : smGet 0 (mbx t m).rsp 11 = BitVec.ofNat 8 sub
  len : winGet (mbx t m).rsp 14 2 = leBytes 2 pay.length
  pay : winGet (mbx t m).rsp 24 pay.length = pay

/-- The request window of mailbox `m` holds a request with this header and payload (R358). -/
structure Requested (s : State) (m tag seq code grp flags chk : Nat) (pay : List Byte) : Prop where
  fits : tag < 2 ^ 32 ∧ seq < 2 ^ 16 ∧ code < 256 ∧ grp < 256 ∧ flags < 256 ∧ chk < 2 ^ 32 ∧ pay.length ≤ 4072
  hdr : winGet (mbx s m).req 0 8 = leBytes 4 tag ++ leBytes 2 seq ++ leBytes 1 code ++ leBytes 1 grp
  flg : smGet 0 (mbx s m).req 13 = BitVec.ofNat 8 flags
  len : winGet (mbx s m).req 14 2 = leBytes 2 pay.length
  chk : winGet (mbx s m).req 20 4 = leBytes 4 chk
  pay : winGet (mbx s m).req 24 pay.length = pay

/-- Mailbox `m` alone has rung, Kaluno runs outside board test hold (R312) and no request waits or is held. -/
structure Rung (s : State) (m : Nat) : Prop where
  box : m < 16
  fw : s.boot.fw = true ∧ s.boot.rom = false
  phase : fget s SYS_BOOT_STAT_PHASE 0 ≠ 6
  order : s.svc.order = [m]
  idle : (fget s MBX_BUSY_BUSY 0).testBit m = false
  waits : s.svc.waits = []
  held : s.svc.held = []

/-! ### Scrubbing -/

/-- Configuration word `w` of cell `k`, read with the upset bits `err`, has been scrubbed by the table of R422: a clean word
stays, a corrected one is written back, any other is written anew from the image; the class of the record is that of the
word's inventory. -/
structure Scrubbed (s t : State) (k w : Nat) (err : Code) : Prop where
  clean : ∀ d, eccJudge (cfgCode (cell s k) w ^^^ err) = .clean d → cfgCode (cell t k) w = cfgCode (cell s k) w ^^^ err ∧
    t.flt = s.flt ∧ fget t SCR_ERR_CE 0 = fget s SCR_ERR_CE 0 ∧ fget t SCR_ERR_REWRITE 0 = fget s SCR_ERR_REWRITE 0
  fixed : ∀ d, eccJudge (cfgCode (cell s k) w ^^^ err) = .fixed d → cfgCode (cell t k) w = eccEnc d ∧
    fget t SCR_ERR_CE 0 = min (fget s SCR_ERR_CE 0 + 1) (2 ^ 32 - 1) ∧
    ∃ e, t.flt.raised = s.flt.raised ++ [e] ∧ e.src = cabSrc (k / 136) ∧
      e.cls = if w < 12 then (match scrubCol s (k / 136) (k / 8 % 17) with
        | some l => invFault (invClass s (k / 136) l (k % 8) w)
        | none => clsC) else clsC
  other : (eccJudge (cfgCode (cell s k) w ^^^ err) = .bad ∨ eccJudge (cfgCode (cell s k) w ^^^ err) = .poison) →
    cfgCode (cell t k) w = eccEnc (scrubImage s (k / 136) (k / 8 % 17) (k % 8) w) ∧
    fget t SCR_ERR_REWRITE 0 = min (fget s SCR_ERR_REWRITE 0 + 1) 65535 ∧
    ∃ e, t.flt.raised = s.flt.raised ++ [e] ∧ e.src = cabSrc (k / 136) ∧
      e.cls = (match scrubCol s (k / 136) (k / 8 % 17) with
        | some l => invFault (invClass s (k / 136) l (k % 8) w)
        | none => clsC)

end Machine
end Sys2Proof
end

