-- ==== Sys2Proof/WellFormed.lean ====
section
/-!
DEFINITION. Well-formed commands: the unit at which the command happens exists, and its operands are such a unit's. A
command that is not well-formed is none that could happen to the device; it faults (`Fault.noSuchUnit`). A value that a
field cannot hold keeps the field's bits, and a write to a register instance the map does not list is ignored (R448):
neither is ill-formed.
-/

namespace Sys2Proof

open Machine

/-- The units named exist. -/
def wellFormed (i : Instr) : Bool :=
  match i with
  | .powerOnReset _ => true
  | .resetRelease _ _ => true
  | .warmReset _ => true
  | .powerGoodLoss => true
  | .genericRegisterWrite m _ _ _ => m < 10
  | .rcFieldRead m _ _ => m < 10
  | .pllLossOfLock k => k < 3
  | .pllRelock k => k < 3
  | .tickEdge => true
  | .tickGuard => true
  | .tickSourceEdge _ => true
  | .tickEdgeMissed => true
  | .tickLenWrite _ => true
  | .tickSourceWrite _ => true
  | .realignmentTick _ _ => true
  | .tickCountRead => true
  | .slotStart p => p < 100
  | .drawerFetch p pcol row _ _ _ => cellOk p pcol row
  | .nop r => cellRefOk r
  | .mov r => cellRefOk r
  | .and r => cellRefOk r
  | .or r => cellRefOk r
  | .xor r => cellRefOk r
  | .andn r => cellRefOk r
  | .shl r => cellRefOk r
  | .shr r => cellRefOk r
  | .shuf r => cellRefOk r
  | .sel r => cellRefOk r
  | .add r => cellRefOk r
  | .sub r => cellRefOk r
  | .neg r => cellRefOk r
  | .abs r => cellRefOk r
  | .max r => cellRefOk r
  | .min r => cellRefOk r
  | .cmpgt r => cellRefOk r
  | .cmpeq r => cellRefOk r
  | .mul r => cellRefOk r
  | .mulResultLanding p pcol row => cellOk p pcol row
  | .mac4 r => cellRefOk r
  | .msu4 r => cellRefOk r
  | .dot4 r => cellRefOk r
  | .mac32 r => cellRefOk r
  | .cmac r => cellRefOk r
  | .cmacj r => cellRefOk r
  | .macAddStage p pcol row => cellOk p pcol row
  | .xlExtraction p pcol row => cellOk p pcol row
  | .clra r => cellRefOk r
  | .clrf r => cellRefOk r
  | .extract r => cellRefOk r
  | .norm r => cellRefOk r
  | .exp r => cellRefOk r
  | .bexp r => cellRefOk r
  | .bnorm r => cellRefOk r
  | .min2 r => cellRefOk r
  | .msel r => cellRefOk r
  | .crot r => cellRefOk r
  | .lut r => cellRefOk r
  | .ramWriteBack p pcol row => cellOk p pcol row
  | .ramPatrolRead p pcol row _ => cellOk p pcol row
  | .configPortRamAccess p pcol row _ _ _ _ => cellOk p pcol row
  | .scaleSubWrite _ _ => true
  | .ramCeSubWrite _ _ => true
  | .ramLastClear _ => true
  | .cfgFaultClear _ => true
  | .planSelectWrite _ _ => true
  | .doorBufferDrain p port => p < 100 && port < 12
  | .borderWordArrival p i => p < 100 && i < 16
  | .drainWindowEnd p => p < 100
  | .captureArmWrite _ _ _ => true
  | .captureSnapshot p => p < 100
  | .fifoWrite k _ _ _ _ _ _ => fifoExists k
  | .fifoRead k _ => fifoExists k
  | .fifoFreeSwap k => fifoExists k
  | .fifoFlush k => fifoExists k
  | .fifoModeWrite _ _ => true
  | .fifoPeakRead _ => true
  | .packetInject st x _ => injOk st x
  | .flitForward net st out _ _ => net < 2 && st < 140 && 1 ≤ out && out ≤ 4 && (if out ≤ 2 then onH st else onV st)
  | .escapeEntry net st port => net < 2 && st < 140 && port < 5
  | .packetEject net st port ln => net < 2 && hasAgent st && port < 5 && ln < 6
  | .streamReorderWrite k => keyOk k
  | .seqGapTimeout k => keyOk k
  | .requestTimeout st => hasAgent st
  | .routerModeWrite _ _ => true
  | .bypassSwitchClose st => st < 100
  | .routerInternalFault st => st < 100
  | .testAbortByPacket st => st < 100
  | .nocCfgWrite _ _ _ => true
  | .jesdLinkEnable _ _ _ => true
  | .jesdLinkDisable _ _ _ => true
  | .jesdRetrain _ _ => true
  | .jesdCdrLock j n => jnOk j n
  | .jesdBlockLock j n => jnOk j n
  | .jesdFrameLock j n _ _ => jnOk j n
  | .jesdRelease j n _ => jnOk j n
  | .jesdBringupTimeout j n => jnOk j n
  | .jesdLockLoss j n lane => jnOk j n && lane < 8
  | .sysrefArm _ => true
  | .sysrefEdge j _ => j < 8
  | .rxSampleWord j p _ _ _ => j < 8 && p < 2
  | .txSampleRead j p _ _ => j < 8 && p < 2
  | .ethPortEnable _ _ => true
  | .ethLinkDown n _ => n < 8
  | .rxFrame n _ _ _ => n < 8
  | .lexiconLookup _ => true
  | .txFrame n => n < 8
  | .todStepWrite _ => true
  | .todRead => true
  | .txtsRead _ => true
  | .lexSearch _ _ => true
  | .lexInsert _ _ => true
  | .lexDelete _ _ => true
  | .lexUpdate _ _ => true
  | .lexRead _ _ => true
  | .lexReadClearHit _ _ => true
  | .lexPortCfgWrite _ _ => true
  | .mirrorConfirm => true
  | .mirrorTimeout => true
  | .lexPatrol _ => true
  | .lexRowSpare => true
  | .segmentArrival k d => k < 4 && (d < 4 || (d = 4 && k = 0))
  | .budgetWord k => k < 4
  | .budgetDeadline _ => true
  | .clientSelection span id _ => if span then id < 1024 else id < 8
  | .qmgPoolWrite _ _ => true
  | .budgetDlWrite _ => true
  | .qmgLinkEnable _ _ _ => true
  | .gddrLineRead _ _ _ => true
  | .gddrLineWrite _ ws _ => ws.length = 16
  | .gddrPartialWrite _ off b _ _ _ => off + b.length ≤ 128
  | .gdmFailWrite _ => true
  | .gdmRebuildWrite => true
  | .gddrRebuildDone => true
  | .gddrRowSpare => true
  | .gddrPatrol _ _ => true
  | .dmaPiWrite _ _ => true
  | .dmaDescFetch c _ => c < 16
  | .dmaDescComplete c _ _ _ _ => c < 16
  | .dmaAbort _ _ _ _ => true
  | .dmaResume _ => true
  | .spanLinkEnable _ _ => true
  | .spanLinkDisable _ => true
  | .spanRetrain _ => true
  | .spanFecLock k => k < 8
  | .spanIdentReceived k _ _ _ => k < 8
  | .spanTrainTimeout k => k < 8
  | .spanLaneLockLoss n => n < 8
  | .spanFrameReceived n _ _ => n < 8
  | .spanNakReceived n _ => n < 8
  | .spanResendTimeout n => n < 8
  | .spanSwitchRoute net o => net < 2 && o < 10
  | .markerSend k _ => k < 8
  | .markerReceived k _ _ _ _ _ _ _ _ _ => k < 8
  | .spanCalibration k => k < 8
  | .echoReceived k _ _ => k < 8
  | .masterLossTimeout => true
  | .loadGo _ => true
  | .loadWritePhase _ => true
  | .loadAbort => true
  | .compatLoadGo _ => true
  | .compatRecord => true
  | .compatCfgWrite _ => true
  | .recoveryReload _ => true
  | .bootAttempt => true
  | .bootDoneWrite => true
  | .bootFailWrite _ => true
  | .bootWatchdogExpiry => true
  | .backoffWaitEnd => true
  | .startupStep p => p < 100
  | .pinCfgWrite _ _ => true
  | .pinClaimWrite _ _ => true
  | .loadFailsSubWrite _ => true
  | .lockstepMismatch q => q < 5
  | .pairMapWrite _ _ _ => true
  | .pairRunWrite _ _ => true
  | .sramSecretWrite _ => true
  | .sramPatrol _ => true
  | .threadDescWrite _ _ _ => true
  | .schPostWrite _ => true
  | .eventLinePost e => e < 64
  | .tickListRelease => true
  | .cycleListRelease => true
  | .schTake k _ => k < 4
  | .threadDispatch => true
  | .schComplete k t _ => k < 4 && t < 4096
  | .schYield k t _ => k < 4 && t < 4096
  | .schSleep k t _ _ => k < 4 && t < 4096
  | .schStop k t _ => k < 4 && t < 4096
  | .deadlineMiss t => t < 4096
  | .budgetOverrun k _ => k < 4
  | .mbxRequestWrite _ _ _ => true
  | .mbxDoorbellWrite _ => true
  | .mbxTake _ => true
  | .mbxRspAck _ => true
  | .spiRead _ _ => true
  | .spiWrite _ _ => true
  | .spiStatus => true
  | .evtCiWrite _ => true
  | .sysIdentify m => m < 16
  | .sysStatus m => m < 16
  | .sysAttest m _ => m < 16
  | .sysReset m _ => m < 16
  | .sysSensors m => m < 16
  | .sysKeyRevoke m _ _ _ _ => m < 16
  | .sysSvnRaise m _ _ _ _ _ => m < 16
  | .cabLoad m _ _ _ _ _ _ => m < 16
  | .cabUnload m _ => m < 16
  | .cabHold m _ => m < 16
  | .cabRun m _ _ => m < 16
  | .cabDrain m _ => m < 16
  | .cabPower m _ _ => m < 16
  | .cabRelocate m _ _ => m < 16
  | .cabPlan m _ _ => m < 16
  | .cabCapture m _ _ _ _ => m < 16
  | .cabReadback m _ _ _ _ => m < 16
  | .cabStatus m _ => m < 16
  | .tickGet m => m < 16
  | .tickSetLen m _ => m < 16
  | .tickSetSource m _ _ => m < 16
  | .tickAlign m => m < 16
  | .tickOutput m _ => m < 16
  | .netRingStatus m _ => m < 16
  | .netRouter m _ _ => m < 16
  | .netLoad m _ => m < 16
  | .netBookings m _ => m < 16
  | .netCounters m _ => m < 16
  | .netTimers m _ _ _ => m < 16
  | .portJesdCfg m _ _ _ _ _ _ => m < 16
  | .portJesdEnable m _ _ _ => m < 16
  | .portJesdSysref m _ => m < 16
  | .portJesdStatus m _ => m < 16
  | .portEthCfg m _ _ => m < 16
  | .portEthStatus m _ => m < 16
  | .portTod m _ _ => m < 16
  | .portTxts m _ _ => m < 16
  | .portSynce m _ _ => m < 16
  | .portSpanCfg m _ _ => m < 16
  | .portSpanStatus m _ => m < 16
  | .portSpanRoute m _ _ => m < 16
  | .portSpanSys m _ _ _ => m < 16
  | .flowLex m _ _ _ => m < 16
  | .flowLexPort m _ _ => m < 16
  | .flowSet m _ _ => m < 16
  | .flowGet m _ => m < 16
  | .flowLink m _ _ => m < 16
  | .flowQmCfg m _ _ _ => m < 16
  | .memStatus m => m < 16
  | .memFail m _ => m < 16
  | .memRetrain m => m < 16
  | .memRebuild m => m < 16
  | .memSpareGet m _ _ => m < 16
  | .memSpareSet m _ _ => m < 16
  | .memDmaStatus m _ => m < 16
  | .schThreadSet m _ _ => m < 16
  | .schThreadGet m _ => m < 16
  | .schThreadDel m _ => m < 16
  | .schAdmitTest m _ => m < 16
  | .schPost m _ => m < 16
  | .schStatus m => m < 16
  | .fltRecords m _ => m < 16
  | .fltAck m _ => m < 16
  | .fltInject m _ _ _ => m < 16
  | .fltRecover m _ _ => m < 16
  | .fltConfig m _ _ => m < 16
  | .testCalendarGet m => m < 16
  | .testCalendarSet m _ _ _ _ => m < 16
  | .testResults m _ _ => m < 16
  | .testRun m _ _ _ => m < 16
  | .logRead m _ _ => m < 16
  | .logInfo m => m < 16
  | .burIdentify m => m < 16
  | .burTotals m _ _ => m < 16
  | .burStatement m _ => m < 16
  | .burAudit m _ _ => m < 16
  | .burStatus m => m < 16
  | .fwStatus m => m < 16
  | .fwBegin m => m < 16
  | .fwData m _ _ _ => m < 16
  | .fwWrite m _ _ _ _ _ _ => m < 16
  | .fwCopy m _ => m < 16
  | .fwVerify m _ _ => m < 16
  | .fwActivate m _ _ => m < 16
  | .fwCommit m _ => m < 16
  | .fwRollback m => m < 16
  | .fwTrialExpiry => true
  | .fwPushBegin m _ => m < 16
  | .fwPushData m _ _ => m < 16
  | .fwPushEnd m => m < 16
  | .bureauTapEvent tap => tap < 3
  | .bureauMirrorRecord => true
  | .statementIssue _ => true
  | .statementStored => true
  | .sealChange _ => true
  | .tamperEdge => true
  | .warrantParam _ => true
  | .warrantTratyBegin _ => true
  | .warrantTratyData _ => true
  | .warrantClearTamper _ => true
  | .warrantArchive _ => true
  | .warrantStatementNow _ => true
  | .vddBurRestore => true
  | .bureauFault kind => kind < 3
  | .faultEvent => true
  | .fltSrcAckWrite _ _ => true
  | .quietPeriodEnd => true
  | .fltInjArm _ _ _ _ _ => true
  | .fltInjStop _ => true
  | .fltRaiseGo k _ _ => k < 4
  | .fltFirstClear => true
  | .fltCiWrite _ => true
  | .fltUnitSubWrite _ _ _ => true
  | .scrubWalkStart => true
  | .scrubWordRead _ => true
  | .scrubQueueRepair _ => true
  | .scrubHeartbeat => true
  | .scrubTakeover => true
  | .voteDisagreement kind p => kind < 3 && p < 100
  | .scrCfgWrite _ => true
  | .bstCfgWrite _ => true
  | .gapStepStart p => p < 100
  | .shadowCopyDone p => p < 100
  | .shadowMismatch p => p < 100
  | .bistSliceStart => true
  | .bistSliceEnd u _ _ _ _ => bistUnits.contains u
  | .bistSliceAbort u => bistUnits.contains u
  | .testUnlock => true
  | .testUnlockSignature _ _ => true
  | .pciWinWrite _ _ => true
  | .pcieWindowAccess _ _ _ => true
  | .avsRequest _ => true
  | .avsAlert => true
  | .avsNoAnswer => true
  | .vcoreUndervoltage _ => true
  | .thermalThreshold => true
  | .sensorPoll _ _ _ => true
  | .ethLinkUp n => n < 8
  | .pllLock => true
  | .gddr7Training _ => true
  | .leavingDone st => st < 100
  | .telemetryMsg st _ dstop _ _ => hasAgent st && hasAgent dstop
  | .refresh => true
  | .coefficientUpdate lane => lane < 146
  | .boundaryScan _ => true

end Sys2Proof
end

