-- ==== Sys2Proof/Certificates/Slice0/Obligations.lean ====
section
/-!
DEFINITION. The statements for the provers.
-/

section
open Sys2Proof Sys2Proof.Machine

/-- A step with a command in front of the queue runs that command with the queue's rest. -/
def Obligations.StepRunsFrontCommand : Prop :=
  ∀ (c : Instr) (r : List Instr) (s : State), step { s with pending := c :: r } = exec c { s with pending := r }

/-- The queue empty, a step lets one ACLK cycle pass outside the guard, and the span transmitters send what time allows
(R252): of the state only time, the transmitters and the count of free values change, and where no transmitter holds a
frame time alone. The model's choice (notes/assumptions/2). -/
def Obligations.EmptyQueueIdles : Prop :=
  ∀ s : State, s.pending = [] → ∃ t : State, step s = .next t ∧ t = { s with time := t.time, spn := t.spn, free := t.free } ∧
    t.time.now = (if s.time.running = false ∨ s.time.now + 1 < guardAt s then s.time.now + 1 else s.time.now) ∧
    t.time.tick = s.time.tick ∧ t.time.tickStart = s.time.tickStart ∧
    ((∀ e ∈ s.spn.txq, e.2 = []) → t.spn = s.spn ∧ t.free = s.free)

/-- An event at a place that the device does not have faults by name. Every well-formed command runs in every state: no
state stops one. -/
def Obligations.WellFormednessDecides : Prop :=
  (∀ (c : Instr) (s : State), wellFormed c = false → exec c s = .fault .noSuchUnit) ∧
  (∀ (c : Instr) (s : State), wellFormed c = true → ∃ t : State, exec c s = .next t)

/-- No command touches the queue of the commands that wait: after a step with a next state the queue is what it was
without its front. -/
def Obligations.StepTakesOneCommand : Prop :=
  ∀ s t : State, step s = .next t → t.pending = s.pending.tail

/-- Fuses move one way (R293, R367, R370): whatever command a step runs, a blown revoke fuse stays blown, the minima of
SVN_RAISE and COMMIT do not fall, and what else OTP holds stays. -/
def Obligations.FusesMoveOneWay : Prop :=
  ∀ s t : State, step s = .next t → FuseStep s.otp t.otp

/-- The last unrevoked key slot is never revoked (R293): a key slot is left after every step that began with one. -/
def Obligations.KeySlotIsAlwaysLeft : Prop :=
  ∀ s t : State, keyLeft s.otp = true → step s = .next t → keyLeft t.otp = true

/-- What reset leaves, by the register tables: no tick counted, the tick 1,500 ACLK cycles of the internal divider,
every cabinet EMPTY with its gap at column 16, the fixed home map, control pair 0 running and pair 4 the spare, no fault
state, and a key slot left. -/
def Obligations.ResetState : Prop :=
  State.reset.pending = [] ∧ State.reset.time.tick = 0 ∧ fget State.reset SYS_TICK_CFG_TICK_LEN 0 = 1500 ∧
  fget State.reset SYS_TICK_CFG_SRC 0 = 0 ∧ fget State.reset SYS_TICK_CFG_TOL 0 = 4 ∧ keyLeft State.reset.otp = true ∧
  (∀ p : Nat, cabState State.reset p = stEMPTY ∧ gapPos State.reset p = 16 ∧ planAdm State.reset p 0 = false ∧
    planAdm State.reset p 1 = false) ∧
  (∀ l : Nat, physOf State.reset l = homeCab l) ∧
  (∀ k : Nat, k < 4 → fget State.reset SYS_PAIR_MAP_PHYS k = k) ∧
  fget State.reset SYS_PAIR_STAT_RUN 0 = 1 ∧ fget State.reset SYS_PAIR_STAT_STATE 4 = 1 ∧
  fget State.reset FLT_STATE_STATE 0 = 0 ∧ State.reset.flt = {} ∧ State.reset.fifo = []

/-- The SEC-DED code of R467: a word reads back clean, with one of its 72 bits inverted it reads corrected to the word
written, and with two inverted it is found uncorrectable. -/
def Obligations.SecDedCorrectsOneFindsTwo : Prop :=
  ∀ w : Word, eccJudge (eccEnc w) = .clean w ∧
    (∀ i : Nat, i < 72 → eccJudge (eccEnc w ^^^ (1#72 <<< i)) = .fixed w) ∧
    (∀ i j : Nat, i < j → j < 72 → eccJudge (eccEnc w ^^^ (1#72 <<< i) ^^^ (1#72 <<< j)) = .bad)

/-- OFS_SHIFT is the smallest k from 0 to 5 for which 2·TICK_LEN ≤ 65,536·2^k, and the offset of a time-stamp is the
ACLK cycle number within the tick shifted right by it (R16). -/
def Obligations.TimeStampOffset : Prop :=
  (∀ len : Nat, 300 ≤ len → len ≤ 750000 → ofsShift len ≤ 5 ∧ 2 * len ≤ 65536 * 2 ^ ofsShift len ∧
    ∀ k : Nat, k < ofsShift len → ¬2 * len ≤ 65536 * 2 ^ k) ∧
  (∀ s : State, 300 ≤ tickLen s → tickLen s ≤ 750000 → s.time.tickStart ≤ s.time.now →
    s.time.now < s.time.tickStart + 2 * tickLen s →
    stampOfs s = (s.time.now - s.time.tickStart) / 2 ^ ofsShift (tickLen s)) ∧
  (∀ (s : State) (e : FaultEvt), ∃ x : FaultEvt, (raise s e).flt.raised = s.flt.raised ++ [x] ∧ x.ofs = stampOfs s ∧
    x.tick = s.time.tick ∧ x.src = e.src ∧ x.cls = e.cls)

/-- TICK_LEN_WRITE (R13, R21), TICK_SOURCE_WRITE and REALIGNMENT_TICK (R20). A length from 300 to 750,000 that no
running cabinet and no enabled radio link forbids waits for the next edge and nothing else changes; any other sets
LEN_REFUSED alone. A change of SRC asks for a realignment: ALIGN_PENDING is set; the same SRC asks for nothing. A
realignment inserts its hold cycles once every plan has run its last slot and before the guard, as many as the selected
pin's edge comes later. TICK_OUT is high in a tick's first 24 cycles while TICK_OUT_EN is 1 (R25). TICK_SOURCE_EDGE (R18), TICK_EDGE_MISSED (R19) and TICK_COUNT_READ
(R26). An edge of an external source writes the signed error, saturated to eight bits, to PHASE_ERR and within tolerance
clears HOLDOVER; a missed one sets HOLDOVER and counts in MISSED, saturating, and after in-phase operation raises a
C-class event on source 57; a read of the count answers it and latches the offset. PLL_LOSS_OF_LOCK and PLL_RELOCK (R11,
R12), PLL_LOCK (R310). The standby takes over with a C-class event on source 55; with no locked standby the event is of
class F; a PLL that locks again becomes the standby; the first lock starts the tick. -/
def Obligations.TicksAndPlls : Prop :=
  ((∀ (s : State) (v : Nat), 300 ≤ v → v ≤ 750000 →
     (∀ p : Nat, p < 100 → cabState s p ≠ stRUNNING ∧ cabState s p ≠ stDRAINING) →
     ((∀ l : Nat, l < 16 → fget s QMG_LINK_CFG_EN l = 0) ∨ fget s QMG_CFG_BUDGET_DL 0 + 600 ≤ v) →
     exec (.tickLenWrite v) s = .next { s with time := { s.time with lenNext := some v } }) ∧
   (∀ (s : State) (v : Nat), v < 2 ^ 20 →
     (v < 300 ∨ 750000 < v ∨ (∃ p : Nat, p < 100 ∧ (cabState s p = stRUNNING ∨ cabState s p = stDRAINING)) ∨
       ((∃ l : Nat, l < 16 ∧ fget s QMG_LINK_CFG_EN l ≠ 0) ∧ v < fget s QMG_CFG_BUDGET_DL 0 + 600)) →
     exec (.tickLenWrite v) s = .next (fset s SYS_TICK_STAT_LEN_REFUSED 0 1)) ∧
   (∀ (s : State) (v : Nat), v < 3 → v ≠ fget s SYS_TICK_CFG_SRC 0 → fget s SYS_TICK_STAT_ALIGN_PENDING 0 = 0 →
     exec (.tickSourceWrite v) s = .next (fset (fset s SYS_TICK_CFG_SRC 0 v) SYS_TICK_STAT_ALIGN_PENDING 0 1)) ∧
   (∀ (s : State) (v : Nat), v < 3 → v = fget s SYS_TICK_CFG_SRC 0 → exec (.tickSourceWrite v) s = .next s) ∧
   (∀ (s : State) (n a b : Nat), fget s SYS_TICK_STAT_ALIGN_PENDING 0 = 1 → s.time.guarded = false → s.time.now < guardAt s →
     s.time.inserting = false → (∀ p : Nat, p < 100 → (cab s p).slot = none) → fget s SYS_TICK_CFG_SRC 0 < 2 →
     n = (if fget s SYS_TICK_CFG_SRC 0 = 0 then a else b) → n < tickLen s → s.time.lenNow = none →
     Does (.realignmentTick a b) s (fun t => tickSpan t = tickLen s + n ∧ t.time.inserting = true ∧
       t = { s with time := t.time } ∧ t.time.adopt = none)) ∧
   (∀ (s : State) (a b : Nat), (s.time.guarded = true ∨ guardAt s ≤ s.time.now ∨ fget s SYS_TICK_STAT_ALIGN_PENDING 0 = 0 ∨
       s.time.inserting = true) →
     exec (.realignmentTick a b) s = .next s) ∧
   (∀ s : State, s.time.running = true → s.time.tickStart ≤ s.time.now →
     (tickOut s = true ↔ fget s SYS_TICK_CFG_TICK_OUT_EN 0 ≠ 0 ∧ s.time.now < s.time.tickStart + 24))) ∧
  ((∀ (s : State) (err : Int), fget s SYS_TICK_CFG_SRC 0 ≠ 0 →
     Does (.tickSourceEdge err) s (fun t =>
       fget t SYS_TICK_STAT_PHASE_ERR 0 = (((if err < -128 then -128 else if 127 < err then 127 else err) % 256).toNat) ∧
       (err.natAbs ≤ fget s SYS_TICK_CFG_TOL 0 → fget t SYS_TICK_STAT_HOLDOVER 0 = 0) ∧
       (fget s SYS_TICK_CFG_TOL 0 < err.natAbs → OnlyRegs [(SYS_TICK_STAT_PHASE_ERR, 0)] s t))) ∧
   (∀ s : State, fget s SYS_TICK_CFG_SRC 0 ≠ 0 →
     Does .tickEdgeMissed s (fun t => fget t SYS_TICK_STAT_HOLDOVER 0 = 1 ∧
       fget t SYS_TICK_STAT_MISSED 0 = min (fget s SYS_TICK_STAT_MISSED 0 + 1) 65535 ∧
       t.flt.raised.map (fun e => (e.src, e.cls)) =
         s.flt.raised.map (fun e => (e.src, e.cls)) ++ (if s.time.inPhase then [(57, clsC)] else []))) ∧
   (∀ s : State, Does .tickCountRead s (fun t => t.bus.data = BitVec.ofNat 64 s.time.tick ∧
     fget t SYS_TICK_OFS_OFFSET 0 = stampOfs s ∧ OnlyFields [(SYS_TICK_OFS_OFFSET, 0)] s t))) ∧
  ((∀ (s : State) (k : Nat), k < 3 → s.time.pllB.testBit k = true →
     Does (.pllLossOfLock k) s (fun t => t.time.pllB.testBit k = false ∧ t.time.pllA = s.time.pllA ∧
       t.time.tick = s.time.tick ∧ t.regs = s.regs ∧
       t.flt.raised.map (fun e => (e.src, e.cls)) = s.flt.raised.map (fun e => (e.src, e.cls)) ++ [(55, clsC)])) ∧
   (∀ (s : State) (k : Nat), k < 3 → s.time.pllB.testBit k = false →
     Does (.pllLossOfLock k) s (fun t => t.time.pllA.testBit k = false ∧ t.time.tick = s.time.tick ∧ t.regs = s.regs ∧
       t.flt.raised.map (fun e => (e.src, e.cls)) = s.flt.raised.map (fun e => (e.src, e.cls)) ++ [(55, clsF)])) ∧
   (∀ (s : State) (k : Nat), k < 3 → s.time.pllA.testBit k = true →
     Does (.pllRelock k) s (fun t => t = { s with time := { s.time with pllB := t.time.pllB } } ∧ t.time.pllB.testBit k = true)) ∧
   (∀ s : State, s.boot.fw = true → s.time.running = false →
     Does .pllLock s (fun t => t = { s with time := t.time } ∧ t.time.running = true ∧ t.time.tick = 0 ∧
       t.time.tickStart = s.time.now ∧ t.time.now = s.time.now)))

/-- POWER_ON_RESET (R15, R106, R311), POWER_GOOD_LOSS (R456) and WARM_RESET by its pin (R311). Power-on reset zeroes the
tick count, leaves every cabinet EMPTY with no plan admitted and the gap at 16, and holds the device; warm reset leaves
the tick, the PLLs, the gap, SYS_LOAD_FAILS, the Bureau, flash and OTP as they are and every cabinet EMPTY. -/
def Obligations.Resets : Prop :=
  (∀ (s : State) (vsel : Nat), vsel < 256 → Does (.powerOnReset vsel) s (fun t =>
    t.time.tick = 0 ∧ t.time.running = false ∧ t.boot.held = true ∧ t.flash = s.flash ∧ t.otp = s.otp ∧
    t.bur = s.bur ∧ t.pending = s.pending ∧ fget t SYS_TICK_CFG_TICK_LEN 0 = 1500 ∧
    (∀ b : Nat, b < 4 → fget t PIN_BANK_STAT_VSEL b = vsel / 4 ^ b % 4) ∧
    (∀ p : Nat, p < 100 → cabState t p = stEMPTY ∧ gapPos t p = 16 ∧ planAdm t p 0 = false ∧ planAdm t p 1 = false))) ∧
  (∀ s : State, Does .powerGoodLoss s (fun t =>
    t.time.tick = 0 ∧ t.boot.held = true ∧ t.flash = s.flash ∧ t.otp = s.otp ∧ t.bur = s.bur ∧
    (∀ p : Nat, p < 100 → cabState t p = stEMPTY))) ∧
  (∀ s : State, s.boot.held = false → Does (.warmReset true) s (fun t =>
    t.boot.held = true ∧ t.time.tick = s.time.tick ∧ t.time.now = s.time.now ∧ t.time.running = s.time.running ∧
    t.time.pllA = s.time.pllA ∧ t.time.pllB = s.time.pllB ∧ t.bur = s.bur ∧ t.flash = s.flash ∧ t.otp = s.otp ∧
    fget t SYS_LOAD_FAILS_COUNT 0 = fget s SYS_LOAD_FAILS_COUNT 0 ∧
    (∀ p : Nat, p < 100 → cabState t p = stEMPTY ∧ gapPos t p = gapPos s p ∧ planAdm t p 0 = false ∧ planAdm t p 1 = false)))

/-- RESET_RELEASE (R310, R312, R313): the straps are latched, PREPULL goes into the PULL field of every pin, a reserved
BOOTSEL sets BADSTRAP, and the phase is ROM, WAIT_PUSH or TEST_HOLD as BOOTSEL says. BOOT_ATTEMPT of an empty slot,
BOOT_FAIL_WRITE and BOOT_WATCHDOG_EXPIRY (R316, R317, R318): the failure is counted, its cause recorded, and the next
slot's attempt is due, or, after the last slot, a wait of 10 ms or of twice the last one up to 10 s; the watchdog expires
no earlier than 5 s after Kaluno's first instruction. BOOT_ATTEMPT of a good image starts Kaluno in BRINGUP. After
BOOT_DONE_WRITE the phase is RUN (R310, R316). BACKOFF_WAIT_END begins a new round once the wait is over (R317).
LOAD_FAILS_SUB_WRITE takes the amount off the count, down to zero (R329). STARTUP_STEP (R319, R320): a LOCK step that
nothing holds back is done, and one without lock waits. -/
def Obligations.BootPhases : Prop :=
  (∀ (s : State) (sel : Nat) (pull : Bool), s.boot.held = true → sel < 8 →
     Does (.resetRelease sel pull) s (fun t =>
       t.boot.held = false ∧ fget t SYS_BOOT_STAT_BOOTSEL 0 = sel ∧
       fget t SYS_BOOT_STAT_PREPULL 0 = (if pull then 1 else 0) ∧
       fget t SYS_BOOT_STAT_BADSTRAP 0 = (if 5 ≤ sel then 1 else 0) ∧
       fget t SYS_BOOT_STAT_PHASE 0 = (if sel ≤ 1 then 0 else if sel = 4 then 6 else 5) ∧ t.boot.rom = !s.boot.noPair ∧
       t.boot.left = (if sel = 0 then [0, 1, 2, 3] else if sel = 1 then [2, 3] else []) ∧
       t.time = s.time ∧ t.flash = s.flash ∧ t.otp = s.otp ∧
       ∀ n : Nat, n < 96 → fget t PIN_CFG_PINCFG n / 2 ^ 16 % 4 = (if pull then 2 else 0) ∧ fget t PIN_CFG_PINCFG n / 2 ^ 22 = 1)) ∧
  ((∀ (s : State) (n : Nat) (r : List Nat), s.boot.rom = true → fget s SYS_BOOT_STAT_PHASE 0 = 0 → s.boot.left = n :: r →
     slotKofs s n = none → fget s SYS_BOOT_STAT_BOOTSEL 0 ≤ 1 → fget s SYS_BOOT_STAT_WAIT_MS 0 ≤ 10000 →
     Does .bootAttempt s (fun t =>
       fget t SYS_LOAD_FAILS_COUNT 0 = min (fget s SYS_LOAD_FAILS_COUNT 0 + 1) 4294967295 ∧
       fget t SYS_BOOT_STAT_CAUSE 0 = 1 ∧ t.boot.rom = true ∧ t.boot.left = r ∧
       fget t SYS_BOOT_STAT_PHASE 0 = (if r = [] then 4 else 0) ∧
       fget t SYS_BOOT_STAT_WAIT_MS 0 = (if r = [] then
         (if fget s SYS_BOOT_STAT_WAIT_MS 0 = 0 then 10 else min 10000 (2 * fget s SYS_BOOT_STAT_WAIT_MS 0))
         else fget s SYS_BOOT_STAT_WAIT_MS 0))) ∧
   (∀ (s : State) (n a : Nat) (r : List Nat) (b : List Byte), s.boot.rom = true → fget s SYS_BOOT_STAT_PHASE 0 = 0 →
     s.boot.left = n :: r → slotKofs s n = some a → imageAt s a = some b → imageOk s b = true →
     Does .bootAttempt s (fun t => t.boot.fw = true ∧ t.boot.rom = false ∧ t.boot.image = b ∧
       fget t SYS_BOOT_STAT_PHASE 0 = 1 ∧ fget t SYS_LOAD_FAILS_COUNT 0 = fget s SYS_LOAD_FAILS_COUNT 0)) ∧
   (∀ (s : State) (v : Nat), v < 2 ^ 32 → s.boot.fw = true → s.boot.done = false →
     Does (.bootFailWrite v) s (fun t => t.boot.fw = false ∧ t.boot.rom = true ∧
       fget t SYS_BOOT_STAT_CAUSE 0 = v / 2 ^ 8 % 32 ∧
       (5 ≤ v / 2 ^ 8 % 32 → v / 2 ^ 8 % 32 ≤ 9 → fget t SYS_BOOT_STAT_LCODE 0 = v / 2 ^ 16 % 256) ∧
       fget t SYS_LOAD_FAILS_COUNT 0 = min (fget s SYS_LOAD_FAILS_COUNT 0 + 1) 4294967295)) ∧
   (∀ s : State, s.boot.fw = true → s.boot.done = false → s.boot.startAt + msCycles 5000 ≤ s.time.now →
     Does .bootWatchdogExpiry s (fun t => t.boot.fw = false ∧ t.boot.rom = true ∧ fget t SYS_BOOT_STAT_CAUSE 0 = 10 ∧
       fget t SYS_LOAD_FAILS_COUNT 0 = min (fget s SYS_LOAD_FAILS_COUNT 0 + 1) 4294967295)) ∧
   (∀ s : State, (s.boot.fw = false ∨ s.boot.done = true ∨ s.time.now < s.boot.startAt + msCycles 5000) →
     exec .bootWatchdogExpiry s = .next s)) ∧
  ((∀ s : State, s.boot.fw = true → s.boot.done = false →
     Does .bootDoneWrite s (fun t => t.boot.done = true ∧ t.boot.fw = true ∧ fget t SYS_BOOT_STAT_PHASE 0 = 3)) ∧
   (∀ s : State, s.boot.rom = true → fget s SYS_BOOT_STAT_PHASE 0 = 4 →
     s.boot.waitAt + msCycles (fget s SYS_BOOT_STAT_WAIT_MS 0) ≤ s.time.now →
     Does .backoffWaitEnd s (fun t => t = { s with regs := t.regs, boot := t.boot } ∧ fget t SYS_BOOT_STAT_PHASE 0 = 0 ∧
       t.boot = { s.boot with left := bootSlots (fget s SYS_BOOT_STAT_BOOTSEL 0) } ∧ OnlyFields [(SYS_BOOT_STAT_PHASE, 0)] s t)) ∧
   (∀ s : State, s.time.now < s.boot.waitAt + msCycles (fget s SYS_BOOT_STAT_WAIT_MS 0) → exec .backoffWaitEnd s = .next s) ∧
   (∀ (s : State) (n : Nat), n < 2 ^ 32 → fget s SYS_LOAD_FAILS_COUNT 0 < 2 ^ 32 →
     Does (.loadFailsSubWrite n) s (fun t => OnlyRegs [(SYS_LOAD_FAILS_COUNT, 0)] s t ∧
       fget t SYS_LOAD_FAILS_COUNT 0 = fget s SYS_LOAD_FAILS_COUNT 0 - min n (fget s SYS_LOAD_FAILS_COUNT 0))) ∧
   (∀ (s : State) (p : Nat), p < 100 → cabState s p = stRUNNING → fget s CAB_STARTUP_ACTIVE p = 1 → cycOfs s = 0 →
     fget s CAB_STARTUP_WAIT p = 0 → fget s CAB_STARTUP_NEXT p = 0 → stepCode s p 0 = stepLOCK → stepLocked s = true →
     fget s CAB_STARTUP_DONE p = 0 →
     Does (.startupStep p) s (fun t => fget t CAB_STARTUP_NEXT p = 1 ∧ stepDone t p stepLOCK = true ∧
       fget t CAB_STARTUP_WAIT p = stepDelay s p 1)) ∧
   (∀ (s : State) (p : Nat), p < 100 → cabState s p = stRUNNING → fget s CAB_STARTUP_ACTIVE p = 1 → cycOfs s = 0 →
     fget s CAB_STARTUP_WAIT p = 0 → stepCode s p (fget s CAB_STARTUP_NEXT p) = stepLOCK → stepLocked s = false →
     exec (.startupStep p) s = .next s))

/-- PIN_CFG_WRITE and PIN_CLAIM_WRITE (R325, R328) and BOUNDARY_SCAN (R321). A cabinet's pin refuses both and REFUSED
sets; PIN_CFG keeps the setting with BIT, ROW and LCOL zero; CLAIM 1 claims the pin and CLAIM 0 gives it back, and
REFUSED written 1 clears; a pin the device does not have takes no write. An instruction of boundary scan drives the pins it
names, and its end none. LOADSTAT (R318, R331): the driven value where its mode says so, else low in reset, in board test
hold and with no pair, 4 Hz during a recovery reload, high once loaded, one blink a second in phase 5, and the cause's
pulses in the wait between rounds. -/
def Obligations.PinsOfTheControlComplex : Prop :=
  (∀ (s : State) (n v : Nat), n < 96 → fget s PIN_CFG_CAB_OWNED n ≠ 0 →
    exec (.pinCfgWrite n v) s = .next (fset s PIN_CLAIM_REFUSED n 1) ∧
    Does (.pinClaimWrite n v) s (fun t => OnlyRegs [(PIN_CLAIM_REFUSED, n)] s t ∧ fget t PIN_CLAIM_REFUSED n = 1)) ∧
  (∀ (s : State) (n v : Nat), n < 96 → fget s PIN_CFG_CAB_OWNED n = 0 →
    Does (.pinCfgWrite n v) s (fun t => t = { s with regs := t.regs, pin := t.pin } ∧ OnlyFields [(PIN_CFG_PINCFG, n)] s t ∧
      fget t PIN_CFG_PINCFG n = v % 2 ^ 24 / 2 ^ 13 * 2 ^ 13)) ∧
  (∀ (s : State) (n v : Nat), n < 96 → fget s PIN_CFG_CAB_OWNED n = 0 →
    Does (.pinClaimWrite n v) s (fun t => t = { s with regs := t.regs, pin := t.pin } ∧
      OnlyFields [(PIN_CLAIM_CLAIM, n), (PIN_CLAIM_REFUSED, n), (PIN_CFG_CAB, n)] s t ∧
      fget t PIN_CLAIM_CLAIM n = v % 2 ∧
      fget t PIN_CLAIM_REFUSED n = (if v.testBit 31 then 0 else fget s PIN_CLAIM_REFUSED n))) ∧
  (∀ (s : State) (n v : Nat), 96 ≤ n → exec (.pinCfgWrite n v) s = .next s ∧ exec (.pinClaimWrite n v) s = .next s) ∧
  (∀ (s : State) (d : List (Nat × Nat)), (∀ e ∈ d, e.1 < 96 ∧ e.2 < 3) →
    exec (.boundaryScan (some d)) s = .next { s with env := { s.env with bscan := some d } }) ∧
  (∀ (s : State) (d : List (Nat × Nat)),
    Does (.boundaryScan (some d)) s (fun t => ∀ l ∈ t.env.bscan, ∀ e ∈ l, e.1 < 96 ∧ e.2 < 3)) ∧
  (∀ s : State, exec (.boundaryScan none) s = .next { s with env := { s.env with bscan := none } }) ∧
  (∀ (s : State) (ms : Nat),
    (fget s PIN_LOADSTAT_MODE 0 ≠ 0 → loadstat s ms = fgetB s PIN_LOADSTAT_VALUE 0) ∧
    (fget s PIN_LOADSTAT_MODE 0 = 0 → (s.boot.held = true ∨ s.boot.noPair = true ∨ fget s SYS_BOOT_STAT_PHASE 0 = 6) → loadstat s ms = false) ∧
    (fget s PIN_LOADSTAT_MODE 0 = 0 → s.boot.held = false → s.boot.noPair = false → fget s SYS_BOOT_STAT_PHASE 0 ≠ 6 →
      (s.cfg.due ≠ [] → (loadstat s ms = true ↔ ms % 250 < 125)) ∧
      (s.cfg.due = [] → s.boot.done = true → loadstat s ms = true) ∧
      (s.cfg.due = [] → s.boot.done = false → fget s SYS_BOOT_STAT_PHASE 0 = 5 → (loadstat s ms = true ↔ ms % 1000 < 100)) ∧
      (s.cfg.due = [] → s.boot.done = false → fget s SYS_BOOT_STAT_PHASE 0 = 4 → (loadstat s ms = true ↔
        ∃ k : Nat, k < fget s SYS_BOOT_STAT_CAUSE 0 ∧ 300 * k ≤ ms % 4000 ∧ ms % 4000 < 300 * k + 100))))

/-- GENERIC_REGISTER_WRITE and RC_FIELD_READ (R5, R8, R448), by any master. A write of a whole register whose writes
follow the access codes alone: an RW or RWS field takes what is written, a written 1 clears a W1C bit and sets a W1S bit
and a 0 leaves it, RO, RC and WO fields stay, and no other register changes. A read of a whole register whose reads do
nothing of their own answers its fields, and its RC fields are then zero. An access that is no aligned word or doubleword
is answered BAD_REQUEST, and one at a block that is not listed NO_TARGET, and neither changes a thing. -/
def Obligations.AccessCodes : Prop :=
  (∀ (s : State) (m a n v r i : Nat), m < 10 → (n = 4 ∨ n = 8) → a % n = 0 → regAt a = some (some ⟨r, i, 0⟩) →
    regBits r = 8 * n → plainWrites r = true →
    Does (.genericRegisterWrite m a n v) s (fun t => t = { s with regs := t.regs, bus := t.bus } ∧ t.bus.status = 0 ∧
      OnlyFields ((fldsOf r).map (fun f => (f, i))) s t ∧
      ∀ f ∈ fldsOf r, ((f.acc = .rw ∨ f.acc = .rws) → fget t f i = v / 2 ^ f.lo % 2 ^ f.width) ∧
        (f.acc = .w1c → ∀ b : Nat, b < f.width → (fget t f i).testBit b = ((fget s f i).testBit b && !v.testBit (f.lo + b))) ∧
        (f.acc = .w1s → ∀ b : Nat, b < f.width → (fget t f i).testBit b = ((fget s f i).testBit b || v.testBit (f.lo + b))) ∧
        ((f.acc = .ro ∨ f.acc = .rc ∨ f.acc = .wo) → fget t f i = fget s f i))) ∧
  (∀ (s : State) (m a n r i : Nat), m < 10 → (n = 4 ∨ n = 8) → a % n = 0 → regAt a = some (some ⟨r, i, 0⟩) →
    regBits r = 8 * n → plainReads r = true →
    Does (.rcFieldRead m a n) s (fun t => t = { s with regs := t.regs, bus := t.bus } ∧ t.bus.status = 0 ∧
      OnlyFields (((fldsOf r).filter (fun f => f.acc = .rc)).map (fun f => (f, i))) s t ∧
      ∀ f ∈ fldsOf r, (f.acc = .rc → fget t f i = 0) ∧
        t.bus.data.toNat / 2 ^ f.lo % 2 ^ f.width = fview s f i % 2 ^ f.width)) ∧
  (∀ (s : State) (m a n v : Nat), m < 10 → regBase ≤ a → a < regBase + 0x30000000 → (n ≠ 4 ∧ n ≠ 8 ∨ a % n ≠ 0) →
    Does (.genericRegisterWrite m a n v) s (fun t => t = { s with bus := t.bus } ∧ t.bus.status = 6) ∧
    Does (.rcFieldRead m a n) s (fun t => t = { s with bus := t.bus } ∧ t.bus.status = 6)) ∧
  (∀ (s : State) (m a n v : Nat), m < 10 → regBase ≤ a → a < regBase + 0x30000000 → (n = 4 ∨ n = 8) → a % n = 0 →
    regAt a = none →
    Does (.genericRegisterWrite m a n v) s (fun t => t = { s with bus := t.bus } ∧ t.bus.status = 5) ∧
    Does (.rcFieldRead m a n) s (fun t => t = { s with bus := t.bus } ∧ t.bus.status = 5)) ∧
  (∀ (s : State) (m : Nat), m < 10 → fget s SYS_TICK_STAT_MISSED 0 < 2 ^ 16 →
    Does (.rcFieldRead m 0x100000118 4) s (fun t => t.bus.status = 0 ∧ OnlyFields [(SYS_TICK_STAT_MISSED, 0)] s t ∧
      fget t SYS_TICK_STAT_MISSED 0 = 0 ∧ t.bus.data.toNat % 2 ^ 16 = fget s SYS_TICK_STAT_MISSED 0))

/-- NOP, MOV, AND, OR, XOR, ANDN, SHL, SHR, SHUF and SEL (R38, R40 to R43) in an issue cycle, and a cycle whose
condition is false or that VGATE holds back (R34, R35), for MOV. -/
def Obligations.CellMovesAndLogic : Prop :=
  (∀ (s : State) (r : CellRef), Issues 0x00 s r → Does (.nop r) s (fun t => CellDid s t r none (cellAt s r))) ∧
  (∀ (s : State) (r : CellRef), Issues 0x01 s r → Does (.mov r) s (fun t => CellDid s t r (some (opA s r)) (cellAt s r))) ∧
  (∀ (s : State) (r : CellRef), InSlot 0x01 s r → insVGATE (insAt s r) = false → condTrue (insAt s r) (cellAt s r) = false →
    Does (.mov r) s (fun t => CellDid s t r none (cellAt s r))) ∧
  (∀ (s : State) (r : CellRef), InSlot 0x01 s r → insVGATE (insAt s r) = true → insSA (insAt s r) = 1 →
    (srcWire s r.p r.pcol ((lcolOf s r.p r.pcol).getD 0) r.row (inSel (cellAt s r).cur 0) (cellAt s r).t).2 = false →
    Does (.mov r) s (fun t => CellYF s t r 0 0 ∧ (cellAt t r).ph = (cellAt s r).ph ∧ (cellAt t r).t = (cellAt s r).t + 1 ∧
      (cellAt t r).acc = (cellAt s r).acc ∧ (cellAt t r).ram = (cellAt s r).ram ∧ (cellAt t r).ag0 = (cellAt s r).ag0 ∧
      (cellAt t r).ag1 = (cellAt s r).ag1 ∧ CellAlone s t r)) ∧
  (∀ (s : State) (r : CellRef), Issues 0x02 s r → Does (.and r) s (fun t => CellDid s t r (some (opA s r &&& opB s r)) (cellAt s r))) ∧
  (∀ (s : State) (r : CellRef), Issues 0x03 s r → Does (.or r) s (fun t => CellDid s t r (some (opA s r ||| opB s r)) (cellAt s r))) ∧
  (∀ (s : State) (r : CellRef), Issues 0x04 s r → Does (.xor r) s (fun t => CellDid s t r (some (opA s r ^^^ opB s r)) (cellAt s r))) ∧
  (∀ (s : State) (r : CellRef), Issues 0x05 s r → Does (.andn r) s (fun t => CellDid s t r (some (opA s r &&& ~~~opB s r)) (cellAt s r))) ∧
  (∀ (s : State) (r : CellRef), Issues 0x06 s r → Does (.shl r) s (fun t => ∃ v : Word, CellDid s t r (some v) (cellAt s r) ∧
    (insFMT (insAt s r) = 4 → v = opA s r <<< insSHIFT (insAt s r)) ∧
    (insFMT (insAt s r) ≠ 4 → LanesAre (insAt s r) v (fun i => laneS (insFMT (insAt s r)) (opA s r) i * 2 ^ insSHIFT (insAt s r))))) ∧
  (∀ (s : State) (r : CellRef), Issues 0x07 s r → Does (.shr r) s (fun t => ∃ v : Word, CellDid s t r (some v) (cellAt s r) ∧
    (insFMT (insAt s r) = 4 → v = opA s r >>> insSHIFT (insAt s r)) ∧
    (insFMT (insAt s r) ≠ 4 → ∀ i : Nat, i < laneN (insFMT (insAt s r)) → laneU (insFMT (insAt s r)) v i =
      wrapN (laneW (insFMT (insAt s r))) (shrR (insRND (insAt s r)) (laneS (insFMT (insAt s r)) (opA s r) i) (insSHIFT (insAt s r)))))) ∧
  (∀ (s : State) (r : CellRef), Issues 0x08 s r → Does (.shuf r) s (fun t => ∃ v : Word, CellDid s t r (some v) (cellAt s r) ∧
    ∀ i : Nat, i < laneN (insFMT (insAt s r)) →
      let n := laneN (insFMT (insAt s r))
      let q := wbits (cellAt s r).cur.w2 (32 + 4 * i) 4
      laneU (insFMT (insAt s r)) v i = if q < n then laneU (insFMT (insAt s r)) (opA s r) q
        else if q < 2 * n then laneU (insFMT (insAt s r)) (opB s r) (q - n) else 0)) ∧
  (∀ (s : State) (r : CellRef), Issues 0x09 s r → Does (.sel r) s (fun t => ∃ v : Word, CellDid s t r (some v) (cellAt s r) ∧
    ∀ i : Nat, i < laneN (insFMT (insAt s r)) → laneU (insFMT (insAt s r)) v i =
      if (cellAt s r).cm.testBit i then laneU (insFMT (insAt s r)) (opA s r) i else laneU (insFMT (insAt s r)) (opB s r) i))

/-- ADD, SUB, NEG, ABS, MAX, MIN, CMPGT and CMPEQ (R38, R41, R43): each lane of the result is the exact value, wrapped
or clamped as OVF says; a compare passes A on and writes a CM bit a lane, clearing those above. -/
def Obligations.CellArithmetic : Prop :=
  (∀ (s : State) (r : CellRef), Issues 0x10 s r → Does (.add r) s (fun t => ∃ v : Word, CellDid s t r (some v) (cellAt s r) ∧
    LanesAre (insAt s r) v (fun i => laneS (insFMT (insAt s r)) (opA s r) i + laneS (insFMT (insAt s r)) (opB s r) i))) ∧
  (∀ (s : State) (r : CellRef), Issues 0x11 s r → Does (.sub r) s (fun t => ∃ v : Word, CellDid s t r (some v) (cellAt s r) ∧
    LanesAre (insAt s r) v (fun i => laneS (insFMT (insAt s r)) (opA s r) i - laneS (insFMT (insAt s r)) (opB s r) i))) ∧
  (∀ (s : State) (r : CellRef), Issues 0x12 s r → Does (.neg r) s (fun t => ∃ v : Word, CellDid s t r (some v) (cellAt s r) ∧
    LanesAre (insAt s r) v (fun i => -laneS (insFMT (insAt s r)) (opA s r) i))) ∧
  (∀ (s : State) (r : CellRef), Issues 0x13 s r → Does (.abs r) s (fun t => ∃ v : Word, CellDid s t r (some v) (cellAt s r) ∧
    LanesAre (insAt s r) v (fun i => ((laneS (insFMT (insAt s r)) (opA s r) i).natAbs : Int)))) ∧
  (∀ (s : State) (r : CellRef), Issues 0x14 s r → Does (.max r) s (fun t => ∃ v : Word, CellDid s t r (some v) (cellAt s r) ∧
    LanesAre (insAt s r) v (fun i => max (laneS (insFMT (insAt s r)) (opA s r) i) (laneS (insFMT (insAt s r)) (opB s r) i)))) ∧
  (∀ (s : State) (r : CellRef), Issues 0x15 s r → Does (.min r) s (fun t => ∃ v : Word, CellDid s t r (some v) (cellAt s r) ∧
    LanesAre (insAt s r) v (fun i => min (laneS (insFMT (insAt s r)) (opA s r) i) (laneS (insFMT (insAt s r)) (opB s r) i)))) ∧
  (∀ (s : State) (r : CellRef), Issues 0x16 s r → Does (.cmpgt r) s (fun t => ∃ m : Nat, CellDid s t r (some (opA s r)) { cellAt s r with cm := m } ∧
    ∀ i : Nat, m.testBit i = (decide (i < laneN (insFMT (insAt s r))) &&
      decide (laneS (insFMT (insAt s r)) (opB s r) i < laneS (insFMT (insAt s r)) (opA s r) i)))) ∧
  (∀ (s : State) (r : CellRef), Issues 0x17 s r → Does (.cmpeq r) s (fun t => ∃ m : Nat, CellDid s t r (some (opA s r)) { cellAt s r with cm := m } ∧
    ∀ i : Nat, m.testBit i = (decide (i < laneN (insFMT (insAt s r))) &&
      decide (laneS (insFMT (insAt s r)) (opA s r) i = laneS (insFMT (insAt s r)) (opB s r) i))))

/-- MUL, MAC4, MSU4, DOT4, MAC32, CMAC and CMACJ in their issue cycle (R39, R45, R55): the product word, or the exact
terms by accumulator, go into flight, and nothing is written yet. MUL_RESULT_LANDING, MAC_ADD_STAGE and XL_EXTRACTION
(R46, R47, R53 to R55, R57), once the cell is past the cycle in which the result is due, and not before. A result in
flight is written to Y and F as its own DST says; an add stage with one term changes its accumulator by the pseudocode of
R47 and no other, and with XL in the last phase starts an extraction. -/
def Obligations.CellMultipliesAndLateResults : Prop :=
  ((∀ (s : State) (r : CellRef), Issues 0x18 s r → Does (.mul r) s (fun t => ∃ v : Word,
     CellDid s t r none { cellAt s r with jobs := [.mul (cellAt s r).t (insDST (insAt s r)) v] } ∧
     (insFMT (insAt s r) = 0 → ∀ i : Nat, i < 4 →
       LaneIs (insAt s r) v i (shrR (insRND (insAt s r)) (laneS 0 (opA s r) i * laneS 0 (opB s r) i) 15)) ∧
     (insFMT (insAt s r) = 1 → laneU 1 v 1 = 0 ∧
       LaneIs (insAt s r) v 0 (shrR (insRND (insAt s r))
         (laneS 1 (opA s r) (if opx (insAt s r) 0 then 1 else 0) * laneS 1 (opB s r) (if opx (insAt s r) 1 then 1 else 0)) 31)) ∧
     (insFMT (insAt s r) = 2 → laneU 2 v 2 = 0 ∧ laneU 2 v 3 = 0 ∧
       let la := if opx (insAt s r) 0 then 2 else 0
       let lb := if opx (insAt s r) 1 then 2 else 0
       let cj : Int := if opx (insAt s r) 2 then -1 else 1
       LaneIs (insAt s r) v 0 (shrR (insRND (insAt s r))
         (laneS 2 (opA s r) la * laneS 2 (opB s r) lb - laneS 2 (opA s r) (la + 1) * (cj * laneS 2 (opB s r) (lb + 1))) 15) ∧
       LaneIs (insAt s r) v 1 (shrR (insRND (insAt s r))
         (laneS 2 (opA s r) la * (cj * laneS 2 (opB s r) (lb + 1)) + laneS 2 (opA s r) (la + 1) * laneS 2 (opB s r) lb) 15)))) ∧
   (∀ (s : State) (r : CellRef), Issues 0x20 s r → Does (.mac4 r) s (fun t => CellDid s t r none { cellAt s r with jobs :=
     [.mac (cellAt s r).t (insAt s r) ((List.range 4).map (fun i => (i, laneS 0 (opA s r) i * laneS 0 (opB s r) i)))
       ((cellAt s r).ph = 0) ((cellAt s r).ph = insPLEN (insAt s r))] })) ∧
   (∀ (s : State) (r : CellRef), Issues 0x21 s r → Does (.msu4 r) s (fun t => CellDid s t r none { cellAt s r with jobs :=
     [.mac (cellAt s r).t (insAt s r) ((List.range 4).map (fun i => (i, -(laneS 0 (opA s r) i * laneS 0 (opB s r) i))))
       ((cellAt s r).ph = 0) ((cellAt s r).ph = insPLEN (insAt s r))] })) ∧
   (∀ (s : State) (r : CellRef), Issues 0x22 s r → Does (.dot4 r) s (fun t => CellDid s t r none { cellAt s r with jobs :=
     [.mac (cellAt s r).t (insAt s r)
       [(insACC (insAt s r), ((List.range 4).map (fun i => laneS 0 (opA s r) i * laneS 0 (opB s r) i)).sum)]
       ((cellAt s r).ph = 0) ((cellAt s r).ph = insPLEN (insAt s r))] })) ∧
   (∀ (s : State) (r : CellRef), Issues 0x23 s r → Does (.mac32 r) s (fun t => CellDid s t r none { cellAt s r with jobs :=
     [.mac (cellAt s r).t (insAt s r)
       [(insACC (insAt s r), laneS 1 (opA s r) (if opx (insAt s r) 0 then 1 else 0) *
         laneS 1 (opB s r) (if opx (insAt s r) 1 then 1 else 0))]
       ((cellAt s r).ph = 0) ((cellAt s r).ph = insPLEN (insAt s r))] })) ∧
   (∀ (s : State) (r : CellRef), Issues 0x24 s r →
     let a := opA s r
     let b := opB s r
     let la := if opx (insAt s r) 0 then 2 else 0
     let lb := if opx (insAt s r) 1 then 2 else 0
     Does (.cmac r) s (fun t => CellDid s t r none { cellAt s r with jobs :=
       [.mac (cellAt s r).t (insAt s r)
         [(insACC (insAt s r), laneS 2 a la * laneS 2 b lb - laneS 2 a (la + 1) * laneS 2 b (lb + 1)),
          (insACC (insAt s r) + 1, laneS 2 a la * laneS 2 b (lb + 1) + laneS 2 a (la + 1) * laneS 2 b lb)]
         ((cellAt s r).ph = 0) ((cellAt s r).ph = insPLEN (insAt s r))] })) ∧
   (∀ (s : State) (r : CellRef), Issues 0x25 s r →
     let a := opA s r
     let b := opB s r
     let la := if opx (insAt s r) 0 then 2 else 0
     let lb := if opx (insAt s r) 1 then 2 else 0
     Does (.cmacj r) s (fun t => CellDid s t r none { cellAt s r with jobs :=
       [.mac (cellAt s r).t (insAt s r)
         [(insACC (insAt s r), laneS 2 a la * laneS 2 b lb + laneS 2 a (la + 1) * laneS 2 b (lb + 1)),
          (insACC (insAt s r) + 1, laneS 2 a (la + 1) * laneS 2 b lb - laneS 2 a la * laneS 2 b (lb + 1))]
         ((cellAt s r).ph = 0) ((cellAt s r).ph = insPLEN (insAt s r))] }))) ∧
  ((∀ (s : State) (r : CellRef) (i dst : Nat) (v : Word) (l : List Job), cellRefOk r = true →
     (cellAt s r).jobs = .mul i dst v :: l → i + 3 < cellClock s (cid r.p r.pcol r.row) → (cellAt s r).y.vc ≤ i + 3 → (cellAt s r).f.vc ≤ i + 3 →
     Does (.mulResultLanding r.p r.pcol r.row) s (fun t => CellAlone s t r ∧ (cellAt t r).jobs = l ∧
       (cellAt t r).acc = (cellAt s r).acc ∧
       (cellAt t r).y.see (i + 4) = (if dst.testBit 0 then (v, true) else ((cellAt s r).y.val, false)) ∧
       (cellAt t r).f.see (i + 4) = (if dst.testBit 1 then (v, true) else ((cellAt s r).f.val, false)))) ∧
   (∀ (s : State) (r : CellRef) (i dst : Nat) (v : Word) (l : List Job), cellRefOk r = true →
     (cellAt s r).jobs = .xl i dst v :: l → i + 4 < cellClock s (cid r.p r.pcol r.row) → (cellAt s r).y.vc ≤ i + 4 → (cellAt s r).f.vc ≤ i + 4 →
     Does (.xlExtraction r.p r.pcol r.row) s (fun t => CellAlone s t r ∧ (cellAt t r).jobs = l ∧
       (cellAt t r).acc = (cellAt s r).acc ∧
       (cellAt t r).y.see (i + 5) = (if dst.testBit 0 then (v, true) else ((cellAt s r).y.val, false)) ∧
       (cellAt t r).f.see (i + 5) = (if dst.testBit 1 then (v, true) else ((cellAt s r).f.val, false)))) ∧
   (∀ (s : State) (r : CellRef) (i n : Nat) (ins : Word) (p : Int) (ph0 phl : Bool) (l : List Job), cellRefOk r = true →
     (cellAt s r).jobs = .mac i ins [(n, p)] ph0 phl :: l → i + 3 < cellClock s (cid r.p r.pcol r.row) → opx ins 2 = false →
     let zp := opx ins 3 && ph0
     let old := cellAcc (cellAt s r) n
     let a : Int := if zp then 0 else old.a.toInt
     let e := if zp then 0 else old.e
     let sh (e : Nat) : Int := if insOP ins = 0x23 then (e : Int) + 24 else (e : Int) - 8
     let x : Int := a + shrR (insRND ins) p (sh e)
     Does (.macAddStage r.p r.pcol r.row) s (fun t => (cellAt t r).jobs = l ∧ (cellAt t r).y = (cellAt s r).y ∧
       (cellAt t r).f = (cellAt s r).f ∧ (∀ m : Nat, m ≠ n → cellAcc (cellAt t r) m = cellAcc (cellAt s r) m) ∧
       cellAcc (cellAt t r) n =
         (if -(2 ^ 47) ≤ x ∧ x < 2 ^ 47 then ⟨BitVec.ofInt 48 x, e, old.resc, old.sat⟩
          else if insOVF ins = 0 then ⟨BitVec.ofInt 48 x, e, old.resc, old.sat⟩
          else if insOVF ins = 1 ∨ 28 < e then
            ⟨BitVec.ofInt 48 (if x < 0 then -(2 ^ 47) else 2 ^ 47 - 1), e, old.resc, true⟩
          else ⟨BitVec.ofInt 48 (shrR 2 a 4 + shrR (insRND ins) p (sh (e + 4))), e + 4, true, old.sat⟩))) ∧
   (∀ (s : State) (r : CellRef) (i n : Nat) (ins : Word) (p : Int) (ph0 : Bool) (l : List Job), cellRefOk r = true →
     (cellAt s r).jobs = .mac i ins [(n, p)] ph0 true :: l → i + 3 < cellClock s (cid r.p r.pcol r.row) → opx ins 2 = true →
     Does (.macAddStage r.p r.pcol r.row) s (fun t =>
       (cellAt t r).jobs = l ++ [.xl i (insDST ins) (extractWord (cellAt t r) ins)])) ∧
   (∀ (s : State) (r : CellRef), cellRefOk r = true → (∀ j ∈ (cellAt s r).jobs, cellClock s (cid r.p r.pcol r.row) ≤ j.due) →
     Does (.mulResultLanding r.p r.pcol r.row) s (fun t => ∀ k : Nat, cell t k = cell s k) ∧
     Does (.macAddStage r.p r.pcol r.row) s (fun t => ∀ k : Nat, cell t k = cell s k) ∧
     Does (.xlExtraction r.p r.pcol r.row) s (fun t => ∀ k : Nat, cell t k = cell s k)))

/-- CLRA, CLRF, EXTRACT, NORM and EXP (R38, R50, R53, R59, R60). -/
def Obligations.CellAccumulators : Prop :=
  (∀ (s : State) (r : CellRef), Issues 0x26 s r → Does (.clra r) s (fun t => ∃ x : SMap AccReg, CellDid s t r none { cellAt s r with acc := x } ∧
    ∀ n : Nat, n < 4 → cellAcc (cellAt t r) n =
      if (insOPX (insAt s r)).testBit n then { cellAcc (cellAt s r) n with a := 0, e := 0 } else cellAcc (cellAt s r) n)) ∧
  (∀ (s : State) (r : CellRef), Issues 0x27 s r → Does (.clrf r) s (fun t => ∃ x : SMap AccReg, CellDid s t r none { cellAt s r with acc := x } ∧
    ∀ n : Nat, n < 4 → cellAcc (cellAt t r) n =
      if (insOPX (insAt s r)).testBit n then { cellAcc (cellAt s r) n with resc := false, sat := false } else cellAcc (cellAt s r) n)) ∧
  (∀ (s : State) (r : CellRef), Issues 0x28 s r → Does (.extract r) s (fun t => ∃ (v : Word) (x : SMap AccReg), CellDid s t r (some v) { cellAt s r with acc := x } ∧
    let d : Int := if insSHIFT (insAt s r) < 32 then insSHIFT (insAt s r) else (insSHIFT (insAt s r) : Int) - 64
    let T (n : Nat) : Int := (cellAcc (cellAt s r) n).a.toInt * 2 ^ (cellAcc (cellAt s r) n).e
    (insFMT (insAt s r) ≠ 1 → ∀ i : Nat, i < 4 → LaneIs (insAt s r) v i (shrR (insRND (insAt s r)) (T i) (23 + d))) ∧
    (insFMT (insAt s r) = 1 → LaneIs (insAt s r) v 0 (shrR (insRND (insAt s r)) (T (insACC (insAt s r))) (7 + d)) ∧
      LaneIs (insAt s r) v 1 (shrR (insRND (insAt s r)) (T (insACC (insAt s r) ^^^ 1)) (7 + d))) ∧
    (opx (insAt s r) 3 = false → x = (cellAt s r).acc) ∧
    (opx (insAt s r) 3 = true → ∀ n : Nat, n < 4 → cellAcc (cellAt t r) n =
      if insFMT (insAt s r) ≠ 1 ∨ n = insACC (insAt s r) ∨ n = insACC (insAt s r) ^^^ 1 then
        { cellAcc (cellAt s r) n with a := 0, e := 0 } else cellAcc (cellAt s r) n))) ∧
  (∀ (s : State) (r : CellRef), Issues 0x30 s r → Does (.norm r) s (fun t => ∃ v : Word, CellDid s t r (some v) (cellAt s r) ∧
    let x := laneU 1 (opA s r) (if opx (insAt s r) 0 then 1 else 0)
    laneU 1 v 1 = headroom 32 x ∧ laneU 1 v 0 = x * 2 ^ headroom 32 x % 2 ^ 32 ∧
    sgn 32 (laneU 1 v 0) = sgn 32 x * 2 ^ headroom 32 x)) ∧
  (∀ (s : State) (r : CellRef), Issues 0x31 s r → Does (.exp r) s (fun t => ∃ v : Word, CellDid s t r (some v) (cellAt s r) ∧
    (opx (insAt s r) 3 = false → ∀ i : Nat, i < laneN (insFMT (insAt s r)) → laneU (insFMT (insAt s r)) v i =
      headroom (laneW (insFMT (insAt s r))) (laneU (insFMT (insAt s r)) (opA s r) i)) ∧
    (opx (insAt s r) 3 = true →
      let q := cellAcc (cellAt s r) (insOPX (insAt s r) % 4)
      q.e < 64 → wbits v 0 32 = headroom 48 q.a.toNat ∧ wbits v 32 6 = q.e ∧ v.getLsbD 40 = q.resc ∧ v.getLsbD 41 = q.sat)))

/-- BEXP, BNORM, MIN2, MSEL, CROT and LUT (R61 to R64, R72). -/
def Obligations.CellSpecialOperations : Prop :=
  (∀ (s : State) (r : CellRef), Issues 0x32 s r → Does (.bexp r) s (fun t => ∃ b : Nat, CellDid s t r (some (opA s r)) { cellAt s r with bx := b } ∧
    (∀ i : Nat, i < laneN (insFMT (insAt s r)) →
      laneW (insFMT (insAt s r)) - 1 - headroom (laneW (insFMT (insAt s r))) (laneU (insFMT (insAt s r)) (opA s r) i) ≤ b) ∧
    ((cellAt s r).ph ≠ 0 → (cellAt s r).bx ≤ b) ∧
    ((∃ i : Nat, i < laneN (insFMT (insAt s r)) ∧
      b = laneW (insFMT (insAt s r)) - 1 - headroom (laneW (insFMT (insAt s r))) (laneU (insFMT (insAt s r)) (opA s r) i)) ∨
      ((cellAt s r).ph ≠ 0 ∧ b = (cellAt s r).bx)))) ∧
  (∀ (s : State) (r : CellRef), Issues 0x33 s r → Does (.bnorm r) s (fun t => ∃ v : Word, CellDid s t r (some v) (cellAt s r) ∧
    let z : Int := (laneW (insFMT (insAt s r)) : Int) - 1 - wbits (opB s r) 0 6
    LanesAre (insAt s r) v (fun i => if 0 ≤ z then laneS (insFMT (insAt s r)) (opA s r) i * 2 ^ z.toNat
      else shrR (insRND (insAt s r)) (laneS (insFMT (insAt s r)) (opA s r) i) (-z)))) ∧
  (∀ (s : State) (r : CellRef), Issues 0x34 s r → Does (.min2 r) s (fun t => ∃ (v : Word) (n1 n2 j : Nat) (sn : Bool), CellDid s t r (some v) (cellAt s r) ∧
    j < 8 ∧ n1 = min 127 (laneS 3 (opA s r) j).natAbs ∧
    (∀ i : Nat, i < j → n1 < min 127 (laneS 3 (opA s r) i).natAbs) ∧
    (∀ i : Nat, i < 8 → n1 ≤ min 127 (laneS 3 (opA s r) i).natAbs) ∧
    (∀ i : Nat, i < 8 → i ≠ j → n2 ≤ min 127 (laneS 3 (opA s r) i).natAbs) ∧
    (∃ i : Nat, i < 8 ∧ i ≠ j ∧ n2 = min 127 (laneS 3 (opA s r) i).natAbs) ∧
    sn = decide (((List.range 8).filter (fun i => laneS 3 (opA s r) i < 0)).length % 2 = 1) ∧
    wbits v 25 39 = 0 ∧
    ((opx (insAt s r) 0 = false ∨ (cellAt s r).ph = 0) →
      wbits v 0 8 = n1 ∧ wbits v 8 8 = n2 ∧ wbits v 16 8 = (8 * (cellAt s r).ph + j) % 256 ∧ v.getLsbD 24 = sn) ∧
    (opx (insAt s r) 0 = true → (cellAt s r).ph ≠ 0 →
      let m1 := wbits (opC s r) 0 8
      wbits v 0 8 = min n1 m1 ∧ wbits v 8 8 = (if n1 < m1 then min m1 n2 else min (wbits (opC s r) 8 8) n1) ∧
      wbits v 16 8 = (if n1 < m1 then (8 * (cellAt s r).ph + j) % 256 else wbits (opC s r) 16 8) ∧
      v.getLsbD 24 = ((opC s r).getLsbD 24 != sn)))) ∧
  (∀ (s : State) (r : CellRef), Issues 0x35 s r → Does (.msel r) s (fun t => ∃ v : Word, CellDid s t r (some v) (cellAt s r) ∧
    ∀ j : Nat, j < 8 →
      let m := if (8 * (cellAt s r).ph + j) % 256 = wbits (opB s r) 16 8 then wbits (opB s r) 8 8 else wbits (opB s r) 0 8
      let x : Int := shrR (insRND (insAt s r)) ((m * wbits (opC s r) 8 8 : Nat) : Int) 4 - (wbits (opC s r) 0 8 : Nat)
      let y : Int := max 0 (min 127 x)
      laneS 3 v j = if (opB s r).getLsbD 24 = decide (laneS 3 (opA s r) j < 0) then y else -y)) ∧
  (∀ (s : State) (r : CellRef), Issues 0x36 s r → Does (.crot r) s (fun t => ∃ v : Word,
    CellDid s t r (some v) { cellAt s r with ci := min 15 ((if (cellAt s r).ph = 0 then 0 else (cellAt s r).ci) + 1) } ∧
    let i : Nat := if (cellAt s r).ph = 0 then 0 else (cellAt s r).ci
    let x := laneS 2 (opA s r) 0
    let y := laneS 2 (opA s r) 1
    let z := laneS 2 (opA s r) 2
    let d : Int := if opx (insAt s r) 0 then (if y < 0 then 1 else -1) else (if z < 0 then -1 else 1)
    LaneIs (insAt s r) v 0 (x - d * shrR (insRND (insAt s r)) y i) ∧
    LaneIs (insAt s r) v 1 (y + d * shrR (insRND (insAt s r)) x i) ∧
    LaneIs (insAt s r) v 2 (z - d * cordicT i) ∧ laneU 2 v 3 = laneU 2 (opA s r) 3)) ∧
  (∀ (s : State) (r : CellRef) (w : BitVec 64), Issues 0x37 s r → r.ramErr = 0 →
    fget s FLT_INJ_ACTIVE (cabSrc r.p) = 0 →
    ramCode (cellAt s r) ((agBASE (ag0Cfg (cellAt s r)) + laneU (insFMT (insAt s r)) (opA s r) (insOPX (insAt s r) % 4) /
      2 ^ insSHIFT (insAt s r) % agLEN (ag0Cfg (cellAt s r))) % 512) = eccEnc w →
    Does (.lut r) s (fun t => CellDid s t r (some w) (cellAt s r)))

/-- SCALE_SUB_WRITE (R52), RAM_CE_SUB_WRITE (R80) and FLT_UNIT_SUB_WRITE (R417): min(amount, count) is subtracted from a
count and nothing else changes. RAM_LAST_CLEAR (R80), CFG_FAULT_CLEAR (R115), FLT_FIRST_CLEAR, FLT_INJ_STOP, DMA_RESUME
and MBX_RSP_ACK (R355): the named flags or records clear and nothing else changes. SRAM_SECRET_WRITE (R339),
DMA_PI_WRITE, PAIR_RUN_WRITE (R330) and PCI_WIN_WRITE: a secret tag is set and never cleared by a write; the others take
what is written. -/
def Obligations.RegisterWrites : Prop :=
  ((∀ (s : State) (p n : Nat), p < 100 → Does (.scaleSubWrite p n) s (fun t => OnlyRegs [(CAB_SCALE_EVENTS_COUNT, p)] s t ∧
     fget t CAB_SCALE_EVENTS_COUNT p =
       (fget s CAB_SCALE_EVENTS_COUNT p - min (n % 2 ^ 32) (fget s CAB_SCALE_EVENTS_COUNT p)) % 2 ^ 32)) ∧
   (∀ (s : State) (p n : Nat), p < 100 → Does (.ramCeSubWrite p n) s (fun t => OnlyRegs [(CAB_RAM_CE_COUNT, p)] s t ∧
     fget t CAB_RAM_CE_COUNT p = (fget s CAB_RAM_CE_COUNT p - min (n % 2 ^ 32) (fget s CAB_RAM_CE_COUNT p)) % 2 ^ 32)) ∧
   (∀ (s : State) (k id n : Nat), unitOk k id = true →
     Does (.fltUnitSubWrite k id n) s (fun t => OnlyRegs [(FLT_UNIT_RCNT, k * 16384 + id)] s t ∧
       fget t FLT_UNIT_RCNT (k * 16384 + id) =
         (fget s FLT_UNIT_RCNT (k * 16384 + id) - min (n % 2 ^ 16) (fget s FLT_UNIT_RCNT (k * 16384 + id))) % 2 ^ 16))) ∧
  ((∀ (s : State) (p : Nat), p < 100 → Does (.ramLastClear p) s (fun t =>
     OnlyRegs [(CAB_RAM_LAST_VALID, p), (CAB_RAM_LAST_UE, p), (CAB_RAM_LAST_SYNDROME, p), (CAB_RAM_LAST_PCOL, p),
       (CAB_RAM_LAST_ROW, p), (CAB_RAM_LAST_ADDR, p)] s t ∧
     fget t CAB_RAM_LAST_VALID p = 0 ∧ fget t CAB_RAM_LAST_UE p = 0 ∧ fget t CAB_RAM_LAST_SYNDROME p = 0 ∧
     fget t CAB_RAM_LAST_PCOL p = 0 ∧ fget t CAB_RAM_LAST_ROW p = 0 ∧ fget t CAB_RAM_LAST_ADDR p = 0)) ∧
   (∀ (s : State) (p : Nat), p < 100 → Does (.cfgFaultClear p) s (fun t => OnlyRegs [(CAB_CFG_FAULT_VALID, p)] s t ∧
     fget t CAB_CFG_FAULT_VALID p = 0)) ∧
   (∀ s : State, Does .fltFirstClear s (fun t => t = { s with flt := { s.flt with first := [], firstChk := [] } })) ∧
   (∀ (s : State) (src : Nat), src < 64 → Does (.fltInjStop src) s (fun t => OnlyRegs [(FLT_INJ_ACTIVE, src)] s t ∧
     fget t FLT_INJ_ACTIVE src = 0)) ∧
   (∀ (s : State) (c : Nat), c < 16 → Does (.dmaResume c) s (fun t => OnlyRegs [(DMA_CH_STAT_HALT, c)] s t ∧
     fget t DMA_CH_STAT_HALT c = 0)) ∧
   (∀ (s : State) (v : Nat), Does (.mbxRspAck v) s (fun t => OnlyRegs [(MBX_RSP_RDY_RDY, 0)] s t ∧
     ∀ i : Nat, i < 16 → (fget t MBX_RSP_RDY_RDY 0).testBit i = ((fget s MBX_RSP_RDY_RDY 0).testBit i && !v.testBit i)))) ∧
  ((∀ (s : State) (v : Nat), Does (.sramSecretWrite v) s (fun t => OnlyRegs [(SYS_SRAM_SECRET_TAG, 0)] s t ∧
     ∀ i : Nat, i < 64 → (fget t SYS_SRAM_SECRET_TAG 0).testBit i = ((fget s SYS_SRAM_SECRET_TAG 0).testBit i || v.testBit i))) ∧
   (∀ (s : State) (c v : Nat), c < 16 → Does (.dmaPiWrite c v) s (fun t => OnlyRegs [(DMA_IDX_PI, c)] s t ∧
     fget t DMA_IDX_PI c = v % 65536)) ∧
   (∀ (s : State) (q : Nat) (on : Bool), q < 5 → Does (.pairRunWrite q on) s (fun t => OnlyRegs [(SYS_PAIR_STAT_RUN, q)] s t ∧
     fget t SYS_PAIR_STAT_RUN q = (if on then 1 else 0))) ∧
   (∀ (s : State) (v : Nat),
     Does (.pciWinWrite 0 v) s (fun t => OnlyRegs [(PCI_WIN0_BASE, 0), (PCI_WIN0_EN, 0)] s t ∧
       fget t PCI_WIN0_BASE 0 = v / 2 ^ 24 % 2 ^ 40 ∧ fget t PCI_WIN0_EN 0 = v % 2) ∧
     Does (.pciWinWrite 1 v) s (fun t => OnlyRegs [(PCI_WIN1_BASE, 0), (PCI_WIN1_EN, 0)] s t ∧
       fget t PCI_WIN1_BASE 0 = v / 2 ^ 24 % 2 ^ 40 ∧ fget t PCI_WIN1_EN 0 = v % 2)) ∧
   (∀ (s : State) (n v : Nat), 100 ≤ n → exec (.scaleSubWrite n v) s = .next s ∧ exec (.ramCeSubWrite n v) s = .next s ∧
     exec (.ramLastClear n) s = .next s ∧ exec (.cfgFaultClear n) s = .next s ∧ exec (.fltInjStop n) s = .next s ∧
     exec (.dmaResume n) s = .next s ∧ exec (.dmaPiWrite n v) s = .next s ∧ exec (.pairRunWrite n true) s = .next s ∧
     exec (.pciWinWrite n v) s = .next s))

/-- RAM_WRITE_BACK (R75), CONFIG_PORT_RAM_ACCESS (R74, R427) and RAM_PATROL_READ (R77): the oldest corrected word goes
back with fresh check bits; a write through the port stores its word with fresh check bits, and while a gap step copies or
compares the cell's column in its shadow cell too; a read that finds no error delivers the word; patrol reads one address
a tick, in turn. What is stored at every other address stays. -/
def Obligations.CellRam : Prop :=
  (∀ (s : State) (p q r a : Nat) (w : Word) (l : List (Nat × Word)), cellOk p q r = true → a < 512 →
    (cell s (cid p q r)).wb = (a, w) :: l →
    Does (.ramWriteBack p q r) s (fun t => t = { s with array := { s.array with cells := t.array.cells } } ∧
      (∀ k : Nat, k ≠ cid p q r → cell t k = cell s k) ∧ (cell t (cid p q r)).wb = l ∧
      ∀ b : Nat, b < 512 → ramCode (cell t (cid p q r)) b = if b = a then eccEnc w else ramCode (cell s (cid p q r)) b)) ∧
  (∀ (s : State) (p q r : Nat), cellOk p q r = true → (cell s (cid p q r)).wb = [] → exec (.ramWriteBack p q r) s = .next s) ∧
  (∀ (s : State) (p q r a c : Nat) (w : Word) (err : Code), cellOk p q r = true → a < 512 → q ≠ gapPos s p →
    lcolOf s p q = some c → (cab s p).gapCol = c → ((cab s p).gapPh = 1 ∨ (cab s p).gapPh = 2 ∨ (cab s p).gapPh = 3) →
    Does (.configPortRamAccess p q r a true w err) s (fun t => ramCode (cell t (cid p q r)) a = eccEnc w ∧
      ramCode (cell t (cid p (gapPos s p) r)) a = eccEnc w)) ∧
  (∀ (s : State) (p q r a : Nat) (w : Word) (err : Code), cellOk p q r = true → a < 512 → (cab s p).gapPh = 0 →
    Does (.configPortRamAccess p q r a true w err) s (fun t => t = { s with array := { s.array with cells := t.array.cells } } ∧
      (∀ k : Nat, k ≠ cid p q r → cell t k = cell s k) ∧ (∀ e ∈ (cell t (cid p q r)).wb, e.1 ≠ a) ∧
      ∀ b : Nat, b < 512 → ramCode (cell t (cid p q r)) b = if b = a then eccEnc w else ramCode (cell s (cid p q r)) b)) ∧
  (∀ (s : State) (p q r a : Nat) (w d : Word), cellOk p q r = true → a < 512 → fgetB s FLT_INJ_ACTIVE (cabSrc p) = false →
    eccJudge (ramCode (cell s (cid p q r)) a) = .clean d →
    Does (.configPortRamAccess p q r a false w 0) s (fun t => t.bus.data = d ∧ t.bus.status = 0 ∧ t.flt = s.flt ∧
      t.regs = s.regs ∧ ∀ b : Nat, b < 512 → ramCode (cell t (cid p q r)) b = ramCode (cell s (cid p q r)) b)) ∧
  (∀ (s : State) (p q r : Nat) (d : Word), cellOk p q r = true → patrolRuns s p q = true →
    (cell s (cid p q r)).patTick ≠ s.time.edges + 1 → fgetB s FLT_INJ_ACTIVE (cabSrc p) = false →
    eccJudge (ramCode (cell s (cid p q r)) (cell s (cid p q r)).pat) = .clean d →
    Does (.ramPatrolRead p q r 0) s (fun t => t.flt = s.flt ∧ t.regs = s.regs ∧
      (cell t (cid p q r)).pat = ((cell s (cid p q r)).pat + 1) % 512 ∧ (cell t (cid p q r)).patTick = s.time.edges + 1)) ∧
  (∀ (s : State) (p q r : Nat) (err : Code), cellOk p q r = true →
    ((cell s (cid p q r)).patTick = s.time.edges + 1 ∨ patrolRuns s p q = false) →
    exec (.ramPatrolRead p q r err) s = .next s)

/-- SLOT_START (R22, R83, R85, R94): after the plan's last slot, and where the next would begin in the guard, the cells
return to the hold drawer; before it, cells that have fetched the next slot's drawer all run it from the cycle in which the
present slot ends. DRAWER_FETCH (R87): three words of even parity without reserved encodings become the cell's next
drawer, and nothing else changes; with a word of odd parity whose class is C the cell will hold in that slot, the
cabinet's fault record is written and the word is queued for the scrub. PLAN_SELECT_WRITE (R97): an admitted plan of a
RUNNING cabinet is pending until the guard unless it is the current one; any other request is refused; REFUSED written 1
clears and requests nothing. -/
def Obligations.SlotsDrawersAndPlans : Prop :=
  ((∀ (s : State) (p n : Nat), p < 100 → (cab s p).slot = some n → (∀ k : Nat, k / 136 = p → (cell s k).jobs = []) →
     (cabRuns s p = false ∨ planSlots s p (fget s CAB_PLAN_SEL_CUR p) ≤ n + 1 ∨
       guardAt s ≤ (cab s p).slotStart + (cab s p).slotLen) →
     Does (.slotStart p) s (fun t => t.regs = s.regs ∧ t.flt = s.flt ∧ (cab t p).slot = none ∧ (cab t p).slotLen = 0 ∧
       (∀ q : Nat, q ≠ p → cab t q = cab s q) ∧
       ∀ k : Nat, if k / 136 = p then (cell t k).cur = {} ∧ (cell t k).ram = (cell s k).ram ∧ (cell t k).cfg = (cell s k).cfg
         else cell t k = cell s k)) ∧
   (∀ (s : State) (p n : Nat), p < 100 → cabRuns s p = true → (cab s p).slot = some n →
     n + 1 < planSlots s p (fget s CAB_PLAN_SEL_CUR p) → (cab s p).slotStart + (cab s p).slotLen < guardAt s →
     (∀ k : Nat, k / 136 = p → (cell s k).jobs = []) →
     (∀ q r : Nat, q < 17 → r < 8 → lcolOf s p q ≠ none → (cell s (cid p q r)).nxt.no = slotDrawer s p (n + 1)) →
     Does (.slotStart p) s (fun t => t.regs = s.regs ∧ t.flt = s.flt ∧ (cab t p).slot = some (n + 1) ∧
       (cab t p).slotStart = (cab s p).slotStart + (cab s p).slotLen ∧
       (cab t p).slotLen = min (planSlot s p (fget s CAB_PLAN_SEL_CUR p) (n + 1)).2 (guardAt s - (cab t p).slotStart) ∧
       ∀ k : Nat, if k / 136 = p then (cell t k).cur = (cell s k).nxt ∧ (cell t k).ph = 0 ∧ (cell t k).ram = (cell s k).ram
         else cell t k = cell s k)) ∧
   (∀ (s : State) (p : Nat), p < 100 → (cab s p).slot = none → exec (.slotStart p) s = .next s)) ∧
  ((∀ (s : State) (p q r n : Nat), cellOk p q r = true → lcolOf s p q ≠ none → nextSlot s p = some n → cabRuns s p = true →
     slotDrawer s p n ≠ 0 → fgetB s FLT_INJ_ACTIVE (cabSrc p) = false →
     (∀ i : Nat, i < 3 → parity (smGet 0 (cell s (cid p q r)).cfg (12 + 3 * (slotDrawer s p n - 1) + i)) = false ∧
       drawerReserved i (eccData (smGet 0 (cell s (cid p q r)).cfg (12 + 3 * (slotDrawer s p n - 1) + i))) = false) →
     Does (.drawerFetch p q r 0 0 0) s (fun t => t = { s with array := { s.array with cells := t.array.cells } } ∧
       (∀ k : Nat, k ≠ cid p q r → cell t k = cell s k) ∧ (cell t (cid p q r)).nxt.no = slotDrawer s p n ∧
       (cell t (cid p q r)).nxt.runs = true ∧ (cell t (cid p q r)).cur = (cell s (cid p q r)).cur ∧
       (cell t (cid p q r)).nxt.w0 = eccData (smGet 0 (cell s (cid p q r)).cfg (12 + 3 * (slotDrawer s p n - 1))) ∧
       (cell t (cid p q r)).nxt.w1 = eccData (smGet 0 (cell s (cid p q r)).cfg (12 + 3 * (slotDrawer s p n - 1) + 1)) ∧
       (cell t (cid p q r)).nxt.w2 = eccData (smGet 0 (cell s (cid p q r)).cfg (12 + 3 * (slotDrawer s p n - 1) + 2)))) ∧
   (∀ (s : State) (p q r n c i : Nat), cellOk p q r = true → lcolOf s p q = some c → nextSlot s p = some n → cabRuns s p = true →
     slotDrawer s p n ≠ 0 → fgetB s FLT_INJ_ACTIVE (cabSrc p) = false → i < 3 →
     parity (smGet 0 (cell s (cid p q r)).cfg (12 + 3 * (slotDrawer s p n - 1) + i)) = true →
     (∀ w : Nat, invClass s p c r w < 2) → fget s CAB_CFG_FAULT_VALID p = 0 → s.scr.queue.length < 14 →
     Does (.drawerFetch p q r 0 0 0) s (fun t => (cell t (cid p q r)).nxt = { no := slotDrawer s p n, zin := true } ∧
       (∀ k : Nat, k ≠ cid p q r → cell t k = cell s k) ∧ fget t CAB_CFG_FAULT_VALID p = 1 ∧
       (cid p q r, 12 + 3 * (slotDrawer s p n - 1) + i) ∈ t.scr.queue ∧
       t.flt.raised.map (fun e => (e.src, e.cls)) = s.flt.raised.map (fun e => (e.src, e.cls)) ++ [(cabSrc p, clsC)])) ∧
   (∀ (s : State) (p q r : Nat) (a b c : Code), cellOk p q r = true →
     (lcolOf s p q = none ∨ nextSlot s p = none ∨ cabRuns s p = false) → exec (.drawerFetch p q r a b c) s = .next s)) ∧
  ((∀ (s : State) (p v : Nat), p < 100 → v.testBit 31 = false → cabState s p = stRUNNING → planAdm s p (v / 2 % 2) = true →
     Does (.planSelectWrite p v) s (fun t => OnlyRegs [(CAB_PLAN_SEL_REQ, p), (CAB_PLAN_SEL_PEND, p)] s t ∧
       fget t CAB_PLAN_SEL_REQ p = v / 2 % 2 ∧
       fget t CAB_PLAN_SEL_PEND p = (if fget s CAB_PLAN_SEL_CUR p = v / 2 % 2 then 0 else 1))) ∧
   (∀ (s : State) (p v : Nat), p < 100 → v.testBit 31 = false →
     (cabState s p ≠ stRUNNING ∨ (planAdm s p (v / 2 % 2) = false ∧ fget s CAB_PLAN_SEL_CUR p ≠ v / 2 % 2)) →
     Does (.planSelectWrite p v) s (fun t => OnlyRegs [(CAB_PLAN_SEL_REFUSED, p)] s t ∧ fget t CAB_PLAN_SEL_REFUSED p = 1)) ∧
   (∀ (s : State) (p v : Nat), p < 100 → v.testBit 31 = true →
     Does (.planSelectWrite p v) s (fun t => OnlyRegs [(CAB_PLAN_SEL_REFUSED, p)] s t ∧ fget t CAB_PLAN_SEL_REFUSED p = 0)) ∧
   (∀ (s : State) (p v : Nat), 100 ≤ p → exec (.planSelectWrite p v) s = .next s))

/-- DOOR_BUFFER_DRAIN (R102, R124) and BORDER_WORD_ARRIVAL (R104): the oldest word of a door buffer becomes the first
word of a FIFO's item when the FIFO takes it and stays where it does not; a word that reaches a closed door is counted.
-/
def Obligations.DoorsAndBorders : Prop :=
  (∀ (s : State) (p port k : Nat) (d : DWord) (l : List DWord), p < 100 → port < 12 → portFifo p port = some k →
    smGet [] (cab s p).dbuf port = d :: l → (fifo s k).wopen = none → (fifo s k).skip = false → (fifo s k).disc = false →
    (fifo s k).ovr = false → swapDue s k = false →
    fifoWBank (fifo s k) + fget s FIFO_WFRAME_ILENM1 k + 1 ≤ 512 → d.en = false → 0 < fget s FIFO_WFRAME_ILENM1 k →
    Does (.doorBufferDrain p port) s (fun t => smGet [] (cab t p).dbuf port = l ∧ t.flt = s.flt ∧
      OnlyFields [(FIFO_PEAK_PEAK, k)] s t ∧ (fifo t k).w = (fifo s k).w ∧
      (fifo t k).wopen = some { prio := fget s FIFO_WFRAME_PRIO k, poison := false, tag := d.tick % 256,
                                decl := fget s FIFO_WFRAME_ILENM1 k, words := [eccEnc d.w] } ∧
      ∀ j : Nat, j ≠ k → fifo t j = fifo s j)) ∧
  (∀ (s : State) (p port k : Nat), p < 100 → port < 12 → portFifo p port = some k →
    fifoWReady (fifo s k) (decide ((fifo s k).wopen = none)) (fget s FIFO_WFRAME_ILENM1 k) = false →
    (∀ i : FItem, (fifo s k).wopen = some i → smGet 0 (cab s p).dfrm port ≠ 0) → exec (.doorBufferDrain p port) s = .next s) ∧
  (∀ (s : State) (p port : Nat), p < 100 → port < 12 → (portFifo p port = none ∨ smGet [] (cab s p).dbuf port = []) →
    exec (.doorBufferDrain p port) s = .next s) ∧
  (∀ (s : State) (p i q n : Nat), p < 100 → i < 16 → borderPeer p i = some (q, n) → convChan p i = none →
    borderOn s p i = true → doorsOpen s q = true → doorsOpen s p = false →
    (outWire s (cid q (pcolOf s q (borderCell n).1) (borderCell n).2.1) (borderCell n).2.2
      (cell s (cid q (pcolOf s q (borderCell n).1) (borderCell n).2.1)).t).2 = true →
    Does (.borderWordArrival p i) s (fun t => OnlyFields [(CAB_DOOR_STAT_CLOSED_DROP, p)] s t ∧ t.array = s.array ∧
      fget t CAB_DOOR_STAT_CLOSED_DROP p =
        min (fget s CAB_DOOR_STAT_CLOSED_DROP p + 1) (2 ^ CAB_DOOR_STAT_CLOSED_DROP.width - 1))) ∧
  (∀ (s : State) (p i q n : Nat), p < 100 → i < 16 → borderPeer p i = some (q, n) → convChan p i = none →
    borderOn s p i = true → doorsOpen s q = true → doorsOpen s p = true →
    let k := cid q (pcolOf s q (borderCell n).1) (borderCell n).2.1
    let o := outWire s k (borderCell n).2.2 (cell s k).t
    Does (.borderWordArrival p i) s (fun t => t.regs = s.regs ∧ t.array.cells = s.array.cells ∧
      smGet ({} : OutReg) (cab t p).bin i = (smGet ({} : OutReg) (cab s p).bin i).put (cell s k).t o.1 o.2)) ∧
  (∀ (s : State) (p i : Nat), p < 100 → i < 16 → borderOn s p i = false → exec (.borderWordArrival p i) s = .next s)

/-- CAPTURE_ARM_WRITE (R113): Kaluno in machine mode arms a capture where the stream grants it, fewer than eight are
armed, its tick is still to come and its offset lies in the tick; else REFUSED sets; a written 1 clears DONE, REFUSED and
CANCELLED; another writer changes nothing. CAPTURE_SNAPSHOT (R114): a capture armed at an offset before the guard is taken
at it, and no cell changes but for what is captured. DRAIN_WINDOW_END (R106, R169): the guard in which the window ends
leaves the cabinet EMPTY, its stop fenced, no plan admitted and no drawer valid; before the last tick of the window it
does nothing. -/
def Obligations.CaptureAndDrain : Prop :=
  ((∀ (s : State) (p v : Nat), p < 100 → v.testBit 26 = true → fgetB s CAB_STATE_CAP_GRANT p = true →
     (setInstances s CAB_CAPTURE_CTL_ARMED).length < 8 → s.time.tick < fget s CAB_CAPTURE_TICK_TICK p →
     (v / 2 ^ 20 % 2 = 0 ∨ v % 2 ^ 20 < tickLen s) →
     Does (.captureArmWrite p v true) s (fun t =>
       OnlyRegs [(CAB_CAPTURE_CTL_ARMED, p), (CAB_CAPTURE_CTL_MODE, p), (CAB_CAPTURE_CTL_OFFSET, p), (CAB_CAPTURE_CTL_DONE, p),
         (CAB_CAPTURE_CTL_REFUSED, p), (CAB_CAPTURE_CTL_CANCELLED, p)] s t ∧
       fget t CAB_CAPTURE_CTL_ARMED p = 1 ∧ fget t CAB_CAPTURE_CTL_MODE p = v / 2 ^ 20 % 2 ∧
       fget t CAB_CAPTURE_CTL_OFFSET p = v % 2 ^ 20 ∧
       fget t CAB_CAPTURE_CTL_DONE p = (if v.testBit 30 then 0 else fget s CAB_CAPTURE_CTL_DONE p) ∧
       fget t CAB_CAPTURE_CTL_REFUSED p = (if v.testBit 29 then 0 else fget s CAB_CAPTURE_CTL_REFUSED p) ∧
       fget t CAB_CAPTURE_CTL_CANCELLED p = (if v.testBit 28 then 0 else fget s CAB_CAPTURE_CTL_CANCELLED p))) ∧
   (∀ (s : State) (p v : Nat), p < 100 → v.testBit 26 = true →
     (fgetB s CAB_STATE_CAP_GRANT p = false ∨ 8 ≤ (setInstances s CAB_CAPTURE_CTL_ARMED).length ∨
       fget s CAB_CAPTURE_TICK_TICK p ≤ s.time.tick ∨ (v / 2 ^ 20 % 2 = 1 ∧ tickLen s ≤ v % 2 ^ 20)) →
     Does (.captureArmWrite p v true) s (fun t => fget t CAB_CAPTURE_CTL_REFUSED p = 1 ∧
       fget t CAB_CAPTURE_CTL_ARMED p = fget s CAB_CAPTURE_CTL_ARMED p)) ∧
   (∀ (s : State) (p v : Nat), exec (.captureArmWrite p v false) s = .next s)) ∧
  ((∀ (s : State) (p : Nat), p < 100 → fgetB s CAB_CAPTURE_CTL_ARMED p = true → fget s CAB_CAPTURE_TICK_TICK p = s.time.tick →
     fgetB s CAB_CAPTURE_CTL_MODE p = true → s.time.tickStart + fget s CAB_CAPTURE_CTL_OFFSET p < guardAt s →
     Does (.captureSnapshot p) s (fun t => OnlyFields [(CAB_CAPTURE_CTL_ARMED, p), (CAB_CAPTURE_CTL_DONE, p)] s t ∧
       fget t CAB_CAPTURE_CTL_ARMED p = 0 ∧ fget t CAB_CAPTURE_CTL_DONE p = 1 ∧ t.array.cabs = s.array.cabs ∧
       s.time.tickStart + fget s CAB_CAPTURE_CTL_OFFSET p ≤ t.time.now ∧
       ∀ k : Nat, { cell t k with cap := (cell s k).cap } = cell s k ∧ (k / 136 ≠ p → cell t k = cell s k))) ∧
   (∀ (s : State) (p : Nat), p < 100 → (fgetB s CAB_CAPTURE_CTL_ARMED p = false ∨ fget s CAB_CAPTURE_TICK_TICK p ≠ s.time.tick) →
     exec (.captureSnapshot p) s = .next s)) ∧
  ((∀ (s : State) (p : Nat), p < 100 → cabState s p = stDRAINING → (cab s p).drainEnd ≤ s.time.edges →
     s.time.running = true → s.time.guarded = false → fget s CAB_STATE_DRAIN_TO p ≠ 1 → (cab s p).reloc = none →
     Does (.drainWindowEnd p) s (fun t => cabState t p = stEMPTY ∧ fget t CAB_STATE_FENCED p = 1 ∧
       planAdm t p 0 = false ∧ planAdm t p 1 = false ∧ fget t CAB_DRAWER_VALID_VALID p = 0 ∧ (cab t p).slot = none ∧
       doorsOpen t p = false ∧ t.time.guarded = true ∧ t.time.tick = s.time.tick)) ∧
   (∀ (s : State) (p : Nat), p < 100 → (cabState s p ≠ stDRAINING ∨ s.time.edges < (cab s p).drainEnd) →
     exec (.drainWindowEnd p) s = .next s))

/-- FIFO_WRITE (R119, R123): a start word that fits begins an item; a word that closes the item makes it complete; a
word without room waits; an item not ended when the next starts is poisoned and reported, and so is one that a word beyond
its length overruns. FIFO_READ (R118, R125, R131): in ARRIVAL order the reader takes the first word of the oldest complete
item, a clean word unchanged, with its marks; an empty reading bank gives nothing, and RCUT once after a flush.
FIFO_FREE_SWAP (R121), FIFO_FLUSH (R128, R129), FIFO_MODE_WRITE (R133): SWAP is written while the FIFO is empty and
refused otherwise, PRIO and ILENM1 are written; and FIFO_PEAK_READ (R127). -/
def Obligations.StreamFifos : Prop :=
  ((∀ (s : State) (k : Nat) (w : Word) (len prio : Nat) (pois : Bool), fifoExists k = true → len % 64 ≠ 0 →
     swapDue s k = false → (fifo s k).wopen = none → (fifo s k).skip = false → (fifo s k).disc = false →
     (fifo s k).ovr = false → fifoWBank (fifo s k) + len % 64 + 1 ≤ 512 →
     Does (.fifoWrite k w true false len prio pois) s (fun t => OnlyFields [(FIFO_PEAK_PEAK, k)] s t ∧ t.flt = s.flt ∧
       (∀ j : Nat, j ≠ k → fifo t j = fifo s j) ∧ (fifo t k).w = (fifo s k).w ∧ (fifo t k).r = (fifo s k).r ∧
       (fifo t k).wopen = some { prio := prio % 8, poison := pois, tag := s.time.tick % 256, decl := len % 64, words := [eccEnc w] })) ∧
   (∀ (s : State) (k : Nat) (w : Word) (len prio : Nat) (pois : Bool), fifoExists k = true →
     swapDue s k = false → (fifo s k).wopen = none → (fifo s k).skip = false → (fifo s k).disc = false →
     (fifo s k).ovr = false → fifoWBank (fifo s k) + len % 64 + 1 ≤ 512 →
     Does (.fifoWrite k w true true len prio pois) s (fun t => OnlyFields [(FIFO_PEAK_PEAK, k)] s t ∧ t.flt = s.flt ∧
       (∀ j : Nat, j ≠ k → fifo t j = fifo s j) ∧ (fifo t k).wopen = none ∧ (fifo t k).r = (fifo s k).r ∧
       (fifo t k).w = (fifo s k).w ++
         [{ prio := prio % 8, poison := pois, tag := s.time.tick % 256, decl := len % 64, words := [eccEnc w] }])) ∧
   (∀ (s : State) (k : Nat) (w : Word) (len prio : Nat) (pois : Bool) (i : FItem), fifoExists k = true →
     (fifo s k).wopen = some i → i.ovr = false → (fifo s k).skip = false → (fifo s k).disc = false → fifoWBank (fifo s k) < 512 →
     Does (.fifoWrite k w false true len prio pois) s (fun t => OnlyFields [(FIFO_PEAK_PEAK, k)] s t ∧ t.flt = s.flt ∧
       (∀ j : Nat, j ≠ k → fifo t j = fifo s j) ∧ (fifo t k).wopen = none ∧
       (fifo t k).w = (fifo s k).w ++ [{ i with words := i.words ++ [eccEnc w], poison := i.poison || pois }])) ∧
   (∀ (s : State) (k : Nat) (w : Word) (en : Bool) (len prio : Nat) (pois : Bool), fifoExists k = true → swapDue s k = false →
     512 < fifoWBank (fifo s k) + len % 64 + 1 → exec (.fifoWrite k w true en len prio pois) s = .next s) ∧
   (∀ (s : State) (k : Nat) (w : Word) (en : Bool) (len prio : Nat) (pois : Bool), fifoExists k = true → swapDue s k = false →
     (fifo s k).skip = false → 512 ≤ fifoWBank (fifo s k) → exec (.fifoWrite k w false en len prio pois) s = .next s) ∧
   (∀ (s : State) (k : Nat) (w : Word) (len prio : Nat) (pois : Bool) (i : FItem), fifoExists k = true → len % 64 ≠ 0 →
     (fifo s k).wopen = some i → (fifo s k).ovr = false → (fifo s k).skip = false → (fifo s k).disc = false →
     fifoWBank (fifo s k) + len % 64 + 1 ≤ 512 →
     Does (.fifoWrite k w true false len prio pois) s (fun t => (fifo t k).w = (fifo s k).w ++ [{ i with poison := true }] ∧
       fget t FIFO_ERR_PROTO k = min (fget s FIFO_ERR_PROTO k + 1) (2 ^ FIFO_ERR_PROTO.width - 1) ∧
       OnlyFields [(FIFO_PEAK_PEAK, k), (FIFO_ERR_PROTO, k)] s t ∧
       ∃ e : FaultEvt, t.flt.raised = s.flt.raised ++ [e] ∧ e.cls = clsU ∧ e.addr = k ∧ e.src = fifoSrc k)) ∧
   (∀ (s : State) (k : Nat) (w : Word) (en : Bool) (len prio : Nat) (pois : Bool) (i : FItem) (l : List FItem), fifoExists k = true →
     swapDue s k = false → (fifo s k).wopen = none → (fifo s k).ovr = true → (fifo s k).skip = false → (fifo s k).disc = false →
     fifoWBank (fifo s k) < 512 → (fifo s k).w = l ++ [i] → i.ovr = true → (∀ x ∈ l, x.ovr = false) →
     Does (.fifoWrite k w false en len prio pois) s (fun t => (fifo t k).w = l ++ [{ i with poison := true, ovr := false }] ∧
       (fifo t k).disc = !en ∧ (∀ j : Nat, j ≠ k → fifo t j = fifo s j) ∧ OnlyFields [(FIFO_ERR_PROTO, k)] s t ∧
       ∃ e : FaultEvt, t.flt.raised = s.flt.raised ++ [e] ∧ e.cls = clsU ∧ e.addr = k ∧ e.src = fifoSrc k))) ∧
  ((∀ (s : State) (k : Nat) (d : Word) (i : FItem) (r : List FItem) (c : Code) (l : List Code), fifoExists k = true →
     (fifo s k).cur = none → (fifo s k).r = i :: r → i.words = c :: l → i.poison = false → fget s FIFO_MODE_ORDER k = 0 →
     eccJudge c = .clean d → fgetB s FLT_INJ_ACTIVE (fifoSrc k) = false →
     Does (.fifoRead k 0) s (fun t => t.bus.data = d ∧ t.bus.status = 0 ∧ t.regs = s.regs ∧ t.flt = s.flt ∧
       t.bus.bytes = [1, if l = [] then 1 else 0, BitVec.ofNat 8 i.prio, 0] ∧
       (fifo t k).r = r ∧ (fifo t k).cur = (if l = [] then none else some { i with words := l }) ∧ (fifo t k).w = (fifo s k).w ∧
       ∀ j : Nat, j ≠ k → fifo t j = fifo s j)) ∧
   (∀ (s : State) (k : Nat) (err : Code), fifoExists k = true → (fifo s k).cur = none → (fifo s k).r = [] →
     Does (.fifoRead k err) s (fun t => t = { s with fifo := t.fifo, bus := t.bus } ∧ t.bus.data = 0 ∧
       t.bus.status = (if (fifo s k).rcut then 3 else 1) ∧ fifo t k = { fifo s k with rcut := false } ∧
       ∀ j : Nat, j ≠ k → fifo t j = fifo s j)) ∧
   (∀ (s : State) (k : Nat), fifoExists k = true → swapDue s k = true →
     Does (.fifoFreeSwap k) s (fun t => t = { s with fifo := t.fifo } ∧ (fifo t k).r = (fifo s k).w ∧ (fifo t k).w = [] ∧
       (fifo t k).rbank = 1 - (fifo s k).rbank ∧ ∀ j : Nat, j ≠ k → fifo t j = fifo s j)) ∧
   (∀ (s : State) (k : Nat), fifoExists k = true → swapDue s k = false → exec (.fifoFreeSwap k) s = .next s) ∧
   (∀ (s : State) (k : Nat), fifoExists k = true → Does (.fifoFlush k) s (fun t =>
     fifoWords (fifo t k) = 0 ∧ fifoItems (fifo t k) = 0 ∧ (fifo t k).wopen = none ∧ (fifo t k).rcut = (fifo s k).cur.isSome ∧
     (fifo t k).skip = ((fifo s k).skip || (fifo s k).wopen.isSome) ∧ (∀ j : Nat, j ≠ k → fifo t j = fifo s j) ∧
     OnlyFields [(FIFO_EVT_READ_CUT, k), (FIFO_EVT_FLUSH_PARTIAL, k)] s t ∧ t.flt = s.flt)) ∧
   (∀ (s : State) (k swap : Nat), fifoExists k = true → Does (.fifoModeWrite k (swap, none)) s (fun t =>
     if fifoWords (fifo s k) = 0 ∧ (fifo s k).wopen = none then
       OnlyRegs [(FIFO_MODE_SWAP, k)] s t ∧ fget t FIFO_MODE_SWAP k = swap % 2
     else OnlyRegs [(FIFO_MODE_REFUSED, k)] s t ∧ fget t FIFO_MODE_REFUSED k = 1)) ∧
   (∀ (s : State) (k swap prio ilen : Nat), fifoExists k = true → Does (.fifoModeWrite k (swap, some (prio, ilen))) s (fun t =>
     OnlyRegs [(FIFO_MODE_SWAP, k), (FIFO_MODE_REFUSED, k), (FIFO_WFRAME_PRIO, k), (FIFO_WFRAME_ILENM1, k), (FIFO_WFRAME_EN, k)] s t ∧
     fget t FIFO_WFRAME_PRIO k = prio % 8 ∧ fget t FIFO_WFRAME_ILENM1 k = ilen % 64)) ∧
   (∀ (s : State) (k : Nat) (v : Nat × Option (Nat × Nat)), fifoExists k = false → exec (.fifoModeWrite k v) s = .next s) ∧
   (∀ (s : State) (k : Nat), fifoExists k = true → Does (.fifoPeakRead k) s (fun t => OnlyFields [(FIFO_PEAK_PEAK, k)] s t ∧
     t.bus.data = BitVec.ofNat 64 (fget s FIFO_PEAK_PEAK k) ∧ t.fifo = s.fifo ∧
     fget t FIFO_PEAK_PEAK k = fifoWords (fifo s k) % 2 ^ FIFO_PEAK_PEAK.width)))

/-- The header of a packet (R140, R141), written into its four words and read back, gives every field and HCRC: none of
its bits is dropped. HCRC checks exactly where the packet carries the good one. -/
def Obligations.HeaderReadsBack : Prop :=
  ∀ p : Pkt, p.ty < 16 → p.data.length ≤ 60 → p.sdev < 1024 → p.sstop < 256 → p.ddev < 1024 → p.dstop < 256 → p.tag < 4096 →
    p.seq < 65536 → p.status < 256 → p.size < 512 → p.xhdr < 2 ^ 32 → p.addr < 2 ^ 64 → p.hx < 65536 →
    hdrParse (hdrWords p) = (decide (p.hx = 0), { p with data := [], pois := [] })

/-- PACKET_INJECT of an edge stop's requests and messages for this device (R136, R138, R140, R144, R159): the head flit, with a
header that checks, and the data flits behind it stand in lane A of the injection port with their directions fixed; a read or
write goes to the stop its address decodes to, a message to the stop named; the TAG of a non-posted request waits for its
response. FLIT_FORWARD (R138, R145,
R148) and ESCAPE_ENTRY (R146): the flit that the arbitration grants moves, its data unchanged, to the granted lane of
the next stop with HOPS one more, up to 63; with no requester nothing moves; a head without a lane A candidate, or eight
cycles at its front, leaves lane A, and no other does. PACKET_EJECT (R158, R169): a message whose
header checks reaches its stop's agent; a packet whose HCRC or TYPE is bad is dropped and counted; at a fenced stop a
response is counted and dropped. -/
def Obligations.RingPackets : Prop :=
  ((∀ (s : State) (st ty ddev d dstop tag size xhdr addr : Nat) (data : List Word), 100 ≤ st → ty ≤ 2 →
     injOk st (.agent ty ddev d tag size xhdr addr data) = true → accessDest s (addr % 2 ^ 64) d = (ownDev s, dstop, addr % 2 ^ 64) →
     dstop < 256 → ownDev s < 1024 → laneFree (lane s (laneKey 0 st 0 lnA)) = true → (∀ q ∈ (stop s st).reqs, q.tag ≠ tag % 4096) →
     Does (.packetInject st (.agent ty ddev d tag size xhdr addr data) []) s (fun t =>
       (stop t st).reqs = (stop s st).reqs ++ (if ty = 2 then [] else [⟨tag % 4096, s.time.edges, false⟩]) ∧ t.regs = s.regs ∧
       t.flt = s.flt ∧ (∀ k : Nat, k ≠ laneKey 0 st 0 lnA → lane t k = lane s k) ∧
       ∃ (f : Flit) (r : List Flit), (lane t (laneKey 0 st 0 lnA)).q = f :: r ∧ f.sb.kind = (if data = [] then 3 else 0) ∧
         f.sb.booked = false ∧ f.sb.dstop = dstop ∧ f.sb.ddev = ownDev s ∧ f.sb.dx = dirX st dstop ∧ f.sb.dy = dirY st dstop ∧
         f.sb.len = r.length ∧ 4 * r.length < (data.take 32).length + 4 ∧
         (r.flatMap (fun g => g.data.map eccData)).take (data.take 32).length = data.take 32 ∧
         hdrParse (f.data.map eccData) = (true,
           { ty := ty, sdev := ownDev s, sstop := st, ddev := ownDev s, dstop := dstop, tag := tag % 4096, size := size % 256, addr := addr % 2 ^ 64 }))) ∧
   (∀ (s : State) (st dstop tag size xhdr addr : Nat) (data : List Word), 100 ≤ st → hasAgent st = true → hasAgent dstop = true →
     ownDev s < 1024 → laneFree (lane s (laneKey 0 st 0 lnA)) = true →
     Does (.packetInject st (.agent 4 (ownDev s) dstop tag size xhdr addr data) []) s (fun t => t.regs = s.regs ∧ t.flt = s.flt ∧
       (∀ k : Nat, k ≠ laneKey 0 st 0 lnA → lane t k = lane s k) ∧ t.noc.stops = s.noc.stops ∧
       ∃ (f : Flit) (r : List Flit), (lane t (laneKey 0 st 0 lnA)).q = f :: r ∧ f.sb.dstop = dstop ∧ f.sb.ddev = ownDev s ∧
         (r.flatMap (fun g => g.data.map eccData)).take (data.take 32).length = data.take 32 ∧
         hdrParse (f.data.map eccData) = (true,
           { ty := 4, sdev := ownDev s, sstop := st, ddev := ownDev s, dstop := dstop, tag := tag % 4096, xhdr := xhdr % 2 ^ 32 / 65536 * 65536 }))) ∧
   (∀ (s : State) (st : Nat) (e : List Code), hasAgent st = true → (stop s st).rspQ = [] → exec (.packetInject st .rsp e) s = .next s)) ∧
  ((∀ (s : State) (net st out : Nat) (r : Rq) (f : Flit) (q : List Flit), net < 2 → st < 140 → 1 ≤ out → out ≤ 4 →
     (if out ≤ 2 then onH st else onV st) = true →
     pickRq (smGet 0 (stop s st).deny (5 * net + out)) (smGet 0 (stop s st).ptr (5 * net + out)) (requesters s net st out) = some r → r.dn < 6 →
     (lane s (laneKey net st r.port r.ln)).q = f :: q → (lane s (laneKey net (nextStop st out) out r.dn)).drop = false →
     (f.sb.kind = 0 ∨ f.sb.kind = 3) → rtrState s (nextStop st out) ≠ rtFAILED → f.data.length = 4 →
     (∀ c ∈ f.data, ∃ d : BitVec 64, eccJudge c = .clean d) → fgetB s FLT_INJ_ACTIVE (rtrSrc (nextStop st out)) = false →
     Does (.flitForward net st out [] 0) s (fun t => t.regs = s.regs ∧ t.flt = s.flt ∧
       (lane t (laneKey net st r.port r.ln)).q = q ∧
       ∃ g : Flit, (lane t (laneKey net (nextStop st out) out r.dn)).q = (lane s (laneKey net (nextStop st out) out r.dn)).q ++ [g] ∧
         g.data.map eccData = f.data.map eccData ∧ g.sb.hops = min 63 (f.sb.hops + 1) ∧ g.sb.dstop = f.sb.dstop ∧
         g.sb.ddev = f.sb.ddev ∧ g.sb.kind = f.sb.kind ∧ g.sb.poison = f.sb.poison)) ∧
   (∀ (s : State) (net st out sb : Nat) (e : List Code), net < 2 → st < 140 → 1 ≤ out → out ≤ 4 →
     (if out ≤ 2 then onH st else onV st) = true → requesters s net st out = [] →
     exec (.flitForward net st out e sb) s = .next s) ∧
   (∀ (s : State) (net st port : Nat) (f : Flit) (q : List Flit), net < 2 → st < 140 → port < 5 →
     (lane s (laneKey net st port lnA)).q = f :: q → (lane s (laneKey net st port lnA)).out = none →
     (f.sb.kind = 0 ∨ f.sb.kind = 3) → f.sb.dstop ≠ st →
     if candA s st port f.sb = [] ∨ (lane s (laneKey net st port lnA)).front + 8 ≤ s.time.now then
       Does (.escapeEntry net st port) s (fun t => t = { s with noc := { s.noc with lanes := t.noc.lanes } } ∧
         (∀ k : Nat, k ≠ laneKey net st port lnA → lane t k = lane s k) ∧
         lane t (laneKey net st port lnA) = { lane s (laneKey net st port lnA) with esc := true })
     else exec (.escapeEntry net st port) s = .next s)) ∧
  ((∀ (s : State) (st port ln : Nat) (f : Flit) (p : Pkt), hasAgent st = true → st ≠ 125 → st ≠ 127 → port < 5 → ln < 6 →
     (lane s (laneKey 0 st port ln)).q = [f] → (lane s (laneKey 0 st port ln)).out = none → f.sb.kind = 3 → f.sb.dstop = st →
     smGet [] s.noc.ej (laneKey 0 st port ln) = [] → rtrState s st = rtNORMAL → stopFenced s st = false →
     hdrParse (f.data.map eccData) = (true, p) → p.ty = 4 →
     Does (.packetEject 0 st port ln) s (fun t => t.regs = s.regs ∧ t.flt = s.flt ∧ (lane t (laneKey 0 st port ln)).q = [] ∧
       (stop t st).inbox = (stop s st).inbox ++ [p] ∧ (∀ x : Nat, x ≠ st → stop t x = stop s x) ∧
       ∀ k : Nat, k ≠ laneKey 0 st port ln → lane t k = lane s k)) ∧
   (∀ (s : State) (st port ln : Nat) (f : Flit) (b : Bool) (p : Pkt), hasAgent st = true → port < 5 → ln < 6 →
     (lane s (laneKey 0 st port ln)).q = [f] → (lane s (laneKey 0 st port ln)).out = none → f.sb.kind = 3 → f.sb.dstop = st →
     smGet [] s.noc.ej (laneKey 0 st port ln) = [] → rtrState s st ≠ rtTEST →
     hdrParse (f.data.map eccData) = (b, p) → (b = false ∨ tyOk p.ty = false) →
     Does (.packetEject 0 st port ln) s (fun t => OnlyFields [(NOC_RTR_ERR_CRC_DROP, st)] s t ∧
       fget t NOC_RTR_ERR_CRC_DROP st = min (fget s NOC_RTR_ERR_CRC_DROP st + 1) (2 ^ NOC_RTR_ERR_CRC_DROP.width - 1) ∧
       (lane t (laneKey 0 st port ln)).q = [] ∧ t.noc.stops = s.noc.stops ∧
       ∃ e : FaultEvt, t.flt.raised = s.flt.raised ++ [e] ∧ e.cls = clsU ∧ e.src = rtrSrc st)) ∧
   (∀ (s : State) (st port ln : Nat) (f : Flit) (p : Pkt), st < 100 → port < 5 → ln < 6 →
     (lane s (laneKey 1 st port ln)).q = [f] → (lane s (laneKey 1 st port ln)).out = none → f.sb.kind = 3 → f.sb.dstop = st →
     smGet [] s.noc.ej (laneKey 1 st port ln) = [] → rtrState s st = rtNORMAL → stopFenced s st = true →
     hdrParse (f.data.map eccData) = (true, p) → (p.ty = 8 ∨ p.ty = 9 ∨ p.ty = 10) →
     Does (.packetEject 1 st port ln) s (fun t => OnlyFields [(NOC_STOP_STAT_FENCE_RSP, st)] s t ∧ t.flt = s.flt ∧
       fget t NOC_STOP_STAT_FENCE_RSP st = min (fget s NOC_STOP_STAT_FENCE_RSP st + 1) (2 ^ NOC_STOP_STAT_FENCE_RSP.width - 1) ∧
       (lane t (laneKey 1 st port ln)).q = [] ∧ t.noc.stops = s.noc.stops)) ∧
   (∀ (s : State) (net st port ln : Nat), net < 2 → hasAgent st = true → port < 5 → ln < 6 →
     (lane s (laneKey net st port ln)).q = [] → exec (.packetEject net st port ln) s = .next s))

/-- STREAM_REORDER_WRITE and SEQ_GAP_TIMEOUT (R153, R154), REQUEST_TIMEOUT (R159), NOC_CFG_WRITE (R171) and
TELEMETRY_MSG (R441). ROUTER_MODE_WRITE, BYPASS_SWITCH_CLOSE, LEAVING_DONE, ROUTER_INTERNAL_FAULT and
TEST_ABORT_BY_PACKET (R160 to R163, R166, R168). -/
def Obligations.StreamsAndRouters : Prop :=
  ((∀ (s : State) (k e : Nat) (p : Pkt) (w : Word), k < 65536 → fifoExists k = true → (seqr s k).exp = some e →
     (seqr s k).early = [p] → p.seq = e → (seqr s k).skipTo = false → xSTART p = true → xEND p = true → xWORDS p = 1 →
     p.data = [w] → (fifo s k).wopen = none → (fifo s k).skip = false → (fifo s k).disc = false →
     fifoWBank (fifo s k) + xILEN p + 1 ≤ 512 →
     Does (.streamReorderWrite k) s (fun t => (seqr t k).exp = some ((e + 1) % 65536) ∧ (seqr t k).early = [] ∧
       (seqr t k).gap = 0 ∧ t.flt = s.flt ∧ OnlyFields [(FIFO_PEAK_PEAK, k)] s t ∧ (∀ j : Nat, j ≠ k → fifo t j = fifo s j) ∧
       (fifo t k).w = (fifo s k).w ++ [{ prio := xPRIO p, poison := p.pois.getD 0 false, tag := s.time.tick % 256, decl := xILEN p, words := [eccEnc w] }])) ∧
   (∀ (s : State) (k e : Nat), keyOk k = true → (seqr s k).exp = some e → (∀ p ∈ (seqr s k).early, p.seq ≠ e) →
     exec (.streamReorderWrite k) s = .next s) ∧
   (∀ (s : State) (k e : Nat) (p : Pkt), keyOk k = true → (seqr s k).exp = some e → (seqr s k).early = [p] → p.seq ≠ e →
     0 < seqAhead e p.seq → seqAhead e p.seq < 32768 → seqWaiting s k = [] → (seqr s k).gap ≠ 0 →
     (seqr s k).gap + fget s NOC_CFG_REORDER_TO 0 ≤ s.time.edges + 1 → itemOpen s k = false →
     Does (.seqGapTimeout k) s (fun t => (seqr t k).exp = some p.seq ∧ (seqr t k).gap = 0 ∧ (seqr t k).early = [p] ∧
       OnlyFields [(NOC_STOP_EVT_SEQ_SKIP, keyStop k)] s t ∧ t.fifo = s.fifo ∧ t.flt = s.flt ∧
       fget t NOC_STOP_EVT_SEQ_SKIP (keyStop k) =
         min (fget s NOC_STOP_EVT_SEQ_SKIP (keyStop k) + seqAhead e p.seq) (2 ^ NOC_STOP_EVT_SEQ_SKIP.width - 1))) ∧
   (∀ (s : State) (st : Nat) (q : Req), hasAgent st = true → (stop s st).reqs = [q] → q.timedOut = false →
     q.tick + fget s NOC_CFG_REQ_TO 0 ≤ s.time.edges →
     Does (.requestTimeout st) s (fun t => OnlyFields [(NOC_STOP_STAT_TIMEOUT, st)] s t ∧ t.flt = s.flt ∧
       (stop t st).reqs = [{ q with timedOut := true, tick := s.time.edges }] ∧
       (stop t st).inbox = (stop s st).inbox ++ 
         [{ ty := 0xA, sdev := ownDev s, sstop := st, ddev := ownDev s, dstop := st, tag := q.tag, status := 2 }] ∧
       fget t NOC_STOP_STAT_TIMEOUT st = min (fget s NOC_STOP_STAT_TIMEOUT st + 1) (2 ^ NOC_STOP_STAT_TIMEOUT.width - 1))) ∧
   (∀ (s : State) (r d q : Nat), Does (.nocCfgWrite r d q) s (fun t =>
     OnlyRegs [(NOC_CFG_REORDER_TO, 0), (NOC_CFG_DRAIN, 0), (NOC_CFG_REQ_TO, 0), (NOC_CFG_REFUSED, 0)] s t ∧
     fget t NOC_CFG_REORDER_TO 0 = (if r % 256 = 0 then fget s NOC_CFG_REORDER_TO 0 else r % 256) ∧
     fget t NOC_CFG_DRAIN 0 = (if d % 256 = 0 then fget s NOC_CFG_DRAIN 0 else d % 256) ∧
     fget t NOC_CFG_REQ_TO 0 = (if q % 65536 = 0 then fget s NOC_CFG_REQ_TO 0 else q % 65536) ∧
     fget t NOC_CFG_REFUSED 0 = (if r % 256 = 0 ∨ d % 256 = 0 ∨ q % 65536 = 0 then 1 else fget s NOC_CFG_REFUSED 0))) ∧
   (∀ (s : State) (st ddev dstop code : Nat) (l : List Word), hasAgent st = true → hasAgent dstop = true →
     (smGet 0 s.env.tele st = 0 ∨ smGet 0 s.env.tele st + 1024 ≤ s.time.edges + 1) → bypassed s st = false → stopFenced s st = false →
     Does (.telemetryMsg st ddev dstop code l) s (fun t => t.regs = s.regs ∧ t.flt = s.flt ∧ smGet 0 t.env.tele st = s.time.edges + 1 ∧
       (stop t st).reqQ = (stop s st).reqQ ++
         [{ ty := 4, sdev := ownDev s, sstop := st, ddev := ddev % 1024, dstop := dstop, xhdr := code % 65536 * 65536, data := l.take 4 }] ∧ ∀ x : Nat, x ≠ st → stop t x = stop s x)) ∧
   (∀ (s : State) (st ddev dstop code : Nat) (l : List Word), hasAgent st = true → hasAgent dstop = true →
     0 < smGet 0 s.env.tele st → s.time.edges + 1 < smGet 0 s.env.tele st + 1024 →
     exec (.telemetryMsg st ddev dstop code l) s = .next s)) ∧
  ((∀ (s : State) (st m : Nat), st < 100 → (m = 1 ∨ m = 2) → rtrState s st = rtNORMAL → ringBusy s st = false →
     (∀ b : Nat, b < 100 → (bunit s (200 + b)).run = false) →
     Does (.routerModeWrite st m) s (fun t => fget t NOC_RTR_CTL_STATE st = rtENTERING ∧ fget t NOC_RTR_CTL_MODE st = m ∧
       fget t NOC_RTR_CTL_UNAVAIL st = 1 ∧ fget t NOC_RING_STAT_BYPASS_STOP (st / 10) = st ∧
       fget t NOC_RING_STAT_BYPASS_STOP (10 + st % 10) = st ∧
       OnlyRegs [(NOC_RTR_CTL_STATE, st), (NOC_RTR_CTL_MODE, st), (NOC_RTR_CTL_UNAVAIL, st),
         (NOC_RING_STAT_BYPASS_STOP, st / 10), (NOC_RING_STAT_BYPASS_STOP, 10 + st % 10)] s t)) ∧
   (∀ (s : State) (st : Nat), st < 100 → rtrState s st = rtNORMAL → ringBusy s st = true →
     (∀ b : Nat, b < 100 → (bunit s (200 + b)).run = false) →
     Does (.routerModeWrite st 2) s (fun t => OnlyRegs [(NOC_RTR_CTL_REFUSED, st)] s t ∧ fget t NOC_RTR_CTL_REFUSED st = 1)) ∧
   (∀ (s : State) (st : Nat), st < 100 → rtrState s st = rtBYPASS → (∀ b : Nat, b < 100 → (bunit s (200 + b)).run = false) →
     Does (.routerModeWrite st 0) s (fun t => OnlyRegs [(NOC_RTR_CTL_STATE, st), (NOC_RTR_CTL_MODE, st)] s t ∧
       fget t NOC_RTR_CTL_STATE st = rtLEAVING ∧ fget t NOC_RTR_CTL_MODE st = 0)) ∧
   (∀ (s : State) (st : Nat), st < 100 → rtrState s st = rtENTERING → lanesEmpty s st = true →
     Does (.bypassSwitchClose st) s (fun t =>
       fget t NOC_RTR_CTL_STATE st = (if fget s NOC_RTR_CTL_MODE st = 2 then rtTEST else rtBYPASS) ∧
       fget t NOC_RTR_CTL_MODE st = fget s NOC_RTR_CTL_MODE st ∧ t.noc.lanes = s.noc.lanes)) ∧
   (∀ (s : State) (st : Nat), st < 100 → lanesEmpty s st = false → exec (.bypassSwitchClose st) s = .next s) ∧
   (∀ (s : State) (st : Nat), st < 100 → rtrState s st = rtLEAVING →
     Does (.leavingDone st) s (fun t => fget t NOC_RTR_CTL_STATE st = rtNORMAL ∧ fget t NOC_RTR_CTL_UNAVAIL st = 0 ∧
       fget t NOC_RING_STAT_BYPASS_STOP (st / 10) = 0xFF ∧ fget t NOC_RING_STAT_BYPASS_STOP (10 + st % 10) = 0xFF)) ∧
   (∀ (s : State) (st : Nat), st < 100 → ringBusy s st = true →
     Does (.routerInternalFault st) s (fun t => fget t NOC_RTR_CTL_STATE st = rtFAILED ∧ fget t NOC_RTR_CTL_UNAVAIL st = 1 ∧
       (∀ r ∈ ringsOf st, fget s NOC_RING_STAT_BYPASS_STOP r ≠ 0xFF →
         fget t NOC_RING_STAT_DEGRADED r = 1 ∧ fget t NOC_RING_STAT_FAILED_STOP r = st) ∧
       ∃ e : FaultEvt, t.flt.raised = s.flt.raised ++ [e] ∧ e.cls = clsU ∧ e.src = rtrSrc st)) ∧
   (∀ (s : State) (st : Nat), st < 100 → ringBusy s st = false → cabState s st = stEMPTY →
     Does (.routerInternalFault st) s (fun t => fget t NOC_RTR_CTL_STATE st = rtENTERING ∧ fget t NOC_RTR_CTL_MODE st = 1 ∧
       fget t NOC_RING_STAT_BYPASS_STOP (st / 10) = st ∧ fget t NOC_RING_STAT_BYPASS_STOP (10 + st % 10) = st ∧
       ∃ e : FaultEvt, t.flt.raised = s.flt.raised ++ [e] ∧ e.cls = clsU ∧ e.src = rtrSrc st)) ∧
   (∀ (s : State) (st : Nat), st < 100 → rtrState s st = rtTEST → needsRouter s st = true → (bunit s (200 + st)).run = false →
     Does (.testAbortByPacket st) s (fun t => fget t NOC_RTR_CTL_STATE st = rtNORMAL ∧ fget t NOC_RTR_CTL_UNAVAIL st = 0 ∧
       t.noc = s.noc ∧ t.flt = s.flt)) ∧
   (∀ (s : State) (st : Nat), st < 100 → needsRouter s st = false → exec (.testAbortByPacket st) s = .next s))

/-- The state table of converter links (R186): JESD_CDR_LOCK, JESD_BLOCK_LOCK, JESD_FRAME_LOCK, JESD_RELEASE,
JESD_BRINGUP_TIMEOUT, JESD_RETRAIN, JESD_LOCK_LOSS and JESD_LINK_DISABLE take a link from state to state; LOCK
names the lanes in lock; in a lock or bring-up step no register changes but the link's and the event ring's; a command out of
its state does nothing. JESD_LINK_ENABLE (R174, R181, R186, R190): with options of R174 an
OFF link is configured and goes to CDR; with others it stays OFF and REFUSED sets; a link that is not OFF refuses
another configuration. SYSREF_ARM and SYSREF_EDGE (R183): the ARM clears ALIGNED; the first edge after it sets ALIGNED;
a later edge is compared with the multiframe boundary that the first one set: within TOL it does nothing; outside, it counts in
ODD with its signed distance, up to 8 bits, sets OUT_OF_PHASE, and the first such edge raises a C-class record. Before a link
transmits samples its lanes are idle, and SYNCO is low while an 8B/10B link asks for synchronisation (R186, R187). -/
def Obligations.ConverterLinks : Prop :=
  ((∀ (s : State) (j n : Nat), j < 8 → n < 4 →
     (jState s (4 * j + n) = jCDR → Does (.jesdCdrLock j n) s (fun t => jState t (4 * j + n) = jBLOCK ∧ t.fifo = s.fifo ∧
       OnlyFields [(JPT_LINK_STAT_STATE, 4 * j + n), (JPT_LINK_STAT_REASON, 4 * j + n), (MBX_EVT_IDX_PI, 0), (MBX_EVT_CTL_LOST, 0)] s t)) ∧
     (jState s (4 * j + n) ≠ jCDR → exec (.jesdCdrLock j n) s = .next s) ∧
     (jState s (4 * j + n) = jBLOCK → Does (.jesdBlockLock j n) s (fun t => jState t (4 * j + n) = jFRAME ∧ t.fifo = s.fifo ∧
       OnlyFields [(JPT_LINK_STAT_STATE, 4 * j + n), (JPT_LINK_STAT_REASON, 4 * j + n), (MBX_EVT_IDX_PI, 0), (MBX_EVT_CTL_LOST, 0)] s t)) ∧
     (jState s (4 * j + n) ≠ jBLOCK → exec (.jesdBlockLock j n) s = .next s) ∧
     (∀ (a : Option Nat) (skew : Nat), jState s (4 * j + n) = jFRAME → Does (.jesdFrameLock j n a skew) s (fun t => t.fifo = s.fifo ∧
       if n < 2 ∧ fgetB s JPT_LINK_CFG_ENC (4 * j + n) = true ∧ (∃ v ∈ a, fsame s ilasFlds (4 * j + n) v = false) then
         jState t (4 * j + n) = jFAILED ∧ fget t JPT_LINK_STAT_REASON (4 * j + n) = 5
       else if n < 2 ∧ 128 < skew + fget s JPT_LINK_REL_RBD (4 * j + n) then
         jState t (4 * j + n) = jFAILED ∧ fget t JPT_LINK_STAT_REASON (4 * j + n) = 6
       else jState t (4 * j + n) = jWAIT ∧ fget t JPT_LINK_STAT_REASON (4 * j + n) = 0 ∧
         fget t JPT_LINK_STAT_LOCK (4 * j + n) = (2 ^ fget s JPT_LINK_CFG_L (4 * j + n) - 1) % 2 ^ JPT_LINK_STAT_LOCK.width)) ∧
     (∀ (a : Option Nat) (skew : Nat), jState s (4 * j + n) ≠ jFRAME → exec (.jesdFrameLock j n a skew) s = .next s) ∧
     (∀ lat : Nat, jState s (4 * j + n) = jWAIT → fget s JPT_LINK_CFG_SUB1 (4 * j + n) = 0 → lat < 2 ^ 20 →
       Does (.jesdRelease j n lat) s (fun t => jState t (4 * j + n) = jDATA ∧
         fget t JPT_LINK_STAT_LAT (4 * j + n) = (if n < 2 then lat else fget s JPT_LINK_STAT_LAT (4 * j + n)) ∧ t.fifo = s.fifo)) ∧
     (∀ lat : Nat, jState s (4 * j + n) = jWAIT → fget s JPT_LINK_CFG_SUB1 (4 * j + n) = 1 → fgetB s JPT_SYSREF_ALIGNED j = false →
       exec (.jesdRelease j n lat) s = .next s) ∧
     (bringOut s (4 * j + n) = true → 1 ≤ jState s (4 * j + n) → jState s (4 * j + n) ≤ 4 → Does (.jesdBringupTimeout j n) s (fun t =>
       jState t (4 * j + n) = jFAILED ∧ fget t JPT_LINK_STAT_REASON (4 * j + n) = jState s (4 * j + n) ∧
       fget t JPT_LINK_STAT_LOCK (4 * j + n) = 0 ∧ t.fifo = s.fifo)) ∧
     (bringOut s (4 * j + n) = false → exec (.jesdBringupTimeout j n) s = .next s) ∧
     (jState s (4 * j + n) = jFAILED → Does (.jesdRetrain j n) s (fun t => jState t (4 * j + n) = jCDR ∧ t.fifo = s.fifo)) ∧
     (jState s (4 * j + n) ≠ jFAILED → exec (.jesdRetrain j n) s = .next s) ∧
     (∀ l a : Nat, l < 8 → (linkLanes s j n).idxOf? l = some a → jState s (4 * j + n) = jDATA →
       Does (.jesdLockLoss j n l) s (fun t => jState t (4 * j + n) = jFAULTED ∧
       fget t FLT_UNIT_FAULTED (unitIx 4 (4 * j + n)) = 1 ∧
       fget t JPT_LINK_STAT_LOCK (4 * j + n) = fget s JPT_LINK_STAT_LOCK (4 * j + n) &&& (255 - 2 ^ a) ∧
       (n < 2 → fget t JPT_LANE_ERR_LOCK_LOSS (8 * j + l) =
         min (fget s JPT_LANE_ERR_LOCK_LOSS (8 * j + l) + 1) (2 ^ JPT_LANE_ERR_LOCK_LOSS.width - 1)) ∧
       (∃ r : List FaultEvt, t.flt.raised = s.flt.raised ++ r) ∧
       ∃ e ∈ t.flt.raised, e.cls = clsU ∧ e.ukind = 4 ∧ e.uid = 4 * j + n)) ∧
     (∀ l : Nat, l < 8 → l ∉ linkLanes s j n → exec (.jesdLockLoss j n l) s = .next s) ∧
     (∀ v : Nat, jState s (4 * j + n) ≠ jOFF → fsame s jptCfgFlds (4 * j + n) v = true → fldOf JPT_LINK_CFG_REFUSED v = 0 →
       Does (.jesdLinkDisable j n v) s (fun t => jState t (4 * j + n) = jOFF ∧ fget t JPT_LINK_CFG_EN (4 * j + n) = 0 ∧
         fget t JPT_LINK_STAT_LOCK (4 * j + n) = 0 ∧ fget t FLT_UNIT_FAULTED (unitIx 4 (4 * j + n)) = 0)))) ∧
  ((∀ (s : State) (j n v : Nat), j < 8 → n < 4 → jState s (4 * j + n) = jOFF → fldOf JPT_LINK_CFG_REFUSED v = 0 →
     jptOptionsOk (fstore s jptCfgFlds (4 * j + n) v) j n = true → jptFifoModeOk (fstore s jptCfgFlds (4 * j + n) v) j n = true →
     Does (.jesdLinkEnable j n v) s (fun t => jState t (4 * j + n) = jCDR ∧ fget t JPT_LINK_CFG_EN (4 * j + n) = 1 ∧
       (∀ f ∈ jptCfgFlds, fget t f (4 * j + n) = v / 2 ^ f.lo % 2 ^ f.width) ∧
       fget t JPT_LINK_CFG_REFUSED (4 * j + n) = fget s JPT_LINK_CFG_REFUSED (4 * j + n) ∧ t.fifo = s.fifo)) ∧
   (∀ (s : State) (j n v : Nat), j < 8 → n < 4 → jState s (4 * j + n) = jOFF → fldOf JPT_LINK_CFG_NP v ≠ 11 →
     fldOf JPT_LINK_CFG_NP v ≠ 15 → fldOf JPT_LINK_CFG_REFUSED v = 0 →
     Does (.jesdLinkEnable j n v) s (fun t => jState t (4 * j + n) = jOFF ∧ fget t JPT_LINK_CFG_REFUSED (4 * j + n) = 1 ∧
       fget t JPT_LINK_CFG_EN (4 * j + n) = fget s JPT_LINK_CFG_EN (4 * j + n))) ∧
   (∀ (s : State) (j n v : Nat), j < 8 → n < 4 → jState s (4 * j + n) ≠ jOFF → fsame s jptCfgFlds (4 * j + n) v = false →
     fldOf JPT_LINK_CFG_REFUSED v = 0 →
     Does (.jesdLinkEnable j n v) s (fun t => OnlyRegs [(JPT_LINK_CFG_REFUSED, 4 * j + n)] s t ∧
       fget t JPT_LINK_CFG_REFUSED (4 * j + n) = 1))) ∧
  ((∀ (s : State) (j : Nat), j < 8 → Does (.sysrefArm j) s (fun t => fget t JPT_SYSREF_ALIGNED j = 0 ∧
     smGet false t.jpt.armed j = true ∧
     ∀ n : Nat, n < 4 → jState t (4 * j + n) = if jState s (4 * j + n) = jDATA then jBLOCK else jState s (4 * j + n))) ∧
   (∀ (s : State) (j cyc per : Nat), j < 8 → smGet false s.jpt.armed j = true →
     Does (.sysrefEdge j (cyc, per)) s (fun t => fget t JPT_SYSREF_ALIGNED j = 1 ∧ smGet false t.jpt.armed j = false ∧
       smGet (0, 0) t.jpt.lmfc j = (cyc, per) ∧ OnlyFields [(JPT_SYSREF_ALIGNED, j)] s t ∧ t.flt = s.flt)) ∧
   (∀ (s : State) (j cyc per b : Nat) (err : Int), j < 8 → smGet false s.jpt.armed j = false → fgetB s JPT_SYSREF_ALIGNED j = true →
     0 < (smGet (0, 0) s.jpt.lmfc j).2 → (∃ k : Int, (cyc : Int) = (smGet (0, 0) s.jpt.lmfc j).1 + k * (smGet (0, 0) s.jpt.lmfc j).2 + err) →
     2 * err.natAbs < (smGet (0, 0) s.jpt.lmfc j).2 → b = fget s JPT_SYSREF_TOL j →
     if err.natAbs ≤ b then exec (.sysrefEdge j (cyc, per)) s = .next s
     else Does (.sysrefEdge j (cyc, per)) s (fun t => fget t JPT_SYSREF_OUT_OF_PHASE j = 1 ∧
       fget t JPT_SYSREF_ODD j = min (fget s JPT_SYSREF_ODD j + 1) 255 ∧
       (-128 ≤ err → err ≤ 127 → fget t JPT_SYSREF_PHASE_ERR j = (err % 256).toNat) ∧
       OnlyFields [(JPT_SYSREF_OUT_OF_PHASE, j), (JPT_SYSREF_ODD, j), (JPT_SYSREF_PHASE_ERR, j)] s t ∧
       if smGet false s.jpt.oddSeen j then t.flt = s.flt
       else smGet false t.jpt.oddSeen j = true ∧ ∃ e : FaultEvt, t.flt.raised = s.flt.raised ++ [e] ∧ e.cls = clsC)) ∧
   (∀ (s : State) (j n : Nat), ((jState s (4 * j + n) = jOFF ∨ jState s (4 * j + n) = jFAILED) → txLanes s j n = .electricalIdle) ∧
     (jState s (4 * j + n) = jDATA → txLanes s j n = .samples) ∧
     (syncoHigh s j n = false ↔ fgetB s JPT_LINK_CFG_ENC (4 * j + n) = true ∧ (jState s (4 * j + n) = jCDR ∨ jState s (4 * j + n) = jBLOCK))))

/-- RX_SAMPLE_WORD (R176, R177, R180, R189): of four samples of a receive path in DATA, the fields that CI and CQ name, their
top N bits at the top of 16-bit parts, become the first words of an item on each of its two channels, real part low, a real
path's Q parts zero; a path that is not in DATA takes nothing; an error in a lane of a link that is not OFF counts.
TX_SAMPLE_READ (R178, R182, R186, R187): while squelched, and on a FAULTED link, the samples sent are zeros; else the item due
on the path's two channels gives four 16-bit sample pairs, real part low. -/
def Obligations.ConverterSamples : Prop :=
  ((∀ (s : State) (j p : Nat) (smp : List (List Nat)) (x : Nat → Nat × Nat) (w : Nat → Word) (part : Nat → Nat), j < 8 → p < 2 →
     fgetB s JPT_PATH_CFG_EN (4 * j + p) = true → jState s (pathLink s j p) = jDATA → smp.length = 4 →
     (∀ n : Nat, n < 4 → ∃ v ∈ smp[n]?, v[fget s JPT_PATH_CFG_CI (4 * j + p)]? = some (x n).1 ∧
       (fgetB s JPT_PATH_CFG_QEN (4 * j + p) = true → v[fget s JPT_PATH_CFG_CQ (4 * j + p)]? = some (x n).2)) →
     fget s JPT_LINK_CFG_N (pathLink s j p) ≤ fget s JPT_LINK_CFG_NP (pathLink s j p) + 1 →
     fget s JPT_LINK_CFG_NP (pathLink s j p) ≤ 15 →
     (∀ v : Nat, part v = v % 2 ^ (fget s JPT_LINK_CFG_NP (pathLink s j p) + 1) /
       2 ^ (fget s JPT_LINK_CFG_NP (pathLink s j p) + 1 - fget s JPT_LINK_CFG_N (pathLink s j p)) * 2 ^ (16 - fget s JPT_LINK_CFG_N (pathLink s j p))) →
     (∀ n : Nat, w n = BitVec.ofNat 64 (part (x n).1 + (if fgetB s JPT_PATH_CFG_QEN (4 * j + p) then part (x n).2 else 0) * 2 ^ 16 +
       part (x (n + 1)).1 * 2 ^ 32 + (if fgetB s JPT_PATH_CFG_QEN (4 * j + p) then part (x (n + 1)).2 else 0) * 2 ^ 48)) →
     0 < fget s JPT_PATH_CFG_ILENM1 (4 * j + p) → (jptPath s (4 * j + p)).cnt + 4 ≠ fget s JPT_PATH_CFG_SPT (4 * j + p) →
     (∀ k : Nat, k = 2 * p ∨ k = 2 * p + 1 → (jptCh s (4 * j + k)).wr = true ∧ (jptCh s (4 * j + k)).buf = [] ∧
       (jptCh s (4 * j + k)).ovr = false ∧ (jptCh s (4 * j + k)).pos = 0 ∧ (fifo s (convFifo j k)).wopen = none ∧
       (fifo s (convFifo j k)).skip = false ∧ (fifo s (convFifo j k)).disc = false ∧
       fifoWReady (fifo s (convFifo j k)) true (fget s JPT_PATH_CFG_ILENM1 (4 * j + p)) = true) →
     Does (.rxSampleWord j p smp 0 0) s (fun t => t.flt = s.flt ∧ (jptPath t (4 * j + p)).cnt = (jptPath s (4 * j + p)).cnt + 4 ∧
       (∀ k : Nat, k < 2 → (fifo t (convFifo j (2 * p + k))).wopen = some
         { prio := fget s JPT_PATH_CFG_PRIO (4 * j + p), poison := false, tag := s.time.tick % 256, decl := fget s JPT_PATH_CFG_ILENM1 (4 * j + p), words := [eccEnc (w (2 * k))] }) ∧
       ∀ k : Nat, k ≠ convFifo j (2 * p) → k ≠ convFifo j (2 * p + 1) → fifo t k = fifo s k)) ∧
   (∀ (s : State) (j p : Nat) (smp : List (List Nat)), j < 8 → p < 2 → jState s (pathLink s j p) ≠ jDATA →
     exec (.rxSampleWord j p smp 0 0) s = .next s) ∧
   (∀ (s : State) (j p l h c : Nat) (smp : List (List Nat)), j < 8 → p < 2 → jState s (pathLink s j p) ≠ jDATA → l < 8 →
     jState s (4 * j) ≠ jOFF → jState s (4 * j + 1) = jOFF → linkLanes s j 0 = [l] →
     Does (.rxSampleWord j p smp h c) s (fun t => t.fifo = s.fifo ∧ t.jpt = s.jpt ∧
       fget t JPT_LANE_ERR_HDR (8 * j + l) = (if h.testBit l then min (fget s JPT_LANE_ERR_HDR (8 * j + l) + 1) (2 ^ JPT_LANE_ERR_HDR.width - 1)
         else fget s JPT_LANE_ERR_HDR (8 * j + l)) ∧
       fget t JPT_LANE_ERR_CRC (8 * j + l) = (if c.testBit l then min (fget s JPT_LANE_ERR_CRC (8 * j + l) + 1) (2 ^ JPT_LANE_ERR_CRC.width - 1)
         else fget s JPT_LANE_ERR_CRC (8 * j + l)) ∧
       OnlyFields [(JPT_LANE_ERR_HDR, 8 * j + l), (JPT_LANE_ERR_CRC, 8 * j + l)] s t))) ∧
  ((∀ (s : State) (j p : Nat) (e0 e1 : Code), j < 8 → p < 2 → fgetB s JPT_PATH_CFG_EN (4 * j + (2 + p)) = true →
     jState s (pathLink s j (2 + p)) = jDATA → txSquelched s j (2 + p) = true →
     Does (.txSampleRead j p e0 e1) s (fun t => (jptPath t (4 * j + (2 + p))).out = [(0, 0), (0, 0), (0, 0), (0, 0)] ∧
       (jptPath t (4 * j + (2 + p))).cnt = (jptPath s (4 * j + (2 + p))).cnt + 4)) ∧
   (∀ (s : State) (j p : Nat) (e0 e1 : Code), j < 8 → p < 2 → fgetB s JPT_PATH_CFG_EN (4 * j + (2 + p)) = true →
     jState s (pathLink s j (2 + p)) = jFAULTED →
     Does (.txSampleRead j p e0 e1) s (fun t => (jptPath t (4 * j + (2 + p))).out = [(0, 0), (0, 0), (0, 0), (0, 0)] ∧
       t = { s with jpt := t.jpt })) ∧
   (∀ (s : State) (j p tg : Nat) (i : Nat → FItem) (r : Nat → List FItem) (c : Nat → Code) (l : Nat → List Code) (d : Nat → Word),
     j < 8 → p < 2 → fgetB s JPT_PATH_CFG_EN (4 * j + (2 + p)) = true → jState s (pathLink s j (2 + p)) = jDATA →
     txSquelched s j (2 + p) = false → fgetB s JPT_PATH_CFG_QEN (4 * j + (2 + p)) = true →
     fget s JPT_LINK_CFG_NP (pathLink s j (2 + p)) = 15 → fget s JPT_LINK_CFG_N (pathLink s j (2 + p)) = 16 →
     txDue s (4 * j + (2 + p)) = (tg, 0) → fgetB s FLT_INJ_ACTIVE (36 + j / 2) = false →
     (∀ k : Nat, k = 2 * p ∨ k = 2 * p + 1 → (fifo s (convFifo j (4 + k))).cur = none ∧
       (fifo s (convFifo j (4 + k))).r = i k :: r k ∧ (i k).words = c k :: l k ∧ (i k).poison = false ∧ (i k).tag = tg ∧
       fget s FIFO_MODE_ORDER (convFifo j (4 + k)) = 0 ∧ eccJudge (c k) = .clean (d k) ∧ (txCh s j k).pos = 0) →
     Does (.txSampleRead j p 0 0) s (fun t => t.flt = s.flt ∧ t.regs = s.regs ∧
       (jptPath t (4 * j + (2 + p))).out =
         [(wbits (d (2 * p)) 0 16, wbits (d (2 * p)) 16 16), (wbits (d (2 * p)) 32 16, wbits (d (2 * p)) 48 16),
          (wbits (d (2 * p + 1)) 0 16, wbits (d (2 * p + 1)) 16 16), (wbits (d (2 * p + 1)) 32 16, wbits (d (2 * p + 1)) 48 16)])) ∧
   (∀ (s : State) (j p : Nat) (e0 e1 : Code), j < 8 → p < 2 → jState s (pathLink s j (2 + p)) ≠ jDATA →
     jState s (pathLink s j (2 + p)) ≠ jFAULTED → exec (.txSampleRead j p e0 e1) s = .next s))

/-- ETH_PORT_ENABLE (R192), ETH_LINK_UP and ETH_LINK_DOWN (R194, R224): with a defined mode, an allowed first lane and
no other port enabled the port is enabled as written; with a reserved mode it is disabled and REFUSED sets; an enabled
port comes up when its link does and goes down with it, a frame in transmission dropping as FLUSHED. RX_FRAME (R193, R195, R197)
and TX_FRAME (R194, R199, R399): a good frame of a length between 64 and MAXLEN joins the port's receive buffer, an event
message with its time-stamp; one with an error or a wrong FCS, a short or a long one, and one that finds the buffer full is
counted and dropped, as is a pause frame uncounted; the control complex's frame leaves with its FCS; a port that is down does
nothing, and in SAFE and HALT none sends. SYNCE_OUT (R200) carries a clock only while its source port is enabled and UP. TOD_STEP_WRITE and TOD_READ
(R196) and TXTS_READ (R199): signed nanoseconds are added to the time of day; a read answers its seconds and latches the
rest; the oldest transmit stamp is read and removed. -/
def Obligations.ClientPorts : Prop :=
  ((∀ (s : State) (n v : Nat), n < 8 → nbits v 62 1 = 0 → modeLanes (nbits v 59 3) ≠ 0 → n % modeLanes (nbits v 59 3) = 0 →
     (∀ o : Nat, o < 8 → o ≠ n → fgetB s CPT_PORT_CFG_EN o = false) →
     Does (.ethPortEnable n v) s (fun t => fget t CPT_PORT_CFG_EN n = 1 ∧ fget t CPT_PORT_CFG_MODE n = nbits v 59 3 ∧
       fget t CPT_PORT_CFG_MAXLEN n = nbits v 32 14 ∧ fget t CPT_PORT_CFG_PTP_FLOW n = nbits v 0 14 ∧
       fget t CPT_PORT_CFG_REFUSED n = fget s CPT_PORT_CFG_REFUSED n ∧ t.cpt = s.cpt ∧ t.qm = s.qm ∧
       fget t CPT_PORT_CFG_UP n =
         if fgetB s CPT_PORT_CFG_EN n ∧ fget s CPT_PORT_CFG_MODE n = nbits v 59 3 then fget s CPT_PORT_CFG_UP n else 0)) ∧
   (∀ (s : State) (n v : Nat), n < 8 → nbits v 62 1 = 0 → 6 ≤ nbits v 59 3 →
     Does (.ethPortEnable n v) s (fun t => fget t CPT_PORT_CFG_EN n = 0 ∧ fget t CPT_PORT_CFG_REFUSED n = 1 ∧
       fget t CPT_PORT_CFG_UP n = 0)) ∧
   (∀ (s : State) (n : Nat), n < 8 → fgetB s CPT_PORT_CFG_EN n = true → fgetB s CPT_PORT_CFG_UP n = false →
     Does (.ethLinkUp n) s (fun t => fget t CPT_PORT_CFG_UP n = 1 ∧
       OnlyFields [(CPT_PORT_CFG_UP, n), (MBX_EVT_IDX_PI, 0), (MBX_EVT_CTL_LOST, 0)] s t ∧ t.cpt = s.cpt)) ∧
   (∀ (s : State) (n : Nat), n < 8 → fgetB s CPT_PORT_CFG_EN n = false → exec (.ethLinkUp n) s = .next s) ∧
   (∀ (s : State) (n : Nat), n < 8 → Does (.ethLinkDown n false) s (fun t => fget t CPT_PORT_CFG_UP n = 0 ∧
     OnlyFields [(CPT_PORT_CFG_UP, n), (MBX_EVT_IDX_PI, 0), (MBX_EVT_CTL_LOST, 0)] s t ∧ t.cpt = s.cpt ∧ t.qm = s.qm)) ∧
   (∀ (s : State) (n : Nat) (f : TxFrame) (r : List TxFrame), n < 8 → (cptPort s n).tx = f :: r →
     Does (.ethLinkDown n true) s (fun t => fget t CPT_PORT_CFG_UP n = 0 ∧ (cptPort t n).tx = r ∧
       ∀ k : Nat, f.flow = some k → smGet 0 (flow t k).dropF 7 = add64 (smGet 0 (flow s k).dropF 7) 1))) ∧
  ((∀ (s : State) (n fec : Nat) (l : List Byte) (e : Bool), n < 8 → fgetB s CPT_PORT_CFG_UP n = true →
     Does (.rxFrame n l e fec) s (fun t =>
       (fec ≠ 0 → fget t CPT_PORT_CNT_FEC_UNCORR n = min (fget s CPT_PORT_CNT_FEC_UNCORR n + fec) (2 ^ CPT_PORT_CNT_FEC_UNCORR.width - 1)) ∧
       if 65536 ≤ rxBytes (cptPort s n) ∨ 65536 < rxBytes (cptPort s n) + l.length then t.cpt = s.cpt ∧ t.qm = s.qm ∧
         OnlyFields [(CPT_PORT_CNT_FEC_UNCORR, n), (CPT_PORT_CNT_RX_OVF, n)] s t ∧
         fget t CPT_PORT_CNT_RX_OVF n = min (fget s CPT_PORT_CNT_RX_OVF n + 1) (2 ^ CPT_PORT_CNT_RX_OVF.width - 1)
       else if e = true ∨ fcsGood l = false then t.cpt = s.cpt ∧ t.qm = s.qm ∧
         OnlyFields [(CPT_PORT_CNT_FEC_UNCORR, n), (CPT_PORT_CNT_FCS_ERR, n)] s t ∧
         fget t CPT_PORT_CNT_FCS_ERR n = min (fget s CPT_PORT_CNT_FCS_ERR n + 1) (2 ^ CPT_PORT_CNT_FCS_ERR.width - 1)
       else if l.length < 64 ∨ fget s CPT_PORT_CFG_MAXLEN n < l.length then t.cpt = s.cpt ∧ t.qm = s.qm ∧
         OnlyFields [(CPT_PORT_CNT_FEC_UNCORR, n), (CPT_PORT_CNT_LEN_ERR, n)] s t ∧
         fget t CPT_PORT_CNT_LEN_ERR n = min (fget s CPT_PORT_CNT_LEN_ERR n + 1) (2 ^ CPT_PORT_CNT_LEN_ERR.width - 1)
       else if be16 l 12 = 0x8808 then t.cpt = s.cpt ∧ t.qm = s.qm ∧ OnlyFields [(CPT_PORT_CNT_FEC_UNCORR, n)] s t
       else fgetB s CPT_PORT_CFG_PTP_TRAP n = false →
         (cptPort t n).rx = (cptPort s n).rx ++ [⟨l, s.time.now, if (ptpOf l).any (fun m => m.evt) then some s.time.tod else none⟩] ∧
         (cptPort t n).tx = (cptPort s n).tx ∧ OnlyFields [(CPT_PORT_CNT_FEC_UNCORR, n)] s t ∧ t.qm = s.qm ∧
         ∀ o : Nat, o ≠ n → cptPort t o = cptPort s o)) ∧
   (∀ (s : State) (n : Nat) (f : TxFrame) (r : List TxFrame), n < 8 → portSends s n = true →
     (cptPort s n).ctl = f :: r → ptpOf f.data = none →
     Does (.txFrame n) s (fun t => t.bus.bytes = withFcs f.data ∧ (cptPort t n).ctl = r ∧ (cptPort t n).tx = (cptPort s n).tx ∧
       t.regs = s.regs ∧ t.qm = s.qm ∧ t.bur = s.bur)) ∧
   (∀ (s : State) (n : Nat) (f : TxFrame) (r : List TxFrame), n < 8 → portSends s n = true → (cptPort s n).ctl = [] →
     (cptPort s n).tx = f :: r → ptpOf f.data = none → (f.counted = true → tapFull s 1 = false) →
     Does (.txFrame n) s (fun t => t.bus.bytes = withFcs f.data ∧ (cptPort t n).tx = r ∧ t.regs = s.regs ∧ t.qm = s.qm ∧
       smGet [] t.bur.taps 1 = smGet [] s.bur.taps 1 ++ (if f.counted then [⟨f.tenant, f.data.length, s.time.tick⟩] else []))) ∧
   (∀ (s : State) (n fec : Nat) (l : List Byte) (e : Bool), n < 8 → fgetB s CPT_PORT_CFG_UP n = false →
     exec (.rxFrame n l e fec) s = .next s ∧ exec (.txFrame n) s = .next s) ∧
   (∀ (s : State) (n : Nat), n < 8 → fget s FLT_STATE_STATE 0 ≠ 0 → exec (.txFrame n) s = .next s) ∧
   (∀ (s : State) (k : Nat), (fgetB s CPT_SYNCE_EN k = false ∨ fgetB s CPT_PORT_CFG_UP (fget s CPT_SYNCE_PORT k) = false) →
     synceOut s k = none) ∧
   (∀ (s : State) (k : Nat), fgetB s CPT_SYNCE_EN k = true → fgetB s CPT_PORT_CFG_UP (fget s CPT_SYNCE_PORT k) = true →
     ∃ hz : Nat, synceOut s k = some (hz, fget s CPT_SYNCE_DIV k) ∧ 0 < hz)) ∧
  ((∀ (s : State) (v : Nat), v < 2 ^ 64 → Does (.todStepWrite v) s (fun t =>
     t = { s with time := { s.time with tod := t.time.tod } } ∧
     (t.time.tod : Int) = ((s.time.tod : Int) + (if v < 2 ^ 63 then (v : Int) else (v : Int) - 2 ^ 64) * 2 ^ 32) %
       (2 ^ 48 * 1000000000 * 2 ^ 32 : Int))) ∧
   (∀ s : State, Does .todRead s (fun t => t.bus.data = BitVec.ofNat 64 (s.time.tod / (1000000000 * 2 ^ 32) % 2 ^ 48) ∧
     t.bus.status = 0 ∧ fget t CPT_TOD_NS_NS 0 = s.time.tod / 2 ^ 32 % 1000000000 ∧
     fget t CPT_TOD_NS_FRAC 0 = s.time.tod / 2 ^ 16 % 65536 ∧ OnlyFields [(CPT_TOD_NS_NS, 0), (CPT_TOD_NS_FRAC, 0)] s t ∧
     t.time = s.time)) ∧
   (∀ (s : State) (n a q : Nat) (r : List (Nat × Nat)), n < 8 → (cptPort s n).stamps = (a, q) :: r →
     Does (.txtsRead n) s (fun t => (cptPort t n).stamps = r ∧ (cptPort t n).half = none ∧ t.bus.data = BitVec.ofNat 64 (2 ^ 63 + fget s CPT_TXTS_OVF n * 2 ^ 62 +
       a / 2 ^ 32 % 1000000000 * 2 ^ 32 + a / 2 ^ 16 % 65536 * 2 ^ 16 + q % 65536) ∧ OnlyFields [(CPT_TXTS_OVF, n)] s t ∧ fget t CPT_TXTS_OVF n = 0)) ∧
   (∀ (s : State) (n : Nat), n < 8 → (cptPort s n).stamps = [] →
     Does (.txtsRead n) s (fun t => (∀ k : Nat, cptPort t k = if k = n then { cptPort s n with half := none } else cptPort s k) ∧
       t.bus.data = BitVec.ofNat 64 (fget s CPT_TXTS_OVF n * 2 ^ 62 + ((cptPort s n).half).getD 0) ∧ fget t CPT_TXTS_OVF n = 0)))

/-- The commands of LEX_CMD on a table whose slots for the key are clean (R206, R208 to R210): SEARCH, INSERT, DELETE,
UPDATE, READ and READ_CLEAR_HIT. INSERT and DELETE change nothing but send a mirror record and wait. LEX_PORT_CFG_WRITE,
MIRROR_CONFIRM, MIRROR_TIMEOUT and BUREAU_MIRROR_RECORD (R210, R385, R386): a port write that changes the tenant waits
for the Bureau, others take effect at once; a confirmed DELETE clears its slot's VALID; after 1 ms without a
confirmation, or with the trail full, the operation ends with BUREAU_REFUSED and changes no entry. LEXICON_LOOKUP (R195, R206,
R207), LEX_PATROL (R211) and LEX_ROW_SPARE (R212): the frame that waits longest is looked up; one that hits an entry
with ACTION drop is counted against the entry's flow and the entry's HIT sets; with a full tap nothing is looked up.
Patrol moves on over a clean entry. A row that wants a spare, its entries clean, gets the table's next and keeps them. -/
def Obligations.Lexicon : Prop :=
  (∀ (s : State) (loc : Nat), loc < 524288 → fgetB s LEX_CMD_BUSY 0 = false → fgetB s FLT_INJ_ACTIVE 41 = false →
     (∀ l x : Nat, KeyAt s (entTK (lexStaged s)) l x →
       Does (.lexSearch loc []) s (fun t => fget t LEX_CMD_STATUS 0 = 0 ∧ fget t LEX_CMD_LOC 0 = l ∧ fget t LEX_CMD_BUSY 0 = 0 ∧
         OnlyRegs [(LEX_CMD_BUSY, 0), (LEX_CMD_STATUS, 0), (LEX_CMD_LOC, 0), (LEX_CMD_MOVES, 0)] s t) ∧
       (lexEntOk (lexStaged s) = true → Does (.lexInsert loc []) s (fun t => fget t LEX_CMD_STATUS 0 = 2 ∧ t.lex = s.lex)) ∧
       Does (.lexDelete loc []) s (fun t => OnlyFields [(LEX_CMD_BUSY, 0)] s t ∧ fget t LEX_CMD_BUSY 0 = 1 ∧
         ∃ m : Mirror, t.lex = { s.lex with mir := s.lex.mir ++ [m] } ∧ m.kind = 0 ∧ m.op = 3 ∧ m.old = entTen x ∧ m.new = 0 ∧
           m.since = s.time.now) ∧
       (lexEntOk (lexStaged s) = true → entTen (lexStaged s) = entTen x → Does (.lexUpdate loc []) s (fun t =>
         fget t LEX_CMD_STATUS 0 = 0 ∧ fget t LEX_CMD_LOC 0 = l ∧ t.lex.mir = s.lex.mir ∧ ∃ e : Nat, SlotHolds t l e ∧ EntryFor (entTK x) e ∧
           entFlow e = entFlow (lexStaged s) ∧ entTen e = entTen x ∧ entAct e = entAct (lexStaged s)))) ∧
     (KeyNowhere s (entTK (lexStaged s)) →
       Does (.lexSearch loc []) s (fun t => fget t LEX_CMD_STATUS 0 = 1 ∧ t.lex = s.lex) ∧
       Does (.lexDelete loc []) s (fun t => fget t LEX_CMD_STATUS 0 = 1 ∧ t.lex = s.lex) ∧
       (lexEntOk (lexStaged s) = true → (∃ m ∈ lexSlots (entTK (lexStaged s)), ∃ x : Nat, SlotHolds s m x ∧ entV x = false) →
         Does (.lexInsert loc []) s (fun t => fget t LEX_CMD_BUSY 0 = 1 ∧
           ∃ m : Mirror, t.lex = { s.lex with mir := s.lex.mir ++ [m] } ∧ m.kind = 0 ∧ m.op = 2 ∧ m.old = 0 ∧ m.new = entTen (lexStaged s)))) ∧
     (∀ e : Nat, SlotHolds s loc e →
       Does (.lexRead loc []) s (fun t => fget t LEX_DATA_LO_DATA 0 = e % 2 ^ 64 ∧ fget t LEX_DATA_HI_DATA 0 = e / 2 ^ 64 ∧
         fget t LEX_CMD_STATUS 0 = 0 ∧ t.lex = s.lex) ∧
       (entV e = true → Does (.lexReadClearHit loc []) s (fun t => fget t LEX_DATA_LO_DATA 0 = e % 2 ^ 64 ∧
         fget t LEX_DATA_HI_DATA 0 = e / 2 ^ 64 ∧ ∃ x : Nat, SlotHolds t loc x ∧ nbits x 124 1 = 0 ∧ entTK x = entTK e ∧ entV x = true ∧
           entFlow x = entFlow e ∧ entTen x = entTen e ∧ entAct x = entAct e)))) ∧
  ((∀ (s : State) (i v : Nat), i < 24 → nbits v 34 12 = fget s LEX_PORT_CFG_DTENANT i →
     Does (.lexPortCfgWrite i v) s (fun t => t.lex = { s.lex with portEnd := 0 } ∧ fget t LEX_PORT_CFG_KTYPE i = nbits v 62 2 ∧
       fget t LEX_PORT_CFG_DACT i = nbits v 60 2 ∧ fget t LEX_PORT_CFG_DFLOW i = nbits v 46 14 ∧
       fget t LEX_PORT_CFG_DTENANT i = fget s LEX_PORT_CFG_DTENANT i ∧
       OnlyFields [(LEX_PORT_CFG_KTYPE, i), (LEX_PORT_CFG_DACT, i), (LEX_PORT_CFG_DFLOW, i), (LEX_PORT_CFG_DTENANT, i)] s t)) ∧
   (∀ (s : State) (i v : Nat), i < 25 → nbits v 34 12 ≠ fget s LEX_PORT_CFG_DTENANT i →
     Does (.lexPortCfgWrite i v) s (fun t => t.regs = s.regs ∧ ∃ m : Mirror, t.lex = { s.lex with mir := s.lex.mir ++ [m] } ∧ m.kind = 1 ∧
       m.ix = i ∧ m.old = fget s LEX_PORT_CFG_DTENANT i ∧ m.new = nbits v 34 12)) ∧
   (∀ (s : State) (m : Mirror) (r : List Mirror) (l x : Nat), s.lex.mir = m :: r → m.st = 1 → m.kind = 0 → m.op = 3 →
     s.time.now ≤ m.since + Config.aclkKHz → KeyAt s (entTK m.val) l x → fgetB s FLT_INJ_ACTIVE 41 = false →
     Does .mirrorConfirm s (fun t => t.lex.mir = r ∧ (∃ y : Nat, SlotHolds t l y ∧ entV y = false ∧ entTK y = entTK x) ∧ fget t LEX_CMD_STATUS 0 = 0 ∧ fget t LEX_CMD_BUSY 0 = 0 ∧
       fget t LEX_CMD_LOC 0 = l)) ∧
   (∀ (s : State) (m : Mirror) (r : List Mirror) (c : Instr), s.lex.mir = m :: r → m.kind = 0 → m.since + Config.aclkKHz < s.time.now →
     (c = .mirrorTimeout ∨ c = .mirrorConfirm ∧ m.st = 1) →
     Does c s (fun t => t.lex = { s.lex with mir := r } ∧ fget t LEX_CMD_STATUS 0 = 4 ∧ fget t LEX_CMD_BUSY 0 = 0 ∧
       fget t LEX_CMD_LOC 0 = fget s LEX_CMD_LOC 0 % 2 ^ LEX_CMD_LOC.width)) ∧
   (∀ (s : State) (m : Mirror) (r : List Mirror), s.lex.mir = m :: r → s.time.now ≤ m.since + Config.aclkKHz →
     exec .mirrorTimeout s = .next s) ∧
   (∀ s : State, s.lex.mir = [] → exec .mirrorConfirm s = .next s ∧ exec .mirrorTimeout s = .next s ∧ exec .bureauMirrorRecord s = .next s) ∧
   (∀ (s : State) (m : Mirror) (r : List Mirror), s.lex.mir = m :: r → m.st = 0 → m.kind = 0 → audUsed s < 65472 → s.bur.nextIdx ≤ 0xFFFFFF00 →
     Does .bureauMirrorRecord s (fun t => t.lex.mir = { m with st := 1 } :: r ∧
       ∃ a : Aud, t.bur.trail = s.bur.trail ++ [a] ∧ a.ty = 1 ∧ a.idx = s.bur.nextIdx)) ∧
   (∀ (s : State) (m : Mirror) (r : List Mirror), s.lex.mir = m :: r → m.st = 0 → m.kind = 0 →
     (65472 ≤ audUsed s ∨ 0xFFFFFF00 < s.bur.nextIdx) →
     Does .bureauMirrorRecord s (fun t => t.lex = { s.lex with mir := r } ∧ t.bur = s.bur ∧ fget t LEX_CMD_STATUS 0 = 4 ∧
       fget t LEX_CMD_BUSY 0 = 0))) ∧
  ((∀ (s : State) (i tk l e : Nat) (f : RxFrame) (r : List RxFrame), srcPick s = some i → i < 8 → qmCan s = true →
     (cptPort s i).rx = f :: r → lexKey (portType s i) i f.data 0 0 = some tk → KeyAt s tk l e → entAct e = 0 →
     fgetB s FLT_INJ_ACTIVE 41 = false →
     Does (.lexiconLookup []) s (fun t => (cptPort t i).rx = r ∧ t.regs = s.regs ∧ t.lex.ptr = (i + 1) % 12 ∧
       smGet 0 (flow t (entFlow e)).dropF 2 = add64 (smGet 0 (flow s (entFlow e)).dropF 2) 1 ∧
       (flow t (entFlow e)).dropB = add64 (flow s (entFlow e)).dropB f.data.length ∧ (flow t (entFlow e)).q = (flow s (entFlow e)).q ∧
       ∃ x : Nat, SlotHolds t l x ∧ nbits x 124 1 = 1 ∧ EntryFor tk x ∧ entFlow x = entFlow e ∧ entTen x = entTen e)) ∧
   (∀ s : State, qmCan s = false → exec (.lexiconLookup []) s = .next s) ∧
   (∀ (s : State) (e : Nat), s.lex.pat < 524288 → s.lex.pat % 64 ≠ 63 → SlotHolds s s.lex.pat e → fgetB s FLT_INJ_ACTIVE 41 = false →
     Does (.lexPatrol []) s (fun t => t = { s with lex := { s.lex with pat := (s.lex.pat + 1) % 524288 } })) ∧
   (∀ (s : State) (row : Nat) (r : List Nat) (e : Nat → Nat), s.lex.want = row :: r → row ∉ r → smGet 0 s.lex.used (row / 4096) < 41 →
     fgetB s FLT_INJ_ACTIVE 41 = false → (∀ i : Nat, i < 64 → SlotHolds s (row * 64 + i) (e i)) →
     Does .lexRowSpare s (fun t => t.lex.want = r ∧ (∀ i : Nat, i < 64 → SlotHolds t (row * 64 + i) (e i)) ∧ smGet 0 t.lex.map row = smGet 0 s.lex.used (row / 4096) + 1 ∧
       smGet 0 t.lex.used (row / 4096) = smGet 0 s.lex.used (row / 4096) + 1 ∧ t.flt = s.flt ∧ OnlyFields [(LEX_ERR_SPARE_USED, 0)] s t)) ∧
   (∀ (s : State) (row : Nat) (r : List Nat), s.lex.want = row :: r → row ∉ r → 41 ≤ smGet 0 s.lex.used (row / 4096) →
     Does .lexRowSpare s (fun t => t.lex.want = r ∧ t.lex.map = s.lex.map ∧ t.regs = s.regs ∧
       ∃ e : FaultEvt, t.flt.raised = s.flt.raised ++ [e] ∧ e.cls = clsU ∧ e.src = 41 ∧ e.addr = row)) ∧
   (∀ s : State, s.lex.want = [] → exec .lexRowSpare s = .next s))

/-- SEGMENT_ARRIVAL (R201 to R203, R214): a segment that is a whole frame of a radio link makes one frame that waits for its
lookup, in cells drawn from the pool, or without a place where the pool has too few; while a tap is full nothing is taken.
BUDGET_WORD (R218, R219) and BUDGET_DEADLINE (R220): a budget word of one of the port's links for the next tick before the
deadline is the link's candidate, at most MAXB; any other counts as LATE; at the deadline an enabled link's candidate is its
budget, and without one MISS counts. CLIENT_SELECTION (R215 to R217) with one flow for the port whose turn it is: its
head frame, read back from its cells, goes whole to the port's transmit buffer, its cells return to the pool, and its length
leaves the committed bucket and the deficit. For a port that is down, and in SAFE and HALT, frames wait, but for those older
than MAXAGE, which drop. QMG_POOL_WRITE (R214), BUDGET_DL_WRITE and QMG_LINK_ENABLE (R220). -/
def Obligations.QueuesAndSegments : Prop :=
  ((∀ (s : State) (k d : Nat) (h : InWord) (ws r : List InWord), k < 4 → d < 4 → qmCan s = true →
     inlet s (8 * k + d) = h :: (ws ++ r) → h.st = true → h.pois = false → (∀ x ∈ ws, x.pois = false ∧ x.dev = h.dev) →
     nbits h.w.toNat 36 14 = 0 → nbits h.w.toNat 21 1 = 1 → nbits h.w.toNat 20 1 = 0 →
     nbits h.w.toNat 50 14 = nbits h.w.toNat 22 14 → ws.length = (nbits h.w.toNat 22 14 + 7) / 8 →
     (qLink s (4 * k + d)).build = [] →
     Does (.segmentArrival k d) s (fun t => t.qm.flows = s.qm.flows ∧
       inlet t (8 * k + d) = r.filter (fun x => x.dev = h.dev) ++ r.filter (fun x => x.dev ≠ h.dev) ∧
       ∃ c : List Nat, (qLink t (4 * k + d)).build = [{ flen := nbits h.w.toNat 50 14, done := true, port := 8 + (4 * k + d), sdev := h.dev, rflow := nbits h.w.toNat 0 14, since := s.time.now, data := (ws.flatMap (fun x => leBytes 8 x.w.toNat)).take (nbits h.w.toNat 22 14), cells := c, lost := fget s QMG_POOL_FREE 0 < frameCells (nbits h.w.toNat 22 14) }] ∧
         if fget s QMG_POOL_FREE 0 < frameCells (nbits h.w.toNat 22 14) then c = [] ∧ t.regs = s.regs
         else c.length = frameCells (nbits h.w.toNat 22 14) ∧ OnlyFields [(QMG_POOL_FREE, 0)] s t ∧
           fget t QMG_POOL_FREE 0 = (fget s QMG_POOL_FREE 0 - frameCells (nbits h.w.toNat 22 14)) % 2 ^ QMG_POOL_FREE.width)) ∧
   (∀ (s : State) (k d : Nat), k < 4 → d < 4 → qmCan s = false → exec (.segmentArrival k d) s = .next s) ∧
   (∀ (s : State) (k : Nat) (x : InWord) (r : List InWord), k < 4 → inlet s (8 * k + 7) = x :: r → x.pois = false →
     nbits x.w.toNat 56 8 = (s.time.tick + 1) % 256 → cycOfs s < fget s QMG_CFG_BUDGET_DL 0 →
     (qLink s (nbits x.w.toNat 52 4)).fixed = false → nbits x.w.toNat 52 4 / 4 = k →
     Does (.budgetWord k) s (fun t => t.regs = s.regs ∧ inlet t (8 * k + 7) = r ∧ (qLink t (nbits x.w.toNat 52 4)).cand =
       some (min (nbits x.w.toNat 0 24) (fget s QMG_LINK_CFG_MAXB (nbits x.w.toNat 52 4))))) ∧
   (∀ (s : State) (k : Nat) (x : InWord) (r : List InWord), k < 4 → inlet s (8 * k + 7) = x :: r →
     (x.pois = true ∨ nbits x.w.toNat 56 8 ≠ (s.time.tick + 1) % 256 ∨ fget s QMG_CFG_BUDGET_DL 0 ≤ cycOfs s ∨
       (qLink s (nbits x.w.toNat 52 4)).fixed = true ∨ nbits x.w.toNat 52 4 / 4 ≠ k) →
     Does (.budgetWord k) s (fun t => OnlyFields [(QMG_LINK_STAT_LATE, nbits x.w.toNat 52 4)] s t ∧ t.qm.links = s.qm.links ∧
       inlet t (8 * k + 7) = r ∧ fget t QMG_LINK_STAT_LATE (nbits x.w.toNat 52 4) =
         min (fget s QMG_LINK_STAT_LATE (nbits x.w.toNat 52 4) + 1) (2 ^ QMG_LINK_STAT_LATE.width - 1))) ∧
   (∀ (s : State) (ue : List Nat), (s.qm.flows = [] ∨ ∀ l : Nat, l < 16 → (qLink s l).cand = none) →
     Does (.budgetDeadline ue) s (fun t => t.qm.flows = s.qm.flows ∧ s.time.tickStart + fget s QMG_CFG_BUDGET_DL 0 ≤ t.time.now ∧
       ∀ l : Nat, l < 16 → if (qLink s l).fixed = true then qLink t l = qLink s l ∧ fget t QMG_LINK_STAT_MISS l = fget s QMG_LINK_STAT_MISS l
         else if fgetB s QMG_LINK_CFG_EN l = false then
           qLink t l = { qLink s l with cand := none } ∧ fget t QMG_LINK_STAT_MISS l = fget s QMG_LINK_STAT_MISS l
         else (qLink t l).fixed = true ∧ (qLink t l).nextBudget = (qLink s l).cand.getD 0 ∧ (qLink t l).hadBudget = (qLink s l).cand.isSome ∧
           fget t QMG_LINK_STAT_MISS l = (if (qLink s l).cand = none then
             min (fget s QMG_LINK_STAT_MISS l + 1) (2 ^ QMG_LINK_STAT_MISS.width - 1) else fget s QMG_LINK_STAT_MISS l)))) ∧
  ((∀ (s : State) (n f : Nat) (x : Flow) (h : QFrame) (r : List QFrame), n < 8 → portSends s n = true →
     s.qm.flows = [(f, x)] → x.en = true → x.faulted = false → x.dtype = 1 → x.did = n → x.cls < 8 → x.q = h :: r →
     256 * h.data.length ≤ x.cB → h.data.length ≤ x.deficit → smGet 0 s.qm.turn (turnKey ⟨1, n⟩ x.cls 0) = f + 1 →
     x.maxage = 0 → tapFull s 2 = false → frameRead s h.cells 16 h.data.length = (s, ⟨h.data, false⟩) →
     Does (.clientSelection false n []) s (fun t =>
       (cptPort t n).tx = (cptPort s n).tx ++ [⟨h.data, some f, h.tenant, h.counted⟩] ∧ (flow t f).q = r ∧
       (flow t f).cB = x.cB - 256 * h.data.length ∧ (flow t f).deficit = x.deficit - h.data.length ∧ (flow t f).eB = x.eB ∧
       (flow t f).deqF = add64 x.deqF 1 ∧ (flow t f).deqB = add64 x.deqB h.data.length ∧ OnlyFields [(QMG_POOL_FREE, 0)] s t ∧
       fget t QMG_POOL_FREE 0 = (fget s QMG_POOL_FREE 0 + frameCells h.data.length) % 2 ^ QMG_POOL_FREE.width)) ∧
   (∀ (s : State) (n : Nat) (ue : List Nat), n < 8 → portSends s n = false → (∀ f : Nat, aged s (flow s f) = false) →
     exec (.clientSelection false n ue) s = .next s) ∧
   (∀ (s : State) (n f : Nat) (x : Flow) (h : QFrame) (ue : List Nat), n < 8 → portSends s n = false → s.qm.flows = [(f, x)] →
     flowFor ⟨1, n⟩ x = true → x.q = [h] → aged s x = true → tapFull s 2 = false →
     Does (.clientSelection false n ue) s (fun t => (flow t f).q = [] ∧ smGet 0 (flow t f).dropF 6 = add64 (smGet 0 x.dropF 6) 1 ∧
       (flow t f).dropB = add64 x.dropB h.data.length ∧ t.cpt = s.cpt)) ∧
   (∀ (s : State) (n : Nat) (ue : List Nat), n < 1024 → s.qm.flows = [] → exec (.clientSelection true n ue) s = .next s) ∧
   (∀ (s : State) (v : Nat), anyFlow s = false → poolOk s (fget s QMG_POOL_BASE_BASE 0 * 2 ^ 20) (v % 2 ^ 26) = true →
     Does (.qmgPoolWrite false v) s (fun t => OnlyRegs [(QMG_POOL_CELLS, 0), (QMG_POOL_FREE, 0)] s t ∧
       fget t QMG_POOL_CELLS 0 = v % 2 ^ 26 ∧ fget t QMG_POOL_FREE 0 = v % 2 ^ 26 - (poolHeld s).length)) ∧
   (∀ (s : State) (v : Nat), anyFlow s = false → poolOk s (v % 2 ^ 44 * 2 ^ 20) (fget s QMG_POOL_CELLS 0) = true →
     Does (.qmgPoolWrite true v) s (fun t => OnlyRegs [(QMG_POOL_BASE_BASE, 0)] s t ∧ fget t QMG_POOL_BASE_BASE 0 = v % 2 ^ QMG_POOL_BASE_BASE.width)) ∧
   (∀ (s : State) (b : Bool) (v : Nat), (anyFlow s = true ∨ poolOk s ((if b then v % 2 ^ 44 else fget s QMG_POOL_BASE_BASE 0) * 2 ^ 20)
       (if b then fget s QMG_POOL_CELLS 0 else v % 2 ^ 26) = false) →
     Does (.qmgPoolWrite b v) s (fun t => OnlyRegs [(QMG_CFG_REFUSED, 0)] s t ∧ fget t QMG_CFG_REFUSED 0 = 1)) ∧
   (∀ (s : State) (v : Nat), Does (.budgetDlWrite v) s (fun t =>
     if 100 ≤ v % 2 ^ 20 ∧ v % 2 ^ 20 + 600 ≤ tickLen s then OnlyRegs [(QMG_CFG_BUDGET_DL, 0)] s t ∧ fget t QMG_CFG_BUDGET_DL 0 = v % 2 ^ 20
     else OnlyRegs [(QMG_CFG_REFUSED, 0)] s t ∧ fget t QMG_CFG_REFUSED 0 = 1)) ∧
   (∀ (s : State) (l m : Nat) (en : Bool), l < 16 → (en = false ∨ fget s QMG_CFG_BUDGET_DL 0 + 600 ≤ tickLen s) →
     Does (.qmgLinkEnable l en m) s (fun t => OnlyRegs [(QMG_LINK_CFG_EN, l), (QMG_LINK_CFG_MAXB, l)] s t ∧
       fget t QMG_LINK_CFG_EN l = (if en then 1 else 0) ∧ fget t QMG_LINK_CFG_MAXB l = m % 2 ^ 24)) ∧
   (∀ (s : State) (l m : Nat), l < 16 → tickLen s < fget s QMG_CFG_BUDGET_DL 0 + 600 →
     Does (.qmgLinkEnable l true m) s (fun t => OnlyRegs [(QMG_LINK_CFG_REFUSED, l), (QMG_LINK_CFG_MAXB, l)] s t ∧
       fget t QMG_LINK_CFG_REFUSED l = 1 ∧ fget t QMG_LINK_CFG_EN l = fget s QMG_LINK_CFG_EN l)))

/-- GDDR_LINE_WRITE, GDDR_LINE_READ, GDDR_PARTIAL_WRITE and GDDR_PATROL (R230 to R232, R236, R239, R240): with all devices in
service a line write stores each word with its code and the parity of the four pieces; a clean line reads as stored; a
line with one piece uncorrectable, or one device failed, reads as the exclusive-or of the other four; a write of part of a
line merges its bytes and renews the parity; no other line changes; a line beyond usable memory is answered with an error;
patrol goes on over a good line and poisons one whose parity does not match. GDM_FAIL_WRITE, GDM_REBUILD_WRITE,
GDDR_REBUILD_DONE, GDDR_ROW_SPARE and GDDR7_TRAINING (R227, R228, R235 to R238, R294): the first failed device
leaves the array DEGRADED with a U-class record, a second one loses data with an F-class record; a row takes a spare that
none has used, and a full bank is recorded once. -/
def Obligations.Memory : Prop :=
  ((∀ (s : State) (line : Nat) (ws : List (Word × Bool)), line < usableLines s → ws.length = 16 →
     gFailed s = none → fgetB s GDM_STAT_REBUILD 0 = false →
     Does (.gddrLineWrite line ws []) s (fun t => t.flt = s.flt ∧ t.regs = s.regs ∧
       (∀ d w : Nat, d < 4 → w < 4 → gCode t line d w = gEnc (ws.getD (4 * d + w) (0, false))) ∧
       (∀ w : Nat, w < 4 → gCode t line 4 w = eccEnc ((ws.getD w (0, false)).1 ^^^ (ws.getD (4 + w) (0, false)).1 ^^^
         (ws.getD (8 + w) (0, false)).1 ^^^ (ws.getD (12 + w) (0, false)).1)) ∧
       (∀ m d w : Nat, m ≠ line → d < 5 → w < 4 → gCode t m d w = gCode s m d w))) ∧
   (∀ (s : State) (line : Nat) (x : Nat → Nat → Word), line < usableLines s → gFailed s = none →
     fgetB s FLT_INJ_ACTIVE 44 = false → (∀ d w : Nat, d < 4 → w < 4 → eccJudge (gCode s line d w) = .clean (x d w)) →
     Does (.gddrLineRead line [] []) s (fun t => t.flt = s.flt ∧ t.gdr = s.gdr ∧ t.regs = s.regs ∧ t.bus.status = 0 ∧
       t.bus.bytes = [0, 1, 2, 3].flatMap (fun d => [0, 1, 2, 3].flatMap (fun w => leBytes 8 (x d w).toNat)))) ∧
   (∀ (s : State) (line b : Nat) (x : Nat → Nat → Word), line < usableLines s → b < 4 → gFailed s = none →
     fgetB s FLT_INJ_ACTIVE 44 = false → (∀ w : Nat, w < 4 → eccJudge (gCode s line b w) = .bad) →
     (∀ d w : Nat, d < 5 → w < 4 → d ≠ b → eccJudge (gCode s line d w) = .clean (x d w)) →
     Does (.gddrLineRead line [] []) s (fun t => t.bus.status = 0 ∧
       fget t GDM_ERR_RECON 0 = min (fget s GDM_ERR_RECON 0 + 1) (2 ^ GDM_ERR_RECON.width - 1) ∧
       t.bus.bytes = [0, 1, 2, 3].flatMap (fun d => [0, 1, 2, 3].flatMap (fun w =>
         leBytes 8 (if d = b then ([0, 1, 2, 3, 4].filter (fun e => e != b)).foldl (fun a e => a ^^^ x e w) 0 else x d w).toNat)))) ∧
   (∀ (s : State) (line b : Nat) (x : Nat → Nat → Word), line < usableLines s → b < 4 → gFailed s = some b →
     fgetB s FLT_INJ_ACTIVE 44 = false → (∀ w : Nat, w < 4 → eccJudge (gCode s line b w) ≠ .poison) →
     (∀ d w : Nat, d < 5 → w < 4 → d ≠ b → eccJudge (gCode s line d w) = .clean (x d w)) →
     Does (.gddrLineRead line [] []) s (fun t => t.bus.status = 0 ∧ t.flt = s.flt ∧ t.gdr = s.gdr ∧
       t.bus.bytes = [0, 1, 2, 3].flatMap (fun d => [0, 1, 2, 3].flatMap (fun w =>
         leBytes 8 (if d = b then ([0, 1, 2, 3, 4].filter (fun e => e != b)).foldl (fun a e => a ^^^ x e w) 0 else x d w).toNat)))) ∧
   (∀ (s : State) (line off : Nat) (b : List Byte) (x : Nat → Nat → Word) (n : List Byte), line < usableLines s →
     off + b.length ≤ 128 → gFailed s = none → fgetB s GDM_STAT_REBUILD 0 = false → fgetB s FLT_INJ_ACTIVE 44 = false →
     (∀ d w : Nat, d < 4 → w < 4 → eccJudge (gCode s line d w) = .clean (x d w)) →
     (∀ i : Nat, n[i]? = if i < off ∨ off + b.length ≤ i then
       ([0, 1, 2, 3].flatMap (fun d => [0, 1, 2, 3].flatMap (fun w => leBytes 8 (x d w).toNat)))[i]? else b[i - off]?) →
     Does (.gddrPartialWrite line off b false [] []) s (fun t => t.flt = s.flt ∧ t.regs = s.regs ∧
       (∀ d w : Nat, d < 4 → w < 4 → eccJudge (gCode t line d w) = .clean (BitVec.ofNat 64 (leNat ((n.drop (32 * d + 8 * w)).take 8)))) ∧
       (∀ w : Nat, w < 4 → eccJudge (gCode t line 4 w) =
         .clean (eccData (gCode t line 0 w) ^^^ eccData (gCode t line 1 w) ^^^ eccData (gCode t line 2 w) ^^^ eccData (gCode t line 3 w))) ∧
       (∀ d w : Nat, d < 4 → w < 4 → (off + b.length ≤ 32 * d ∨ 32 * d + 32 ≤ off) → gCode t line d w = gCode s line d w) ∧
       (∀ m e v : Nat, m ≠ line → e < 5 → v < 4 → gCode t m e v = gCode s m e v))) ∧
   (∀ (s : State) (line off : Nat) (ws : List (Word × Bool)) (b : List Byte) (p : Bool), usableLines s ≤ line → ws.length = 16 →
     off + b.length ≤ 128 → ∀ c ∈ [Instr.gddrLineRead line [] [], .gddrLineWrite line ws [], .gddrPartialWrite line off b p [] []],
       exec c s = .next { s with bus := { s.bus with status := 1 } }) ∧
   (∀ (s : State) (x : Nat → Nat → Word), usableLines s ≠ 0 → gFailed s = none → fgetB s FLT_INJ_ACTIVE 44 = false →
     (∀ d w : Nat, d < 5 → w < 4 → eccJudge (gCode s (s.gdr.pat % usableLines s) d w) = .clean (x d w)) →
     Does (.gddrPatrol [] []) s (fun t => t.gdr.pat = (s.gdr.pat % usableLines s + 1) % usableLines s ∧
       if ∀ w : Nat, w < 4 → x 0 w ^^^ x 1 w ^^^ x 2 w ^^^ x 3 w = x 4 w then t.flt = s.flt ∧ t.gdr.mem = s.gdr.mem
       else (∀ d w : Nat, d < 4 → w < 4 → gCode t (s.gdr.pat % usableLines s) d w = eccPoison (x d w)) ∧
         ∃ e : FaultEvt, t.flt.raised = s.flt.raised ++ [e] ∧ e.cls = clsU ∧ e.src = 44 ∧ e.addr = s.gdr.pat % usableLines s))) ∧
  ((∀ (s : State) (d : Nat), d % 8 < 5 → gFailed s = none → Does (.gdmFailWrite d) s (fun t => fget t GDM_STAT_DEGRADED 0 = 1 ∧
     fget t GDM_STAT_FAILED_DEV 0 = d % 8 ∧ fget t GDM_STAT_LOST 0 = fget s GDM_STAT_LOST 0 ∧ t.gdr.mem = s.gdr.mem ∧
     ∃ e : FaultEvt, t.flt.raised = s.flt.raised ++ [e] ∧ e.cls = clsU ∧ e.src = 44)) ∧
   (∀ (s : State) (d f : Nat), d % 8 < 5 → gFailed s = some f → f ≠ d % 8 → Does (.gdmFailWrite d) s (fun t =>
     fget t GDM_STAT_LOST 0 = 1 ∧ fget t GDM_STAT_FAILED_DEV 0 = f ∧ t.gdr.mem = s.gdr.mem ∧
     ∃ e : FaultEvt, t.flt.raised = s.flt.raised ++ [e] ∧ e.cls = clsF ∧ e.src = 44)) ∧
   (∀ (s : State) (d : Nat), 5 ≤ d % 8 → Does (.gdmFailWrite d) s (fun t =>
     OnlyRegs [(GDM_CTL_DEV, 0), (GDM_CTL_REFUSED, 0)] s t ∧ fget t GDM_CTL_REFUSED 0 = 1)) ∧
   (∀ s : State, fgetB s GDM_STAT_DEGRADED 0 = true → s.gdr.retrained = true → fgetB s GDM_STAT_LOST 0 = false →
     fgetB s GDM_STAT_REBUILD 0 = false → Does .gdmRebuildWrite s (fun t => fget t GDM_STAT_REBUILD 0 = 1 ∧
       fget t GDM_CTL_REFUSED 0 = fget s GDM_CTL_REFUSED 0 ∧ t.gdr.mem = s.gdr.mem)) ∧
   (∀ s : State, (s.gdr.retrained = false ∨ fgetB s GDM_STAT_DEGRADED 0 = false ∨ fgetB s GDM_STAT_LOST 0 = true) →
     Does .gdmRebuildWrite s (fun t => OnlyRegs [(GDM_CTL_REFUSED, 0)] s t ∧ fget t GDM_CTL_REFUSED 0 = 1)) ∧
   (∀ (s : State) (d : Nat), gFailed s = some d → fgetB s GDM_STAT_REBUILD 0 = true → fgetB s GDM_STAT_LOST 0 = false →
     Does .gddrRebuildDone s (fun t => fget t GDM_STAT_REBUILD 0 = 0 ∧ fget t GDM_STAT_DEGRADED 0 = 0 ∧
       fget t GDM_STAT_FAILED_DEV 0 = 7 ∧ gFailed t = none ∧ t.gdr.fresh = [] ∧ t.gdr.retrained = false)) ∧
   (∀ (s : State) (d b r k : Nat) (l : List (Nat × Nat × Nat)), s.gdr.want = (d, b, r) :: l → gNextSpare s d b = some k →
     Does .gddrRowSpare s (fun t => t.gdr.want = l ∧ t.flt = s.flt ∧ (b, r, k) ∈ smGet [] t.gdr.spare d ∧ k < 64 ∧
       (∀ e ∈ smGet [] s.gdr.spare d, e.1 = b → e.2.2 ≠ k) ∧ (d, b, k) ∉ s.gdr.dead ∧
       ∀ e ∈ smGet [] s.gdr.spare d, e.1 = b → e.2.1 = r → (d, b, e.2.2) ∈ t.gdr.dead)) ∧
   (∀ (s : State) (d b r : Nat) (l : List (Nat × Nat × Nat)), s.gdr.want = (d, b, r) :: l → gNextSpare s d b = none →
     Does .gddrRowSpare s (fun t => t.gdr.want = l ∧ t.gdr.spare = s.gdr.spare ∧ t.gdr.mem = s.gdr.mem ∧ t.regs = s.regs ∧
       if (d, b) ∈ s.gdr.full then t.flt = s.flt
       else (d, b) ∈ t.gdr.full ∧ ∃ e : FaultEvt, t.flt.raised = s.flt.raised ++ [e] ∧ e.cls = clsU)) ∧
   (∀ s : State, s.gdr.want = [] → exec .gddrRowSpare s = .next s) ∧
   (∀ s : State, s.boot.fw = true → Does (.gddr7Training []) s (fun t =>
     fget t GDM_STAT_TRAINED 0 = 1 ∧ fget t GDM_STAT_USABLE 0 = usableMiB (fget s GDM_CFG_DENS 0) ∧
     (fget s GDM_CFG_DENS 0 < 3 → fget t CFG_STAGE_BASE 0 = 0x1000000000 + (usableMiB (fget s GDM_CFG_DENS 0) - 128) * 2 ^ 20) ∧
     t.flt = s.flt ∧ t.gdr.mem = s.gdr.mem)) ∧
   (∀ (s : State) (l : List Nat), s.boot.fw = false → exec (.gddr7Training l) s = .next s))

/-- DMA_DESC_FETCH, DMA_DESC_COMPLETE and DMA_ABORT (R241 to R246): an enabled channel fetches the descriptor at CI, from host
memory or control SRAM; a word from host memory crosses the channel's FIFO to control SRAM and the descriptor is written back
DONE; a descriptor that R241 and R242 do not allow halts the channel with its own status; a descriptor waits while an item
stands in the FIFO; an abort halts the channel with ABORTED and empties its FIFO. -/
def Obligations.DmaChannels : Prop :=
  (∀ (s : State) (c : Nat) (h : List Word), c < 16 → fgetB s DMA_CH_CFG_EN c = true → fgetB s DMA_CH_STAT_HALT c = false →
    (dmaCh s c).ahead = [] → fget s DMA_IDX_CI c < 65536 → fget s DMA_IDX_PI c < 65536 → fget s DMA_IDX_PI c ≠ fget s DMA_IDX_CI c →
    (fgetB s DMA_CH_CFG_RLOC c = true → ∀ a b d e : Word, h = [a, b, d, e] →
      Does (.dmaDescFetch c h) s (fun t => OnlyFields [(DMA_CH_STAT_BUSY, c)] s t ∧ fget t DMA_CH_STAT_BUSY c = 1 ∧
        (dmaCh t c).ahead = [(fget s DMA_IDX_CI c, a.toNat + b.toNat * 2 ^ 64 + d.toNat * 2 ^ 128 + e.toNat * 2 ^ 192)] ∧
        ∀ k : Nat, k ≠ c → dmaCh t k = dmaCh s k)) ∧
    (fgetB s DMA_CH_CFG_RLOC c = false → inSram (ringAddr s c (fget s DMA_IDX_CI c)) 32 = true →
      spanSecret s (ringAddr s c (fget s DMA_IDX_CI c)) 32 = false →
      Does (.dmaDescFetch c h) s (fun t => fget t DMA_CH_STAT_BUSY c = 1 ∧ (dmaCh t c).ahead = [(fget s DMA_IDX_CI c,
        leNat ((sramReadBytes 8 (ringAddr s c (fget s DMA_IDX_CI c) - sramBase) 32 s).2.map (fun x => x.1)))] ∧
        ∀ k : Nat, k ≠ c → dmaCh t k = dmaCh s k))) ∧
  (∀ (s : State) (c : Nat) (h : List Word), c < 16 → (fgetB s DMA_CH_STAT_HALT c = true ∨ fgetB s DMA_CH_CFG_EN c = false ∨
    fget s DMA_IDX_PI c = fget s DMA_IDX_CI c) → exec (.dmaDescFetch c h) s = .next s) ∧
  (∀ (s : State) (c i d m : Nat) (l : List (Nat × Nat)) (b : List Byte), c < 16 → (dmaCh s c).ahead = (i, d) :: l → dOk d = true →
    dSK d = 2 → dDK d = 1 → dLen d = 8 → b.length = 8 → sramBase ≤ dDA d → dDA d + 8 ≤ sramBase + 0x400000 → dDA d % 8 = 0 →
    spanSecret s (dDA d) 8 = false → fgetB s DMA_CH_CFG_RLOC c = true → dIrq d = false → dmaIdle s c = true →
    fgetB s FLT_INJ_ACTIVE (fifoSrc (dmaFifo c)) = false → fget s FIFO_MODE_ORDER (dmaFifo c) = 0 →
    Does (.dmaDescComplete c 0 m b false) s (fun t => sramCode t ((dDA d - sramBase) / 8) = eccEnc (BitVec.ofNat 64 (leNat b)) ∧
      (dmaCh t c).ahead = l ∧ fget t DMA_CH_STAT_LAST_STATUS c = 0 ∧ fget t DMA_IDX_CI c = (i + 1) % 65536 ∧
      fget t DMA_CH_STAT_DONE c = min (fget s DMA_CH_STAT_DONE c + 1) (2 ^ DMA_CH_STAT_DONE.width - 1) ∧
      fget t DMA_CH_STAT_HALT c = fget s DMA_CH_STAT_HALT c ∧ fifoWords (fifo t (dmaFifo c)) = 0 ∧ t.flt = s.flt)) ∧
  (∀ (s : State) (c i d m st : Nat) (l : List (Nat × Nat)) (b : List Byte) (p : Bool), c < 16 → (dmaCh s c).ahead = (i, d) :: l →
    dOk d = false → Does (.dmaDescComplete c st m b p) s (fun t => (dmaCh t c).ahead = [] ∧ fget t DMA_CH_STAT_LAST_STATUS c = 2 ∧
      fget t DMA_CH_STAT_HALT c = 1 ∧ fget t DMA_CH_STAT_BUSY c = 0)) ∧
  (∀ (s : State) (c i d m st : Nat) (l : List (Nat × Nat)) (b : List Byte) (p : Bool), c < 16 → (dmaCh s c).ahead = (i, d) :: l →
    dOk d = true → dSK d ≠ 4 → dmaIdle s c = false → exec (.dmaDescComplete c st m b p) s = .next s) ∧
  (∀ (s : State) (c m st : Nat) (b : List Byte) (p : Bool), c < 16 → (dmaCh s c).ahead = [] →
    exec (.dmaDescComplete c st m b p) s = .next s ∧
    Does (.dmaAbort c m b p) s (fun t => fget t DMA_CH_STAT_HALT c = 1 ∧ fifoWords (fifo t (dmaFifo c)) = 0)) ∧
  (∀ (s : State) (c i d m : Nat) (l : List (Nat × Nat)) (b : List Byte) (p : Bool), c < 16 → (dmaCh s c).ahead = (i, d) :: l →
    Does (.dmaAbort c m b p) s (fun t => fget t DMA_CH_STAT_HALT c = 1 ∧ fget t DMA_CH_STAT_LAST_STATUS c = 8 ∧
      (dmaCh t c).ahead = [] ∧ fifoWords (fifo t (dmaFifo c)) = 0))

/-- The regulator, the sensors and the time of the array (R441, R454, R458): AVS_REQUEST, AVS_ALERT, AVS_NO_ANSWER,
VCORE_UNDERVOLTAGE, THERMAL_THRESHOLD, SENSOR_POLL, REFRESH and COEFFICIENT_UPDATE, whose new coefficient is free. A request
out of range, out of step or too early does nothing; each temperature threshold is recorded once, and again only after
the hottest reading has come back by 3 degrees. -/
def Obligations.SupplyAndSensors : Prop :=
  (∀ (s : State) (mv : Nat), mv < 65536 →
    if s.boot.fw = true ∧ 700 ≤ mv ∧ mv ≤ 850 ∧ mv % 5 = 0 ∧ mv ≤ s.env.vreq + 25 ∧ s.env.vreq ≤ mv + 25 ∧
      (∀ t ∈ s.env.vat, passedUs s t 250 = true) ∧ (∀ t ∈ s.env.vstop, passedUs s t 1000000 = true) then
      exec (.avsRequest mv) s = .next { s with env := { s.env with vreq := mv, vat := some s.time.now, vstop := none } }
    else exec (.avsRequest mv) s = .next s) ∧
  (∀ s : State, Does .avsAlert s (fun t => t = { s with flt := t.flt } ∧ t.flt = { s.flt with raised := t.flt.raised } ∧
    ∃ e : FaultEvt, t.flt.raised = s.flt.raised ++ [e] ∧ e.cls = clsC ∧ e.src = 56)) ∧
  (∀ s : State, Does .avsNoAnswer s (fun t => t.env = { s.env with vstop := some s.time.now } ∧ t.regs = s.regs ∧
    if s.env.vstop = none then ∃ e : FaultEvt, t.flt.raised = s.flt.raised ++ [e] ∧ e.cls = clsC ∧ e.src = 56 else t.flt = s.flt)) ∧
  (∀ (s : State) (mv : Nat), mv % 65536 + 30 < s.env.vreq → Does (.vcoreUndervoltage mv) s (fun t => t.regs = s.regs ∧
    t.env = s.env ∧ ∃ e : FaultEvt, t.flt.raised = s.flt.raised ++ [e] ∧ e.cls = clsF ∧ e.src = 56)) ∧
  (∀ (s : State) (mv : Nat), s.env.vreq ≤ mv % 65536 + 30 → exec (.vcoreUndervoltage mv) s = .next s) ∧
  (∀ (s : State) (a hot : Int) (l : List Int), s.env.temps = a :: l → hot = l.foldl max a →
    Does .thermalThreshold s (fun t => t.regs = s.regs ∧ t.env.temps = s.env.temps ∧
      t.env.therm.testBit 0 = (if s.env.therm.testBit 0 then decide (1050 < hot) else decide (1080 ≤ hot)) ∧
      t.env.therm.testBit 1 = (if s.env.therm.testBit 1 then decide (1120 < hot) else decide (1150 ≤ hot)) ∧
      t.env.therm.testBit 2 = (if s.env.therm.testBit 2 then decide (1170 < hot) else decide (1200 ≤ hot)) ∧
      t.env.therm.testBit 3 = (if s.env.therm.testBit 3 then decide (hot < -420) else decide (hot ≤ -450)) ∧
      ∃ r : List FaultEvt, t.flt.raised = s.flt.raised ++ r ∧ (∀ e ∈ r, e.src = 56) ∧ r.map (fun e => e.cls) =
        (if !s.env.therm.testBit 0 && 1080 ≤ hot then [clsC] else []) ++ (if !s.env.therm.testBit 1 && 1150 ≤ hot then [clsF] else []) ++
        (if !s.env.therm.testBit 2 && 1200 ≤ hot then [clsH] else []) ++ (if !s.env.therm.testBit 3 && hot ≤ -450 then [clsC] else []))) ∧
  (∀ (s : State) (ts : List Int) (a b : Nat), Does (.sensorPoll ts a b) s (fun t => t = { s with env := t.env } ∧
    t.env = { s.env with temps := t.env.temps, vcore := a % 65536, vsram := b % 65536 } ∧
    (∀ (i : Nat) (x : Int), i < 16 → ts[i]? = some x → -32768 ≤ x → x < 32768 → t.env.temps[i]? = some x) ∧
    ∀ i : Nat, (16 ≤ i ∨ ts.length ≤ i) → t.env.temps[i]? = s.env.temps[i]?)) ∧
  (∀ s : State, exec .refresh s = .next { s with env := { s.env with refresh := s.time.now } }) ∧
  (∀ (s : State) (n : Nat), n < 146 → Does (.coefficientUpdate n) s (fun t =>
    t = { s with free := s.free + 1, env := { s.env with coef := t.env.coef } } ∧
    ∀ k : Nat, k ≠ n → smGet 0 t.env.coef k = smGet 0 s.env.coef k))

/-- TICK_GUARD and TICK_EDGE (R14, R15, R20, R21, R24): the guard runs once a tick and leaves the count and the tick's start;
the edge starts the next tick where the present one ends, its count one more (or the count of a realignment), and a
length that waits, and that R21 still allows then, takes effect with every plan to be admitted again; one that it does not is
refused. A realignment that was inserted is over, and one that was held is pending. With the tick stopped neither does
anything. -/
def Obligations.GuardAndEdge : Prop :=
  (∀ s : State, s.time.running = true → s.time.guarded = false →
    Does .tickGuard s (fun t => t.time.guarded = true ∧ t.time.tick = s.time.tick ∧ t.time.tickStart = s.time.tickStart)) ∧
  (∀ s : State, s.time.running = false ∨ s.time.guarded = true → exec .tickGuard s = .next s) ∧
  (∀ s : State, s.time.running = true → s.time.guarded = true → s.svc.waits = [] → s.svc.held = [] →
    Does .tickEdge s (fun t => t.time.tick = s.time.adopt.getD ((s.time.tick + 1) % 2 ^ 64) ∧
      t.time.tickStart = s.time.tickStart + tickSpan s ∧ t.time.guarded = false ∧
      t.time.edges = s.time.edges + 1 ∧ t.time.extra = 0 ∧ t.time.inserting = false ∧
      (s.time.inserting = true → t.time.held = false ∧ t.time.adopt = none ∧ fgetB t SYS_TICK_STAT_ALIGN_PENDING 0 = s.time.held) ∧
      (s.time.lenNext = none → fget t SYS_TICK_CFG_TICK_LEN 0 = fget s SYS_TICK_CFG_TICK_LEN 0) ∧
      ∀ v : Nat, s.time.lenNext = some v → t.time.lenNext = none ∧
        if tickLenOk s v then fget t SYS_TICK_CFG_TICK_LEN 0 = v ∧ fget t SYS_TICK_CFG_OFS_SHIFT 0 = ofsShift v ∧
          ∀ p q : Nat, p < 100 → q < 2 → planAdm t p q = false
        else fget t SYS_TICK_CFG_TICK_LEN 0 = fget s SYS_TICK_CFG_TICK_LEN 0 ∧ fget t SYS_TICK_STAT_LEN_REFUSED 0 = 1)) ∧
  (∀ s : State, s.time.running = false → s.svc.waits = [] → s.svc.held = [] → exec .tickEdge s = .next s)

/-- The states of a span link (R250, R256 to R258): SPAN_LINK_ENABLE, SPAN_LINK_DISABLE, SPAN_RETRAIN, SPAN_FEC_LOCK,
SPAN_TRAIN_TIMEOUT, SPAN_IDENT_RECEIVED and SPAN_LANE_LOCK_LOSS. A configuration that R250 and R257 do not allow is refused;
training and IDENT fail after 100 ms; an IDENT is checked for its sender, for a loop and for its width, in this order; a command
out of its state does nothing. -/
def Obligations.SpanLinkStates : Prop :=
  (∀ (s : State) (k v : Nat), k < 8 → fldOf SPN_LINK_CFG_REFUSED v = 0 → spState s k = 0 →
    (fldOf SPN_LINK_CFG_WIDTH v ≠ 3 → spValid (fstore s spCfgFlds k v) k = true →
      Does (.spanLinkEnable k v) s (fun t => spState t k = 1 ∧ fget t SPN_LINK_STAT_REASON k = 0 ∧ fget t SPN_LINK_CFG_EN k = 1 ∧
        (∀ f ∈ spCfgFlds, fget t f k = fldOf f v) ∧ t.spn = { s.spn with trainAt := t.spn.trainAt } ∧
        smGet 0 t.spn.trainAt k = s.time.now ∧ t.flt = s.flt ∧
        OnlyFields (spCfgFlds.map (fun f => (f, k)) ++ [(SPN_LINK_CFG_EN, k), (SPN_LINK_STAT_STATE, k), (SPN_LINK_STAT_REASON, k),
          (MBX_EVT_IDX_PI, 0), (MBX_EVT_CTL_LOST, 0)]) s t)) ∧
    (k % spWidth (fldOf SPN_LINK_CFG_WIDTH v) = 0 → fldOf SPN_LINK_CFG_WIDTH v ≠ 3 → fldOf SPN_LINK_CFG_RTO v ≠ 0 →
      (∀ o : Nat, o < 8 → o ≠ k → spState s o = 0) → spValid (fstore s spCfgFlds k v) k = true) ∧
    (fldOf SPN_LINK_CFG_WIDTH v = 3 ∨ fldOf SPN_LINK_CFG_RTO v = 0 ∨ k % spWidth (fldOf SPN_LINK_CFG_WIDTH v) ≠ 0 ∨
      spValid (fstore s spCfgFlds k v) k = false → Does (.spanLinkEnable k v) s (fun t =>
      spState t k = 0 ∧ fget t SPN_LINK_CFG_REFUSED k = 1 ∧ fget t SPN_LINK_CFG_EN k = fget s SPN_LINK_CFG_EN k))) ∧
  (∀ (s : State) (k v : Nat), k < 8 → fldOf SPN_LINK_CFG_REFUSED v = 0 → spState s k ≠ 0 → fsame s spCfgFlds k v = false →
    Does (.spanLinkEnable k v) s (fun t => OnlyRegs [(SPN_LINK_CFG_REFUSED, k)] s t ∧ fget t SPN_LINK_CFG_REFUSED k = 1)) ∧
  (∀ (s : State) (k : Nat), k < 8 →
    (spState s k ≠ 0 → Does (.spanLinkDisable k) s (fun t => spState t k = 0 ∧ fget t SPN_LINK_CFG_EN k = 0 ∧
      fget t SPN_LINK_STAT_LANES k = 0 ∧ fget t SPN_CAL_VALID k = 0 ∧ fget t FLT_UNIT_FAULTED (unitIx 6 k) = 0 ∧ t.flt = s.flt ∧
      ∀ n ∈ spPorts s k, (spLane t n).up = false ∧ (spLane t n).replay = [] ∧ txQueue t n = [])) ∧
    (spState s k = 0 → exec (.spanLinkDisable k) s = .next s) ∧
    (spState s k = 5 → Does (.spanRetrain k) s (fun t => spState t k = 1 ∧ t.spn = { s.spn with trainAt := t.spn.trainAt } ∧
      smGet 0 t.spn.trainAt k = s.time.now ∧ OnlyFields [(SPN_LINK_STAT_STATE, k),
      (SPN_LINK_STAT_REASON, k), (MBX_EVT_IDX_PI, 0), (MBX_EVT_CTL_LOST, 0)] s t)) ∧
    (spState s k ≠ 5 → exec (.spanRetrain k) s = .next s) ∧
    (spState s k = 1 → Does (.spanFecLock k) s (fun t => spState t k = 2 ∧ t.spn = s.spn ∧ OnlyFields [(SPN_LINK_STAT_STATE, k),
      (SPN_LINK_STAT_REASON, k), (MBX_EVT_IDX_PI, 0), (MBX_EVT_CTL_LOST, 0)] s t)) ∧
    (spState s k ≠ 1 → exec (.spanFecLock k) s = .next s) ∧
    (spState s k = 1 ∨ spState s k = 2 → passedMs s (smGet 0 s.spn.trainAt k) 100 = true →
      Does (.spanTrainTimeout k) s (fun t => spState t k = 5 ∧
      fget t SPN_LINK_STAT_REASON k = 1 ∧ t.spn = s.spn ∧ OnlyFields [(SPN_LINK_STAT_STATE, k),
      (SPN_LINK_STAT_REASON, k), (MBX_EVT_IDX_PI, 0), (MBX_EVT_CTL_LOST, 0)] s t)) ∧
    (spState s k ≠ 1 → spState s k ≠ 2 → exec (.spanTrainTimeout k) s = .next s) ∧
    (passedMs s (smGet 0 s.spn.trainAt k) 100 = false → exec (.spanTrainTimeout k) s = .next s)) ∧
  (∀ (s : State) (k dev port width : Nat), k < 8 →
    (spState s k ≠ 2 → exec (.spanIdentReceived k dev port width) s = .next s) ∧
    (spState s k = 2 → Does (.spanIdentReceived k dev port width) s (fun t =>
      if fget s SPN_LINK_CFG_PEER_CHK k ≠ 0 ∧ dev % 1024 ≠ fget s SPN_LINK_CFG_PEER k then
        spState t k = 5 ∧ fget t SPN_LINK_STAT_REASON k = 2
      else if dev % 1024 = ownDev s then spState t k = 5 ∧ fget t SPN_LINK_STAT_REASON k = 3
      else if width ≠ fget s SPN_LINK_CFG_WIDTH k then spState t k = 5 ∧ fget t SPN_LINK_STAT_REASON k = 4
      else spState t k = 3 ∧ fget t SPN_LINK_STAT_REASON k = 0 ∧
        fget t SPN_LINK_STAT_LANES k = spWidth width ∧ fget t SPN_LINK_STAT_NBR_DEV k = dev % 1024 ∧
        fget t SPN_LINK_STAT_NBR_PORT k = port % 8 ∧ fget t SPN_CAL_VALID k = 0 ∧ smGet false t.spn.cal k = true ∧ t.flt = s.flt ∧
        ∀ n ∈ spPorts s k, (spLane t n).up = true ∧ (spLane t n).seq = 0 ∧ (spLane t n).exp = 0 ∧ (spLane t n).replay = []))) ∧
  (∀ (s : State) (n k : Nat), n < 8 → spLinkAt s n = some k → spState s k = 3 → (spLane s n).up = true →
    (fget s SPN_LINK_STAT_LANES k ≤ 1 → Does (.spanLaneLockLoss n) s (fun t => spState t k = 4 ∧ fget t SPN_LINK_STAT_LANES k = 0 ∧
      fget t FLT_UNIT_FAULTED (unitIx 6 k) = 1 ∧ fget t SPN_CAL_VALID k = 0 ∧
      ∃ e : FaultEvt, t.flt.raised = s.flt.raised ++ [e] ∧ e.src = 45 ∧ e.cls = clsU ∧ e.ukind = 6 ∧ e.uid = k)) ∧
    (1 < fget s SPN_LINK_STAT_LANES k → Does (.spanLaneLockLoss n) s (fun t => spState t k = 3 ∧
      fget t SPN_LINK_STAT_LANES k = (fget s SPN_LINK_STAT_LANES k - 1) % 16 ∧ (spLane t n).up = false ∧ (spLane t n).replay = [] ∧
      (∀ m : Nat, m ≠ n → spLane t m = spLane s m) ∧ (timingLane s k = some n → fget t SPN_CAL_VALID k = 0 ∧ smGet false t.spn.cal k = true) ∧
      ∃ e : FaultEvt, t.flt.raised = s.flt.raised ++ [e] ∧ e.src = 45 ∧ e.cls = clsU))) ∧
  (∀ (s : State) (n : Nat), n < 8 → (spLinkAt s n = none ∨ (spLane s n).up = false) → exec (.spanLaneLockLoss n) s = .next s)

/-- SPAN_FRAME_RECEIVED, SPAN_NAK_RECEIVED and SPAN_RESEND_TIMEOUT (R252, R253): a frame that leaves has a CRC that checks and
gives back its fields; a DATA frame in order joins the packets received; one out of order or with a bad CRC is answered NAK; a
resend, after RTO without an ACK, counts in REPLAY, a NAK frees the frames before the one it names, and the ninth resend in a
row without progress takes the link DOWN. A port without an UP lane takes nothing. SPAN_SWITCH_ROUTE (R251, R255, R260): the
one packet that asks for a link with room goes whole to the lane of that link with the fewest frames waiting; one for this
device goes to stop 125 or 127; one without a route is answered NO_TARGET where it awaits a response, and counted where not;
with no packet nothing happens. -/
def Obligations.SpanTraffic : Prop :=
  ((∀ (s : State) (n fty kind pois net slane ddev seq dir dring data crl x : Nat), fty < 16 → kind < 4 → pois < 2 →
     x = frameBits s n fty kind pois net slane ddev seq dir dring data crl → frameOk x = true ∧ x < 2 ^ 352 ∧
       frBits x 92 4 = fty ∧ frBits x 90 2 = kind ∧ frBits x 89 1 = pois ∧ frBits x 88 1 = net % 2 ∧ frBits x 85 3 = slane % 8 ∧
       frBits x 75 10 = ddev % 1024 ∧ frBits x 63 12 = seq % 4096 ∧ frBits x 51 12 = ((spLane s n).exp + 4095) % 4096 ∧
       frBits x 34 1 = dir % 2 ∧ frBits x 29 5 = dring % 32 ∧ frBits x 96 256 = data % 2 ^ 256) ∧
   (∀ (s : State) (n x fec seq : Nat), exec (.spanFrameReceived n x fec) s = exec (.spanFrameReceived n (x % 2 ^ 352) fec) s ∧
     exec (.spanNakReceived n seq) s = exec (.spanNakReceived n (seq % 4096)) s) ∧
   (∀ (s : State) (n k x : Nat), n < 8 → x < 2 ^ 352 → spLinkAt s n = some k → spState s k = 3 → (spLane s n).up = true →
     (frameOk x = true → frBits x 92 4 = 0 → frBits x 63 12 = (spLane s n).exp → frBits x 90 2 = 3 →
       Does (.spanFrameReceived n x 0) s (fun t => (spLane t n).exp = ((spLane s n).exp + 1) % 4096 ∧ (spLane t n).nak = false ∧
         (spLane t n).rx = (spLane s n).rx ++ [⟨frBits x 88 1, frBits x 85 3, frBits x 34 1, frBits x 29 5,
           frBits x 75 10, [⟨3, frBits x 89 1 = 1, frBits x 96 256⟩]⟩] ∧
         (spLane t n).replay = (ackTo (frBits x 51 12) (spLane s n).replay).getD (spLane s n).replay ∧ t.flt = s.flt ∧ t.regs = s.regs ∧
         ∀ m : Nat, m ≠ n → spLane t m = spLane s m)) ∧
     (∀ p : SPkt, frameOk x = true → frBits x 92 4 = 0 → frBits x 63 12 = (spLane s n).exp → frBits x 90 2 = 2 → (spLane s n).part = some p →
       Does (.spanFrameReceived n x 0) s (fun t => (spLane t n).exp = ((spLane s n).exp + 1) % 4096 ∧ (spLane t n).part = none ∧
         (spLane t n).rx = (spLane s n).rx ++ [{ p with flits := p.flits ++ [⟨2, frBits x 89 1 = 1, frBits x 96 256⟩] }])) ∧
     (∀ fec : Nat, frameOk x = true → frBits x 92 4 = 0 → frBits x 63 12 ≠ (spLane s n).exp →
       Does (.spanFrameReceived n x fec) s (fun t => (spLane t n).nak = true ∧ (spLane t n).exp = (spLane s n).exp ∧
         (spLane t n).rx = (spLane s n).rx ∧ t.flt = s.flt)) ∧
     (∀ fec : Nat, frameOk x = false → Does (.spanFrameReceived n x fec) s (fun t => (spLane t n).nak = true ∧
       (spLane t n).rx = (spLane s n).rx ∧ (spLane t n).replay = (spLane s n).replay ∧
       fget t SPN_LINK_ERR_CRC_BAD k = min (fget s SPN_LINK_ERR_CRC_BAD k + 1) 65535 ∧
       (fec ≠ 0 → fget t SPN_LINK_ERR_FEC_UNCORR k = min (fget s SPN_LINK_ERR_FEC_UNCORR k + fec) 65535) ∧ t.flt = s.flt))) ∧
   (∀ (s : State) (n k seq : Nat), n < 8 → seq < 4096 → spLinkAt s n = some k → spState s k = 3 → (spLane s n).up = true →
     (spLane s n).replay ≠ [] →
     (rtoOver s k n = true → (spLane s n).tries < 8 → Does (.spanResendTimeout n) s (fun t =>
       fget t SPN_LINK_ERR_REPLAY k = min (fget s SPN_LINK_ERR_REPLAY k + 1) 65535 ∧ OnlyFields [(SPN_LINK_ERR_REPLAY, k)] s t ∧
       (∀ f ∈ (spLane s n).replay, SOut.data f ∈ txQueue t n) ∧
       spLane t n = { spLane s n with tries := (spLane s n).tries + 1 } ∧ ∀ m : Nat, m ≠ n → spLane t m = spLane s m)) ∧
     (rtoOver s k n = true → 8 ≤ (spLane s n).tries → Does (.spanResendTimeout n) s (fun t => spState t k = 4 ∧ fget t SPN_LINK_STAT_REASON k = 5 ∧
       fget t FLT_UNIT_FAULTED (unitIx 6 k) = 1 ∧ ∃ e : FaultEvt, t.flt.raised = s.flt.raised ++ [e] ∧ e.src = 45 ∧ e.cls = clsU ∧ e.uid = k)) ∧
     (rtoOver s k n = false → exec (.spanResendTimeout n) s = .next s) ∧
     (∀ r : List SFrame, ackTo ((seq + 4095) % 4096) (spLane s n).replay = some r → r ≠ [] → Does (.spanNakReceived n seq) s (fun t =>
       fget t SPN_LINK_ERR_REPLAY k = min (fget s SPN_LINK_ERR_REPLAY k + 1) 65535 ∧ OnlyFields [(SPN_LINK_ERR_REPLAY, k)] s t ∧
       spLane t n = { spLane s n with replay := r, tries := 1 })) ∧
     (ackTo ((seq + 4095) % 4096) (spLane s n).replay = none → (spLane s n).tries < 8 → Does (.spanNakReceived n seq) s (fun t =>
       fget t SPN_LINK_ERR_REPLAY k = min (fget s SPN_LINK_ERR_REPLAY k + 1) 65535 ∧
       spLane t n = { spLane s n with tries := (spLane s n).tries + 1 }))) ∧
   (∀ (s : State) (n x fec seq : Nat), n < 8 →
     (spLinkAt s n = none ∨ ∃ k : Nat, spLinkAt s n = some k ∧ (spState s k ≠ 3 ∨ (spLane s n).up = false)) →
     exec (.spanFrameReceived n x fec) s = .next s ∧ exec (.spanResendTimeout n) s = .next s ∧ exec (.spanNakReceived n seq) s = .next s)) ∧
  ((∀ (s : State) (net o : Nat), net < 2 → o < 10 → spReqs s net = [] → exec (.spanSwitchRoute net o) s = .next s) ∧
   (∀ (s : State) (net o src sl lsl dir dring n : Nat) (p : SPkt), net < 2 → o < 8 → src < 8 →
     spReqs s net = [⟨src, sl, p, .send o lsl dir dring⟩] → spPick s o = some n →
     spRoom (spLane s n) p.net lsl p.flits.length = true →
     Does (.spanSwitchRoute net o) s (fun t => t.regs = s.regs ∧ t.flt = s.flt ∧ t.noc = s.noc ∧
       (spLane t n).replay = (spLane s n).replay ++ spFrames p lsl dir dring (spLane s n).seq p.flits ∧
       (spLane t n).seq = ((spLane s n).seq + p.flits.length) % 4096 ∧
       txQueue t n = txQueue s n ++ (spFrames p lsl dir dring (spLane s n).seq p.flits).map .data ∧
       (∀ m : Nat, m ∈ spPorts s o → (spLane s m).up = true → (txQueue s n).length ≤ (txQueue s m).length) ∧
       (spLane t src).rx = dropFirst (fun q => q.net = net && q.slane = sl) (spLane s src).rx ∧
       ∀ m : Nat, m ≠ n → m ≠ src → spLane t m = spLane s m)) ∧
   (∀ (s : State) (src sl : Nat) (p : SPkt), src < 8 → p.net = 0 → spReqs s 0 = [⟨src, sl, p, .eject 125⟩] →
     Does (.spanSwitchRoute 0 8) s (fun t => t.regs = s.regs ∧ t.flt = s.flt ∧
       (stop t 125).reqQ = (stop s 125).reqQ ++ [spPkt p] ∧ (stop t 125).rspQ = (stop s 125).rspQ ∧
       (∀ x : Nat, x ≠ 125 → stop t x = stop s x) ∧
       (spLane t src).rx = dropFirst (fun q => q.net = 0 && q.slane = sl) (spLane s src).rx)) ∧
   (∀ (s : State) (net o src sl k : Nat) (p : SPkt), net < 2 → o < 10 → src < 8 → spReqs s net = [⟨src, sl, p, .drop⟩] →
     spLinkAt s src = some k →
     Does (.spanSwitchRoute net o) s (fun t =>
       if (spHdr p).1 = true ∧ nonPosted (spHdr p).2.ty = true then
         errRsp (spHdr p).2 (ownDev s) (if src < 4 then 125 else 127) 5 ∈ (stop t (if src < 4 then 125 else 127)).rspQ ∧
         fget t SPN_LINK_ERR_DROP k = fget s SPN_LINK_ERR_DROP k
       else fget t SPN_LINK_ERR_DROP k = min (fget s SPN_LINK_ERR_DROP k + 1) 65535 ∧ t.spn.dropRec = true)))

/-- The shared tick (R265 to R268): MARKER_SEND, MARKER_RECEIVED, SPAN_CALIBRATION, ECHO_RECEIVED and
MASTER_LOSS_TIMEOUT. A marker goes out once a tick on an UP link's timing lane, a master's own or the estimate of the one
followed; a marker with a bad CRC, 63 hops or another tick length is discarded; a better master's ends the own mastership; one
of the followed link gives FINE and the phase of the next realignment; calibration measures half the round trip. The
SPAN_RCLK output carries a clock only while enabled (R264). -/
def Obligations.SharedTick : Prop :=
  (∀ (s : State) (k dep : Nat), k < 8 →
    (spState s k = 3 → smGet 0 s.spn.sent k ≠ s.time.edges + 1 → Does (.markerSend k dep) s (fun t => t.regs = s.regs ∧
      smGet 0 t.spn.sent k = s.time.edges + 1 ∧ t = { s with spn := t.spn } ∧ t.spn.lane = s.spn.lane ∧
      ∃ m : Marker, t.spn.mark = some m ∧ m.n = s.time.tick ∧ m.len = tickLen s ∧
        (∀ n : Nat, timingLane s k = some n → SOut.marker m ∈ txQueue t n) ∧ (fget s SPN_TICK_IS_MASTER 0 ≠ 0 →
          m.prio = fget s SPN_TICK_PRIO 0 ∧ m.dev = ownDev s ∧ m.hops = 1 ∧ m.depart = dep ∧ m.tod = todAtEdge s) ∧
        (fget s SPN_TICK_IS_MASTER 0 = 0 → ∀ h : Marker, followed s = some h → m.prio = h.prio ∧ m.dev = h.dev ∧ m.hops = h.hops + 1 ∧
          m.depart = (dep : Int) - signedOf 20 (fget s SPN_TICK_STAT_FINE 0)))) ∧
    (spState s k ≠ 3 ∨ smGet 0 s.spn.sent k = s.time.edges + 1 → exec (.markerSend k dep) s = .next s)) ∧
  (∀ (s : State) (k prio dev hops n len tod : Nat) (bad : Bool) (depart arr : Int), k < 8 →
    exec (.markerReceived k prio dev hops n len depart tod bad arr) s =
      exec (.markerReceived k (prio % 256) (dev % 1024) hops (n % 2 ^ 64) len depart tod bad arr) s) ∧
  (∀ (s : State) (k prio dev hops n len tod : Nat) (bad : Bool) (depart arr : Int), k < 8 → prio < 256 → dev < 1024 → n < 2 ^ 64 →
    (spState s k ≠ 3 → exec (.markerReceived k prio dev hops n len depart tod bad arr) s = .next s) ∧
    (spState s k = 3 → Does (.markerReceived k prio dev hops n len depart tod true arr) s (fun t =>
      fget t SPN_LINK_ERR_CRC_BAD k = min (fget s SPN_LINK_ERR_CRC_BAD k + 1) 65535 ∧ OnlyRegs [(SPN_LINK_ERR_CRC_BAD, k)] s t)) ∧
    (spState s k = 3 → 63 ≤ hops → exec (.markerReceived k prio dev hops n len depart tod false arr) s = .next s) ∧
    (spState s k = 3 → hops < 63 → len ≠ tickLen s → Does (.markerReceived k prio dev hops n len depart tod false arr) s (fun t =>
      fget t SPN_TICK_STAT_LEN_MISMATCH 0 = 1 ∧ OnlyRegs [(SPN_TICK_STAT_LEN_MISMATCH, 0)] s t)) ∧
    (spState s k = 3 → hops < 63 → len = tickLen s → prio * 1024 + dev < fget s SPN_TICK_PRIO 0 * 1024 + ownDev s →
      fget s SYS_TICK_CFG_SRC 0 ≠ 2 → Does (.markerReceived k prio dev hops n len depart tod false arr) s (fun t =>
        fget t SPN_TICK_IS_MASTER 0 = 0 ∧ OnlyFields [(SPN_TICK_IS_MASTER, 0)] s t ∧ t.spn.better = s.time.edges)) ∧
    (spState s k = 3 → (∀ o : Nat, o < 8 → o ≠ k → spState s o ≠ 3) → hops < 63 → len = tickLen s → fget s SYS_TICK_CFG_SRC 0 = 2 →
      fget s SPN_TICK_IS_MASTER 0 = 0 → fget s SPN_CAL_VALID k = 1 → 0 < fget s SPN_TICK_LOSS 0 →
      -524288 ≤ arr - (fget s SPN_CAL_DELAY k : Nat) - depart → arr - (fget s SPN_CAL_DELAY k : Nat) - depart < 524288 →
      Does (.markerReceived k prio dev hops n len depart tod false arr) s (fun t => fget t SPN_TICK_LINK 0 = k ∧
        fget t SPN_TICK_MDEV 0 = dev ∧ fget t SPN_TICK_HOPS 0 = hops ∧ fget t SPN_TICK_STAT_HEARD 0 = 1 ∧
        fget t SPN_TICK_STAT_FINE 0 = ((arr - (fget s SPN_CAL_DELAY k : Nat) - depart) % 1048576).toNat ∧
        ∃ c : Int, t.spn.phase = some (c, n, s.time.edges) ∧ 32 * c - (arr - (fget s SPN_CAL_DELAY k : Nat) - depart) ≤ 16 ∧
          (arr - (fget s SPN_CAL_DELAY k : Nat) - depart) - 32 * c ≤ 16))) ∧
  (∀ (s : State) (k a b : Nat), k < 8 →
    (spState s k = 3 → Does (.spanCalibration k) s (fun t => t = { s with spn := t.spn } ∧ t.spn.lane = s.spn.lane ∧
      smGet false t.spn.cal k = true ∧ smGet 0 t.spn.calAt k = s.time.edges ∧ ∀ n : Nat, timingLane s k = some n → SOut.cal ∈ txQueue t n)) ∧
    (spState s k ≠ 3 → exec (.spanCalibration k) s = .next s) ∧
    (spState s k = 3 → smGet false s.spn.cal k = true → (a - b) / 2 < 2 ^ 24 → Does (.echoReceived k a b) s (fun t =>
      fget t SPN_CAL_DELAY k = (a - b) / 2 ∧ fget t SPN_CAL_VALID k = 1 ∧ smGet false t.spn.cal k = false ∧
      OnlyFields [(SPN_CAL_DELAY, k), (SPN_CAL_VALID, k)] s t)) ∧
    (spState s k ≠ 3 ∨ smGet false s.spn.cal k = false → exec (.echoReceived k a b) s = .next s)) ∧
  (∀ s : State, (fget s SPN_TICK_MASTER_EN 0 ≠ 0 → fget s SPN_TICK_IS_MASTER 0 = 0 → fget s SPN_TICK_LOSS 0 ≤ s.time.edges - s.spn.better →
      Does .masterLossTimeout s (fun t => fget t SPN_TICK_IS_MASTER 0 = 1 ∧ fget t SPN_TICK_HOPS 0 = 0 ∧
        OnlyRegs [(SPN_TICK_IS_MASTER, 0), (SPN_TICK_HOPS, 0)] s t)) ∧
    (fget s SPN_TICK_MASTER_EN 0 = 0 ∨ fget s SPN_TICK_IS_MASTER 0 ≠ 0 ∨ s.time.edges - s.spn.better < fget s SPN_TICK_LOSS 0 →
      exec .masterLossTimeout s = .next s) ∧
    (fget s SPN_RCLK_EN 0 = 0 → spanRclk s = none) ∧
    (fget s SPN_RCLK_EN 0 ≠ 0 → spanRclk s = some (fget s SPN_RCLK_PORT 0, 56000000000, fget s SPN_RCLK_DIV 0)))

/-- LOAD_GO, LOAD_WRITE_PHASE and LOAD_ABORT (R271, R272, R294 to R302): GO while a load is in progress is refused; a
stream that fails a check ends with its code and changes no cabinet; one that passes waits for its write phase; a
PARTIAL load of one cabinet writes it and leaves it HELD, every other cabinet as it was; a write that fails faults it; a
DRAWERS load changes no cabinet's state and no other drawer's valid bit; an abort before the write phase changes no cabinet. COMPAT_CFG_WRITE, COMPAT_LOAD_GO and COMPAT_RECORD (R303 to R307):
EN is needed; a good header puts the placed cabinets in LOADING; a frame record writes its words; a drawer with an
operation new in the AXR-96C, or a record of no type of R304, aborts the load with every placed cabinet INCONSISTENT;
END leaves them HELD. -/
def Obligations.LoadsOfBothKinds : Prop :=
  ((∀ (s : State) (n : Nat), n < 2 ^ 27 → loadBusy s = true →
     Does (.loadGo n) s (fun t => OnlyRegs [(CFG_LOAD_CTL_REFUSED, 0)] s t ∧ fget t CFG_LOAD_CTL_REFUSED 0 = 1)) ∧
   (∀ (s : State) (n : Nat), n < 128 → loadBusy s = false → Does (.loadGo n) s (fun t =>
     fget t CFG_LOAD_STAT_PHASE 0 = 4 ∧ fget t CFG_LOAD_STAT_CODE 0 = 9 ∧ t.cfg.job = none ∧ t.array = s.array)) ∧
   (∀ (s : State) (n : Nat), n ≤ 67108864 → loadBusy s = false →
     let q := stageRead (fset (bringOver s) CFG_LOAD_CTL_STAGED 0 n) n
     let v := loadVerify q.1 q.2
     (v.1.code = 0 → Does (.loadGo n) s (fun t => t.cfg.job = some v.2 ∧ fget t CFG_LOAD_STAT_PHASE 0 = 1 ∧ t.bst.bring = false ∧
       fget t SYS_BOOT_STAT_PHASE 0 = (if v.2.kind = 0 ∧ fget s SYS_BOOT_STAT_PHASE 0 = 1 then 2 else fget s SYS_BOOT_STAT_PHASE 0) ∧
       fget t CFG_LOAD_STAT_CODE 0 = 0 ∧ fget t CFG_LOAD_CTL_STAGED 0 = n ∧ t.array = s.array ∧ t.cfg.img = s.cfg.img)) ∧
     (v.1.code ≠ 0 → Does (.loadGo n) s (fun t => t.cfg.job = none ∧ fget t CFG_LOAD_STAT_PHASE 0 = 4 ∧
       fget t CFG_LOAD_STAT_CODE 0 = v.1.code % 256 ∧ t.array = s.array ∧ t.cfg.img = s.cfg.img))) ∧
   (∀ (s : State) (bad : List Nat), s.cfg.job = none → exec (.loadWritePhase bad) s = .next s) ∧
   (∀ (s : State) (j : LoadJob) (bad : List Nat), s.cfg.job = some j → (stateCheck s j).code ≠ 0 →
     Does (.loadWritePhase bad) s (fun t => t.cfg.job = none ∧ fget t CFG_LOAD_STAT_PHASE 0 = 4 ∧
       fget t CFG_LOAD_STAT_CODE 0 = (stateCheck s j).code % 256 ∧ t.array = s.array ∧ t.cfg.img = s.cfg.img)) ∧
   (∀ (s : State) (j : LoadJob) (l : Nat), s.cfg.job = some j → j.kind = 1 → j.region = 2 ^ l → l < 96 → Placed s →
     (∀ e ∈ (imgWhole l j.sid j.cls).doors.pins, e.1 < 96) → (stateCheck s j).code = 0 →
     overbooked (jobState s j) (activeBooks (jobState s j)) = false →
     Does (.loadWritePhase []) s (fun t => t.cfg.job = none ∧ fget t CFG_LOAD_STAT_PHASE 0 = 3 ∧ fget t CFG_LOAD_STAT_CODE 0 = 0 ∧
       cabState t (physOf s l) = stHELD ∧ fget t CAB_DRAWER_VALID_VALID (physOf s l) = 0x7FFF ∧
       fget t CAB_STATE_FENCED (physOf s l) = 0 ∧ fget t CFG_IMG_ID_SID l = j.sid % 2 ^ 64 ∧ img t l = imgWhole l j.sid j.cls ∧
       ∀ p : Nat, p < 100 → p ≠ physOf s l → cabState t p = cabState s p) ∧
     Does (.loadWritePhase [l]) s (fun t => t.cfg.job = none ∧ fget t CFG_LOAD_STAT_PHASE 0 = 3 ∧
       fget t CFG_LOAD_STAT_CODE 0 = 0x1A ∧ cabState t (physOf s l) = stFAULTED ∧
       ∃ e ∈ t.flt.raised, e.cls = clsU ∧ e.ukind = 0 ∧ e.uid = logicalOf s (physOf s l))) ∧
   (∀ (s : State) (j : LoadJob) (l : Nat), s.cfg.job = some j → j.kind = 2 → j.region = 2 ^ l → l < 96 → Placed s →
     (stateCheck s j).code = 0 → overbooked (jobState s j) (activeBooks (jobState s j)) = false →
     Does (.loadWritePhase []) s (fun t => t.cfg.job = none ∧ fget t CFG_LOAD_STAT_PHASE 0 = 3 ∧ fget t CFG_LOAD_STAT_CODE 0 = 0 ∧
       fget t CFG_IMG_ID_SID l = j.sid % 2 ^ 64 ∧ (∀ p : Nat, p < 100 → cabState t p = cabState s p) ∧
       ∀ i : Nat, i < 15 → (∀ e ∈ jobDrawers j l, e.2.2 ≠ i + 1) →
         (fget t CAB_DRAWER_VALID_VALID (physOf s l)).testBit i = (fget s CAB_DRAWER_VALID_VALID (physOf s l)).testBit i)) ∧
   (∀ (s : State) (j : LoadJob), s.cfg.compat = none → s.cfg.job = some j → Does .loadAbort s (fun t => t.cfg.job = none ∧
     fget t CFG_LOAD_STAT_PHASE 0 = 5 ∧ fget t CFG_LOAD_STAT_CODE 0 = 0x19 ∧ t.array = s.array ∧ t.cfg.img = s.cfg.img)) ∧
   (∀ s : State, s.cfg.compat = none → s.cfg.job = none → exec .loadAbort s = .next s) ∧
   (∀ (s : State) (c : CompatJob), s.cfg.compat = some c → c.ofs ≤ 72 → Placed s → Does .loadAbort s (fun t =>
     t.cfg.compat = none ∧ fget t CFG_LOAD_STAT_PHASE 0 = 6 ∧ fget t CFG_LOAD_STAT_CODE 0 = 0x19 ∧
     fget t CFG_LOAD_STAT_OFFSET 0 = c.pos % 2 ^ 32 ∧ ∀ l ∈ compatCabs c.ofs c.regions, cabState t (physOf s l) = stINCONSISTENT))) ∧
  ((∀ (s : State) (v : Nat), v < 2 ^ 64 →
     Does (.compatCfgWrite v) s (fun t => OnlyRegs [(CFG_COMPAT_EN, 0), (CFG_COMPAT_OFFSET, 0), (CFG_COMPAT_REFUSED, 0)] s t ∧
       (v.testBit 63 = true → s.otp.compatForbid = true →
         fget t CFG_COMPAT_REFUSED 0 = 1 ∧ fget t CFG_COMPAT_EN 0 = fget s CFG_COMPAT_EN 0) ∧
       (72 < v % 128 → fget t CFG_COMPAT_REFUSED 0 = 1 ∧ fget t CFG_COMPAT_OFFSET 0 = fget s CFG_COMPAT_OFFSET 0) ∧
       ((v.testBit 63 = false ∨ s.otp.compatForbid = false) → v % 128 ≤ 72 → fget t CFG_COMPAT_EN 0 = v / 2 ^ 63 ∧
         fget t CFG_COMPAT_OFFSET 0 = v % 128 ∧
         fget t CFG_COMPAT_REFUSED 0 = (if v.testBit 61 then 0 else fget s CFG_COMPAT_REFUSED 0)))) ∧
   (∀ (s : State) (n : Nat), n < 2 ^ 27 →
     (loadBusy s = true → Does (.compatLoadGo n) s (fun t =>
       OnlyRegs [(CFG_LOAD_CTL_REFUSED, 0)] s t ∧ fget t CFG_LOAD_CTL_REFUSED 0 = 1)) ∧
     (loadBusy s = false → fget s CFG_COMPAT_EN 0 = 0 → Does (.compatLoadGo n) s (fun t =>
       fget t CFG_LOAD_STAT_PHASE 0 = 4 ∧ fget t CFG_LOAD_STAT_CODE 0 = 0x20 ∧ t.cfg.compat = none ∧ t.array = s.array)) ∧
     (loadBusy s = false → fget s CFG_COMPAT_EN 0 = 1 → n < 32 → Does (.compatLoadGo n) s (fun t =>
       fget t CFG_LOAD_STAT_PHASE 0 = 4 ∧ fget t CFG_LOAD_STAT_CODE 0 = 9 ∧ t.cfg.compat = none ∧ t.array = s.array))) ∧
   (∀ (s : State) (n : Nat), 32 ≤ n → n ≤ 67108864 → loadBusy s = false → fget s CFG_COMPAT_EN 0 = 1 → fget s CFG_COMPAT_OFFSET 0 ≤ 72 →
     let q := stageRead (fset (fset (fset (bringOver s) CFG_LOAD_CTL_STAGED 0 n) CFG_LOAD_STAT_KIND 0 0xF) CFG_LOAD_ID_SID 0 0) 32
     let w := bytesToWords 5 q.2
     let cabs := compatCabs (fget q.1 CFG_COMPAT_OFFSET 0) (wf (wAt w 1) 0 24)
     fget q.1 CFG_COMPAT_OFFSET 0 = fget s CFG_COMPAT_OFFSET 0 → crc32cR (q.2.take 24) = wf (wAt w 3) 0 32 → compatHdrOk w = true →
     (wAt w 2).toNat ≤ n → Placed q.1 → (∀ l ∈ cabs, cabState q.1 (physOf q.1 l) = stEMPTY ∨ cabState q.1 (physOf q.1 l) = stHELD) →
     Does (.compatLoadGo n) s (fun t => fget t CFG_LOAD_STAT_PHASE 0 = 2 ∧ fget t CFG_LOAD_STAT_CODE 0 = 0 ∧
       t.cfg.compat = some { ofs := fget s CFG_COMPAT_OFFSET 0, regions := wf (wAt w 1) 0 24, len := (wAt w 2).toNat, pos := 32 } ∧
       ∀ l ∈ cabs, cabState t (physOf q.1 l) = stLOADING)) ∧
   (∀ s : State, s.cfg.compat = none → exec .compatRecord s = .next s) ∧
   (∀ (s u : State) (c : CompatJob) (w : List Word) (fr col row sec : Nat), NextRecord s c u w → c.ofs ≤ 72 → Placed u → fr < 24 →
     c.regions.testBit fr = true → col < 16 → row < 8 → sec < 16 →
     (wAt w 0).toNat = 2 ^ 56 + secWords sec * 2 ^ 32 + fr * 2 ^ 12 + col * 2 ^ 8 + row * 2 ^ 5 + sec →
     (1 ≤ sec → newOp (wAt w 1) = false) → gapPos u (physOf u (c.ofs + fr)) ≤ 16 →
     Does .compatRecord s (fun t =>
       (∀ i : Nat, i < secWords sec → smGet 0 (cell t (cid (physOf u (c.ofs + fr)) (pcolOf u (physOf u (c.ofs + fr)) col) row)).cfg
         ((if sec = 0 then 0 else 12 + 3 * (sec - 1)) + i) = eccEnc (wAt w (i + 1))) ∧
       (∀ k : Nat, k ≠ cid (physOf u (c.ofs + fr)) (pcolOf u (physOf u (c.ofs + fr)) col) row → cell t k = cell u k) ∧
       ∃ d : CompatJob, t.cfg.compat = some d ∧ d.pos = c.pos + 8 * (secWords sec + 2))) ∧
   (∀ (s u : State) (c : CompatJob) (w : List Word) (fr col row sec : Nat), NextRecord s c u w → c.ofs ≤ 72 → Placed u → fr < 24 →
     c.regions.testBit fr = true → col < 16 → row < 8 → 1 ≤ sec → sec < 16 →
     (wAt w 0).toNat = 2 ^ 56 + secWords sec * 2 ^ 32 + fr * 2 ^ 12 + col * 2 ^ 8 + row * 2 ^ 5 + sec → newOp (wAt w 1) = true →
     Does .compatRecord s (fun t => t.cfg.compat = none ∧ fget t CFG_LOAD_STAT_PHASE 0 = 6 ∧ fget t CFG_LOAD_STAT_CODE 0 = 0x23 ∧
       ∀ l ∈ compatCabs c.ofs c.regions, cabState t (physOf u l) = stINCONSISTENT)) ∧
   (∀ (s u : State) (c : CompatJob) (w : List Word), NextRecord s c u w → c.ofs ≤ 72 → Placed u →
     (wf (wAt w 0) 56 8 ∉ [0x01, 0x10, 0x11, 0x7E] → Does .compatRecord s (fun t => t.cfg.compat = none ∧
       fget t CFG_LOAD_STAT_PHASE 0 = 6 ∧ fget t CFG_LOAD_STAT_CODE 0 = 0x22 ∧
       ∀ l ∈ compatCabs c.ofs c.regions, cabState t (physOf u l) = stINCONSISTENT)) ∧
     ((wAt w 0).toNat = 0x7E * 2 ^ 56 → Does .compatRecord s (fun t => t.cfg.compat = none ∧ fget t CFG_LOAD_STAT_PHASE 0 = 3 ∧
       ∀ l ∈ compatCabs c.ofs c.regions, cabState t (physOf u l) = stHELD))))

/-- RECOVERY_RELOAD (R295, R408): none while a load is in progress; the next one due writes its FAULTED cabinet, which
ends HELD, or FAULTED again where a write fails; a cabinet that is no longer FAULTED is passed over. LOCKSTEP_MISMATCH,
PAIR_MAP_WRITE and SRAM_PATROL (R335, R336, R340). -/
def Obligations.RecoveryReloads : Prop :=
  (∀ (s : State) (bad : Bool), s.cfg.due = [] ∨ s.cfg.job ≠ none ∨ s.cfg.compat ≠ none → exec (.recoveryReload bad) s = .next s) ∧
  (∀ (s : State) (l : Nat) (r : List Nat), s.cfg.job = none → s.cfg.compat = none → s.cfg.due = l :: r → l < 96 → Placed s →
    (cabState s (physOf s l) = stFAULTED →
      Does (.recoveryReload false) s (fun t => t.cfg.due = r ∧ cabState t (physOf s l) = stHELD ∧
        fget t CAB_DRAWER_VALID_VALID (physOf s l) = 0x7FFF ∧ fget t CAB_STATE_FENCED (physOf s l) = 0) ∧
      Does (.recoveryReload true) s (fun t => t.cfg.due = r ∧ cabState t (physOf s l) = stFAULTED ∧
        ∃ e ∈ t.flt.raised, e.cls = clsU ∧ e.ukind = 0)) ∧
    (cabState s (physOf s l) ≠ stFAULTED → ∀ bad : Bool, exec (.recoveryReload bad) s = .next { s with cfg := { s.cfg with due := r } })) ∧
  (∀ (s : State) (q k : Nat), q < 5 → fget s SYS_PAIR_STAT_RUN q = 1 → fget s SYS_PAIR_STAT_STATE q ≠ 3 → logicalPair s q = some k →
    Does (.lockstepMismatch q) s (fun t => fget t SYS_PAIR_STAT_STATE q = 3 ∧ fget t SYS_PAIR_MAP_VALID k = 0 ∧
      fget t SYS_PAIR_STAT_MISMATCH q = min (fget s SYS_PAIR_STAT_MISMATCH q + 1) (2 ^ SYS_PAIR_STAT_MISMATCH.width - 1) ∧
      (∃ e : FaultEvt, t.flt.raised = s.flt.raised ++ [e] ∧ e.src = 48 ∧ e.cls = clsF ∧ e.ukind = 9 ∧ e.uid = q) ∧
      (∀ w ∈ t.ctl.waiting, w.1 ≠ k) ∧
      ∀ x : Nat, inService s k = some x → (thr t x).st = thREADY ∧ (thr t x).restart = true ∧ inService t k = none)) ∧
  (∀ (s : State) (q : Nat), q < 5 → fget s SYS_PAIR_STAT_RUN q = 0 ∨ fget s SYS_PAIR_STAT_STATE q = 3 →
    exec (.lockstepMismatch q) s = .next s) ∧
  (∀ (s : State) (k q : Nat), k < 4 → q < 5 →
    (exec (.pairMapWrite k (2 ^ 31 + q) false) s = .next s) ∧
    (fget s SYS_PAIR_STAT_STATE q = 3 ∨ (∃ j : Nat, j < 4 ∧ j ≠ k ∧ fget s SYS_PAIR_MAP_VALID j = 1 ∧ fget s SYS_PAIR_MAP_PHYS j = q) →
      Does (.pairMapWrite k (2 ^ 31 + q) true) s (fun t => OnlyRegs [(SYS_PAIR_STAT_REFUSED, q)] s t ∧
        fget t SYS_PAIR_STAT_REFUSED q = 1)) ∧
    (fget s SYS_PAIR_STAT_STATE q = 1 → fget s SYS_PAIR_MAP_VALID k = 0 →
      (∀ j : Nat, j < 4 → j ≠ k → fget s SYS_PAIR_MAP_VALID j = 0 ∨ fget s SYS_PAIR_MAP_PHYS j ≠ q) →
      Does (.pairMapWrite k (2 ^ 31 + q) true) s (fun t => fget t SYS_PAIR_MAP_VALID k = 1 ∧ fget t SYS_PAIR_MAP_PHYS k = q ∧
        fget t SYS_PAIR_STAT_STATE q = 0 ∧ (bunit t (300 + q)).run = false))) ∧
  (∀ (s : State) (e : Code), fgetB s FLT_INJ_ACTIVE 49 = false →
    (∀ d : BitVec 64, eccJudge (sramCode s s.ctl.sramPat ^^^ e) = .clean d → Does (.sramPatrol e) s (fun t => t.regs = s.regs ∧ t.flt = s.flt ∧
      t.ctl.sramPat = (s.ctl.sramPat + 1) % 524288)) ∧
    (∀ d : BitVec 64, eccJudge (sramCode s s.ctl.sramPat ^^^ e) = .fixed d → Does (.sramPatrol e) s (fun t =>
      sramCode t s.ctl.sramPat = eccEnc d ∧ t.ctl.sramPat = (s.ctl.sramPat + 1) % 524288 ∧
      fget t SYS_SRAM_ERR_CE 0 = min (fget s SYS_SRAM_ERR_CE 0 + 1) (2 ^ SYS_SRAM_ERR_CE.width - 1) ∧
      OnlyFields [(SYS_SRAM_ERR_CE, 0), (SYS_SRAM_ERR_LAST, 0)] s t ∧
      ∃ x : FaultEvt, t.flt.raised = s.flt.raised ++ [x] ∧ x.src = 49 ∧ x.cls = clsC ∧ x.addr = s.ctl.sramPat)) ∧
    (eccJudge (sramCode s s.ctl.sramPat ^^^ e) = .bad → Does (.sramPatrol e) s (fun t =>
      sramCode t s.ctl.sramPat = sramCode s s.ctl.sramPat ^^^ e ∧
      fget t SYS_SRAM_ERR_UE 0 = min (fget s SYS_SRAM_ERR_UE 0 + 1) (2 ^ SYS_SRAM_ERR_UE.width - 1) ∧
      OnlyFields [(SYS_SRAM_ERR_UE, 0), (SYS_SRAM_ERR_LAST, 0)] s t ∧
      ∃ x : FaultEvt, t.flt.raised = s.flt.raised ++ [x] ∧ x.src = 49 ∧ x.cls = clsU ∧ x.addr = s.ctl.sramPat)))

/-- Releases (R341 to R343, R348, R350): THREAD_DESC_WRITE, SCH_POST_WRITE, EVENT_LINE_POST, TICK_LIST_RELEASE,
CYCLE_LIST_RELEASE and DEADLINE_MISS. A release makes a thread READY with its relative deadline added to the release's
tick and offset; one not yet due waits on the tick list. Dispatch and SCH_DONE (R344 to R346, R349, R351): SCH_TAKE,
THREAD_DISPATCH, SCH_COMPLETE, SCH_YIELD, SCH_SLEEP, SCH_STOP and BUDGET_OVERRUN. The thread given to the one pair that
waits is the one that goes before every other eligible thread; a thread that leaves releases its flow; one over its
budget goes FAULTED; a store that names another thread is counted. -/
def Obligations.Scheduler : Prop :=
  ((∀ (s : State) (k : Nat) (w : Word), k < 4096 →
     Does (.threadDescWrite k w false) s (fun t => OnlyRegs [(SCH_STAT_REFUSED, 0)] s t ∧ fget t SCH_STAT_REFUSED 0 = 1) ∧
     ((thr s k).valid = true → (thr s k).st ≠ thIDLE → Does (.threadDescWrite k w true) s (fun t =>
       fget t SCH_STAT_REFUSED 0 = 1 ∧ t.ctl.thr = s.ctl.thr)) ∧
     (∀ d : Nat, d = (smGet 0 s.ctl.desc (4 * k)).toNat + (smGet 0 s.ctl.desc (4 * k + 1)).toNat * 2 ^ 64 +
         (smGet 0 s.ctl.desc (4 * k + 2)).toNat * 2 ^ 128 + w.toNat * 2 ^ 192 →
       ((thr s k).valid = false ∨ (thr s k).st = thIDLE) → thrOk (thrOf d) = true →
       Does (.threadDescWrite k w true) s (fun t => thr t k = thrOf d ∧ t.regs = s.regs ∧ ∀ u : Nat, u ≠ k → thr t u = thr s u))) ∧
   (∀ (s : State) (k : Nat), k < 4096 →
     ((thr s k).valid = false → exec (.schPostWrite k) s = .next s) ∧
     ((thr s k).valid = true →
       ((thr s k).periodic = false → (thr s k).st = thIDLE →
         ((thr s k).rel = 0 ∨ (thr s k).rel - 1 + (thr s k).period ≤ s.time.tick) → Does (.schPostWrite k) s (fun t =>
           (thr t k).st = thREADY ∧ (thr t k).rel = s.time.tick + 1 ∧ (thr t k).job = true ∧ (thr t k).posts = (thr s k).posts ∧
           (thr t k).dlTick = (s.time.tick + (thr s k).rdlTick + (stampOfs s + (thr s k).rdlOfs) / max 1 (ofsCarry s)) % 2 ^ 48 ∧
           (thr t k).dlOfs = (stampOfs s + (thr s k).rdlOfs) % max 1 (ofsCarry s) ∧ t.regs = s.regs ∧
           ∀ u : Nat, u ≠ k → thr t u = thr s u)) ∧
       ((thr s k).periodic = false → (thr s k).st = thIDLE → (thr s k).rel ≠ 0 →
         s.time.tick < (thr s k).rel - 1 + (thr s k).period → s.ctl.tickList.length < 2048 → Does (.schPostWrite k) s (fun t =>
           (thr t k).st = thDELAYED ∧ ((thr s k).rel - 1 + (thr s k).period, k) ∈ t.ctl.tickList ∧ t.regs = s.regs)) ∧
       ((thr s k).periodic = false → (thr s k).st ≠ thIDLE → (thr s k).posts < 255 → Does (.schPostWrite k) s (fun t =>
         thr t k = { thr s k with posts := (thr s k).posts + 1 } ∧ t.regs = s.regs ∧ ∀ u : Nat, u ≠ k → thr t u = thr s u)) ∧
       ((thr s k).periodic = false → (thr s k).st ≠ thIDLE → (thr s k).posts = 255 → Does (.schPostWrite k) s (fun t =>
         fget t SCH_STAT_POST_LOST 0 = min (fget s SCH_STAT_POST_LOST 0 + 1) (2 ^ SCH_STAT_POST_LOST.width - 1) ∧
         OnlyRegs [(SCH_STAT_POST_LOST, 0)] s t)) ∧
       ((thr s k).periodic = true → (thr s k).st = thIDLE → s.ctl.tickList.length < 2048 → Does (.schPostWrite k) s (fun t =>
         (thr t k).st = thDELAYED ∧ (s.time.tick + 1, k) ∈ t.ctl.tickList ∧ t.regs = s.regs)) ∧
       ((thr s k).periodic = true → (thr s k).st ≠ thIDLE → Does (.schPostWrite k) s (fun t =>
         fget t SCH_STAT_POST_IGN 0 = min (fget s SCH_STAT_POST_IGN 0 + 1) (2 ^ SCH_STAT_POST_IGN.width - 1) ∧
         OnlyRegs [(SCH_STAT_POST_IGN, 0)] s t)))) ∧
   (∀ (s : State) (e : Nat), e < 64 →
     (e ∉ s.evt.lines → exec (.eventLinePost e) s = .next s) ∧
     (e ∈ s.evt.lines → fget s SCH_EVT_BIND_EN e = 0 →
       Does (.eventLinePost e) s (fun t => t = { s with evt := { s.evt with lines := t.evt.lines } } ∧ e ∉ t.evt.lines)) ∧
     (e ∈ s.evt.lines → fget s SCH_EVT_BIND_EN e = 1 → fget s SCH_EVT_BIND_THREAD e < 4096 →
       ∃ u : State, u = { s with evt := { s.evt with lines := u.evt.lines } } ∧ e ∉ u.evt.lines ∧
         exec (.eventLinePost e) s = exec (.schPostWrite (fget s SCH_EVT_BIND_THREAD e)) u)) ∧
   (∀ s : State, s.ctl.tickList = [] → exec .tickListRelease s = .next s) ∧
   (∀ (s : State) (due k : Nat) (r : List (Nat × Nat)), s.ctl.tickList = (due, k) :: r →
     (s.time.tick < due → exec .tickListRelease s = .next s) ∧
     (due ≤ s.time.tick → (thr s k).st = thDELAYED → Does .tickListRelease s (fun t => t.ctl.tickList = r ∧ t.regs = s.regs ∧
       (thr t k).st = thREADY ∧ (thr t k).rel = due + 1 ∧ (thr t k).job = true ∧
       (thr t k).dlTick = (due + (thr s k).rdlTick + (thr s k).rdlOfs / max 1 (ofsCarry s)) % 2 ^ 48 ∧
       (thr t k).dlOfs = (thr s k).rdlOfs % max 1 (ofsCarry s) ∧ ∀ u : Nat, u ≠ k → thr t u = thr s u)) ∧
     (due ≤ s.time.tick → (thr s k).st ≠ thDELAYED →
       exec .tickListRelease s = .next { s with ctl := { s.ctl with tickList := r } })) ∧
   (∀ s : State, s.ctl.cycList = [] → exec .cycleListRelease s = .next s) ∧
   (∀ (s : State) (due c k : Nat) (r : List (Nat × Nat × Nat)), s.ctl.cycList = (due, c, k) :: r →
     (s.time.tick < due → exec .cycleListRelease s = .next s) ∧
     (due < s.time.tick → (thr s k).st = thDELAYED → Does .cycleListRelease s (fun t => t.ctl.cycList = r ∧ t.regs = s.regs ∧
       thr t k = { thr s k with st := thREADY, ready := s.time.now } ∧ ∀ u : Nat, u ≠ k → thr t u = thr s u)) ∧
     (due < s.time.tick → (thr s k).st ≠ thDELAYED →
       exec .cycleListRelease s = .next { s with ctl := { s.ctl with cycList := r } })) ∧
   (∀ (s : State) (k : Nat), k < 4096 →
     ((thr s k).valid = true → (thr s k).job = true → (thr s k).missed = false → (thr s k).dlTick < s.time.tick → s.time.tick < 2 ^ 47 →
       Does (.deadlineMiss k) s (fun t => thr t k = { thr s k with missed := true, misses := min 255 ((thr s k).misses + 1) } ∧
         fget t SCH_STAT_MISS 0 = min (fget s SCH_STAT_MISS 0 + 1) (2 ^ SCH_STAT_MISS.width - 1) ∧
         OnlyFields [(SCH_STAT_MISS, 0), (MBX_EVT_IDX_PI, 0), (MBX_EVT_CTL_LOST, 0)] s t ∧ ∀ u : Nat, u ≠ k → thr t u = thr s u)) ∧
     ((thr s k).job = false ∨ (thr s k).missed = true → exec (.deadlineMiss k) s = .next s))) ∧
  ((∀ s : State, s.ctl.waiting = [] → exec .threadDispatch s = .next s) ∧
   (∀ (s : State) (k w x : Nat), s.ctl.waiting = [(k, w)] → k < 4 → x < 4096 → (thr s x).flow < 16384 → x ∈ eligibles s k →
     (∀ u ∈ eligibles s k, u ≠ x → thrBefore s x u = true ∧ thrBefore s u x = false) →
     Does .threadDispatch s (fun t => inService t k = some x ∧ t.ctl.waiting = [] ∧ (thr t x).st = thRUNNING ∧
       (thr t x).restart = false ∧ smGet 0 t.ctl.take k = dispatchWord (thr s x) x ∧
       ((thr s x).flowEn = true → fget t SCH_FLOW_HELD (thr s x).flow = 1 ∧ fget t SCH_FLOW_HOLDER (thr s x).flow = x) ∧
       ((thr s x).flowEn = false → t.regs = s.regs) ∧ ∀ u : Nat, u ≠ x → thr t u = thr s u)) ∧
   (∀ (s : State) (k cc : Nat), k < 4 →
     (fget s SYS_PAIR_MAP_VALID k = 0 → exec (.schTake k cc) s = .next s) ∧
     (fget s SYS_PAIR_MAP_VALID k = 1 → inService s k = none → (∀ w ∈ s.ctl.waiting, w.1 ≠ k) → Does (.schTake k cc) s (fun t =>
       t.ctl.waiting = s.ctl.waiting ++ [(k, s.time.now)] ∧ t.ctl.thr = s.ctl.thr ∧ t.regs = s.regs))) ∧
   (∀ (s : State) (k x cc : Nat), Serves s k x cc →
     (fget s SYS_PAIR_MAP_VALID k = 1 → (∀ w ∈ s.ctl.waiting, w.1 ≠ k) → Does (.schTake k cc) s (fun t =>
       t.ctl.waiting = s.ctl.waiting ++ [(k, s.time.now)] ∧ inService t k = none ∧ (thr t x).st = thREADY ∧
       ((thr s x).flowEn = true → fget t SCH_FLOW_HELD (thr s x).flow = 0) ∧ ∀ u : Nat, u ≠ x → thr t u = thr s u)) ∧
     Does (.schYield k x cc) s (fun t => inService t k = none ∧
       thr t x = { thr s x with svc := (thr s x).svc + cc, st := thREADY, ready := s.time.now } ∧
       ((thr s x).flowEn = true → fget t SCH_FLOW_HELD (thr s x).flow = 0) ∧ t.flt = s.flt ∧ ∀ u : Nat, u ≠ x → thr t u = thr s u) ∧
     Does (.schStop k x cc) s (fun t => inService t k = none ∧
       thr t x = { thr s x with svc := (thr s x).svc + cc, st := thIDLE, posts := 0, job := false } ∧
       ((thr s x).flowEn = true → fget t SCH_FLOW_HELD (thr s x).flow = 0) ∧ t.flt = s.flt ∧ ∀ u : Nat, u ≠ x → thr t u = thr s u) ∧
     (∀ d : Nat, d < 2 ^ 32 → s.ctl.cycList.length < 2048 → Does (.schSleep k x d cc) s (fun t => inService t k = none ∧
       thr t x = { thr s x with svc := (thr s x).svc + cc, st := thDELAYED } ∧
       (s.time.tick + (cycOfs s + d) / max 1 (tickLen s), (cycOfs s + d) % max 1 (tickLen s), x) ∈ t.ctl.cycList ∧
       t.flt = s.flt ∧ ∀ u : Nat, u ≠ x → thr t u = thr s u)) ∧
     ((thr s x).periodic = false → (thr s x).posts = 0 → Does (.schComplete k x cc) s (fun t => inService t k = none ∧
       thr t x = { thr s x with svc := (thr s x).svc + cc, st := thIDLE, job := false } ∧
       ((thr s x).flowEn = true → fget t SCH_FLOW_HELD (thr s x).flow = 0) ∧ t.flt = s.flt ∧ ∀ u : Nat, u ≠ x → thr t u = thr s u)) ∧
     ((thr s x).periodic = true → s.time.tick < (thr s x).rel - 1 + (thr s x).period → s.ctl.tickList.length < 2048 →
       Does (.schComplete k x cc) s (fun t => inService t k = none ∧ (thr t x).st = thDELAYED ∧ (thr t x).job = false ∧
         ((thr s x).rel - 1 + (thr s x).period, x) ∈ t.ctl.tickList ∧ t.flt = s.flt)) ∧
     ((thr s x).periodic = true → (thr s x).rel - 1 + (thr s x).period ≤ s.time.tick →
       Does (.schComplete k x cc) s (fun t => inService t k = none ∧ (thr t x).st = thREADY ∧ (thr t x).job = true ∧
         (thr t x).rel = (thr s x).rel - 1 + (thr s x).period + 1 ∧ t.flt = s.flt)) ∧
     Does (.budgetOverrun k cc) s (fun t => t = { s with ctl := t.ctl } ∧ thr t x = { thr s x with svc := (thr s x).svc + cc } ∧
       ∀ u : Nat, u ≠ x → thr t u = thr s u)) ∧
   (∀ (s : State) (k x cc : Nat), k < 4 → x < 4096 → inService s k = some x → (thr s x).ovr = false → (thr s x).budget ≠ 0 →
     (thr s x).budget < (thr s x).svc + cc → (thr s x).flow < 16384 →
     Does (.budgetOverrun k cc) s (fun t => (thr t x).ovr = true ∧ (thr t x).overruns = min 255 ((thr s x).overruns + 1) ∧
       fget t SCH_STAT_OVERRUN 0 = min (fget s SCH_STAT_OVERRUN 0 + 1) (2 ^ SCH_STAT_OVERRUN.width - 1) ∧
       ∃ e : FaultEvt, t.flt.raised = s.flt.raised ++ [e] ∧ e.src = 50 ∧ e.cls = clsU ∧ e.ukind = 8 ∧ e.uid = x) ∧
     Does (.schComplete k x cc) s (fun t => inService t k = none ∧ (thr t x).st = thFAULTED ∧
       fget t FLT_UNIT_FAULTED (unitIx 8 x) = 1 ∧
       fget t SCH_STAT_OVERRUN 0 = min (fget s SCH_STAT_OVERRUN 0 + 1) (2 ^ SCH_STAT_OVERRUN.width - 1))) ∧
   (∀ (s : State) (k cc : Nat), k < 4 → inService s k = none → exec (.budgetOverrun k cc) s = .next s) ∧
   (∀ (s : State) (k x cc : Nat), k < 4 → x < 4096 → inService s k ≠ some x →
     Does (.schYield k x cc) s (fun t => t.ctl = s.ctl ∧ OnlyFields [(SCH_STAT_BAD_DONE, 0)] s t ∧
       fget t SCH_STAT_BAD_DONE 0 = min (fget s SCH_STAT_BAD_DONE 0 + 1) (2 ^ SCH_STAT_BAD_DONE.width - 1) ∧
       ∃ e : FaultEvt, t.flt.raised = s.flt.raised ++ [e] ∧ e.src = 50 ∧ e.cls = clsU) ∧
     exec (.schComplete k x cc) s = exec (.schYield k x cc) s ∧ exec (.schStop k x cc) s = exec (.schYield k x cc) s))

/-- The mailbox windows and doorbells (R355 to R361): MBX_REQUEST_WRITE, MBX_DOORBELL_WRITE and MBX_TAKE. A write to the
window of a mailbox that is rung or busy is discarded and counted. A taken request is checked: a bad CHK, a number that
is neither the next nor the last one's, a repeat of the last request, an unknown command and a wrong length are answered
as R359, R360 and R366 say; one that passes is run. EVT_CI_WRITE (R372) takes a value up to PI. SPI_READ, SPI_WRITE and
SPI_STATUS (R357): aligned groups within the space, none while the device is held in reset (R321). -/
def Obligations.MailboxExchange : Prop :=
  (∀ (s : State) (m a : Nat) (b : List Byte), m < 16 → a + b.length ≤ 4096 →
    ((fget s MBX_DOORBELL_DB 0).testBit m = true ∨ (fget s MBX_BUSY_BUSY 0).testBit m = true →
      Does (.mbxRequestWrite m a b) s (fun t => OnlyRegs [(MBX_STAT_WR_DROP, 0)] s t ∧
        fget t MBX_STAT_WR_DROP 0 = min (fget s MBX_STAT_WR_DROP 0 + 1) 65535)) ∧
    ((fget s MBX_DOORBELL_DB 0).testBit m = false → (fget s MBX_BUSY_BUSY 0).testBit m = false →
      Does (.mbxRequestWrite m a b) s (fun t => t = { s with svc := t.svc } ∧ winGet (mbx t m).req a b.length = b ∧
        (∀ i : Nat, i < a ∨ a + b.length ≤ i → smGet 0 (mbx t m).req i = smGet 0 (mbx s m).req i) ∧
        (mbx t m).rsp = (mbx s m).rsp ∧ ∀ n : Nat, n ≠ m → mbx t n = mbx s n))) ∧
  (∀ (s : State) (m : Nat), m < 16 →
    ((fget s MBX_DOORBELL_DB 0).testBit m = false → Does (.mbxDoorbellWrite (2 ^ m)) s (fun t =>
      OnlyFields [(MBX_DOORBELL_DB, 0)] s t ∧ (fget t MBX_DOORBELL_DB 0).testBit m = true ∧
      (∀ n : Nat, n < 16 → n ≠ m → (fget t MBX_DOORBELL_DB 0).testBit n = (fget s MBX_DOORBELL_DB 0).testBit n) ∧
      t.svc.order = s.svc.order ++ [m] ∧ m ∈ t.evt.lines)) ∧
    ((fget s MBX_DOORBELL_DB 0).testBit m = true → exec (.mbxDoorbellWrite (2 ^ m)) s = .next s)) ∧
  (∀ (s : State) (ext : List Byte), s.svc.waits = [] → s.svc.held = [] → (mbxServed s = false ∨ s.svc.order = []) →
    exec (.mbxTake ext) s = .next s) ∧
  (∀ (s : State) (m tag seq code grp flags chk : Nat) (pay ext : List Byte), Rung s m →
    Requested s m tag seq code grp flags chk pay →
    (flags.testBit 0 = true → chk ≠ crc32cR (winGet (mbx s m).req 0 20 ++ leBytes 4 0 ++ pay) →
      Does (.mbxTake ext) s (fun t => Answered t m 6 0 [] ∧ t.svc.order = [] ∧ (mbx t m).seq = (mbx s m).seq ∧
        fget t MBX_STAT_CHK_ERR m = min (fget s MBX_STAT_CHK_ERR m + 1) 65535)) ∧
    (flags.testBit 0 = false → flags.testBit 1 = false → ((mbx s m).sync = false ∨ (seq ≠ (mbx s m).seq ∧ seq ≠ ((mbx s m).seq + 1) % 65536)) →
      Does (.mbxTake ext) s (fun t => Answered t m 5 0 [] ∧ t.svc.order = [] ∧ (mbx t m).seq = (mbx s m).seq ∧
        fget t MBX_STAT_SEQ_ERR m = min (fget s MBX_STAT_SEQ_ERR m + 1) 65535)) ∧
    (flags.testBit 0 = false → flags.testBit 1 = false → (mbx s m).sync = true → seq = (mbx s m).seq → grp = (mbx s m).grp →
      code = (mbx s m).code → tag = (mbx s m).tag → (mbx s m).st < 256 → (mbx s m).sub < 256 → (mbx s m).pay.length ≤ 4072 →
      Does (.mbxTake ext) s (fun t => Answered t m (mbx s m).st (mbx s m).sub (mbx s m).pay ∧ t.svc.order = [] ∧
        fget t MBX_STAT_REPLAY m = min (fget s MBX_STAT_REPLAY m + 1) 65535 ∧ t.time = s.time ∧ t.array = s.array)) ∧
    (flags.testBit 0 = false → (flags.testBit 1 = true ∨ ((mbx s m).sync = true ∧ seq = ((mbx s m).seq + 1) % 65536)) →
      1 ≤ grp → grp ≤ 10 → (fget s MBX_CFG_GMASK m).testBit (grp - 1) = true →
      (widths grp code pay = none → Does (.mbxTake ext) s (fun t => Answered t m 2 0 [] ∧ (mbx t m).seq = seq ∧
        (mbx t m).sync = true ∧ t.array = s.array ∧ t.time = s.time)) ∧
      (∀ l : List Nat, widths grp code pay = some l → splitFields l pay = none → Does (.mbxTake ext) s (fun t => Answered t m 3 0 [] ∧
        (mbx t m).seq = seq ∧ t.array = s.array ∧ t.time = s.time)) ∧
      (grp = 3 → code = 5 → ∀ b : Nat, b < 2 → pay = [BitVec.ofNat 8 b] → Does (.mbxTake ext) s (fun t => Answered t m 0 0 [] ∧
        fget t SYS_TICK_CFG_TICK_OUT_EN 0 = b ∧ (mbx t m).seq = seq ∧ (mbx t m).sync = true ∧ t.svc.order = [] ∧
        (fget t MBX_DOORBELL_DB 0).testBit m = false)))) ∧
  (∀ (s : State) (v : Nat),
    ((v % 65536 + 65536 - fget s MBX_EVT_IDX_CI 0) % 65536 ≤ ringUsed s → s.evt.lost = 0 → Does (.evtCiWrite v) s (fun t =>
      fget t MBX_EVT_IDX_CI 0 = v % 65536 ∧ OnlyRegs [(MBX_EVT_IDX_CI, 0)] s t)) ∧
    ((v % 65536 + 65536 - fget s MBX_EVT_IDX_CI 0) % 65536 ≤ ringUsed s → s.evt.lost ≠ 0 →
      (fget s MBX_EVT_IDX_PI 0 + 65536 - v % 65536) % 65536 < 2047 → Does (.evtCiWrite v) s (fun t =>
        fget t MBX_EVT_IDX_CI 0 = v % 65536 ∧ fget t MBX_EVT_IDX_PI 0 = (fget s MBX_EVT_IDX_PI 0 + 1) % 65536 ∧ t.evt.lost = 0 ∧
        smGet 0 t.evt.ring (4 * (fget s MBX_EVT_IDX_PI 0 % 2048)) = BitVec.ofNat 64 (2 ^ 48 + s.evt.next % 2 ^ 32))) ∧
    (ringUsed s < (v % 65536 + 65536 - fget s MBX_EVT_IDX_CI 0) % 65536 → exec (.evtCiWrite v) s = .next s)) ∧
  (∀ (s : State) (a n : Nat), s.boot.held = true → exec (.spiRead a n) s = .next s ∧ ∀ b : List Byte, exec (.spiWrite a b) s = .next s) ∧
  (∀ (s : State) (a n : Nat), a < 2 ^ 24 → n ≤ 2 ^ 20 → 0x50000 ≤ a → a % 4 = 0 → s.boot.held = false →
    Does (.spiRead a n) s (fun t => t = { s with bus := t.bus } ∧ t.bus.bytes = List.replicate n 0) ∧
    ∀ b : List Byte, exec (.spiWrite a b) s = .next s) ∧
  (∀ (s : State) (a : Nat) (b : List Byte), a % 4 ≠ 0 → exec (.spiWrite a b) s = .next s) ∧
  (∀ s : State, s.boot.held = false → Does (.spiRead 0x10 4) s (fun t => t = { s with bus := t.bus } ∧
    t.bus.bytes = leBytes 4 (fget s MBX_BUSY_BUSY 0 % 65536))) ∧
  (∀ (s : State) (a b c d : Byte), s.boot.held = false → Does (.spiWrite 0x28 [a, b, c, d]) s (fun t =>
    OnlyRegs [(MBX_EVT_CTL_IRQ_EN, 0), (MBX_EVT_CTL_VEC, 0)] s t ∧ fget t MBX_EVT_CTL_IRQ_EN 0 = leNat [a, b, c, d] / 2 ^ 31 ∧
    fget t MBX_EVT_CTL_VEC 0 = leNat [a, b, c, d] / 2 ^ 21 % 32)) ∧
  (∀ s : State, Does .spiStatus s (fun t => t = { s with bus := t.bus } ∧
    t.bus.data.getLsbD 7 = mbxServed s ∧ t.bus.data.getLsbD 6 = decide (fget s MBX_RSP_RDY_RDY 0 ≠ 0) ∧
    t.bus.data.getLsbD 5 = decide (ringUsed s ≠ 0) ∧ t.bus.data.toNat % 32 = 0))

/-- What the answer to a command does (R355, R358, R362): the response window, RSP_RDY, BUSY, and the interrupt where it
is enabled and the request does not forbid it; nothing else changes. A command whose group GMASK does not allow, one the
ROM phase does not serve, and a cabinet start in SAFE are answered without effect (R364, R365); one of a unit that an
earlier request has waits (R361); a mailbox that is busy or not served takes nothing. -/
def Obligations.AnswerOfACommand : Prop :=
  (∀ (w : State) (m st sub : Nat) (more : Bool) (pay : List Byte), m < 16 → st < 256 → sub < 256 → pay.length ≤ 4072 →
    Answered (finish w m st sub more pay) m st sub pay ∧
    finish w m st sub more pay = { w with regs := (finish w m st sub more pay).regs, svc := (finish w m st sub more pay).svc,
                                          evt := (finish w m st sub more pay).evt } ∧
    OnlyFields [(MBX_BUSY_BUSY, 0), (MBX_RSP_RDY_RDY, 0)] w (finish w m st sub more pay) ∧
    (∀ n : Nat, n ≠ m → mbx (finish w m st sub more pay) n = mbx w n) ∧
    (finish w m st sub more pay).evt.msix = w.evt.msix ++
      (if fget w MBX_CFG_IRQ_EN m ≠ 0 ∧ (mbx w m).flags.testBit 2 = false then [fget w MBX_CFG_VEC m] else [])) ∧
  (∀ (s : State) (m n : Nat), m < 16 → n < 2 ^ 32 → (fget s MBX_BUSY_BUSY 0).testBit m = false →
    (s.boot.rom = false → s.boot.fw = true → fget s SYS_BOOT_STAT_PHASE 0 ≠ 6 → (fget s MBX_CFG_GMASK m).testBit 2 = false →
      Does (.tickSetLen m n) s (fun t => Answered t m 7 0 [] ∧ t.time = s.time ∧
        OnlyFields [(MBX_BUSY_BUSY, 0), (MBX_RSP_RDY_RDY, 0)] s t)) ∧
    (s.boot.rom = true → Does (.tickSetLen m n) s (fun t => Answered t m 8 0 [] ∧ t.time = s.time ∧
        OnlyFields [(MBX_BUSY_BUSY, 0), (MBX_RSP_RDY_RDY, 0)] s t))) ∧
  (∀ (s : State) (m n : Nat), m < 16 → n < 2 ^ 32 → ((fget s MBX_BUSY_BUSY 0).testBit m = true ∨ mbxServed s = false) →
    exec (.tickSetLen m n) s = .next s) ∧
  (∀ (s : State) (m l q : Nat), m < 16 → l < 96 → q < 2 → s.boot.rom = false → s.boot.fw = true → fget s SYS_BOOT_STAT_PHASE 0 ≠ 6 →
    (fget s MBX_BUSY_BUSY 0).testBit m = false → (fget s MBX_CFG_GMASK m).testBit 1 = true → fget s FLT_STATE_STATE 0 ≠ 0 →
    Does (.cabRun m l q) s (fun t => Answered t m 9 0 [] ∧ t.array = s.array)) ∧
  (∀ (s : State) (m l : Nat) (x : Nat), m < 16 → l < 96 → s.boot.rom = false → s.boot.fw = true → fget s SYS_BOOT_STAT_PHASE 0 ≠ 6 →
    (fget s MBX_BUSY_BUSY 0).testBit m = false → (fget s MBX_CFG_GMASK m).testBit 1 = true → (x, .hold l) ∈ s.svc.waits →
    Does (.cabHold m l) s (fun t => t.svc.held = s.svc.held ++ [⟨m, 2, 3, [l], []⟩] ∧ t.svc.waits = s.svc.waits ∧ t.array = s.array ∧
      (fget t MBX_BUSY_BUSY 0).testBit m = true))

/-- The SYS group (R311, R366, R367, R293): SYS_IDENTIFY, SYS_STATUS, SYS_ATTEST, SYS_RESET, SYS_SENSORS, SYS_KEY_REVOKE
and SYS_SVN_RAISE. A fuse blows only with a good signature under another slot that is not revoked, and never the last
slot's; a minimum does not fall. The CAB group (R97, R106, R111 to R113, R366 to R368): every command on a logical
cabinet with its effect or the wait for its guard, and the states in which it is refused. -/
def Obligations.SysAndCabCommands : Prop :=
  ((∀ (s : State) (m : Nat), MbxRuns s m 1 1 [] →
     ∃ pay : List Byte, Answers (.sysIdentify m) s m (taken s m 1 1) pay ∧ pay.length = 81 ∧ pay.take 12 = leBytes 4 idcode ++ leBytes 8 Config.serial ∧
       (pay.drop 22).take 2 = leBytes 2 (ownDev s)) ∧
   (∀ (s : State) (m : Nat), MbxRuns s m 1 2 [] →
     ∃ (w : State) (pay : List Byte), Answers (.sysStatus m) s m w pay ∧ w.array = s.array ∧ w.time = s.time ∧ (∃ a b c : List Byte,
       pay = a ++ leBytes 1 (fget s FLT_STATE_STATE 0) ++ b ++ nState s ++ c ∧ a.length = 8 ∧ b.length = 8 ∧ c.length = 2)) ∧
   (∀ (s : State) (m : Nat) (nonce : List Byte), MbxRuns s m 1 3 [leNat nonce] → nonce.length = 32 →
     ∃ sig : List Byte, Answers (.sysAttest m nonce) s m (taken s m 1 3)
       (shake256 s.boot.image 32 ++ imageDigest (taken s m 1 3) ++ leBytes 8 s.time.tick ++ sig) ∧ sig.length = 114) ∧
   (∀ (s : State) (m d : Nat), MbxRuns s m 1 4 [d] → d < 65536 → Answers (.sysReset m d) s m
     (setBoot (taken s m 1 4) { s.boot with resetAt := some (s.time.now + d * Config.aclkKHz) }) []) ∧
   (∀ (s : State) (m : Nat), MbxRuns s m 1 5 [] → Answers (.sysSensors m) s m (taken s m 1 5)
     (leBytes 1 s.env.temps.length ++ s.env.temps.flatMap tempBytes ++ leBytes 2 s.env.vcore ++ leBytes 2 s.env.vsram)) ∧
   (∀ (s : State) (m slot auth : Nat) (pk sig : List Byte), slot < 256 → auth < 256 → pk.length = 57 → sig.length = 114 →
     MbxRuns s m 1 6 [slot, auth, leNat pk, leNat sig] →
     (4 ≤ slot ∨ 4 ≤ auth → Declines (.sysKeyRevoke m slot auth pk sig) s m (taken s m 1 6) 4) ∧
     (slot < 4 → auth < 4 → (auth = slot ∨ s.otp.revoked.testBit auth = true ∨ (s.otp.revoked ||| 2 ^ slot) % 16 = 15) →
       Declines (.sysKeyRevoke m slot auth pk sig) s m (taken s m 1 6) 7) ∧
     (slot < 4 → auth < 4 → auth ≠ slot → s.otp.revoked.testBit auth = false → (s.otp.revoked ||| 2 ^ slot) % 16 ≠ 15 →
       (otpSigned (taken s m 1 6) 6 auth (leBytes 1 slot ++ leBytes 1 auth) (leBytes 57 (leNat pk)) (leBytes 114 (leNat sig)) = false →
         Declines (.sysKeyRevoke m slot auth pk sig) s m (taken s m 1 6) 0x13) ∧
       (otpSigned (taken s m 1 6) 6 auth (leBytes 1 slot ++ leBytes 1 auth) (leBytes 57 (leNat pk)) (leBytes 114 (leNat sig)) = true →
         ∃ (w : State) (pay : List Byte), Answers (.sysKeyRevoke m slot auth pk sig) s m w pay ∧ pay.length = 2 ∧
           w = { taken s m 1 6 with otp := { s.otp with revoked := s.otp.revoked ||| 2 ^ slot } }))) ∧
   (∀ (s : State) (m which n auth : Nat) (pk sig : List Byte), which < 256 → n < 2 ^ 32 → auth < 256 → pk.length = 57 →
     sig.length = 114 → MbxRuns s m 1 7 [which, n, auth, leNat pk, leNat sig] →
     (1 < which ∨ 4 ≤ auth ∨ n < (if which = 0 then s.otp.svn else s.otp.fwSvn) →
       Declines (.sysSvnRaise m which n auth pk sig) s m (taken s m 1 7) 4) ∧
     (auth < 4 →
       otpSigned (taken s m 1 7) 7 auth (leBytes 1 which ++ leBytes 4 n ++ leBytes 1 auth) (leBytes 57 (leNat pk)) (leBytes 114 (leNat sig)) = true →
       (which = 0 → s.otp.svn ≤ n → Answers (.sysSvnRaise m which n auth pk sig) s m
         { taken s m 1 7 with otp := { s.otp with svn := n } } (leBytes 4 n)) ∧
       (which = 1 → s.otp.fwSvn ≤ n → Answers (.sysSvnRaise m which n auth pk sig) s m
         { taken s m 1 7 with otp := { s.otp with fwSvn := n } } (leBytes 4 n))))) ∧
  ((∀ (s : State) (m cofs addr n : Nat), cofs < 256 → addr < 2 ^ 64 → n ≤ 67108864 →
     (∀ c : Nat, MbxRuns s m 2 1 [0, c, cofs, addr, n] → loadBusy (taken s m 2 1) = true → c < 256 →
       ∃ pay : List Byte, exec (.cabLoad m 0 c cofs addr n []) s = .next (finish (taken s m 2 1) m 1 0 false pay) ∧ pay.take 1 = leBytes 1 1) ∧
     (MbxRuns s m 2 1 [0, 0, cofs, addr, n] → loadBusy (taken s m 2 1) = false →
       ∃ t : State, exec (.loadGo n) (taken s m 2 1) = .next t ∧
         (t.cfg.job ≠ none → Waits (.cabLoad m 0 0 cofs addr n []) s m t .load) ∧
         (t.cfg.job = none → t.cfg.compat = none → ∃ (st sub : Nat) (pay : List Byte), exec (.cabLoad m 0 0 cofs addr n []) s = .next (finish t m st sub false pay) ∧
           pay.take 1 = leBytes 1 (fget t CFG_LOAD_STAT_CODE 0)))) ∧
   (∀ (s : State) (m l p : Nat), physOf (taken s m 2 2) l = p → l < 96 → MbxRuns s m 2 2 [l] →
     (cabState (taken s m 2 2) p = stEMPTY → Answers (.cabUnload m l) s m (taken s m 2 2) [0]) ∧
     (cabState (taken s m 2 2) p = stLOADING → Declines (.cabUnload m l) s m (taken s m 2 2) 9) ∧
     (cabState (taken s m 2 2) p = stFAULTED ∨ cabState (taken s m 2 2) p = stINCONSISTENT →
       Answers (.cabUnload m l) s m (cabEmpty (dueDrop (taken s m 2 2) l) p) [0]) ∧
     (cabState (taken s m 2 2) p = stRUNNING ∨ cabState (taken s m 2 2) p = stHELD →
       Waits (.cabUnload m l) s m (setReq (taken s m 2 2) p (.drain 2)) (.unload l))) ∧
   (∀ (s : State) (m l p : Nat), physOf (taken s m 2 3) l = p → l < 96 → MbxRuns s m 2 3 [l] →
     (cabState (taken s m 2 3) p = stRUNNING →
       Waits (.cabHold m l) s m (setReq (taken s m 2 3) p .hold) (.hold l)) ∧
     (cabState (taken s m 2 3) p ≠ stRUNNING → Declines (.cabHold m l) s m (taken s m 2 3) 9)) ∧
   (∀ (s : State) (m l q p : Nat), physOf (taken s m 2 4) l = p → l < 96 → q < 2 → MbxRuns s m 2 4 [l, q] →
     (fgetB (taken s m 2 4) FLT_UNIT_LATCHED (unitIx 0 l) = true → Declines (.cabRun m l q) s m (taken s m 2 4) 0x11) ∧
     (fgetB (taken s m 2 4) FLT_UNIT_LATCHED (unitIx 0 l) = false → cabState (taken s m 2 4) p ≠ stHELD →
       Declines (.cabRun m l q) s m (taken s m 2 4) 9) ∧
     (fgetB (taken s m 2 4) FLT_UNIT_LATCHED (unitIx 0 l) = false → cabState (taken s m 2 4) p = stHELD →
       planAdm (taken s m 2 4) p q = true →
       Waits (.cabRun m l q) s m (setReq (taken s m 2 4) p (.run q)) (.run l))) ∧
   (∀ (s : State) (m l p : Nat), physOf (taken s m 2 5) l = p → l < 96 → MbxRuns s m 2 5 [l] →
     (cabState (taken s m 2 5) p = stRUNNING ∨ cabState (taken s m 2 5) p = stHELD →
       Waits (.cabDrain m l) s m (setReq (taken s m 2 5) p (.drain 2)) (.drain l)) ∧
     (cabState (taken s m 2 5) p = stEMPTY → Declines (.cabDrain m l) s m (taken s m 2 5) 9)) ∧
   (∀ (s : State) (m l p : Nat), physOf (taken s m 2 6) l = p → l < 96 →
     (MbxRuns s m 2 6 [l, 1] → cabState (taken s m 2 6) p = stOFF →
       Answers (.cabPower m l 1) s m (cabGo (taken s m 2 6) p stEMPTY) [0]) ∧
     (MbxRuns s m 2 6 [l, 0] → cabState (taken s m 2 6) p = stEMPTY →
       Answers (.cabPower m l 0) s m (cabOff (bistAbort (dueDrop (taken s m 2 6) l) (100 + p)) p) [7]) ∧
     (MbxRuns s m 2 6 [l, 0] → cabState (taken s m 2 6) p = stRUNNING →
       Waits (.cabPower m l 0) s m (setReq (taken s m 2 6) p (.drain 1)) (.power l))) ∧
   (∀ (s : State) (m l r p : Nat), physOf (taken s m 2 7) l = p → l < 96 → isReserve r = true → MbxRuns s m 2 7 [l, r] → loadBusy (taken s m 2 7) = false →
     (fgetB (taken s m 2 7) CAB_STATE_RELOC p = false → Declines (.cabRelocate m l r) s m (taken s m 2 7) 7) ∧
     (fgetB (taken s m 2 7) CAB_STATE_RELOC p = true → cabState (taken s m 2 7) r ≠ stEMPTY →
       Declines (.cabRelocate m l r) s m (taken s m 2 7) 9) ∧
     (fgetB (taken s m 2 7) CAB_STATE_RELOC p = true → cabState (taken s m 2 7) r = stEMPTY →
       cabState (taken s m 2 7) p = stRUNNING → Placed s →
       overbooked (relocTrial (taken s m 2 7) l p r)
         (activeBooks (relocTrial (taken s m 2 7) l p r)) = false →
       ∃ w : State, Waits (.cabRelocate m l r) s m w (.relocate l r) ∧ cabState w r = stHELD ∧ physOf w l = p ∧
         (cab w (physOf w l)).req = .drain 2 ∧
         (cab w (physOf w l)).reloc = some ⟨l, r⟩)) ∧
   (∀ (s : State) (m l q p : Nat), physOf (taken s m 2 8) l = p → l < 96 → q < 2 → MbxRuns s m 2 8 [l, q] →
     (cabState (taken s m 2 8) p ≠ stRUNNING → Declines (.cabPlan m l q) s m (taken s m 2 8) 9) ∧
     (cabState (taken s m 2 8) p = stRUNNING → planAdm (taken s m 2 8) p q = true →
       ∃ (w : State) (pay : List Byte), Answers (.cabPlan m l q) s m w pay ∧ fget w CAB_PLAN_SEL_REQ p = q ∧
         fget w CAB_PLAN_SEL_PEND p =
           (if fget (taken s m 2 8) CAB_PLAN_SEL_CUR p = q then 0 else 1) ∧
         pay = leBytes 1 (fget w CAB_PLAN_SEL_CUR p) ++ leBytes 1 (fget w CAB_PLAN_SEL_PEND p))) ∧
   (∀ (s : State) (m l mode ofs tick p : Nat), physOf (taken s m 2 9) l = p → l < 96 → mode < 2 → ofs < 2 ^ 20 → tick < 2 ^ 64 → MbxRuns s m 2 9 [l, mode, ofs, tick] →
     (fgetB (taken s m 2 9) CAB_STATE_CAP_GRANT p = false →
       Declines (.cabCapture m l mode ofs tick) s m (taken s m 2 9) 7) ∧
     (fgetB (taken s m 2 9) CAB_STATE_CAP_GRANT p = true → setInstances (taken s m 2 9) CAB_CAPTURE_CTL_ARMED = [] →
       s.time.tick < tick → (mode = 0 ∨ ofs < tickLen (taken s m 2 9)) →
       ∃ w : State, Answers (.cabCapture m l mode ofs tick) s m w [] ∧ fget w CAB_CAPTURE_CTL_ARMED p = 1 ∧
         fget w CAB_CAPTURE_CTL_MODE p = mode ∧ fget w CAB_CAPTURE_TICK_TICK p = tick ∧
         OnlyRegs [(CAB_CAPTURE_CTL_ARMED, p), (CAB_CAPTURE_CTL_MODE, p),
           (CAB_CAPTURE_CTL_OFFSET, p), (CAB_CAPTURE_TICK_TICK, p)] (taken s m 2 9) w)) ∧
   (∀ (s : State) (m l col row sec p : Nat), physOf (taken s m 2 10) l = p → l < 96 → col < 16 → row < 8 → MbxRuns s m 2 10 [l, col, row, sec] →
     (cabState (taken s m 2 10) p = stOFF → sec < 26 → Declines (.cabReadback m l col row sec) s m (taken s m 2 10) 0xC) ∧
     (cabState (taken s m 2 10) p ≠ stOFF →
       (sec = 0 → Answers (.cabReadback m l col row sec) s m (taken s m 2 10) (wordBytes ((List.range 12).map (fun i => storedData
         (smGet 0 (cell s (cid p (pcolOf (taken s m 2 10) p col) row)).cfg i))))) ∧
       (1 ≤ sec → sec ≤ 15 → Answers (.cabReadback m l col row sec) s m (taken s m 2 10) (wordBytes ((List.range 3).map (fun i => storedData
         (smGet 0 (cell s (cid p (pcolOf (taken s m 2 10) p col) row)).cfg (12 + 3 * (sec - 1) + i)))))) ∧
       (sec = 25 → Answers (.cabReadback m l col row sec) s m (taken s m 2 10) (wordBytes ((List.range 7).map (fun i =>
         smGet 0 (cell s (cid p (pcolOf (taken s m 2 10) p col) row)).cap i)))))) ∧
   (∀ (s : State) (m l p : Nat), physOf (taken s m 2 11) l = p → l < 96 → MbxRuns s m 2 11 [l] →
     let q := readRegs [(R_CAB_STATE, p), (R_CAB_PLAN_STAT, p), (R_CAB_DRAWER_VALID, p), (R_CAB_GAP, p), (R_CAB_STARTUP, p)] (taken s m 2 11)
     Answers (.cabStatus m l) s m q.1 (q.2 ++ leBytes 1 p ++ leBytes 8 (fget s CFG_IMG_ID_SID l))) ∧
   (∀ (s : State) (m l : Nat), 96 ≤ l → l < 256 →
     (MbxRuns s m 2 3 [l] → Declines (.cabHold m l) s m (taken s m 2 3) 4) ∧
     (MbxRuns s m 2 11 [l] → Declines (.cabStatus m l) s m (taken s m 2 11) 4)))

/-- The TICK and NET groups (R13, R20, R21, R25, R150, R161, R171, R362, R367): commands that set something do what the
register's own command does; commands that report answer the registers of R367, read as any read reads them. -/
def Obligations.TickAndNetCommands : Prop :=
  (∀ (s : State) (m : Nat), MbxRuns s m 3 1 [] →
    let q := readRegs [(R_SYS_TICK_CFG, 0), (R_SYS_TICK_CNT, 0), (R_SYS_TICK_OFS, 0), (R_SYS_TICK_STAT, 0)] (taken s m 3 1)
    Answers (.tickGet m) s m q.1 q.2) ∧
  (∀ (s : State) (m n : Nat), n < 2 ^ 32 → MbxRuns s m 3 2 [n] →
    (n < 300 ∨ 750000 < n → Declines (.tickSetLen m n) s m (taken s m 3 2) 4) ∧
    (300 ≤ n → n ≤ 750000 → tickLenOk (taken s m 3 2) n = true → ∃ w : State, exec (.tickLenWrite n) (taken s m 3 2) = .next w ∧
      w.time.lenNext = some n ∧ Answers (.tickSetLen m n) s m w []) ∧
    (300 ≤ n → n ≤ 750000 → tickLenOk (taken s m 3 2) n = false → Declines (.tickSetLen m n) s m (taken s m 3 2) 9)) ∧
  (∀ (s : State) (m src tol : Nat), src < 256 → tol < 256 → MbxRuns s m 3 3 [src, tol] →
    (3 ≤ src ∨ 16 ≤ tol → Declines (.tickSetSource m src tol) s m (taken s m 3 3) 4) ∧
    (src < 3 → tol < 16 → ∃ w : State, exec (.tickSourceWrite src) (fset (taken s m 3 3) SYS_TICK_CFG_TOL 0 tol) = .next w ∧
      Answers (.tickSetSource m src tol) s m w [])) ∧
  (∀ (s : State) (m : Nat), MbxRuns s m 3 4 [] → fget s SYS_TICK_STAT_ALIGN_PENDING 0 = 0 →
    Waits (.tickAlign m) s m (fset (taken s m 3 4) SYS_TICK_STAT_ALIGN_PENDING 0 1) .align) ∧
  (∀ (s : State) (m en : Nat), en < 256 → MbxRuns s m 3 5 [en] →
    (1 < en → Declines (.tickOutput m en) s m (taken s m 3 5) 4) ∧
    (en ≤ 1 → Answers (.tickOutput m en) s m (fset (taken s m 3 5) SYS_TICK_CFG_TICK_OUT_EN 0 en) [])) ∧
  (∀ (s : State) (m r : Nat), r < 256 →
    (r < 20 → MbxRuns s m 4 1 [r] → let q := readRegs [(R_NOC_RING_STAT, r)] (taken s m 4 1)
      Answers (.netRingStatus m r) s m q.1 q.2) ∧
    (20 ≤ r → MbxRuns s m 4 1 [r] → Declines (.netRingStatus m r) s m (taken s m 4 1) 4) ∧
    (r < 140 → MbxRuns s m 4 3 [r] → let q := readRegs [(R_NOC_LINK_LOAD, r)] (taken s m 4 3)
      Answers (.netLoad m r) s m q.1 q.2) ∧
    (140 ≤ r → MbxRuns s m 4 3 [r] → Declines (.netLoad m r) s m (taken s m 4 3) 4) ∧
    (r < 140 → MbxRuns s m 4 4 [r] →
      let q := readRegs ((List.range (if r < 100 then 8 else 16)).map (fun k => (R_NOC_BOOK, bookIx r k))) (taken s m 4 4)
      Answers (.netBookings m r) s m q.1 (leBytes 1 (if r < 100 then 8 else 16) ++ q.2)) ∧
    (r < 140 → MbxRuns s m 4 5 [r] → let q := readRegs [(R_NOC_RTR_ERR, r), (R_NOC_STOP_STAT, r), (R_NOC_STOP_EVT, r)] (taken s m 4 5)
      Answers (.netCounters m r) s m q.1 q.2)) ∧
  (∀ (s : State) (m st : Nat), st < 100 → MbxRuns s m 4 2 [st, 1] → (∀ b : Nat, b < 100 → (bunit s (200 + b)).run = false) →
    fget s NOC_RTR_CTL_REFUSED st = 0 →
    (rtrState s st = rtNORMAL → ringBusy s st = false → ∃ w : State, rtrState w st = rtENTERING ∧ fget w NOC_RTR_CTL_MODE st = 1 ∧
      Waits (.netRouter m st 1) s m w (.router st 1 s.time.now)) ∧
    (rtrState s st = rtNORMAL → ringBusy s st = true → (ringOthers s st).all (inTest s) = false →
      ∃ w : State, rtrState w st = rtNORMAL ∧ Declines (.netRouter m st 1) s m w 9) ∧
    (rtrState s st = rtNORMAL → ringBusy s st = true → (ringOthers s st).all (inTest s) = true →
      ∃ w : State, rtrState w st = rtENTERING ∧ (∀ b ∈ ringOthers s st, b < 100 → rtrState w b = rtNORMAL) ∧
        Waits (.netRouter m st 1) s m w (.router st 1 s.time.now))) ∧
  (∀ (s : State) (m st mode : Nat), st < 256 → mode < 256 → (100 ≤ st ∨ 1 < mode) → MbxRuns s m 4 2 [st, mode] →
    Declines (.netRouter m st mode) s m (taken s m 4 2) 4) ∧
  (∀ (s : State) (m req drain reorder : Nat), req < 65536 → drain < 256 → reorder < 256 → MbxRuns s m 4 6 [req, drain, reorder] →
    (∀ f ∈ [NOC_CFG_REORDER_TO, NOC_CFG_DRAIN, NOC_CFG_REQ_TO], 0 < fget s f 0 ∧ fget s f 0 < 2 ^ f.width) →
    ∃ w : State, Answers (.netTimers m req drain reorder) s m (readRegs [(R_NOC_CFG, 0)] w).1 (readRegs [(R_NOC_CFG, 0)] w).2 ∧
      fget w NOC_CFG_REQ_TO 0 = (if req = 0 then fget s NOC_CFG_REQ_TO 0 else req) ∧
      fget w NOC_CFG_DRAIN 0 = (if drain = 0 then fget s NOC_CFG_DRAIN 0 else drain) ∧
      fget w NOC_CFG_REORDER_TO 0 = (if reorder = 0 then fget s NOC_CFG_REORDER_TO 0 else reorder) ∧
      OnlyRegs [(NOC_CFG_REORDER_TO, 0), (NOC_CFG_DRAIN, 0), (NOC_CFG_REQ_TO, 0)] (taken s m 4 6) w)

/-- The PORT group (R174, R183, R186, R190, R192, R196, R198, R250, R256, R257, R362, R367): a link's settings are written
while it is OFF and refused otherwise; a good enable waits for the link; the time of day steps and takes its increment;
time-stamps are read oldest first; a span link's WIDTH 3 is refused; SPN_SYS is written while every span link is OFF; the
status commands answer the registers of R367. -/
def Obligations.PortCommands : Prop :=
  (∀ (s : State) (m j n cfg rel q path : Nat), j < 8 → n < 4 → q < 4 → cfg < 2 ^ 64 → rel < 2 ^ 64 → path < 2 ^ 64 →
    fldOf JPT_LINK_CFG_EN cfg = 0 → fldOf JPT_LINK_CFG_REFUSED cfg = 0 →
    fget s JPT_PATH_CFG_LINK (4 * j + q) < 2 → MbxRuns s m 5 1 [j, n, cfg, rel, q, path] →
    (jState s (4 * j + n) ≠ jOFF → Declines (.portJesdCfg m j n cfg rel q path) s m (taken s m 5 1) 9) ∧
    (jState s (4 * j + n) = jOFF → jState s (4 * j + 0) = jOFF → jState s (4 * j + 1) = jOFF → jState s (4 * j + 2) = jOFF →
      jState s (4 * j + 3) = jOFF →
      ∃ w : State, Answers (.portJesdCfg m j n cfg rel q path) s m w [] ∧ jState w (4 * j + n) = jOFF ∧
        ∀ f ∈ jptCfgFlds, fget w f (4 * j + n) = fldOf f cfg)) ∧
  (∀ (s : State) (m j n : Nat), j < 8 → n < 4 → MbxRuns s m 5 2 [j, n, 1] → jState s (4 * j + n) = jOFF →
    fget s JPT_LINK_CFG_REFUSED (4 * j + n) = 0 → (∀ f ∈ jptCfgFlds, fget s f (4 * j + n) < 2 ^ f.width) →
    jptOptionsOk s j n = true → jptFifoModeOk s j n = true →
    ∃ w : State, jState w (4 * j + n) = jCDR ∧ fget w JPT_LINK_CFG_EN (4 * j + n) = 1 ∧
      Waits (.portJesdEnable m j n 1) s m w (.jesd (4 * j + n) s.time.now)) ∧
  (∀ (s : State) (m j n en : Nat), j < 256 → n < 256 → en < 256 → (8 ≤ j ∨ 4 ≤ n ∨ 1 < en) → MbxRuns s m 5 2 [j, n, en] →
    Declines (.portJesdEnable m j n en) s m (taken s m 5 2) 4) ∧
  (∀ (s : State) (m j : Nat), j < 8 →
    (MbxRuns s m 5 3 [j] → ∃ w : State, exec (.sysrefArm j) (taken s m 5 3) = .next w ∧
      Waits (.portJesdSysref m j) s m w (.sysref j s.time.now)) ∧
    (MbxRuns s m 5 4 [j] →
      let q := readRegs ((List.range 4).map (fun n => (R_JPT_LINK_STAT, 4 * j + n)) ++ (List.range 8).map (fun l => (R_JPT_LANE_ERR, 8 * j + l)) ++
        (List.range 4).map (fun k => (R_JPT_PATH_ERR, 4 * j + k)) ++ [(R_JPT_SYSREF, j)]) (taken s m 5 4)
      Answers (.portJesdStatus m j) s m q.1 q.2)) ∧
  (∀ (s : State) (m n v : Nat), n < 8 → v < 2 ^ 64 → MbxRuns s m 5 5 [n, v] →
    (fldOf CPT_PORT_CFG_EN v = 0 → fget s CPT_PORT_CFG_REFUSED n = 0 → ∃ w : State, Answers (.portEthCfg m n v) s m w [] ∧
      fget w CPT_PORT_CFG_EN n = 0 ∧ fget w CPT_PORT_CFG_MODE n = fldOf CPT_PORT_CFG_MODE v ∧
      fget w CPT_PORT_CFG_MAXLEN n = fldOf CPT_PORT_CFG_MAXLEN v ∧ fget w CPT_PORT_CFG_PTP_FLOW n = fldOf CPT_PORT_CFG_PTP_FLOW v) ∧
    (fgetB (cptCfgWrite (fset (taken s m 5 5) CPT_PORT_CFG_REFUSED n 0) n v) CPT_PORT_CFG_REFUSED n = true →
      ∃ w : State, Declines (.portEthCfg m n v) s m w 4 ∧ fget w CPT_PORT_CFG_EN n = 0)) ∧
  (∀ (s : State) (m n : Nat), n < 8 → MbxRuns s m 5 6 [n] → let q := readRegs [(R_CPT_PORT_CFG, n), (R_CPT_PORT_CNT, n)] (taken s m 5 6)
    Answers (.portEthStatus m n) s m q.1 q.2) ∧
  (∀ (s : State) (m v : Nat), v < 2 ^ 40 → MbxRuns s m 5 7 [2, v] →
    ∃ w : State, w = fset (taken s m 5 7) CPT_TOD_INC_INC 0 v ∧ Answers (.portTod m 2 v) s m
      (readRegs [(R_CPT_TOD_SEC, 0), (R_CPT_TOD_NS, 0), (R_CPT_TOD_INC, 0)] w).1
      (readRegs [(R_CPT_TOD_SEC, 0), (R_CPT_TOD_NS, 0), (R_CPT_TOD_INC, 0)] w).2) ∧
  (∀ (s : State) (m v : Nat), v < 2 ^ 64 → MbxRuns s m 5 7 [1, v] → ∃ w : State, w.regs = (taken s m 5 7).regs ∧
    (w.time.tod : Int) = ((s.time.tod : Int) + (if v < 2 ^ 63 then (v : Int) else (v : Int) - 2 ^ 64) * 2 ^ 32) % (2 ^ 48 * (1000000000 * 2 ^ 32)) ∧
    Answers (.portTod m 1 v) s m (readRegs [(R_CPT_TOD_SEC, 0), (R_CPT_TOD_NS, 0), (R_CPT_TOD_INC, 0)] w).1
      (readRegs [(R_CPT_TOD_SEC, 0), (R_CPT_TOD_NS, 0), (R_CPT_TOD_INC, 0)] w).2) ∧
  (∀ (s : State) (m n most : Nat), n < 8 → 1 ≤ most → most ≤ 64 → MbxRuns s m 5 8 [n, most] →
    ∃ (w : State) (b : List Byte), Answers (.portTxts m n most) s m w (leBytes 1 (min most (cptPort s n).stamps.length) ++ b) ∧
      (cptPort w n).stamps = (cptPort s n).stamps.drop (min most (cptPort s n).stamps.length) ∧
      b.length = 8 * min most (cptPort s n).stamps.length) ∧
  (∀ (s : State) (m o v : Nat), o < 2 → v < 2 ^ 32 → MbxRuns s m 5 9 [o, v] → ∃ w : State, Answers (.portSynce m o v) s m w [] ∧
    fget w CPT_SYNCE_EN o = v / 2 ^ 31 ∧ fget w CPT_SYNCE_PORT o = v / 2 ^ 16 % 8 ∧ fget w CPT_SYNCE_DIV o = v % 2 ^ 16 ∧
    OnlyRegs [(CPT_SYNCE_EN, o), (CPT_SYNCE_PORT, o), (CPT_SYNCE_DIV, o)] (taken s m 5 9) w) ∧
  (∀ (s : State) (m k v : Nat), k < 8 → v < 2 ^ 64 → MbxRuns s m 5 10 [k, v] →
    (spState s k ≠ 0 → Declines (.portSpanCfg m k v) s m (taken s m 5 10) 9) ∧
    (spState s k = 0 → fget s SPN_LINK_CFG_REFUSED k = 0 → fldOf SPN_LINK_CFG_REFUSED v = 0 → fldOf SPN_LINK_CFG_EN v = 0 →
      fldOf SPN_LINK_CFG_WIDTH v ≠ 3 → ∃ w : State, Answers (.portSpanCfg m k v) s m w [] ∧ spState w k = 0 ∧ ∀ f ∈ spCfgFlds, fget w f k = fldOf f v) ∧
    (spState s k = 0 → fldOf SPN_LINK_CFG_REFUSED v = 0 → fldOf SPN_LINK_CFG_WIDTH v = 3 →
      ∃ w : State, Declines (.portSpanCfg m k v) s m w 4 ∧ spState w k = 0)) ∧
  (∀ (s : State) (m k : Nat), k < 8 → MbxRuns s m 5 11 [k] →
    let q := readRegs [(R_SPN_LINK_STAT, k), (R_SPN_LINK_ERR, k), (R_SPN_CAL, k)] (taken s m 5 11)
    Answers (.portSpanStatus m k) s m q.1 q.2) ∧
  (∀ (s : State) (m d v : Nat), d < 1024 → v < 2 ^ 32 → MbxRuns s m 5 12 [d, v] → ∃ w : State, Answers (.portSpanRoute m d v) s m w [] ∧
    w.spn.dropRec = false ∧ ∀ f ∈ [SPN_ROUTE_VALID, SPN_ROUTE_RING, SPN_ROUTE_ALT_EN, SPN_ROUTE_ALT, SPN_ROUTE_PRI], fget w f d = fldOf f v) ∧
  (∀ (s : State) (m sys tick rclk : Nat), sys < 2 ^ 64 → tick < 2 ^ 64 → rclk < 2 ^ 32 → MbxRuns s m 5 13 [sys, tick, rclk] →
    fget s SPN_SYS_REFUSED 0 = 0 → fldOf SPN_SYS_REFUSED sys = 0 →
    ((∀ k : Nat, k < 8 → spState s k = 0) → ∃ w : State, Answers (.portSpanSys m sys tick rclk) s m (readRegs [(R_SPN_TICK_STAT, 0)] w).1
      (readRegs [(R_SPN_TICK_STAT, 0)] w).2 ∧ fget w SPN_SYS_DEVNUM 0 = fldOf SPN_SYS_DEVNUM sys ∧
      fget w SPN_SYS_RING 0 = fldOf SPN_SYS_RING sys ∧ fget w SPN_TICK_PRIO 0 = fldOf SPN_TICK_PRIO tick ∧
      fget w SPN_RCLK_DIV 0 = fldOf SPN_RCLK_DIV rclk) ∧
    ((∃ k : Nat, k < 8 ∧ spState s k ≠ 0) → ∃ w : State, Declines (.portSpanSys m sys tick rclk) s m w 9 ∧
      fget w SPN_SYS_DEVNUM 0 = fget s SPN_SYS_DEVNUM 0))

/-- The FLOW and MEM groups (R206 to R214, R220, R221, R235 to R238, R362, R367): a lexicon command's answer is that of
LEX_CMD; a new DTENANT waits for the Bureau; a descriptor takes effect at once out of service and otherwise later; a radio
link is enabled where the tick holds its deadline; the pool moves only with no flow; a device is failed, retrained and
rebuilt; spare rows are listed and set before traffic. -/
def Obligations.FlowAndMemoryCommands : Prop :=
  (∀ (s : State) (m op loc ent : Nat), 1 ≤ op → op ≤ 6 → loc < 524288 → ent < 2 ^ 128 → MbxRuns s m 6 1 [op, loc, ent] →
    (fget s LEX_CMD_BUSY 0 ≠ 0 → Declines (.flowLex m op loc ent) s m (taken s m 6 1) 9) ∧
    (fget s LEX_CMD_BUSY 0 = 0 → ∀ w : State,
      w = lexCmd (fset (fset (taken s m 6 1) LEX_DATA_LO_DATA 0 ent) LEX_DATA_HI_DATA 0 (ent / 2 ^ 64)) op loc [] →
      (fget w LEX_CMD_BUSY 0 ≠ 0 → Waits (.flowLex m op loc ent) s m w .lex) ∧
      (fget w LEX_CMD_BUSY 0 = 0 → fget w LEX_CMD_STATUS 0 = 0 → Answers (.flowLex m op loc ent) s m w
        (leBytes 4 (fget w LEX_CMD_LOC 0) ++ leBytes 1 (fget w LEX_CMD_MOVES 0) ++ leBytes 16 (lexStaged w))) ∧
      (fget w LEX_CMD_BUSY 0 = 0 → fget w LEX_CMD_STATUS 0 = 1 → Declines (.flowLex m op loc ent) s m w 0xE))) ∧
  (∀ (s : State) (m i v : Nat), i < 25 → v < 2 ^ 64 → MbxRuns s m 6 2 [i, v] → (∀ x ∈ s.lex.mir, x.kind ≠ 1) →
    (nbits v 34 12 = fget s LEX_PORT_CFG_DTENANT i → ∃ w : State, exec (.lexPortCfgWrite i v) (taken s m 6 2) = .next w ∧
      Answers (.flowLexPort m i v) s m w []) ∧
    (nbits v 34 12 ≠ fget s LEX_PORT_CFG_DTENANT i → ∃ w : State, exec (.lexPortCfgWrite i v) (taken s m 6 2) = .next w ∧
      Waits (.flowLexPort m i v) s m w .lexPort)) ∧
  (∀ (s : State) (m f v : Nat), f < 16384 → v < 2 ^ 256 → MbxRuns s m 6 3 [f, v] →
    ((flow s f).en = true → ∃ w : State, Answers (.flowSet m f v) s m w [] ∧ flow w f = { flow s f with next := some v } ∧ w.regs = (taken s m 6 3).regs) ∧
    ((flow s f).en = false → (flow s f).q = [] → ∃ w : State, Answers (.flowSet m f v) s m w [] ∧ (flow w f).en = (v / 2 ^ 255 % 2 = 1) ∧
      (flow w f).cls = v / 2 ^ 225 % 8 ∧ (flow w f).maxq = v / 2 ^ 95 % 2 ^ 26 ∧ ∀ g : Nat, g ≠ f → flow w g = flow s g)) ∧
  (∀ (s : State) (m f : Nat), f < 16384 → MbxRuns s m 6 4 [f] → Answers (.flowGet m f) s m (taken s m 6 4)
    (leBytes 32 (flowBits (flow s f)) ++ leBytes 8 (flow s f).enqF ++ leBytes 8 (flow s f).enqB ++ leBytes 8 (flow s f).deqF ++
      leBytes 8 (flow s f).deqB ++ (List.range 8).flatMap (fun r => leBytes 8 (smGet 0 (flow s f).dropF r)) ++
      leBytes 8 (flow s f).dropB ++ leBytes 4 (flowCells (flow s f)))) ∧
  (∀ (s : State) (m l v : Nat), l < 16 → v < 2 ^ 64 → MbxRuns s m 6 5 [l, v] → fget s QMG_LINK_CFG_REFUSED l = 0 →
    (fldOf QMG_LINK_CFG_EN v = 1 → tickLen s < fget s QMG_CFG_BUDGET_DL 0 + 600 →
      ∃ w : State, Declines (.flowLink m l v) s m w 4 ∧ fget w QMG_LINK_CFG_EN l = fget s QMG_LINK_CFG_EN l) ∧
    (fldOf QMG_LINK_CFG_EN v = 1 → fget s QMG_CFG_BUDGET_DL 0 + 600 ≤ tickLen s →
      ∃ w : State, Answers (.flowLink m l v) s m (readRegs [(R_QMG_LINK_STAT, l)] w).1 (readRegs [(R_QMG_LINK_STAT, l)] w).2 ∧
        fget w QMG_LINK_CFG_EN l = 1 ∧ fget w QMG_LINK_CFG_MAXB l = fldOf QMG_LINK_CFG_MAXB v) ∧
    (fldOf QMG_LINK_CFG_EN v = 0 →
      ∃ w : State, Answers (.flowLink m l v) s m (readRegs [(R_QMG_LINK_STAT, l)] w).1 (readRegs [(R_QMG_LINK_STAT, l)] w).2 ∧
        fget w QMG_LINK_CFG_EN l = 0 ∧ fget w QMG_LINK_CFG_MAXB l = fldOf QMG_LINK_CFG_MAXB v)) ∧
  (∀ (s : State) (m cfg base cells : Nat), cfg < 2 ^ 64 → base < 2 ^ 64 → cells < 2 ^ 26 → MbxRuns s m 6 6 [cfg, base, cells] →
    (fldOf QMG_POOL_BASE_BASE base ≠ fget s QMG_POOL_BASE_BASE 0 → anyFlow s = true →
      Declines (.flowQmCfg m cfg base cells) s m (taken s m 6 6) 9) ∧
    (anyFlow s = false → (fldOf QMG_CFG_BUDGET_DL cfg < 100 ∨ tickLen s < fldOf QMG_CFG_BUDGET_DL cfg + 600) →
      Declines (.flowQmCfg m cfg base cells) s m (taken s m 6 6) 4) ∧
    (anyFlow s = false → 100 ≤ fldOf QMG_CFG_BUDGET_DL cfg → fldOf QMG_CFG_BUDGET_DL cfg + 600 ≤ tickLen s →
      poolOk (taken s m 6 6) (fldOf QMG_POOL_BASE_BASE base * 2 ^ 20) cells = true → cells ≠ fget s QMG_POOL_CELLS 0 →
      ∃ w : State, Answers (.flowQmCfg m cfg base cells) s m (readRegs [(R_QMG_POOL, 0)] w).1 (readRegs [(R_QMG_POOL, 0)] w).2 ∧
        fget w QMG_POOL_BASE_BASE 0 = fldOf QMG_POOL_BASE_BASE base ∧ fget w QMG_POOL_CELLS 0 = cells ∧
        fget w QMG_POOL_FREE 0 = cells ∧ fget w QMG_CFG_BUDGET_DL 0 = fldOf QMG_CFG_BUDGET_DL cfg ∧
        fget w QMG_CFG_COPY_FLOW 0 = fldOf QMG_CFG_COPY_FLOW cfg)) ∧
  (∀ (s : State) (m : Nat), MbxRuns s m 7 1 [] →
    let q := readRegs ([(R_GDM_STAT, 0), (R_GDM_ERR, 0), (R_GDM_LAST, 0)] ++ (List.range 5).map (fun d => (R_GDM_DEV_ERR, d))) (taken s m 7 1)
    Answers (.memStatus m) s m q.1 q.2) ∧
  (∀ (s : State) (m d : Nat), d < 5 → MbxRuns s m 7 2 [d] → gFailed s = none →
    ∃ w : State, Answers (.memFail m d) s m (readRegs [(R_GDM_STAT, 0)] w).1 (readRegs [(R_GDM_STAT, 0)] w).2 ∧
      fget w GDM_STAT_DEGRADED 0 = 1 ∧ fget w GDM_STAT_FAILED_DEV 0 = d ∧
      ∃ e : FaultEvt, w.flt.raised = s.flt.raised ++ [e] ∧ e.src = 44 ∧ e.cls = clsU ∧ e.addr = d) ∧
  (∀ (s : State) (m d : Nat), 5 ≤ d → d < 256 → MbxRuns s m 7 2 [d] → Declines (.memFail m d) s m (taken s m 7 2) 4) ∧
  (∀ (s : State) (m : Nat), MbxRuns s m 7 3 [] →
    (fget s GDM_STAT_DEGRADED 0 = 0 → Declines (.memRetrain m) s m (taken s m 7 3) 9) ∧
    (fget s GDM_STAT_DEGRADED 0 = 1 → Waits (.memRetrain m) s m
      (setGdr (taken s m 7 3) { s.gdr with retrained := false }) (.retrain s.time.now))) ∧
  (∀ (s : State) (m : Nat), MbxRuns s m 7 4 [] →
    (fget s GDM_STAT_DEGRADED 0 = 0 → ∃ w : State, Declines (.memRebuild m) s m w 9 ∧ w.gdr = s.gdr) ∧
    (fget s GDM_STAT_DEGRADED 0 = 1 → s.gdr.retrained = true → fget s GDM_STAT_LOST 0 = 0 → fget s GDM_STAT_REBUILD 0 = 0 →
      ∃ w : State, Answers (.memRebuild m) s m w [] ∧ fget w GDM_STAT_REBUILD 0 = 1 ∧ w.gdr = { s.gdr with fresh := [] })) ∧
  (∀ (s : State) (m d k : Nat), d < 5 → k < 2 ^ 32 → MbxRuns s m 7 5 [d, k] → ((smGet [] s.gdr.spare d).drop k).length ≤ 255 →
    Answers (.memSpareGet m d k) s m (taken s m 7 5) (leBytes 1 ((smGet [] s.gdr.spare d).drop k).length ++
      ((smGet [] s.gdr.spare d).drop k).flatMap (fun e => leBytes 8 (spareWord e)))) ∧
  (∀ (s : State) (m d b r x : Nat), d < 5 → b < 2 ^ 16 → r < 2 ^ 24 → x < 2 ^ 24 →
    MbxRuns s m 7 6 [d, 1, b * 2 ^ 48 + r * 2 ^ 24 + x] →
    (64 ≤ x → Declines (.memSpareSet m d [b * 2 ^ 48 + r * 2 ^ 24 + x]) s m (taken s m 7 6) 4) ∧
    (x < 64 → s.gdr.traffic = true → Declines (.memSpareSet m d [b * 2 ^ 48 + r * 2 ^ 24 + x]) s m (taken s m 7 6) 9) ∧
    (x < 64 → s.gdr.traffic = false → ∃ w : State, Answers (.memSpareSet m d [b * 2 ^ 48 + r * 2 ^ 24 + x]) s m w [] ∧
      smGet [] w.gdr.spare d = (smGet [] s.gdr.spare d).filter (fun e => !(e.1 = b && e.2.1 = r)) ++ [(b, r, x)] ∧
      OnlyFields [(GDM_DEV_ERR_SPARE_USED, d)] (taken s m 7 6) w)) ∧
  (∀ (s : State) (m c : Nat), c < 16 → MbxRuns s m 7 7 [c] → let q := readRegs [(R_DMA_CH_STAT, c), (R_DMA_IDX, c)] (taken s m 7 7)
    Answers (.memDmaStatus m c) s m q.1 q.2)

/-- The SCH, FLT and TEST groups (R341, R342, R352, R401, R404, R410 to R412, R417, R421, R434 to R436, R367). -/
def Obligations.ControlCommands : Prop :=
  (∀ (s : State) (m k v : Nat), k < 65536 → v < 2 ^ 256 → MbxRuns s m 8 1 [k, v] →
    (4096 ≤ k ∨ thrOk (thrOf v) = false → Declines (.schThreadSet m k v) s m (taken s m 8 1) 4) ∧
    (k < 4096 → thrOk (thrOf v) = true →
      ((thr s k).valid = true → (thr s k).st ≠ thIDLE → Declines (.schThreadSet m k v) s m (taken s m 8 1) 9) ∧
      ((thr s k).valid = false ∨ (thr s k).st = thIDLE →
        (schAdmits (taken s m 8 1) (thrsWith (taken s m 8 1) k (thrOf v)) (admittedDemand (taken s m 8 1)) = true →
          Answers (.schThreadSet m k v) s m (setThr (taken s m 8 1) k (thrOf v)) []) ∧
        (schAdmits (taken s m 8 1) (thrsWith (taken s m 8 1) k (thrOf v)) (admittedDemand (taken s m 8 1)) = false →
          ∃ (w : State) (a b : Byte), exec (.schThreadSet m k v) s = .next (finish w m 0xA 3 false [a, b]) ∧ w.ctl = s.ctl)))) ∧
  (∀ (s : State) (m k : Nat), k < 65536 →
    (MbxRuns s m 8 2 [k] → k < 4096 → Answers (.schThreadGet m k) s m (taken s m 8 2) (leBytes 32 (thrBits (thr s k)))) ∧
    (MbxRuns s m 8 2 [k] → 4096 ≤ k → Declines (.schThreadGet m k) s m (taken s m 8 2) 4) ∧
    (MbxRuns s m 8 3 [k] → k < 4096 → (thr s k).valid = true → (thr s k).st = thIDLE →
      Answers (.schThreadDel m k) s m (setThr (taken s m 8 3) k {}) []) ∧
    (MbxRuns s m 8 3 [k] → k < 4096 → ((thr s k).valid = false ∨ (thr s k).st ≠ thIDLE) →
      Declines (.schThreadDel m k) s m (taken s m 8 3) 9) ∧
    (MbxRuns s m 8 5 [k] → k < 4096 → ∃ w : State, exec (.schPostWrite k) (taken s m 8 5) = .next w ∧ Answers (.schPost m k) s m w [])) ∧
  (∀ (s : State) (m : Nat) (l : List (Nat × Nat)), l.length < 256 → (∀ e ∈ l, e.1 < 4096 ∧ e.2 < 2 ^ 256 ∧ thrOk (thrOf e.2) = true) →
    MbxRuns s m 8 4 ([l.length] ++ l.map (fun e => e.1) ++ l.map (fun e => e.2)) →
    ∃ (w : State) (pay : List Byte), Answers (.schAdmitTest m l) s m w pay ∧ w = { taken s m 8 4 with free := w.free } ∧ pay.length = 11 ∧
      pay.take 1 = leBytes 1 (if schAdmits (taken s m 8 4) (thrsTrial (taken s m 8 4) l) (admittedDemand (taken s m 8 4)) then 1 else 0)) ∧
  (∀ (s : State) (m : Nat), MbxRuns s m 8 6 [] →
    let q := readRegs ([(R_SCH_STAT, 0)] ++ (List.range 4).map (fun k => (R_SYS_PAIR_MAP, k)) ++ (List.range 5).map (fun q => (R_SYS_PAIR_STAT, q))) (taken s m 8 6)
    Answers (.schStatus m) s m q.1 q.2) ∧
  (∀ (s : State) (m k : Nat), k < 65536 → MbxRuns s m 9 1 [k] →
    (1024 < (fget s FLT_REC_IDX_PI 0 + 65536 - k) % 65536 → Declines (.fltRecords m k) s m (taken s m 9 1) 4) ∧
    ((fget s FLT_REC_IDX_PI 0 + 65536 - k) % 65536 ≤ 126 → fgetB s FLT_INJ_ACTIVE 60 = false →
      (∀ i : Nat, i < 4096 → smGet 0 s.flt.ringChk i = chkBits (smGet 0 s.flt.ring i)) →
      ∃ (w : State) (a : List Byte), Answers (.fltRecords m k) s m w
      (a ++ leBytes 1 ((fget s FLT_REC_IDX_PI 0 + 65536 - k) % 65536) ++ (List.range ((fget s FLT_REC_IDX_PI 0 + 65536 - k) % 65536)).flatMap (fun i =>
        wordBytes ((List.range 4).map (fun j => smGet 0 s.flt.ring (4 * ((k + i) % 1024) + j))))) ∧ a.length = 8)) ∧
  (∀ (s : State) (m k : Nat), k < 256 → MbxRuns s m 9 2 [k] →
    (64 ≤ k → Declines (.fltAck m k) s m (taken s m 9 2) 4) ∧
    (k < 64 → ∃ w : State, Answers (.fltAck m k) s m w [] ∧ (∀ f ∈ [FLT_SRC_PEND_HALT, FLT_SRC_PEND_F, FLT_SRC_PEND_U, FLT_SRC_PEND_C], fget w f k = 0) ∧
      OnlyFields [(FLT_SRC_PEND_HALT, k), (FLT_SRC_PEND_F, k), (FLT_SRC_PEND_U, k), (FLT_SRC_PEND_C, k), (FLT_SRC_CLASS, k)] (taken s m 9 2) w)) ∧
  (∀ (s : State) (m k c n : Nat), k < 64 → c < 128 → n < 256 → MbxRuns s m 9 3 [k, c, n] →
    (n = 0xFF → Answers (.fltInject m k c n) s m (fset (taken s m 9 3) FLT_INJ_ACTIVE k 0) []) ∧
    (n ≠ 0xFF → checkerOk k c = true → fget s FLT_INJ_REFUSED k = 0 → ∃ w : State, Answers (.fltInject m k c n) s m w [] ∧
      fget w FLT_INJ_ACTIVE k = 1 ∧ fget w FLT_INJ_CHECKER k = c ∧ fget w FLT_INJ_COUNT k = n ∧
      fget w FLT_INJ_CONT k = (if n = 0 then 1 else 0)) ∧
    (n ≠ 0xFF → checkerOk k c = false → ∃ w : State, Declines (.fltInject m k c n) s m w 4 ∧ fget w FLT_INJ_ACTIVE k = fget s FLT_INJ_ACTIVE k)) ∧
  (∀ (s : State) (m k id : Nat), k < 256 → id < 65536 → MbxRuns s m 9 4 [k, id] →
    (k ≠ 1 → k ≠ 10 → fget s FLT_UNIT_FAULTED (unitIx k id) = 0 → Declines (.fltRecover m k id) s m (taken s m 9 4) 0xE) ∧
    (k = 10 → fget s FLT_STATE_STATE 0 = 0 → Declines (.fltRecover m k id) s m (taken s m 9 4) 0xE) ∧
    (k = 8 → id < 4096 → fget s FLT_UNIT_FAULTED (unitIx 8 id) = 1 → (thr s id).st = thFAULTED → (thr s id).periodic = false →
      ∃ w : State, Answers (.fltRecover m k id) s m w [] ∧ (thr w id).st = thIDLE ∧ fget w FLT_UNIT_FAULTED (unitIx 8 id) = 0)) ∧
  (∀ (s : State) (m quiet mode : Nat), quiet < 2 ^ 32 → mode < 2 ^ 64 → MbxRuns s m 9 5 [quiet, mode] →
    ∃ w : State, Answers (.fltConfig m quiet mode) s m w [] ∧ fget w FLT_MODE_HELD 0 = mode ∧
      fget w FLT_CFG_QUIET 0 = (if quiet = 0 then fget s FLT_CFG_QUIET 0 else quiet) ∧
      OnlyRegs [(FLT_CFG_QUIET, 0), (FLT_MODE_HELD, 0)] (taken s m 9 5) w) ∧
  (∀ (s : State) (m : Nat), MbxRuns s m 10 1 [] → Answers (.testCalendarGet m) s m (taken s m 10 1)
    (leBytes 4 (fget s SCR_CFG_CYCLE_US 0) ++ leBytes 2 (fget s BST_CFG_SLICE_US 0) ++ leBytes 2 (fget s BST_CFG_COMPARE 0) ++
      leBytes 1 (fget s BST_CFG_GAP_EN 0))) ∧
  (∀ (s : State) (m a b c d : Nat), a < 2 ^ 32 → b < 65536 → c < 65536 → d < 256 → MbxRuns s m 10 2 [a, b, c, d] →
    (a < 2000 ∨ 1000000 < a ∨ b < 2 ∨ 500 < b ∨ c < 1 ∨ 1 < d → Declines (.testCalendarSet m a b c d) s m (taken s m 10 2) 4) ∧
    (2000 ≤ a → a ≤ 1000000 → 2 ≤ b → b ≤ 500 → 1 ≤ c → d ≤ 1 → ∃ w : State, Answers (.testCalendarSet m a b c d) s m w [] ∧
      fget w SCR_CFG_CYCLE_US 0 = a ∧ fget w BST_CFG_SLICE_US 0 = b ∧ fget w BST_CFG_COMPARE 0 = c ∧ fget w BST_CFG_GAP_EN 0 = d ∧
      OnlyFields [(SCR_CFG_CYCLE_US, 0), (BST_CFG_SLICE_US, 0), (BST_CFG_COMPARE, 0), (BST_CFG_GAP_EN, 0)] (taken s m 10 2) w)) ∧
  (∀ (s : State) (m k id : Nat), k < 256 → id < 65536 → MbxRuns s m 10 3 [k, id] →
    (k = 2 → id < 100 → Answers (.testResults m k id) s m (taken s m 10 3)
      (leBytes 8 ((bunit s (200 + id)).pass - 1) ++ leBytes 1 (bunit s (200 + id)).inc ++ leBytes 2 (bunit s (200 + id)).fails ++ leBytes 1 0)) ∧
    (k = 3 → Declines (.testResults m k id) s m (taken s m 10 3) 0xE)) ∧
  (∀ (s : State) (m id r : Nat), id < 100 → r < 3 → MbxRuns s m 10 4 [2, id] →
    (fget s CAB_STATE_FENCED id = 0 → Declines (.testRun m 2 id r) s m (taken s m 10 4) 9) ∧
    (fget s CAB_STATE_FENCED id = 1 → (bunit s (200 + id)).run = false → ∃ w : State, Answers (.testRun m 2 id r) s m w (leBytes 1 r) ∧
      (r = 0 → (bunit w (200 + id)).pass = s.time.tick + 1 ∧ (bunit w (200 + id)).inc = 0)))

/-- The LOG and BUR groups (R369, R376, R381 to R384, R394, R367): they report, and change nothing. -/
def Obligations.LogAndBureauCommands : Prop :=
  (∀ (s : State) (m k n : Nat), k < 2 ^ 32 → n < 256 → MbxRuns s m 12 1 [k, n] →
    (n = 0 ∨ 126 < n → Declines (.logRead m k n) s m (taken s m 12 1) 4) ∧
    (1 ≤ n → n ≤ 126 → (k + 2 ^ 32 - logOldest s) % 2 ^ 32 < 2 ^ 31 → ∀ l : List Event, l = (s.evt.log.drop ((k + 2 ^ 32 - logOldest s) % 2 ^ 32)).take n →
      Answers (.logRead m k n) s m (taken s m 12 1) (leBytes 1 l.length ++ leBytes 4 k ++ leBytes 4 0 ++ l.flatMap (fun e => wordBytes (eventWords e)))) ∧
    (1 ≤ n → n ≤ 126 → 2 ^ 31 ≤ (k + 2 ^ 32 - logOldest s) % 2 ^ 32 →
      Answers (.logRead m k n) s m (taken s m 12 1) (leBytes 1 (s.evt.log.take n).length ++ leBytes 4 (logOldest s) ++
        leBytes 4 (2 ^ 32 - (k + 2 ^ 32 - logOldest s) % 2 ^ 32) ++ (s.evt.log.take n).flatMap (fun e => wordBytes (eventWords e))))) ∧
  (∀ (s : State) (m : Nat), MbxRuns s m 12 2 [] → Answers (.logInfo m) s m (taken s m 12 2)
    (leBytes 4 (logOldest s) ++ leBytes 4 s.evt.next ++ leBytes 4 s.evt.logLost)) ∧
  (∀ (s : State) (m : Nat), MbxRuns s m 13 1 [] → Answers (.burIdentify m) s m (taken s m 13 1)
    (leBytes 4 (tratyNow s).1 ++ padTo 32 (tratyNow s).2 ++ leBytes 8 Config.burBid ++ padTo 57 Config.burPublicKey ++
      leBytes 1 (fget s BUR_STAT_SEAL_OPEN 0))) ∧
  (∀ (s : State) (m k n : Nat), k < 65536 → n < 256 → MbxRuns s m 13 2 [k, n] →
    (n = 0 ∨ 64 < n ∨ 4096 < k + n → Declines (.burTotals m k n) s m (taken s m 13 2) 4) ∧
    (1 ≤ n → n ≤ 64 → k + n ≤ 4096 → Answers (.burTotals m k n) s m (taken s m 13 2)
      ((List.range (5 * n)).flatMap (fun i => leBytes 12 (smGet 0 s.bur.cnt (5 * k + i)))))) ∧
  (∀ (s : State) (m k : Nat), k < 2 ^ 32 → MbxRuns s m 13 3 [k] →
    (sheetAt s k = none → Declines (.burStatement m k) s m (taken s m 13 3) 0xE) ∧
    (∀ b : List Byte, sheetAt s k = some b → Answers (.burStatement m k) s m (taken s m 13 3) b)) ∧
  (∀ (s : State) (m k n : Nat), k < 2 ^ 32 → n < 256 → MbxRuns s m 13 4 [k, n] →
    (s.bur.nextIdx ≤ k → Declines (.burAudit m k n) s m (taken s m 13 4) 0xE) ∧
    (k < s.bur.nextIdx → s.bur.nextIdx - s.bur.trail.length ≤ k → (s.bur.trail.filter (fun a => k ≤ a.idx)).length ≤ min n 31 →
      Answers (.burAudit m k n) s m (taken s m 13 4) ((s.bur.trail.filter (fun a => k ≤ a.idx)).flatMap audRecord))) ∧
  (∀ (s : State) (m : Nat), MbxRuns s m 13 5 [] → Answers (.burStatus m) s m (taken s m 13 5)
    (leBytes 4 s.bur.trail.length ++ leBytes 1 (fget s BUR_STAT_NOTICE 0) ++ leBytes 1 (fget s BUR_STAT_SEAL_OPEN 0) ++
      leBytes 1 (fget s BUR_STAT_TAMPER 0)))

/-- The FW group (R292, R293, R315, R317, R367, R370): slot B is erased, programmed in rising order, verified and
activated; COMMIT ends a trial; ROLLBACK and the trial's end exchange the slots back with a warm reset; a pushed image
that passes starts. -/
def Obligations.FirmwareCommands : Prop :=
  (∀ (s : State) (m : Nat), MbxRuns s m 11 1 [] → ∃ pay : List Byte, Answers (.fwStatus m) s m (drawFree (taken s m 11 1)) pay ∧ pay.length = 38 ∧
    pay.take 2 = leBytes 1 s.fw.st ++ leBytes 1 s.fw.parts) ∧
  (∀ (s : State) (m : Nat), MbxRuns s m 11 2 [] →
    (s.fw.st = 0 ∨ s.fw.st = 2 ∨ s.fw.st = 5 → ∃ w : State, Answers (.fwBegin m) s m w [] ∧ w.fw.st = 1 ∧ w.fw.parts = 0 ∧ w.fw.pos = [] ∧
      (∀ p a n i : Nat, p < 2 → fwArea s 1 p = some (a, n) → i < n → smGet 0xFF w.flash (a + i) = 0xFF)) ∧
    (s.fw.st = 1 ∨ s.fw.st = 3 ∨ s.fw.st = 4 → Declines (.fwBegin m) s m (taken s m 11 2) 9)) ∧
  (∀ (s : State) (m p o : Nat) (b : List Byte), p < 256 → o < 2 ^ 32 → b.length < 4096 → MbxRuns s m 11 3 [p, o, b.length, leNat b] →
    (s.fw.st ≠ 1 → Declines (.fwData m p o b) s m (taken s m 11 3) 9) ∧
    (s.fw.st = 1 → (1 < p ∨ o < smGet 0 s.fw.pos p) → Declines (.fwData m p o b) s m (taken s m 11 3) 4) ∧
    (∀ a n : Nat, s.fw.st = 1 → p ≤ 1 → smGet 0 s.fw.pos p ≤ o → fwArea s 1 p = some (a, n) → o + b.length ≤ n →
      ∃ w : State, Answers (.fwData m p o b) s m w [] ∧ flashBytes w (a + o) b.length = b ∧ smGet 0 w.fw.pos p = o + b.length ∧
        (∀ i : Nat, i < a + o ∨ a + o + b.length ≤ i → smGet 0xFF w.flash i = smGet 0xFF s.flash i) ∧ w.regs = (taken s m 11 3).regs)) ∧
  (∀ (s : State) (m p src addr o n : Nat) (ext : List Byte), p < 256 → src < 256 → addr < 2 ^ 64 → o < 2 ^ 32 → n < 2 ^ 32 →
    MbxRuns s m 11 4 [p, src, addr, o, n] →
    (s.fw.st ≠ 1 → Declines (.fwWrite m p src addr o n ext) s m (taken s m 11 4) 9) ∧
    (s.fw.st = 1 → src ≠ 1 → src ≠ 3 → Declines (.fwWrite m p src addr o n ext) s m (taken s m 11 4) 4) ∧
    (∀ a k : Nat, s.fw.st = 1 → src = 1 → ext.length = n → p ≤ 1 → smGet 0 s.fw.pos p ≤ o → fwArea s 1 p = some (a, k) → o + n ≤ k →
      ∃ w : State, Answers (.fwWrite m p src addr o n ext) s m w [] ∧ flashBytes w (a + o) n = ext ∧ smGet 0 w.fw.pos p = o + n)) ∧
  (∀ (s : State) (m p : Nat), p < 2 → MbxRuns s m 11 5 [p] →
    (s.fw.st ≠ 1 → Declines (.fwCopy m p) s m (taken s m 11 5) 9) ∧
    (∀ a k b n : Nat, s.fw.st = 1 → smGet 0 s.fw.pos p = 0 → fwArea s 0 p = some (a, k) → fwArea s 1 p = some (b, n) → k ≤ n →
      ∃ w : State, Answers (.fwCopy m p) s m w [] ∧ flashBytes w b k = flashBytes s a k ∧ smGet 0 w.fw.pos p = k)) ∧
  (∀ (s : State) (m p n : Nat), p < 2 → n < 2 ^ 32 → MbxRuns s m 11 6 [p, n] →
    (s.fw.st ≠ 1 → Declines (.fwVerify m p n) s m (taken s m 11 6) 9) ∧
    (∀ a k : Nat, s.fw.st = 1 → fwArea s 1 p = some (a, k) → n ≤ k →
      ((if p = 0 then imageOk s (flashBytes s a n) else streamOk s (flashBytes s a n)) = true → ∃ w : State,
        Answers (.fwVerify m p n) s m w (shake256 (flashBytes s a n) 32) ∧ w.fw.parts = s.fw.parts ||| 2 ^ p ∧
        w.fw.st = (if s.fw.parts ||| 2 ^ p = 3 then 2 else 1)) ∧
      ((if p = 0 then imageOk s (flashBytes s a n) else streamOk s (flashBytes s a n)) = false → ∃ w : State,
        Declines (.fwVerify m p n) s m w 0x13 ∧ w.fw.parts.testBit p = false ∧ w.fw.st = 1))) ∧
  (∀ (s : State) (m trial reset : Nat), trial < 2 ^ 32 → reset < 2 → MbxRuns s m 11 7 [trial, reset] →
    (bootSel s ≠ 0 → Declines (.fwActivate m trial reset) s m (taken s m 11 7) 7) ∧
    (bootSel s = 0 → (s.fw.st ≠ 2 ∨ s.fw.parts ≠ 3) → Declines (.fwActivate m trial reset) s m (taken s m 11 7) 9) ∧
    (bootSel s = 0 → s.fw.st = 2 → s.fw.parts = 3 → ∃ w : State, Answers (.fwActivate m trial reset) s m w [] ∧ w.fw.st = 3 ∧ w.fw.trial = trial ∧
      w.flash = (slotsExchange s).flash ∧ w.boot.resetAt = (if reset = 1 then some s.time.now else s.boot.resetAt))) ∧
  (∀ (s : State) (m up : Nat), up < 2 → MbxRuns s m 11 8 [up] →
    (bootSel s ≠ 0 → Declines (.fwCommit m up) s m (taken s m 11 8) 7) ∧
    (bootSel s = 0 → s.fw.st ≠ 4 → Declines (.fwCommit m up) s m (taken s m 11 8) 9) ∧
    (bootSel s = 0 → s.fw.st = 4 → ∃ w : State, Answers (.fwCommit m up) s m w [] ∧ w.fw.st = 0 ∧ w.fw.trial = 0 ∧ w.flash = s.flash ∧
      w.otp = (if up = 1 then { s.otp with fwSvn := max s.otp.fwSvn (Config.fwSvn (s.boot.image.take 64)) } else s.otp))) ∧
  (∀ (s : State) (m : Nat), MbxRuns s m 11 9 [] →
    (bootSel s = 0 → s.fw.st ≠ 0 → s.fw.st ≠ 4 → Declines (.fwRollback m) s m (taken s m 11 9) 9) ∧
    (bootSel s = 0 → (s.fw.st = 0 ∨ s.fw.st = 4) → slotBOk s = false → Declines (.fwRollback m) s m (taken s m 11 9) 7) ∧
    (bootSel s = 0 → (s.fw.st = 0 ∨ s.fw.st = 4) → slotBOk s = true → ∃ w : State, Answers (.fwRollback m) s m w [] ∧ w.fw.st = 5 ∧
      w.fw.trial = 0 ∧ w.flash = (slotsExchange s).flash ∧ w.boot.resetAt = some s.time.now)) ∧
  (∀ s : State, s.boot.fw = true → bootSel s = 0 → s.fw.st = 4 → s.fw.trial ≠ 0 →
    (trialLeft s ≠ 0 → exec .fwTrialExpiry s = .next s) ∧
    (trialLeft s = 0 → Does .fwTrialExpiry s (fun t => t.fw.st = 5 ∧ t.fw.trial = 0 ∧ t.flash = (slotsExchange s).flash ∧
      t.boot.fw = false ∧ t.time.tick = s.time.tick ∧ ∀ p : Nat, p < 100 → cabState t p = stEMPTY))) ∧
  (∀ (s : State) (m n : Nat), n < 2 ^ 32 → MbxRuns s m 11 10 [n] →
    (2097152 < n → Declines (.fwPushBegin m n) s m (taken s m 11 10) 4) ∧
    (n ≤ 2097152 → Answers (.fwPushBegin m n) s m (setBoot (taken s m 11 10) { s.boot with push := some (n, []) }) [])) ∧
  (∀ (s : State) (m o : Nat) (b : List Byte), o < 2 ^ 32 → b.length < 4096 → MbxRuns s m 11 11 [o, b.length, leNat b] →
    (s.boot.push = none → Declines (.fwPushData m o b) s m (taken s m 11 11) 9) ∧
    (∀ (n : Nat) (d : List Byte), s.boot.push = some (n, d) → n < o + b.length → Declines (.fwPushData m o b) s m (taken s m 11 11) 4) ∧
    (∀ (n : Nat) (d : List Byte), s.boot.push = some (n, d) → o + b.length ≤ n → ∃ (w : State) (e : List Byte), Answers (.fwPushData m o b) s m w [] ∧ w.boot.push = some (n, e) ∧
      (e.drop o).take b.length = b ∧ ∀ i : Nat, (i < o ∨ o + b.length ≤ i) → i < d.length → e.getD i 0 = d.getD i 0)) ∧
  (∀ (s : State) (m : Nat), MbxRuns s m 11 12 [] →
    (s.boot.push = none → Declines (.fwPushEnd m) s m (taken s m 11 12) 9) ∧
    (∀ (n : Nat) (d : List Byte), s.boot.push = some (n, d) → imageOk s (padTo n d) = false →
      Declines (.fwPushEnd m) s m (setBoot (taken s m 11 12) { s.boot with push := none }) 0x13) ∧
    (∀ (n : Nat) (d : List Byte), s.boot.push = some (n, d) → imageOk s (padTo n d) = true → ∃ w : State, Answers (.fwPushEnd m) s m w [] ∧ w.boot.fw = true ∧
      w.boot.rom = false ∧ w.boot.image = padTo n d ∧ fget w SYS_BOOT_STAT_PUSHED 0 = 1 ∧ fget w SYS_BOOT_STAT_PHASE 0 = 1))

/-- Counters and statements of the Bureau (R376 to R380, R382): the engine takes one event of a tap at a time, and a
statement is issued at an edge where one is due, and stored. -/
def Obligations.BureauCountsAndStatements : Prop :=
  (∀ (s : State) (e : TapEvt) (r : List TapEvt), (∀ f ∈ s.qm.flows, flowOpen f.2 = true ∨ f.2.q = []) →
    (smGet [] s.bur.taps 0 = e :: r → Does (.bureauTapEvent 0) s (fun t => smGet [] t.bur.taps 0 = r ∧
      smGet 0 t.bur.cnt (5 * e.tenant) = (smGet 0 s.bur.cnt (5 * e.tenant) + e.len) % 2 ^ 96 ∧
      smGet 0 t.bur.cnt (5 * e.tenant + 1) = (smGet 0 s.bur.cnt (5 * e.tenant + 1) + 1) % 2 ^ 96 ∧
      (∀ k : Nat, k ≠ 5 * e.tenant → k ≠ 5 * e.tenant + 1 → smGet 0 t.bur.cnt k = smGet 0 s.bur.cnt k) ∧ t = { s with bur := t.bur })) ∧
    (smGet [] s.bur.taps 1 = e :: r → Does (.bureauTapEvent 1) s (fun t => smGet [] t.bur.taps 1 = r ∧
      smGet 0 t.bur.cnt (5 * e.tenant + 2) = (smGet 0 s.bur.cnt (5 * e.tenant + 2) + e.len) % 2 ^ 96 ∧
      smGet 0 t.bur.cnt (5 * e.tenant + 3) = (smGet 0 s.bur.cnt (5 * e.tenant + 3) + 1) % 2 ^ 96 ∧
      (∀ k : Nat, k ≠ 5 * e.tenant + 2 → k ≠ 5 * e.tenant + 3 → smGet 0 t.bur.cnt k = smGet 0 s.bur.cnt k) ∧ t = { s with bur := t.bur })) ∧
    (smGet [] s.bur.taps 2 = e :: r → Does (.bureauTapEvent 2) s (fun t => smGet [] t.bur.taps 2 = r ∧
      smGet 0 t.bur.cnt (5 * e.tenant + 4) = (smGet 0 s.bur.cnt (5 * e.tenant + 4) + e.len) % 2 ^ 96 ∧
      (∀ k : Nat, k ≠ 5 * e.tenant + 4 → smGet 0 t.bur.cnt k = smGet 0 s.bur.cnt k) ∧ t = { s with bur := t.bur })) ∧
    (∀ tap : Nat, tap < 3 → smGet [] s.bur.taps tap = [] → exec (.bureauTapEvent tap) s = .next s)) ∧
  (∀ (s : State) (osc : Nat), s.bur.lastTick ≤ s.time.tick → tickLen s = s.bur.lastLen →
    let late := fget s BUR_CFG_STMT_S 0 * fget s BUR_CFG_ACLK_KHZ 0 * 1000 ≤ (s.time.tick - s.bur.edge) * s.bur.lastLen
    (¬ late → (s.bur.due = [] ∨ (s.bur.due = [2] ∧ s.time.tick ≤ s.bur.restartAt)) →
      Does (.statementIssue osc) s (fun t => t.bur.issuing = s.bur.issuing ∧ t.bur.due = s.bur.due ∧ t.regs = s.regs)) ∧
    (∀ r : Nat, (late ∧ s.bur.due = [] ∧ r = 0) ∨ (¬ late ∧ s.bur.due = [r] ∧ (r = 2 → s.bur.restartAt < s.time.tick)) →
      Does (.statementIssue osc) s (fun t => (∃ x : Stmt, t.bur.issuing = s.bur.issuing ++ [x] ∧ x.reason = r ∧ x.no = s.bur.nextStmt ∧
          x.tickFrom = s.bur.edge ∧ x.tickTo = s.time.tick ∧ x.len = s.bur.lastLen ∧
          (s.bur.lastTick ≠ s.time.tick → (∀ tap : Nat, smGet [] s.bur.taps tap = []) → x.totals = s.bur.cnt)) ∧
        t.bur.due = [] ∧ t.bur.edge = s.time.tick ∧ t.bur.nextStmt = (s.bur.nextStmt + 1) % 2 ^ 25 ∧ t.bur.cnt = s.bur.cnt))) ∧
  (∀ (s : State) (osc : Nat), s.bur.lastTick ≤ s.time.tick → tickLen s ≠ s.bur.lastLen → s.bur.due = [] →
    (s.time.tick - s.bur.edge) * s.bur.lastLen < fget s BUR_CFG_STMT_S 0 * fget s BUR_CFG_ACLK_KHZ 0 * 1000 →
    Does (.statementIssue osc) s (fun t => (∃ x : Stmt, t.bur.issuing = s.bur.issuing ++ [x] ∧ x.reason = 1 ∧ x.len = s.bur.lastLen) ∧
      t.bur.lastLen = tickLen s ∧ t.bur.due = [])) ∧
  (∀ (s : State) (osc : Nat), s.time.tick < s.bur.lastTick → tickLen s = s.bur.lastLen → s.bur.due = [] → s.bur.trail.length < 65536 → s.bur.nextIdx < 2 ^ 32 →
    0 < fget s BUR_CFG_STMT_S 0 * fget s BUR_CFG_ACLK_KHZ 0 → Does (.statementIssue osc) s (fun t => t.bur.issuing = s.bur.issuing ∧
      t.bur.due = [2] ∧ t.bur.restartAt = s.time.tick ∧
      ∃ a : Aud, t.bur.trail = s.bur.trail ++ [a] ∧ a.ty = 0x31 ∧ a.payload = leBytes 8 s.bur.lastTick)) ∧
  (∀ s : State, (s.bur.issuing = [] → exec .statementStored s = .next s) ∧
    (∀ (x : Stmt) (r : List Stmt), s.bur.issuing = x :: r → Does .statementStored s (fun t => t.bur.issuing = r ∧
      t.bur.stored = (s.bur.stored ++ [x]).drop (s.bur.stored.length + 1 - 128) ∧ fget t BUR_STAT_STMT 0 = x.no % 2 ^ 25 ∧
      fget t BUR_STAT_NOTICE 0 = 1 ∧ 34 ∈ t.evt.lines ∧ t.bur.cnt = s.bur.cnt ∧ t.bur.trail = s.bur.trail))) ∧
  (∀ s : State, Does .vddBurRestore s (fun t => t.bur.taps = [] ∧ t.bur.issuing = [] ∧ t.bur.stored = s.bur.stored ∧
    t.bur.restartFlag = true ∧ fget t BUR_STAT_NOTICE 0 = 10 ∧ t.free = s.free + 1 ∧
    fget t BUR_STAT_TIME_SUSPECT 0 = 0 ∧ fget t BUR_STAT_UNLOGGED 0 ≤ 1 ∧ fget t BUR_STAT_TAMPER 0 = fget s BUR_STAT_TAMPER 0 ∧
    fget t BUR_WARRANT_STAT_WNUM 0 = fget s BUR_WARRANT_STAT_WNUM 0 ∧
    (s.bur.trail.length < 65536 → s.bur.nextIdx < 2 ^ 32 → ∃ a : Aud, t.bur.trail = s.bur.trail ++ [a] ∧ a.ty = 0x30) ∧
    (∀ (l : List Stmt) (x : Stmt), s.bur.stored = l ++ [x] → t.bur.cnt = x.totals ∧ t.bur.nextStmt = (x.no + 1) % 2 ^ 25 ∧ t.bur.edge = x.tickTo))) ∧
  (∀ s : State,
    Does (.bureauFault 0) s (fun t => t = { s with flt := t.flt } ∧ ∃ e : FaultEvt, t.flt.raised = s.flt.raised ++ [e] ∧ e.src = 59 ∧ e.cls = clsC) ∧
    Does (.bureauFault 1) s (fun t => OnlyFields [(BUR_STAT_COUNT_SUSPECT, 0)] s t ∧ fget t BUR_STAT_COUNT_SUSPECT 0 = 1 ∧
      t.bur = { s.bur with suspHold := true } ∧ ∃ e : FaultEvt, t.flt.raised = s.flt.raised ++ [e] ∧ e.src = 59 ∧ e.cls = clsU) ∧
    Does (.bureauFault 2) s (fun t => t = { s with flt := t.flt } ∧ ∃ e : FaultEvt, t.flt.raised = s.flt.raised ++ [e] ∧ e.src = 59 ∧ e.cls = clsU))

/-- The audit trail, the seal and warrants (R384, R386 to R390, R392 to R394): every record extends the MAC chain, the
tamper latch holds until a warrant clears it, a warrant's checks are made in order, and an accepted one takes effect. -/
def Obligations.BureauTrailAndWarrants : Prop :=
  (∀ (s : State) (o : Bool), (fgetB s BUR_STAT_SEAL_OPEN 0 = o → exec (.sealChange o) s = .next s) ∧
    (fgetB s BUR_STAT_SEAL_OPEN 0 ≠ o → Does (.sealChange o) s (fun t => fgetB t BUR_STAT_SEAL_OPEN 0 = o ∧
      fget t BUR_STAT_NOTICE 0 = (if o = true then 4 else 5) ∧ 34 ∈ t.evt.lines ∧ t.bur.sealSeen = true ∧ t.bur.cnt = s.bur.cnt ∧
      (o = false → t.bur.dl = none) ∧ (o = true → t.bur.dl = s.bur.dl) ∧
      (s.bur.trail.length < 65536 → s.bur.nextIdx < 2 ^ 32 → t.bur.nextIdx = s.bur.nextIdx + 1 ∧ ∃ a : Aud, t.bur.trail = s.bur.trail ++ [a] ∧
        a.ty = (if o = true then 0x20 else 0x21) ∧ a.idx = s.bur.nextIdx ∧ a.tick = s.time.tick ∧ a.ofs = stampOfs s ∧
        a.mac = kmac256 Config.burAuditKey (audHead s ++ audBytes a) (strBytes "AXRID-AUD") 32)))) ∧
  (∀ s : State, Does .tamperEdge s (fun t => fget t BUR_STAT_TAMPER 0 = 1 ∧ fget t BUR_STAT_NOTICE 0 = 6 ∧ t.bur.cnt = s.bur.cnt ∧
    (s.bur.trail.length < 65536 → s.bur.nextIdx < 2 ^ 32 → ∃ a : Aud, t.bur.trail = s.bur.trail ++ [a] ∧ a.ty = 0x22 ∧
      a.mac = kmac256 Config.burAuditKey (audHead s ++ audBytes a) (strBytes "AXRID-AUD") 32) ∧
    (65536 ≤ s.bur.trail.length ∨ 2 ^ 32 ≤ s.bur.nextIdx → t.bur.trail = s.bur.trail ∧ t.bur.suspNext = true ∧ fget t BUR_STAT_COUNT_SUSPECT 0 = 1 ∧
      fget t BUR_STAT_UNLOGGED 0 = min (fget s BUR_STAT_UNLOGGED 0 + 1) 65535))) ∧
  (∀ s : State, audFull s = true ↔ 65472 ≤ s.bur.trail.length ∨ 0xFFFFFF00 < s.bur.nextIdx) ∧
  (∀ (s : State) (len k : Nat) (c : Instr),
    (c, k) ∈ [(.warrantParam len, 1), (.warrantTratyBegin len, 2), (.warrantTratyData len, 3), (.warrantClearTamper len, 4),
      (.warrantArchive len, 5), (.warrantStatementNow len, 6)] →
    leAt (winBytes s (len % 4096)) 0 2 = k →
    (fgetB s BUR_WARRANT_STAT_BUSY 0 = true → Does c s (fun t => OnlyRegs [(BUR_WARRANT_STAT_DROPPED, 0)] s t ∧
      fget t BUR_WARRANT_STAT_DROPPED 0 = min (fget s BUR_WARRANT_STAT_DROPPED 0 + 1) 65535)) ∧
    (∀ r : Nat, fgetB s BUR_WARRANT_STAT_BUSY 0 = false → warCheck s (winBytes s (len % 4096)) = r → r ≠ 0 → Does c s (fun t =>
      fget t BUR_WARRANT_STAT_OUTCOME 0 = r ∧ fget t BUR_STAT_NOTICE 0 = 9 ∧ 34 ∈ t.evt.lines ∧
      (∀ f ∈ [BUR_WARRANT_STAT_WNUM, BUR_STAT_TAMPER, BUR_STAT_TEST_ACCESS, BUR_CFG_STMT_S, BUR_CFG_ACLK_KHZ, BUR_CFG_TIME_TOL],
        fget t f 0 = fget s f 0) ∧ t.bur.due = s.bur.due ∧ t.bur.dl = s.bur.dl ∧ t.bur.traty = s.bur.traty ∧ t.bur.cnt = s.bur.cnt ∧
      (k = 3 ∨ r < 4 ∨ audFull s = true → t.bur.trail = s.bur.trail) ∧
      (k ≠ 3 → 4 ≤ r → audFull s = false → ∃ a : Aud, t.bur.trail = s.bur.trail ++ [a] ∧ a.ty = 0x41 ∧
        a.payload = leBytes 2 k ++ leBytes 4 (leAt (winBytes s (len % 4096)) 4 4) ++ leBytes 1 r)))) ∧
  (∀ (s : State) (w : List Byte), (warLayout w = false → warCheck s w = 1) ∧
    (warLayout w = true → leAt w 8 8 ≠ Config.serial → warCheck s w = 2) ∧
    (warLayout w = true → leAt w 8 8 = Config.serial → leAt w 0 2 ≠ 3 → warSigned s w = false → warCheck s w = 3) ∧
    (warLayout w = true → leAt w 8 8 = Config.serial → (leAt w 0 2 = 3 ∨ warSigned s w = true) →
      (leAt w 4 4 ≤ fget s BUR_WARRANT_STAT_WNUM 0 → warCheck s w = 4) ∧
      (fget s BUR_WARRANT_STAT_WNUM 0 < leAt w 4 4 → leAt w 0 2 ≤ 4 → fget s BUR_STAT_SEAL_OPEN 0 = 0 → warCheck s w = 5) ∧
      (fget s BUR_WARRANT_STAT_WNUM 0 < leAt w 4 4 → leAt w 0 2 ≤ 4 → fget s BUR_STAT_SEAL_OPEN 0 ≠ 0 → audFull s = true →
        warCheck s w = 6) ∧
      (fget s BUR_WARRANT_STAT_WNUM 0 < leAt w 4 4 →
        (5 ≤ leAt w 0 2 ∨ (fget s BUR_STAT_SEAL_OPEN 0 ≠ 0 ∧ audFull s = false)) → warCheck s w = 0))) ∧
  (∀ (s : State) (len : Nat), fgetB s BUR_WARRANT_STAT_BUSY 0 = false → warCheck s (winBytes s (len % 4096)) = 0 →
    let w := winBytes s (len % 4096)
    let n := leAt w 4 4
    (leAt w 0 2 = 1 → paramOk (leAt w 16 2) (leAt w 18 8) = true → s.bur.trail.length < 65471 → s.bur.nextIdx < 0xFFFFFF00 → Does (.warrantParam len) s (fun t =>
      fget t (paramFld (leAt w 16 2)) 0 = leAt w 18 8 ∧ fget t BUR_WARRANT_STAT_WNUM 0 = n ∧ fget t BUR_WARRANT_STAT_OUTCOME 0 = 0 ∧
      fget t BUR_STAT_NOTICE 0 = 8 ∧ 3 ∈ t.bur.due ∧ t.bur.suspHold = false ∧ t.bur.cnt = s.bur.cnt ∧
      ∃ a b : Aud, t.bur.trail = s.bur.trail ++ [a, b] ∧ a.ty = 0x10 ∧ b.ty = 0x41 ∧ a.payload =
        leBytes 2 (leAt w 16 2) ++ leBytes 8 (fget s (paramFld (leAt w 16 2)) 0) ++ leBytes 8 (leAt w 18 8) ++ leBytes 4 n)) ∧
    (leAt w 0 2 = 2 → Does (.warrantTratyBegin len) s (fun t => t.bur.dl = some ⟨leAt w 16 4, leAt w 20 4, (w.drop 24).take 32, []⟩ ∧
      fget t BUR_WARRANT_STAT_WNUM 0 = n ∧ fget t BUR_WARRANT_STAT_OUTCOME 0 = 0 ∧ fget t BUR_STAT_NOTICE 0 = 8)) ∧
    (leAt w 0 2 = 3 → ∀ (d : TrDl) (x : List Byte), x = (w.take (16 + leAt w 2 2)).drop 20 → s.bur.dl = some d → leAt w 16 4 = d.data.length →
      (d.data.length + x.length < d.size → Does (.warrantTratyData len) s (fun t => t.bur.dl = some { d with data := d.data ++ x } ∧
        t.bur.traty = s.bur.traty ∧ fget t BUR_WARRANT_STAT_OUTCOME 0 = 0 ∧ t.bur.trail = s.bur.trail)) ∧
      (d.data.length + x.length = d.size → Does (.warrantTratyData len) s (fun t => t.bur.dl = none ∧
        (tratyImageOk { d with data := d.data ++ x } = false →
          t.bur.traty = s.bur.traty ∧ fget t BUR_WARRANT_STAT_OUTCOME 0 = 8 ∧ fget t BUR_STAT_NOTICE 0 = 9) ∧
        (tratyImageOk { d with data := d.data ++ x } = true →
          t.bur.traty = some (d.tver, d.digest) ∧ fget t BUR_WARRANT_STAT_OUTCOME 0 = 0 ∧ t.bur.cnt = s.bur.cnt ∧
          ∃ a : Aud, t.bur.trail = s.bur.trail ++ [a] ∧ a.ty = 0x11)))) ∧
    (leAt w 0 2 = 4 → s.bur.trail.length < 65471 → s.bur.nextIdx < 0xFFFFFF00 → Does (.warrantClearTamper len) s (fun t => fget t BUR_STAT_TAMPER 0 = 0 ∧
      fget t BUR_STAT_TEST_ACCESS 0 = 0 ∧ fget t BUR_WARRANT_STAT_WNUM 0 = n ∧ fget t BUR_WARRANT_STAT_OUTCOME 0 = 0 ∧
      t.bur.suspHold = false ∧ ∃ a b : Aud, t.bur.trail = s.bur.trail ++ [a, b] ∧ a.ty = 0x42 ∧ b.ty = 0x41)) ∧
    (leAt w 0 2 = 5 → ∀ (old keep : List Aud) (a : Aud), s.bur.trail = old ++ [a] ++ keep → (∀ x ∈ old, x.idx ≤ leAt w 16 4) → (∀ x ∈ keep, leAt w 16 4 < x.idx) →
      a.idx = leAt w 16 4 → leAt w 16 4 < s.bur.nextIdx →
      (a.mac ≠ (w.drop 20).take 32 ∨ chainOk s.bur.baseMac (old ++ [a]) = false → Does (.warrantArchive len) s (fun t =>
        fget t BUR_WARRANT_STAT_OUTCOME 0 = 7 ∧ ∃ l : List Aud, t.bur.trail = s.bur.trail ++ l)) ∧
      (a.mac = (w.drop 20).take 32 → chainOk s.bur.baseMac (old ++ [a]) = true → s.bur.trail.length < 65536 → keep.length < 65471 → s.bur.nextIdx < 0xFFFFFF00 →
        Does (.warrantArchive len) s (fun t => fget t BUR_WARRANT_STAT_OUTCOME 0 = 0 ∧ fget t BUR_WARRANT_STAT_WNUM 0 = n ∧
          t.bur.baseMac = a.mac ∧ ∃ x y : Aud, t.bur.trail = keep ++ [x, y] ∧ x.ty = 0x40 ∧ y.ty = 0x41))) ∧
    (leAt w 0 2 = 6 → Does (.warrantStatementNow len) s (fun t => 4 ∈ t.bur.due ∧ fget t BUR_WARRANT_STAT_OUTCOME 0 = 0 ∧
      fget t BUR_WARRANT_STAT_WNUM 0 = n ∧ t.bur.cnt = s.bur.cnt ∧ fget t BUR_STAT_NOTICE 0 = 8)))

/-- One collector cycle (R396, R399, R400, R402 to R406): the oldest event is judged, counted, recorded and acted on. A
pending class raises an event once; an F puts the device into SAFE, and a HALT into HALT. The collector's own words carry
check bits, and its comparator reports an injected disagreement as F on source 60 (R414). FAULT_N and FATAL_N (R398). -/
def Obligations.FaultCycles : Prop :=
  (∀ s : State, s.flt.raised = [] → fgetB s FLT_INJ_ACTIVE 60 = false → exec .faultEvent s = .next s) ∧
  (∀ s : State, s.flt.raised = [] → fgetB s FLT_INJ_ACTIVE 60 = true → fget s FLT_INJ_CHECKER 60 = 2 →
    Does .faultEvent s (fun t => OnlyFields [(FLT_INJ_ACTIVE, 60), (FLT_INJ_COUNT, 60)] s t ∧
      ∃ e : FaultEvt, t.flt.raised = [e] ∧ e.src = 60 ∧ e.cls = clsF ∧ e.inj = true)) ∧
  (∀ (s : State) (e : FaultEvt) (r : List FaultEvt), s.flt.raised = e :: r → fgetB s FLT_INJ_ACTIVE 60 = false → e.src < 64 → (∀ x ∈ r, x.tick ≠ e.tick ∨ x.ofs ≠ e.ofs) →
    (e.cls = 0 → fget s FLT_SRC_PEND_C e.src = 0 → Does .faultEvent s (fun t => t.flt.raised = r ∧ t.array = s.array ∧
      fget t FLT_SRC_C_CNT e.src = min (fget s FLT_SRC_C_CNT e.src + 1) 65535 ∧ fget t FLT_SRC_U_CNT e.src = fget s FLT_SRC_U_CNT e.src ∧
      fget t FLT_SRC_PEND_C e.src = (if srcHeld s e.src = true then 1 else 0) ∧ fget t FLT_STATE_STATE 0 = fget s FLT_STATE_STATE 0 ∧
      (srcHeld s e.src = false → fget s FLT_SRC_C_CNT e.src ≠ 0 → t.flt.ring = s.flt.ring ∧ t.flt.rseq = s.flt.rseq ∧
        t.flt.first = s.flt.first ∧ fget t FLT_REC_IDX_PI 0 = fget s FLT_REC_IDX_PI 0) ∧
      ((srcHeld s e.src = true ∨ fget s FLT_SRC_C_CNT e.src = 0) → recUsed s < 1024 → t.flt.rseq = (s.flt.rseq + 1) % 2 ^ 32 ∧
        32 ∈ t.evt.lines ∧ ∀ i : Nat, i < 4 → smGet 0 t.flt.ring (4 * (s.flt.rseq % 1024) + i) =
          (recWords ⟨e, 0, false, true⟩ s.flt.rseq s.flt.first.isEmpty).getD i 0))) ∧
    (e.cls = 1 → e.src ≠ 63 → fget s FLT_SRC_PEND_U e.src = 0 → Does .faultEvent s (fun t => t.flt.raised = r ∧ t.array = s.array ∧
      fget t FLT_SRC_U_CNT e.src = min (fget s FLT_SRC_U_CNT e.src + 1) 65535 ∧ fget t FLT_SRC_C_CNT e.src = fget s FLT_SRC_C_CNT e.src ∧
      fget t FLT_SRC_PEND_U e.src = 1 ∧ 1 ≤ fget t FLT_SRC_CLASS e.src ∧ fget t FLT_STATE_STATE 0 = fget s FLT_STATE_STATE 0 ∧
      smGet 0 t.flt.last e.src = s.time.edges + 1 ∧ (∀ u : Nat × Nat, recUnit s e = some u → smGet 0 t.flt.inv (unitIx u.1 u.2) = e.src + 1) ∧
      (s.flt.first ≠ [] → t.flt.first = s.flt.first) ∧ (s.flt.first = [] → t.flt.first = recWords ⟨e, 1, false, true⟩ s.flt.rseq true ∧ t.flt.firstChk = t.flt.first.map chkBits) ∧
      (1024 ≤ recUsed s → t.flt.ring = s.flt.ring ∧ t.flt.rseq = s.flt.rseq ∧
        fget t FLT_REC_IDX_LOST 0 = min (fget s FLT_REC_IDX_LOST 0 + 1) 65535) ∧
      (recUsed s < 1024 → t.flt.rseq = (s.flt.rseq + 1) % 2 ^ 32 ∧ fget t FLT_REC_IDX_PI 0 = (s.flt.rseq + 1) % 65536 ∧
        (∀ i : Nat, i < 4 → smGet 0 t.flt.ring (4 * (s.flt.rseq % 1024) + i) =
          (recWords ⟨e, 1, false, true⟩ s.flt.rseq s.flt.first.isEmpty).getD i 0 ∧
          smGet 0 t.flt.ringChk (4 * (s.flt.rseq % 1024) + i) = chkBits (smGet 0 t.flt.ring (4 * (s.flt.rseq % 1024) + i))) ∧
        ∀ i : Nat, i / 4 ≠ s.flt.rseq % 1024 → smGet 0 t.flt.ring i = smGet 0 s.flt.ring i))) ∧
    ((e.cls = 2 ∧ fget s FLT_SRC_PEND_F e.src = 0) ∨ (e.cls = 1 ∧ fget s FLT_SRC_PEND_U e.src = 1) → fget s FLT_STATE_STATE 0 = 0 →
      Does .faultEvent s (fun t => fget t FLT_SRC_PEND_F e.src = 1 ∧ fget t FLT_STATE_STATE 0 = 1 ∧ t.flt.safeSrc = [e.src] ∧
        32 ∈ t.evt.lines ∧ fget t FLT_SRC_U_CNT e.src = min (fget s FLT_SRC_U_CNT e.src + 1) 65535 ∧
        fget t FLT_SRC_ESC e.src = (if e.cls = 1 then min (fget s FLT_SRC_ESC e.src + 1) 65535 else fget s FLT_SRC_ESC e.src) ∧
        ∀ p : Nat, p < 100 → (cabState s p = stRUNNING → cabState t p = stHELD ∧ fget t CAB_STATE_SAFE_HELD p = 1) ∧
          (cabState s p ≠ stRUNNING → cabState t p = cabState s p))) ∧
    (e.cls = 3 ∨ (e.cls = 2 ∧ fget s FLT_SRC_PEND_F e.src = 1) → Does .faultEvent s (fun t => fget t FLT_SRC_PEND_HALT e.src = 1 ∧
      fget t FLT_STATE_STATE 0 = 2 ∧ fget t FLT_SRC_CLASS e.src = 3)) ∧
    (e.cls = 0 → fget s FLT_SRC_PEND_C e.src = 1 → e.ukind = 0 → e.uid < 96 → physOf s e.uid < 100 →
      (cabState s (physOf s e.uid) = stRUNNING ∨ cabState s (physOf s e.uid) = stHELD) → Does .faultEvent s (fun t =>
        cabState t (physOf s e.uid) = stFAULTED ∧ fget t FLT_SRC_PEND_U e.src = 1 ∧
        fget t FLT_SRC_ESC e.src = min (fget s FLT_SRC_ESC e.src + 1) 65535))) ∧
  (∀ (s : State) (src v : Nat), src < 64 → v < 2 ^ 64 → Does (.fltSrcAckWrite src v) s (fun t =>
    OnlyRegs [(FLT_SRC_PEND_C, src), (FLT_SRC_PEND_U, src), (FLT_SRC_PEND_F, src), (FLT_SRC_PEND_HALT, src), (FLT_SRC_CLASS, src)] s t ∧
    (∀ e ∈ [(FLT_SRC_PEND_C, 60), (FLT_SRC_PEND_U, 61), (FLT_SRC_PEND_F, 62), (FLT_SRC_PEND_HALT, 63)],
      fget t e.1 src = if v.testBit e.2 = true then 0 else fget s e.1 src) ∧
    fget t FLT_SRC_CLASS src = (if fget t FLT_SRC_PEND_HALT src ≠ 0 then 3 else if fget t FLT_SRC_PEND_F src ≠ 0 then 2
      else if fget t FLT_SRC_PEND_U src ≠ 0 then 1 else 0))) ∧
  (∀ (s : State) (v : Nat), v < 65536 →
    ((v + 65536 - fget s FLT_REC_IDX_CI 0) % 65536 ≤ recUsed s → Does (.fltCiWrite v) s (fun t =>
      OnlyRegs [(FLT_REC_IDX_CI, 0)] s t ∧ fget t FLT_REC_IDX_CI 0 = v)) ∧
    (recUsed s < (v + 65536 - fget s FLT_REC_IDX_CI 0) % 65536 → exec (.fltCiWrite v) s = .next s)) ∧
  (∀ s : State, (fatalN s = true ↔ fget s FLT_STATE_STATE 0 = 0 ∧ s.boot.noPair = false) ∧
    (fget s FLT_STATE_STATE 0 ≠ 0 → faultN s = false) ∧
    (∀ f ∈ [FLT_SRC_PEND_U, FLT_SRC_PEND_F, FLT_SRC_PEND_HALT], ∀ src : Nat, src < 64 → fget s f src ≠ 0 → faultN s = false) ∧
    (∀ f ∈ [FLT_UNIT_FAULTED, FLT_UNIT_LATCHED], ∀ k id : Nat, unitOk k id = true → fget s f (unitIx k id) ≠ 0 → faultN s = false) ∧
    ((∀ f ∈ [FLT_SRC_PEND_U, FLT_SRC_PEND_F, FLT_SRC_PEND_HALT, FLT_UNIT_FAULTED, FLT_UNIT_LATCHED], setInstances s f = []) →
      fget s FLT_STATE_STATE 0 = 0 → faultN s = true))

/-- Leaving a fault state, injection, and records raised by Kaluno (R407 to R412, R415): a unit whose sources have been
quiet is recovered, or latched after eight recoveries; so is the device in SAFE. -/
def Obligations.FaultRecovery : Prop :=
  (∀ s : State, faultedUnits s = [] → fget s FLT_STATE_STATE 0 = 0 → exec .quietPeriodEnd s = .next s) ∧
  (∀ (s : State) (k id : Nat), k ≠ 10 → unitOk k id = true → faultedUnits s = [unitIx k id] → fget s FLT_STATE_STATE 0 = 0 →
    (smGet 0 s.flt.inv (unitIx k id) ≠ 0 → srcQuiet s (smGet 0 s.flt.inv (unitIx k id) - 1) = false → exec .quietPeriodEnd s = .next s) ∧
    ((smGet 0 s.flt.inv (unitIx k id) = 0 ∨ srcQuiet s (smGet 0 s.flt.inv (unitIx k id) - 1) = true) →
      (8 ≤ (recent s (unitIx k id)).length → Does .quietPeriodEnd s (fun t => OnlyRegs [(FLT_UNIT_LATCHED, unitIx k id)] s t ∧
        fget t FLT_UNIT_LATCHED (unitIx k id) = 1)) ∧
      ((recent s (unitIx k id)).length < 8 → Does .quietPeriodEnd s (fun t =>
        fget t FLT_UNIT_RCNT (unitIx k id) = min (fget s FLT_UNIT_RCNT (unitIx k id) + 1) 65535 ∧
        fget t FLT_UNIT_RCNT (unitIx 10 0) = min (fget s FLT_UNIT_RCNT (unitIx 10 0) + 1) 65535 ∧
        fget t FLT_UNIT_RECENT (unitIx k id) = (recent s (unitIx k id)).length + 1 ∧ fget t FLT_UNIT_LATCHED (unitIx k id) = 0 ∧
        (k = 0 → id ∈ t.cfg.due) ∧ (k = 4 → jState s id = jFAULTED → jState t id = jCDR ∧ fget t FLT_UNIT_FAULTED (unitIx 4 id) = 0) ∧
        (k = 6 → spState s id = 4 → spState t id = 1 ∧ fget t FLT_UNIT_FAULTED (unitIx 6 id) = 0) ∧
        (k = 7 → (flow t id).faulted = false ∧ fget t FLT_UNIT_FAULTED (unitIx 7 id) = 0) ∧
        (k = 8 → (thr s id).st = thFAULTED → fget t FLT_UNIT_FAULTED (unitIx 8 id) = 0 ∧ (thr t id).ovr = false ∧
          (thr t id).st ≠ thFAULTED))))) ∧
  (∀ s : State, faultedUnits s = [] → fget s FLT_STATE_STATE 0 = 1 → fget s FLT_STATE_LATCHED 0 = 0 →
    (∀ x ∈ s.flt.safeSrc, srcQuiet s x = false → exec .quietPeriodEnd s = .next s) ∧
    ((∀ x ∈ s.flt.safeSrc, srcQuiet s x = true) →
      (8 ≤ (recent s (unitIx 10 0)).length → Does .quietPeriodEnd s (fun t =>
        OnlyRegs [(FLT_STATE_LATCHED, 0), (FLT_UNIT_LATCHED, unitIx 10 0)] s t ∧ fget t FLT_STATE_LATCHED 0 = 1 ∧
        fget t FLT_UNIT_LATCHED (unitIx 10 0) = 1)) ∧
      ((recent s (unitIx 10 0)).length < 8 → Does .quietPeriodEnd s (fun t => fget t FLT_STATE_STATE 0 = 0 ∧ t.flt.safeSrc = [] ∧
        fget t FLT_UNIT_FAULTED (unitIx 10 0) = 0 ∧
        fget t FLT_UNIT_RCNT (unitIx 10 0) = min (fget s FLT_UNIT_RCNT (unitIx 10 0) + 1) 65535 ∧
        (∀ src : Nat, src < 64 → fget t FLT_SRC_PEND_F src = fget s FLT_SRC_PEND_F src) ∧ ∀ p : Nat, p < 100 → cabState t p = cabState s p)))) ∧
  (∀ (s : State) (src chk n : Nat) (cont dbl : Bool), src < 64 → chk < 128 → n < 256 →
    (checkerOk src chk = true → (n ≠ 0 ∨ cont = true) → Does (.fltInjArm src chk n cont dbl) s (fun t =>
      OnlyRegs [(FLT_INJ_ACTIVE, src), (FLT_INJ_CONT, src), (FLT_INJ_DOUBLE, src), (FLT_INJ_CHECKER, src), (FLT_INJ_COUNT, src)] s t ∧
      fget t FLT_INJ_ACTIVE src = 1 ∧ fget t FLT_INJ_CONT src = (if cont = true then 1 else 0) ∧
      fget t FLT_INJ_DOUBLE src = (if dbl = true then 1 else 0) ∧ fget t FLT_INJ_CHECKER src = chk ∧ fget t FLT_INJ_COUNT src = n)) ∧
    ((checkerOk src chk = false ∨ (n = 0 ∧ cont = false)) → Does (.fltInjArm src chk n cont dbl) s (fun t =>
      OnlyRegs [(FLT_INJ_REFUSED, src)] s t ∧ fget t FLT_INJ_REFUSED src = 1))) ∧
  (∀ (s : State) (k v : Nat), k < 4 → v < 2 ^ 64 → exec (.fltRaiseGo k v false) s = .next s ∧
    Does (.fltRaiseGo k v true) s (fun t =>
      OnlyFields [(FLT_RAISE_CLASS, 0), (FLT_RAISE_UKIND, 0), (FLT_RAISE_CODE, 0), (FLT_RAISE_UID, 0)] s t ∧ t.array = s.array ∧
      ∃ e : FaultEvt, t.flt.raised = s.flt.raised ++ [e] ∧ e.src = 63 ∧ e.cls = v / 2 ^ 62 ∧ e.code = v / 2 ^ 32 % 2 ^ 16 ∧
        e.ukind = v / 2 ^ 48 % 16 ∧ e.uid = v / 2 ^ 16 % 2 ^ 16 ∧ e.addr = fget s FLT_RAISE_ADDR_ADDR 0 ∧
        e.master = pairMaster s k ∧ e.tick = s.time.tick))

/-- The scrub controllers (R418 to R424): the walk and the fetch queue read words in order and repair them, the standby
takes over from a primary that fails, and a period out of range is refused. -/
def Obligations.Scrubbing : Prop :=
  (∀ s : State,
    (fget s SCR_STAT_STOPPED 0 = 0 → s.scr.walking = false → s.time.pllA.testBit 2 = true → s.scr.next ≤ nowUs s →
      Does .scrubWalkStart s (fun t => t = { s with scr := t.scr } ∧ t.scr.walking = true ∧ t.scr.p = 0 ∧ t.scr.w = 0 ∧
        t.scr.start = nowUs s ∧ t.scr.next = (if s.scr.next = 0 then nowUs s else s.scr.next) + fget s SCR_CFG_CYCLE_US 0)) ∧
    (fget s SCR_STAT_STOPPED 0 ≠ 0 ∨ s.scr.walking = true ∨ s.time.pllA.testBit 2 = false ∨ nowUs s < s.scr.next →
      exec .scrubWalkStart s = .next s)) ∧
  (∀ (s : State) (err : Code),
    (s.scr.walking = false ∨ fget s SCR_STAT_STOPPED 0 ≠ 0 → exec (.scrubWordRead err) s = .next s) ∧
    (s.scr.walking = true → fget s SCR_STAT_STOPPED 0 = 0 → s.scr.p < 100 → s.scr.w < 7752 →
      fget s FLT_INJ_ACTIVE (cabSrc s.scr.p) = 0 → cabState s s.scr.p ≠ stOFF → cabState s s.scr.p ≠ stLOADING →
      (s.scr.w = 0 → s.scr.copy ≠ fget s SCR_CFG_CYCLE_US 0 → exec (.scrubWordRead err) s = exec .scrubTakeover s) ∧
      (s.scr.w ≠ 0 ∨ s.scr.copy = fget s SCR_CFG_CYCLE_US 0 → Does (.scrubWordRead err) s (fun t =>
        Scrubbed s t (s.scr.p * 136 + s.scr.w / 57) (s.scr.w % 57) err ∧
        (∀ i : Nat, i ≠ s.scr.w % 57 → cfgCode (cell t (s.scr.p * 136 + s.scr.w / 57)) i = cfgCode (cell s (s.scr.p * 136 + s.scr.w / 57)) i) ∧
        (s.scr.w < 7751 → t.scr.walking = true ∧ t.scr.p = s.scr.p ∧ t.scr.w = s.scr.w + 1) ∧
        (s.scr.w = 7751 → s.scr.p < 99 → cabState s (s.scr.p + 1) ≠ stOFF → cabState s (s.scr.p + 1) ≠ stLOADING →
          t.scr.walking = true ∧ t.scr.p = s.scr.p + 1 ∧ t.scr.w = 0) ∧
        (s.scr.w = 7751 → s.scr.p = 99 → t.scr.walking = false ∧
          fget t SCR_STAT_LAST_US 0 = (nowUs s - s.scr.start) % 2 ^ 32))))) ∧
  (∀ (s : State) (err : Code),
    (s.scr.queue = [] ∨ fget s SCR_STAT_STOPPED 0 ≠ 0 → exec (.scrubQueueRepair err) s = .next s) ∧
    (∀ (k w : Nat) (r : List (Nat × Nat)), s.scr.queue = (k, w) :: r → k < 13600 → w < 57 → fget s SCR_STAT_STOPPED 0 = 0 →
      (cabState s (k / 136) = stOFF → exec (.scrubQueueRepair err) s = .next { s with scr := { s.scr with queue := r } }) ∧
      (cabState s (k / 136) ≠ stOFF → fget s FLT_INJ_ACTIVE (cabSrc (k / 136)) = 0 → Does (.scrubQueueRepair err) s (fun t =>
        Scrubbed s t k w err ∧ t.scr = { s.scr with queue := r })))) ∧
  (∀ s : State, exec .scrubHeartbeat s = .next { s with scr := { s.scr with progP := s.scr.p, progW := s.scr.w, beatAt := s.time.now } }) ∧
  (∀ s : State, takeoverDue s = false → exec .scrubTakeover s = .next s) ∧
  (∀ s : State, s.scr.copy ≠ fget s SCR_CFG_CYCLE_US 0 → takeoverDue s = true) ∧
  (∀ s : State, s.time.pllA.testBit 2 = true → 4096 * Config.aclkKHz ≤ (s.time.now - s.scr.beatAt) * 1000000 → takeoverDue s = true) ∧
  (∀ (s : State) (c : Instr), (c = .scrubTakeover ∧ takeoverDue s = true) ∨ (∃ p : Nat, p < 100 ∧ c = .voteDisagreement 2 p) →
    (fget s SCR_STAT_STOPPED 0 ≠ 0 → exec c s = .next s) ∧
    (fget s SCR_STAT_STOPPED 0 = 0 → fget s SCR_STAT_STANDBY_OK 0 ≠ 0 → s.scr.testing = false → Does c s (fun t =>
      fget t SCR_STAT_PRIMARY 0 = 1 - fget s SCR_STAT_PRIMARY 0 ∧
      fget t SCR_STAT_TAKEOVERS 0 = min (fget s SCR_STAT_TAKEOVERS 0 + 1) 65535 ∧ t.scr.p = s.scr.progP ∧ t.scr.w = 0 ∧
      t.scr.testing = true ∧ t.scr.walking = s.scr.walking ∧ fget t SCR_STAT_STOPPED 0 = 0 ∧
      fget t SCR_CFG_CYCLE_US 0 = s.scr.copy % 2 ^ 20 ∧
      ∃ (l : List FaultEvt) (e : FaultEvt), t.flt.raised = l ++ [e] ∧ e.src = 52 ∧ e.cls = clsC)) ∧
    (fget s SCR_STAT_STOPPED 0 = 0 → fget s SCR_STAT_STANDBY_OK 0 = 0 ∨ s.scr.testing = true → Does c s (fun t =>
      OnlyFields [(SCR_STAT_STOPPED, 0)] s t ∧ fget t SCR_STAT_STOPPED 0 = 1 ∧ t.scr = { s.scr with walking := false } ∧
      ∃ e : FaultEvt, t.flt.raised = s.flt.raised ++ [e] ∧ e.src = 52 ∧ e.cls = clsU))) ∧
  (∀ (s : State) (p : Nat), p < 100 →
    (cabState s p = stRUNNING ∨ cabState s p = stHELD → Does (.voteDisagreement 0 p) s (fun t => cabState t p = stFAULTED ∧
      fget t SCR_ERR_UF 0 = min (fget s SCR_ERR_UF 0 + 1) 65535 ∧
      ∃ e : FaultEvt, t.flt.raised = s.flt.raised ++ [e] ∧ e.src = cabSrc p ∧ e.cls = clsU)) ∧
    Does (.voteDisagreement 1 p) s (fun t => t.array = s.array ∧ OnlyFields [(SCR_ERR_UF, 0)] s t ∧
      fget t SCR_ERR_UF 0 = min (fget s SCR_ERR_UF 0 + 1) 65535 ∧
      ∃ e : FaultEvt, t.flt.raised = s.flt.raised ++ [e] ∧ e.src = cabSrc p ∧ e.cls = clsF)) ∧
  (∀ s : State, ∀ v : Nat,
    (2000 ≤ v % 2 ^ 20 → v % 2 ^ 20 ≤ 1000000 → Does (.scrCfgWrite v) s (fun t =>
      OnlyFields [(SCR_CFG_CYCLE_US, 0), (SCR_CFG_REFUSED, 0)] s t ∧ fget t SCR_CFG_CYCLE_US 0 = v % 2 ^ 20 ∧ t.scr.copy = v % 2 ^ 20 ∧
      fget t SCR_CFG_REFUSED 0 = if v.testBit 31 = true then 0 else fget s SCR_CFG_REFUSED 0)) ∧
    (v % 2 ^ 20 < 2000 ∨ 1000000 < v % 2 ^ 20 → Does (.scrCfgWrite v) s (fun t => OnlyRegs [(SCR_CFG_REFUSED, 0)] s t ∧
      fget t SCR_CFG_REFUSED 0 = 1)))

/-- Gap steps (R425 to R432) and the test calendar (R442): a step configures the shadow, copies RAM and compares; a
mismatch repeats the test or faults the cabinet. The BIST engine (R434 to R437): it grants one slice at a time, at most
sixteen run, a router enters TEST before its first slice, and a slice ends as PASS, FAIL or INCOMPLETE; a failing bank of
a tested cabinet's FIFO takes a spare row (R132); a gap column is never preempted. -/
def Obligations.GapStepsAndSelfTest : Prop :=
  ((∀ (s : State) (p : Nat), p < 100 →
     (gapMay s p = false → exec (.gapStepStart p) s = .next s) ∧
     (fget s BST_CFG_GAP_EN 0 = 0 ∨ fget s CAB_GAP_PARKED p ≠ 0 ∨ fget s CAB_CAPTURE_CTL_ARMED p ≠ 0 ∨ (cab s p).gapPh ≠ 0 ∨
       s.time.edges < (cab s p).gapStart + fget s BST_CFG_STEP_TICKS 0 → gapMay s p = false) ∧
     (∀ l : Nat, gapMay s p = true → fget s BST_CAB_SUSPECT_V p = 0 → gapPos s p ≤ 16 →
       l = (if gapPos s p = 0 then 0 else if gapPos s p = 16 then 15 else if fget s BST_CAB_DIR p = 0 then gapPos s p - 1 else gapPos s p) →
       (cabState s p = stEMPTY → Does (.gapStepStart p) s (fun t => (cab t p).gapCol = l ∧ (cab t p).gapPh = 4 ∧
         (cab t p).gapStart = s.time.edges ∧ fget t BST_CAB_PHASE p = 3 ∧ t.array.cells = s.array.cells)) ∧
       (cabState s p ≠ stEMPTY → Does (.gapStepStart p) s (fun t => (cab t p).gapCol = l ∧ (cab t p).gapPh = 1 ∧
         (cab t p).gapStart = s.time.edges ∧ fget t BST_CAB_PHASE p = 1 ∧ gapPos t p = gapPos s p ∧ (cab t p).gapSecond = false ∧
         (∀ r w : Nat, r < 8 → w < 57 → cfgCode (cell t (cid p (gapPos s p) r)) w =
           eccEnc (smGet 0 (img s (logicalOf s p)).cfg (64 * (8 * l + r) + w))) ∧
         ∀ q r : Nat, q < 17 → r < 8 → q ≠ gapPos s p → cell t (cid p q r) = cell s (cid p q r)))) ∧
     (gapMay s p = true → fget s BST_CAB_SUSPECT_V p ≠ 0 → fget s BST_CAB_SUSPECT p = gapPos s p →
       Does (.gapStepStart p) s (fun t => (cab t p).gapPh = 7 ∧ fget t BST_CAB_PHASE p = 3 ∧ (bunit t p).done = 0 ∧
         t.array.cells = s.array.cells))) ∧
   (∀ (s : State) (p : Nat), p < 100 →
     ((cab s p).gapPh ≠ 1 → exec (.shadowCopyDone p) s = .next s) ∧
     ((cab s p).gapPh = 1 → (cab s p).gapCol < 16 → gapPos s p ≤ 16 → fget s FLT_INJ_ACTIVE (cabSrc p) = 0 →
       (∀ r a : Nat, r < 8 → a < 512 → ∃ d : BitVec 64, eccJudge (ramCode (cell s (cid p (pcolOf s p (cab s p).gapCol) r)) a) = .clean d) →
       Does (.shadowCopyDone p) s (fun t => (cab t p).gapPh = 2 ∧ t.regs = s.regs ∧ t.flt = s.flt ∧
         ∀ (r a : Nat) (d : BitVec 64), r < 8 → a < 512 → eccJudge (ramCode (cell s (cid p (pcolOf s p (cab s p).gapCol) r)) a) = .clean d →
           ramCode (cell t (cid p (gapPos s p) r)) a = eccEnc d))) ∧
   (∀ (s : State) (p : Nat), p < 100 →
     ((cab s p).gapPh ≠ 3 → exec (.shadowMismatch p) s = .next s) ∧
     ((cab s p).gapPh = 3 → (cab s p).gapSecond = false → Does (.shadowMismatch p) s (fun t => (cab t p).gapPh = 6 ∧
       fget t BST_CAB_PHASE p = 3 ∧ fget t BST_CAB_MISMATCH p = min (fget s BST_CAB_MISMATCH p + 1) 65535 ∧ cabState t p = cabState s p ∧
       ∃ e : FaultEvt, t.flt.raised = s.flt.raised ++ [e] ∧ e.src = cabSrc p ∧ e.cls = clsC)) ∧
     ((cab s p).gapPh = 3 → (cab s p).gapSecond = true → cabState s p = stRUNNING ∨ cabState s p = stHELD →
       Does (.shadowMismatch p) s (fun t => cabState t p = stFAULTED ∧ (cab t p).gapPh = 0 ∧
         fget t BST_CAB_MISMATCH p = min (fget s BST_CAB_MISMATCH p + 1) 65535 ∧
         ∃ e : FaultEvt, t.flt.raised = s.flt.raised ++ [e] ∧ e.src = cabSrc p ∧ e.cls = clsU))) ∧
   (∀ (s : State) (v : Nat), v < 2 ^ 64 → Does (.bstCfgWrite v) s (fun t =>
     OnlyRegs [(BST_CFG_GAP_EN, 0), (BST_CFG_REFUSED, 0), (BST_CFG_COMPARE, 0), (BST_CFG_SLICE_US, 0), (BST_CFG_STEP_TICKS, 0)] s t ∧
     fget t BST_CFG_GAP_EN 0 = v / 2 ^ 63 ∧
     fget t BST_CFG_COMPARE 0 = (if v / 2 ^ 32 % 2 ^ 16 = 0 then fget s BST_CFG_COMPARE 0 else v / 2 ^ 32 % 2 ^ 16) ∧
     fget t BST_CFG_SLICE_US 0 = (if 2 ≤ v / 2 ^ 22 % 2 ^ 10 ∧ v / 2 ^ 22 % 2 ^ 10 ≤ 500 then v / 2 ^ 22 % 2 ^ 10 else fget s BST_CFG_SLICE_US 0) ∧
     fget t BST_CFG_STEP_TICKS 0 = (if 1000 ≤ v % 2 ^ 22 then v % 2 ^ 22 else fget s BST_CFG_STEP_TICKS 0) ∧
     ((v / 2 ^ 32 % 2 ^ 16 = 0 ∨ v / 2 ^ 22 % 2 ^ 10 < 2 ∨ 500 < v / 2 ^ 22 % 2 ^ 10 ∨ v % 2 ^ 22 < 1000) → fget t BST_CFG_REFUSED 0 = 1)))) ∧
  ((∀ s m : State, m = bistUnits.foldl unitMark s →
     (16 ≤ slicesRunning m → exec .bistSliceStart s = .next m) ∧
     (slicesRunning m < 16 →
       bestUnit m (bistUnits.filter (fun u => (bunit m u).want && !(bunit m u).run && cabSliceFree m u)) = none →
       exec .bistSliceStart s = .next m) ∧
     (∀ u : Nat, slicesRunning m < 16 →
       bestUnit m (bistUnits.filter (fun u => (bunit m u).want && !(bunit m u).run && cabSliceFree m u)) = some u →
       (u < 200 ∨ 300 ≤ u ∨ rtrState s (u - 200) = rtTEST → Does .bistSliceStart s (fun t => (bunit t u).run = true ∧
         (bunit t u).want = false ∧ (bunit t u).done = (bunit m u).done ∧ (bunit t u).began = s.time.now ∧ t.bst.ptr = (u + 1) % 1024 ∧
         t.array = s.array ∧ t.flt = s.flt ∧ (u < 100 ∨ (200 ≤ u ∧ u ≠ 320) → t.regs = s.regs) ∧
         (∀ v : Nat, v ≠ u → bunit t v = bunit m v) ∧ ∀ p : Nat, unitCab u = some p → smGet 0 t.bst.started p = s.time.edges + 1)) ∧
       (200 ≤ u → u < 300 → rtrState s (u - 200) = rtNORMAL → ringBusy s (u - 200) = false → Does .bistSliceStart s (fun t =>
         t.bst = m.bst ∧ rtrState t (u - 200) = rtENTERING ∧ fget t NOC_RTR_CTL_MODE (u - 200) = 2 ∧ t.array = s.array ∧ t.flt = s.flt))) ∧
     ∀ u : Nat, (bunit m u).run = (bunit s u).run) ∧
   (∀ (s : State) (u : Nat) (full sig : Bool), u ∈ bistUnits →
     ((bunit s u).run = false → exec (.bistSliceEnd u full sig [] []) s = .next s) ∧
     ((bunit s u).run = true → (full = false ∨ unitDue s u = false ∨ inBudget s u = false) → Does (.bistSliceEnd u full sig [] []) s (fun t =>
       (bunit t u).run = false ∧ (bunit t u).inc = min 255 ((bunit s u).inc + 1) ∧ (bunit t u).done = (bunit s u).done ∧
       t.array = s.array ∧ (u < 200 → fget t BST_CAB_INCOMPLETE (u % 100) = min 15 ((bunit s u).inc + 1)) ∧
       (min 255 ((bunit s u).inc + 1) % 16 ≠ 0 → t.flt = s.flt ∧ (bunit t u).held = (bunit s u).held) ∧
       (min 255 ((bunit s u).inc + 1) % 16 = 0 → (bunit t u).held = true ∧
         ∃ e : FaultEvt, t.flt.raised = s.flt.raised ++ [e] ∧ e.src = 53 ∧ e.cls = clsU ∧ e.addr = u))) ∧
     ((bunit s u).run = true → unitDue s u = true → inBudget s u = true → full = true → sig = true → (bunit s u).done + 1 < unitSlices u →
       Does (.bistSliceEnd u full sig [] []) s (fun t => (bunit t u).run = false ∧ (bunit t u).inc = 0 ∧
         (bunit t u).done = (bunit s u).done + 1 ∧ t.array = s.array ∧ t.flt = s.flt)) ∧
     ((bunit s u).run = true → unitDue s u = true → inBudget s u = true → full = true → sig = true → unitSlices u ≤ (bunit s u).done + 1 →
       Does (.bistSliceEnd u full sig [] []) s (fun t => (bunit t u).run = false ∧ (bunit t u).done = 0 ∧
         (bunit t u).pass = s.time.tick + 1 ∧ (300 ≤ u → u < 305 → fget t SYS_PAIR_STAT_STATE (u - 300) = 1) ∧
         (u = 310 → fget t SCR_STAT_STANDBY_OK 0 = 1 ∧ t.scr.testing = false) ∧
         (200 ≤ u → u < 300 → rtrState s (u - 200) = rtTEST → rtrState t (u - 200) = rtNORMAL) ∧
         (u < 200 → fget t BST_PASS_TICK_TICK (u % 100) = s.time.tick % 2 ^ 64) ∧
         (u < 100 → (cab s u).gapPh = 4 → cabState s u ≠ stEMPTY → (cab t u).gapPh = 0 ∧ fget t BST_CAB_PHASE u = 0 ∧
           fget t BST_CAB_STEPS u = min (fget s BST_CAB_STEPS u + 1) (2 ^ 32 - 1)))) ∧
     ((bunit s u).run = true → unitDue s u = true → inBudget s u = true → full = true → sig = false →
       Does (.bistSliceEnd u full sig [] []) s (fun t => (bunit t u).run = false ∧ (bunit t u).done = 0 ∧
         (bunit t u).fails = min 65535 ((bunit s u).fails + 1) ∧
         (300 ≤ u → u < 305 → fget t SYS_PAIR_STAT_STATE (u - 300) = 3) ∧ (u = 310 → fget t SCR_STAT_STANDBY_OK 0 = 0) ∧
         (200 ≤ u → u < 300 → rtrState t (u - 200) = rtrState s (u - 200)) ∧
         (u < 100 → fget t CAB_GAP_PARKED u = 1 ∧ fget t BST_CAB_PHASE u = 4 ∧
           ∃ e : FaultEvt, t.flt.raised = s.flt.raised ++ [e] ∧ e.src = cabSrc u ∧ e.cls = clsC) ∧
         (100 ≤ u → u < 200 → cabState t (u - 100) = stOFF)))) ∧
   (∀ (s : State) (u k row : Nat), u < 100 → k < 8 → row < 128 → gapPos s u ≤ 16 → (bunit s u).run = true → unitDue s u = true → inBudget s u = true →
     (bunit s u).done + 1 < unitSlices u → (cell s (cid u (gapPos s u) k)).rep = [] →
     Does (.bistSliceEnd u true true [(k, row)] []) s (fun t => (cell t (cid u (gapPos s u) k)).rep = [row] ∧
       fget t CAB_RAM_SPARE_USED u = min (fget s CAB_RAM_SPARE_USED u + 1) (2 ^ CAB_RAM_SPARE_USED.width - 1) ∧
       (bunit t u).done = (bunit s u).done + 1)) ∧
   (∀ (s : State) (u f b : Nat), 100 ≤ u → u < 200 → f < 16 → b < 2 → (bunit s u).run = true → unitDue s u = true → inBudget s u = true →
     (bunit s u).done + 1 < unitSlices u → fget s (if b = 0 then FIFO_SPARE_BANK0 else FIFO_SPARE_BANK1) (cabFifo (u - 100) f) < 4 →
     Does (.bistSliceEnd u true true [] [(cabFifo (u - 100) f, b)]) s (fun t => (bunit t u).done = (bunit s u).done + 1 ∧
       fget t (if b = 0 then FIFO_SPARE_BANK0 else FIFO_SPARE_BANK1) (cabFifo (u - 100) f) =
         fget s (if b = 0 then FIFO_SPARE_BANK0 else FIFO_SPARE_BANK1) (cabFifo (u - 100) f) + 1)) ∧
   (∀ (s : State) (u : Nat), u ∈ bistUnits →
     (u < 100 ∨ (bunit s u).run = false → exec (.bistSliceAbort u) s = .next s) ∧
     (100 ≤ u → (bunit s u).run = true → Does (.bistSliceAbort u) s (fun t => (bunit t u).run = false ∧
       (bunit t u).inc = min 255 ((bunit s u).inc + 1) ∧ (u < 200 → ∀ q r : Nat, q < 17 → r < 8 → (cell t (cid (u - 100) q r)).cur = {}) ∧
       (200 ≤ u → u < 300 → rtrState s (u - 200) = rtTEST → rtrState t (u - 200) = rtNORMAL)))))

/-- Test access (R391, R438, R439): a challenge with the serial number after it, and scan that opens only for a good
signature over it and a quiet array, once the Bureau has logged it and every secret is gone. PCIe accesses to BAR0 (R449
to R451): none while the endpoint is in reset; the register half reaches register space, a window reaches its base plus
the offset, one that names another device sends the access there (R262; its status until the answer comes is the model's
own), an unmapped one answers Unsupported Request, and a posted write has no completion. -/
def Obligations.TestAccessAndPcie : Prop :=
  ((∀ s : State, Does .testUnlock s (fun t => ∃ c : List Byte, c.length = 32 ∧ c = beBytes 32 (Config.random s.free).toNat ∧
     t = { s with env := { s.env with chal := some c }, free := s.free + 1, bus := t.bus } ∧ t.bus.bytes = c ++ beBytes 8 Config.serial)) ∧
   (∀ (s : State) (pk sig : List Byte),
     (s.env.chal = none ∨ s.otp.testRevoked = true ∨ s.otp.testKey = [] ∨ shake256 pk 32 ≠ s.otp.testKey ∨
       (∃ c : List Byte, s.env.chal = some c ∧ edVerify false (strBytes "AXRID-TST") pk c sig = false) ∨
       (∃ p : Nat, p < 100 ∧ (cabState s p = stRUNNING ∨ cabState s p = stDRAINING)) → exec (.testUnlockSignature pk sig) s = .next s) ∧
     (∀ c : List Byte, s.env.chal = some c → s.otp.testRevoked = false → s.otp.testKey ≠ [] → shake256 pk 32 = s.otp.testKey →
       edVerify false (strBytes "AXRID-TST") pk c sig = true →
       (∀ p : Nat, p < 100 → cabState s p ≠ stRUNNING ∧ cabState s p ≠ stDRAINING) → Does (.testUnlockSignature pk sig) s (fun t =>
         t.env = { s.env with secrets := false, scan := true, chal := none } ∧ fget t CFG_KEY_STAT_KEY_OFF 0 = 1 ∧
         fget t BUR_STAT_TEST_ACCESS 0 = 1 ∧ t.cfg.img = [] ∧ t.bur.dl = none ∧ t.bur.win = [] ∧ fget t SYS_SRAM_SECRET_TAG 0 = 0 ∧
         (∀ e ∈ t.ctl.sram, sramSecret s (8 * e.1) = false) ∧ (∀ e ∈ s.ctl.sram, sramSecret s (8 * e.1) = false → e ∈ t.ctl.sram) ∧
         (∀ k : Nat, gKey (stageOfs s / 128) 0 0 ≤ k → k < gKey (stageOfs s / 128 + 1048576) 0 0 → smGet 0 t.gdr.mem k = 0) ∧
         (s.bur.trail.length < 65536 → s.bur.nextIdx < 2 ^ 32 → ∃ a : Aud, t.bur.trail = s.bur.trail ++ [a] ∧ a.ty = 0x23))))) ∧
  ((∀ (s : State) (o n : Nat) (wr : Option (List Byte)), pcieUp s = false → exec (.pcieWindowAccess o n wr) s = .next s) ∧
   (∀ (s : State) (o n : Nat), pcieUp s = true → o < 0x1F00000 → n ≤ 64 → ∃ t : State, exec (.rcFieldRead 5 (0x100000000 + o) n) s = .next t ∧
     exec (.pcieWindowAccess o n none) s =
       .next { t with bus := { t.bus with status := if t.bus.status = 0 then 0 else 1 } }) ∧
   (∀ (s : State) (o n v : Nat), pcieUp s = true → o < 0x1F00000 → n ≤ 64 → v < 2 ^ (8 * n) → ∃ (u : State) (st : Nat),
     exec (.genericRegisterWrite 5 (0x100000000 + o) n v) s = .next (busAnswer u st []) ∧
     exec (.pcieWindowAccess o n (some (leBytes n v))) s = .next u) ∧
   (∀ (s : State) (o n : Nat) (b : List Byte), pcieUp s = true →
     (0x2000000 ≤ o ∧ o < 0x3000000 ∧ fget s PCI_WIN0_EN 0 = 0 ∨ 0x3000000 ≤ o ∧ o < 0x4000000 ∧ fget s PCI_WIN1_EN 0 = 0) →
     exec (.pcieWindowAccess o n none) s = .next { s with bus := { data := 0, status := 1, bytes := [] } } ∧
     exec (.pcieWindowAccess o n (some b)) s = .next s) ∧
   (∀ (s : State) (o n r : Nat), pcieUp s = true → n ≤ 64 → r < 0x30000000 → 0x2000000 ≤ o → o < 0x3000000 → fget s PCI_WIN0_EN 0 ≠ 0 →
     fget s PCI_WIN0_BASE 0 * 2 ^ 24 + (o - 0x2000000) = 0x100000000 + r → ∃ t : State, exec (.rcFieldRead 5 (0x100000000 + r) n) s = .next t ∧
     exec (.pcieWindowAccess o n none) s = .next { t with bus := { t.bus with status := if t.bus.status = 0 then 0 else 1 } }) ∧
   (∀ (s : State) (o n d r : Nat), pcieUp s = true → 0x2000000 ≤ o → o < 0x3000000 → fget s PCI_WIN0_EN 0 ≠ 0 → d < 1024 → r < 2 ^ 36 →
     d ≠ ownDev s → fget s PCI_WIN0_BASE 0 * 2 ^ 24 + (o - 0x2000000) = 0x8000000000 + d * 2 ^ 36 + r → 1 ≤ n → r % 256 + n ≤ 256 →
     Does (.pcieWindowAccess o n none) s (fun t => t.bus.status = esWAIT ∧ t.regs = s.regs ∧ t.flt = s.flt ∧
       ∃ p : Pkt, (stop t 111).reqQ = (stop s 111).reqQ ++ [p] ∧ p.ty = 0 ∧ p.ddev = d ∧ p.addr = r ∧ p.size = n - 1 ∧ p.sstop = 111)))

/-- EVERY COMMAND COMPLETES: at a place the device has, whatever the state, each command of the table answers a next state,
and it is the one that its own effect leaves, named here; the statements above say what that effect is. Where a place is
not one the device has, WellFormednessDecides says that the event stops. A write at an unlisted place of register space
is ignored (R448). Commands are grouped by the file of their meaning. -/
def Obligations.EveryCommandCompletes : Prop := ∀ s : State,
  -- Boot
  ((∀ (vsel : Nat), exec (.powerOnReset vsel) s = .next (powerOn s (vsel % 256))) ∧
   (∀ (sel : Nat) (pull : Bool), exec (.resetRelease sel pull) s = .next (if s.boot.held then strapLatch s (sel % 8) pull else s)) ∧
   (∀ (pin : Bool), exec (.warmReset pin) s = .next (warmCmd s pin)) ∧
   exec .powerGoodLoss s = .next (powerOn s ([0, 1, 2, 3].foldl (fun v b => v + fget s PIN_BANK_STAT_VSEL b * 4 ^ b) 0)) ∧
   exec .bootAttempt s = .next (bootAttempt s) ∧
   exec .bootDoneWrite s = .next (bootDone s) ∧
   (∀ (v : Nat), exec (.bootFailWrite v) s = .next (bootFailWrite s (v % 2 ^ 32))) ∧
   exec .bootWatchdogExpiry s = .next (if s.boot.fw && !s.boot.done && passedMs s s.boot.startAt 5000 then bootFail s 10 0 else s) ∧
   exec .backoffWaitEnd s = .next (backoffEnd s) ∧
   (∀ (n : Nat), exec (.loadFailsSubWrite n) s = .next (fsub s SYS_LOAD_FAILS_COUNT 0 (n % 2 ^ 32))) ∧
   exec .pllLock s = .next (pllLock s)) ∧
  -- Bus
  ((∀ (m a n v : Nat), m < 10 → exec (.genericRegisterWrite m a n v) s = .next (let q := spaceWrite s m a n v
      accessBy s.flt.raised.length (masterField s m) (busAnswer q.1 q.2 []))) ∧
   (∀ (m a n : Nat), m < 10 → exec (.rcFieldRead m a n) s = .next (accessBy s.flt.raised.length (masterField s m) (busReadCmd s m a n))) ∧
   (∀ (st mode : Nat), st < 100 → exec (.routerModeWrite st mode) s = .next (routerMode s st (mode % 4))) ∧
   (∀ (a n : Nat), exec (.spiRead a n) s = .next (if s.boot.held then s else spiRead s (a % 2 ^ 24) n)) ∧
   (∀ (a : Nat) (b : List Byte), exec (.spiWrite a b) s = .next (if !s.boot.held && a % 4 = 0 then spiWrite (a % 2 ^ 24) b s else s)) ∧
   (∀ (w v : Nat), w < 2 → exec (.pciWinWrite w v) s = .next (regPutPlain s (if w = 0 then R_PCI_WIN0 else R_PCI_WIN1) 0 v)) ∧
   (∀ (o n : Nat) (wr : Option (List Byte)), exec (.pcieWindowAccess o n wr) s = .next (if pcieUp s then accessBy s.flt.raised.length (masterField s 5) (pcieAccess s (o % 0x4000000) n wr) else s))) ∧
  -- TickSrc
  ((∀ (k : Nat), k < 3 → exec (.pllLossOfLock k) s = .next (pllLoss s k)) ∧
   (∀ (k : Nat), k < 3 → exec (.pllRelock k) s = .next (pllRelock s k)) ∧
   (∀ (err : Int), exec (.tickSourceEdge err) s = .next (if fget s SYS_TICK_CFG_SRC 0 = 0 then s else tickPhase s err)) ∧
   exec .tickEdgeMissed s = .next (tickMissed s) ∧
   (∀ (v : Nat), exec (.tickLenWrite v) s = .next (tickLenWrite s (v % 2 ^ 20))) ∧
   (∀ (v : Nat), exec (.tickSourceWrite v) s = .next (if v % 4 = 3 then s else tickSrcWrite s (v % 4))) ∧
   exec .tickCountRead s = .next (answer (tickCntRead s))) ∧
  -- Mailbox
  (exec .tickEdge s = .next (settle (tickEdge s)) ∧
   (∀ (ext : List Byte), exec (.mbxTake ext) s = .next (mbxTake s ext)) ∧
   (∀ (m : Nat), m < 16 → exec (.sysIdentify m) s = .next (mbxCmd s m 1 1 [] [])) ∧
   (∀ (m : Nat), m < 16 → exec (.sysStatus m) s = .next (mbxCmd s m 1 2 [] [])) ∧
   (∀ (m : Nat) (nonce : List Byte), m < 16 → exec (.sysAttest m nonce) s = .next (mbxCmd s m 1 3 [fit (leNat nonce) 32] [])) ∧
   (∀ (m delay : Nat), m < 16 → exec (.sysReset m delay) s = .next (mbxCmd s m 1 4 [fit delay 2] [])) ∧
   (∀ (m : Nat), m < 16 → exec (.sysSensors m) s = .next (mbxCmd s m 1 5 [] [])) ∧
   (∀ (m slot auth : Nat) (pk sig : List Byte), m < 16 → exec (.sysKeyRevoke m slot auth pk sig) s = .next (mbxCmd s m 1 6 [fit slot 1, fit auth 1, fit (leNat pk) 57, fit (leNat sig) 114] [])) ∧
   (∀ (m which svn auth : Nat) (pk sig : List Byte), m < 16 → exec (.sysSvnRaise m which svn auth pk sig) s = .next (mbxCmd s m 1 7 [fit which 1, fit svn 4, fit auth 1, fit (leNat pk) 57, fit (leNat sig) 114] [])) ∧
   (∀ (m src compat cofs addr n : Nat) (ext : List Byte), m < 16 → exec (.cabLoad m src compat cofs addr n ext) s = .next (mbxCmd s m 2 1 [fit src 1, fit compat 1, fit cofs 1, fit addr 8, fit n 4] ext)) ∧
   (∀ (m l : Nat), m < 16 → exec (.cabUnload m l) s = .next (mbxCmd s m 2 2 [fit l 1] [])) ∧
   (∀ (m l : Nat), m < 16 → exec (.cabHold m l) s = .next (mbxCmd s m 2 3 [fit l 1] [])) ∧
   (∀ (m l plan : Nat), m < 16 → exec (.cabRun m l plan) s = .next (mbxCmd s m 2 4 [fit l 1, fit plan 1] [])) ∧
   (∀ (m l : Nat), m < 16 → exec (.cabDrain m l) s = .next (mbxCmd s m 2 5 [fit l 1] [])) ∧
   (∀ (m l on : Nat), m < 16 → exec (.cabPower m l on) s = .next (mbxCmd s m 2 6 [fit l 1, fit on 1] [])) ∧
   (∀ (m l target : Nat), m < 16 → exec (.cabRelocate m l target) s = .next (mbxCmd s m 2 7 [fit l 1, fit target 1] [])) ∧
   (∀ (m l plan : Nat), m < 16 → exec (.cabPlan m l plan) s = .next (mbxCmd s m 2 8 [fit l 1, fit plan 1] [])) ∧
   (∀ (m l mode ofs tick : Nat), m < 16 → exec (.cabCapture m l mode ofs tick) s = .next (mbxCmd s m 2 9 [fit l 1, fit mode 1, fit ofs 4, fit tick 8] [])) ∧
   (∀ (m l col row sec : Nat), m < 16 → exec (.cabReadback m l col row sec) s = .next (mbxCmd s m 2 10 [fit l 1, fit col 1, fit row 1, fit sec 1] [])) ∧
   (∀ (m l : Nat), m < 16 → exec (.cabStatus m l) s = .next (mbxCmd s m 2 11 [fit l 1] [])) ∧
   (∀ (m : Nat), m < 16 → exec (.tickGet m) s = .next (mbxCmd s m 3 1 [] [])) ∧
   (∀ (m len : Nat), m < 16 → exec (.tickSetLen m len) s = .next (mbxCmd s m 3 2 [fit len 4] [])) ∧
   (∀ (m src tol : Nat), m < 16 → exec (.tickSetSource m src tol) s = .next (mbxCmd s m 3 3 [fit src 1, fit tol 1] [])) ∧
   (∀ (m : Nat), m < 16 → exec (.tickAlign m) s = .next (mbxCmd s m 3 4 [] []))) ∧
  -- Mailbox
  ((∀ (m en : Nat), m < 16 → exec (.tickOutput m en) s = .next (mbxCmd s m 3 5 [fit en 1] [])) ∧
   (∀ (m ring : Nat), m < 16 → exec (.netRingStatus m ring) s = .next (mbxCmd s m 4 1 [fit ring 1] [])) ∧
   (∀ (m st mode : Nat), m < 16 → exec (.netRouter m st mode) s = .next (mbxCmd s m 4 2 [fit st 1, fit mode 1] [])) ∧
   (∀ (m st : Nat), m < 16 → exec (.netLoad m st) s = .next (mbxCmd s m 4 3 [fit st 1] [])) ∧
   (∀ (m st : Nat), m < 16 → exec (.netBookings m st) s = .next (mbxCmd s m 4 4 [fit st 1] [])) ∧
   (∀ (m st : Nat), m < 16 → exec (.netCounters m st) s = .next (mbxCmd s m 4 5 [fit st 1] [])) ∧
   (∀ (m req drain reorder : Nat), m < 16 → exec (.netTimers m req drain reorder) s = .next (mbxCmd s m 4 6 [fit req 2, fit drain 1, fit reorder 1] [])) ∧
   (∀ (m j n cfg rel q path : Nat), m < 16 → exec (.portJesdCfg m j n cfg rel q path) s = .next (mbxCmd s m 5 1 [fit j 1, fit n 1, fit cfg 8, fit rel 8, fit q 1, fit path 8] [])) ∧
   (∀ (m j n en : Nat), m < 16 → exec (.portJesdEnable m j n en) s = .next (mbxCmd s m 5 2 [fit j 1, fit n 1, fit en 1] [])) ∧
   (∀ (m j : Nat), m < 16 → exec (.portJesdSysref m j) s = .next (mbxCmd s m 5 3 [fit j 1] [])) ∧
   (∀ (m j : Nat), m < 16 → exec (.portJesdStatus m j) s = .next (mbxCmd s m 5 4 [fit j 1] [])) ∧
   (∀ (m n v : Nat), m < 16 → exec (.portEthCfg m n v) s = .next (mbxCmd s m 5 5 [fit n 1, fit v 8] [])) ∧
   (∀ (m n : Nat), m < 16 → exec (.portEthStatus m n) s = .next (mbxCmd s m 5 6 [fit n 1] [])) ∧
   (∀ (m op v : Nat), m < 16 → exec (.portTod m op v) s = .next (mbxCmd s m 5 7 [fit op 1, fit v 8] [])) ∧
   (∀ (m n most : Nat), m < 16 → exec (.portTxts m n most) s = .next (mbxCmd s m 5 8 [fit n 1, fit most 1] [])) ∧
   (∀ (m o v : Nat), m < 16 → exec (.portSynce m o v) s = .next (mbxCmd s m 5 9 [fit o 1, fit v 4] [])) ∧
   (∀ (m k v : Nat), m < 16 → exec (.portSpanCfg m k v) s = .next (mbxCmd s m 5 10 [fit k 1, fit v 8] [])) ∧
   (∀ (m k : Nat), m < 16 → exec (.portSpanStatus m k) s = .next (mbxCmd s m 5 11 [fit k 1] [])) ∧
   (∀ (m d v : Nat), m < 16 → exec (.portSpanRoute m d v) s = .next (mbxCmd s m 5 12 [fit d 2, fit v 4] [])) ∧
   (∀ (m sys tick rclk : Nat), m < 16 → exec (.portSpanSys m sys tick rclk) s = .next (mbxCmd s m 5 13 [fit sys 8, fit tick 8, fit rclk 4] [])) ∧
   (∀ (m op loc ent : Nat), m < 16 → exec (.flowLex m op loc ent) s = .next (mbxCmd s m 6 1 [fit op 1, fit loc 4, fit ent 16] [])) ∧
   (∀ (m i v : Nat), m < 16 → exec (.flowLexPort m i v) s = .next (mbxCmd s m 6 2 [fit i 1, fit v 8] [])) ∧
   (∀ (m f desc : Nat), m < 16 → exec (.flowSet m f desc) s = .next (mbxCmd s m 6 3 [fit f 2, fit desc 32] [])) ∧
   (∀ (m f : Nat), m < 16 → exec (.flowGet m f) s = .next (mbxCmd s m 6 4 [fit f 2] []))) ∧
  -- Mailbox
  ((∀ (m l v : Nat), m < 16 → exec (.flowLink m l v) s = .next (mbxCmd s m 6 5 [fit l 1, fit v 8] [])) ∧
   (∀ (m cfg base cells : Nat), m < 16 → exec (.flowQmCfg m cfg base cells) s = .next (mbxCmd s m 6 6 [fit cfg 8, fit base 8, fit cells 4] [])) ∧
   (∀ (m : Nat), m < 16 → exec (.memStatus m) s = .next (mbxCmd s m 7 1 [] [])) ∧
   (∀ (m d : Nat), m < 16 → exec (.memFail m d) s = .next (mbxCmd s m 7 2 [fit d 1] [])) ∧
   (∀ (m : Nat), m < 16 → exec (.memRetrain m) s = .next (mbxCmd s m 7 3 [] [])) ∧
   (∀ (m : Nat), m < 16 → exec (.memRebuild m) s = .next (mbxCmd s m 7 4 [] [])) ∧
   (∀ (m d from_ : Nat), m < 16 → exec (.memSpareGet m d from_) s = .next (mbxCmd s m 7 5 [fit d 1, fit from_ 4] [])) ∧
   (∀ (m d : Nat) (es : List Nat), m < 16 → exec (.memSpareSet m d es) s = .next (mbxCmd s m 7 6 ([fit d 1, (es.take 255).length] ++ (es.take 255).map (fun e => fit e 8)) [])) ∧
   (∀ (m c : Nat), m < 16 → exec (.memDmaStatus m c) s = .next (mbxCmd s m 7 7 [fit c 1] [])) ∧
   (∀ (m t desc : Nat), m < 16 → exec (.schThreadSet m t desc) s = .next (mbxCmd s m 8 1 [fit t 2, fit desc 32] [])) ∧
   (∀ (m t : Nat), m < 16 → exec (.schThreadGet m t) s = .next (mbxCmd s m 8 2 [fit t 2] [])) ∧
   (∀ (m t : Nat), m < 16 → exec (.schThreadDel m t) s = .next (mbxCmd s m 8 3 [fit t 2] [])) ∧
   (∀ (m : Nat) (ts : List (Nat × Nat)), m < 16 → exec (.schAdmitTest m ts) s = .next (mbxCmd s m 8 4 ([(ts.take 255).length] ++ (ts.take 255).map (fun e => fit e.1 2) ++ (ts.take 255).map (fun e => fit e.2 32)) [])) ∧
   (∀ (m t : Nat), m < 16 → exec (.schPost m t) s = .next (mbxCmd s m 8 5 [fit t 2] [])) ∧
   (∀ (m : Nat), m < 16 → exec (.schStatus m) s = .next (mbxCmd s m 8 6 [] [])) ∧
   (∀ (m from_ : Nat), m < 16 → exec (.fltRecords m from_) s = .next (mbxCmd s m 9 1 [fit from_ 2] [])) ∧
   (∀ (m src : Nat), m < 16 → exec (.fltAck m src) s = .next (mbxCmd s m 9 2 [fit src 1] [])) ∧
   (∀ (m src chk count : Nat), m < 16 → exec (.fltInject m src chk count) s = .next (mbxCmd s m 9 3 [fit src 1, fit chk 1, fit count 1] [])) ∧
   (∀ (m k id : Nat), m < 16 → exec (.fltRecover m k id) s = .next (mbxCmd s m 9 4 [fit k 1, fit id 2] [])) ∧
   (∀ (m quiet mode : Nat), m < 16 → exec (.fltConfig m quiet mode) s = .next (mbxCmd s m 9 5 [fit quiet 4, fit mode 8] [])) ∧
   (∀ (m : Nat), m < 16 → exec (.testCalendarGet m) s = .next (mbxCmd s m 10 1 [] [])) ∧
   (∀ (m scrub slice cmp gap : Nat), m < 16 → exec (.testCalendarSet m scrub slice cmp gap) s = .next (mbxCmd s m 10 2 [fit scrub 4, fit slice 2, fit cmp 2, fit gap 1] [])) ∧
   (∀ (m k id : Nat), m < 16 → exec (.testResults m k id) s = .next (mbxCmd s m 10 3 [fit k 1, fit id 2] [])) ∧
   (∀ (m k id res : Nat), m < 16 → exec (.testRun m k id res) s = .next (mbxCmd s m 10 4 [fit k 1, fit id 2] [BitVec.ofNat 8 (min res 2)]))) ∧
  -- Mailbox
  ((∀ (m from_ most : Nat), m < 16 → exec (.logRead m from_ most) s = .next (mbxCmd s m 12 1 [fit from_ 4, fit most 1] [])) ∧
   (∀ (m : Nat), m < 16 → exec (.logInfo m) s = .next (mbxCmd s m 12 2 [] [])) ∧
   (∀ (m : Nat), m < 16 → exec (.burIdentify m) s = .next (mbxCmd s m 13 1 [] [])) ∧
   (∀ (m from_ n : Nat), m < 16 → exec (.burTotals m from_ n) s = .next (mbxCmd s m 13 2 [fit from_ 2, fit n 1] [])) ∧
   (∀ (m index : Nat), m < 16 → exec (.burStatement m index) s = .next (mbxCmd s m 13 3 [fit index 4] [])) ∧
   (∀ (m from_ most : Nat), m < 16 → exec (.burAudit m from_ most) s = .next (mbxCmd s m 13 4 [fit from_ 4, fit most 1] [])) ∧
   (∀ (m : Nat), m < 16 → exec (.burStatus m) s = .next (mbxCmd s m 13 5 [] [])) ∧
   (∀ (m : Nat), m < 16 → exec (.fwStatus m) s = .next (mbxCmd s m 11 1 [] [])) ∧
   (∀ (m : Nat), m < 16 → exec (.fwBegin m) s = .next (mbxCmd s m 11 2 [] [])) ∧
   (∀ (m part ofs : Nat) (b : List Byte), m < 16 → exec (.fwData m part ofs b) s = .next (mbxCmd s m 11 3 [fit part 1, fit ofs 4, (b.take 4095).length, leNat (b.take 4095)] [])) ∧
   (∀ (m part src addr ofs n : Nat) (ext : List Byte), m < 16 → exec (.fwWrite m part src addr ofs n ext) s = .next (mbxCmd s m 11 4 [fit part 1, fit src 1, fit addr 8, fit ofs 4, fit n 4] ext)) ∧
   (∀ (m part : Nat), m < 16 → exec (.fwCopy m part) s = .next (mbxCmd s m 11 5 [fit part 1] [])) ∧
   (∀ (m part n : Nat), m < 16 → exec (.fwVerify m part n) s = .next (mbxCmd s m 11 6 [fit part 1, fit n 4] [])) ∧
   (∀ (m trial reset : Nat), m < 16 → exec (.fwActivate m trial reset) s = .next (mbxCmd s m 11 7 [fit trial 4, fit reset 1] [])) ∧
   (∀ (m up : Nat), m < 16 → exec (.fwCommit m up) s = .next (mbxCmd s m 11 8 [fit up 1] [])) ∧
   (∀ (m : Nat), m < 16 → exec (.fwRollback m) s = .next (mbxCmd s m 11 9 [] [])) ∧
   (∀ (m n : Nat), m < 16 → exec (.fwPushBegin m n) s = .next (mbxCmd s m 11 10 [fit n 4] [])) ∧
   (∀ (m ofs : Nat) (b : List Byte), m < 16 → exec (.fwPushData m ofs b) s = .next (mbxCmd s m 11 11 [fit ofs 4, (b.take 4095).length, leNat (b.take 4095)] [])) ∧
   (∀ (m : Nat), m < 16 → exec (.fwPushEnd m) s = .next (mbxCmd s m 11 12 [] []))) ∧
  -- Tick
  (exec .tickGuard s = .next (tickGuard s) ∧
   (∀ (sysref tickIn : Nat), exec (.realignmentTick sysref tickIn) s = .next (realign s (if fget s SYS_TICK_CFG_SRC 0 = 0 then sysref else tickIn))) ∧
   (∀ (p : Nat), p < 100 → exec (.drainWindowEnd p) s = .next (drainWindowEnd s p)) ∧
   (∀ (p : Nat), p < 100 → exec (.captureSnapshot p) s = .next (captureDue s p))) ∧
  -- Cabinet
  ((∀ (p : Nat), p < 100 → exec (.slotStart p) s = .next (slotStep s p)) ∧
   (∀ (p pcol row : Nat) (e0 e1 e2 : Code), cellOk p pcol row → exec (.drawerFetch p pcol row e0 e1 e2) s = .next (drawerFetch s p pcol row [e0, e1, e2])) ∧
   (∀ (p : Nat), p < 100 → exec (.cfgFaultClear p) s = .next (fset s CAB_CFG_FAULT_VALID p 0)) ∧
   (∀ (p v : Nat), p < 100 → exec (.planSelectWrite p v) s = .next (planSelWrite s p (v % 2 ^ 32))) ∧
   (∀ (p port : Nat), (p < 100 && port < 12) → exec (.doorBufferDrain p port) s = .next (doorDrain s p port)) ∧
   (∀ (p i : Nat), (p < 100 && i < 16) → exec (.borderWordArrival p i) s = .next (borderArrive s p i)) ∧
   (∀ (p v : Nat) (mm : Bool), p < 100 → exec (.captureArmWrite p v mm) s = .next (captureWrite s p (v % 2 ^ 32) mm)) ∧
   (∀ (p : Nat), p < 100 → exec (.startupStep p) s = .next (startupStep s p))) ∧
  -- Cell
  ((∀ (r : CellRef), cellRefOk r → exec (.nop r) s = .next (cellCycle 0x00 r s)) ∧
   (∀ (r : CellRef), cellRefOk r → exec (.mov r) s = .next (cellCycle 0x01 r s)) ∧
   (∀ (r : CellRef), cellRefOk r → exec (.and r) s = .next (cellCycle 0x02 r s)) ∧
   (∀ (r : CellRef), cellRefOk r → exec (.or r) s = .next (cellCycle 0x03 r s)) ∧
   (∀ (r : CellRef), cellRefOk r → exec (.xor r) s = .next (cellCycle 0x04 r s)) ∧
   (∀ (r : CellRef), cellRefOk r → exec (.andn r) s = .next (cellCycle 0x05 r s)) ∧
   (∀ (r : CellRef), cellRefOk r → exec (.shl r) s = .next (cellCycle 0x06 r s)) ∧
   (∀ (r : CellRef), cellRefOk r → exec (.shr r) s = .next (cellCycle 0x07 r s)) ∧
   (∀ (r : CellRef), cellRefOk r → exec (.shuf r) s = .next (cellCycle 0x08 r s)) ∧
   (∀ (r : CellRef), cellRefOk r → exec (.sel r) s = .next (cellCycle 0x09 r s)) ∧
   (∀ (r : CellRef), cellRefOk r → exec (.add r) s = .next (cellCycle 0x10 r s)) ∧
   (∀ (r : CellRef), cellRefOk r → exec (.sub r) s = .next (cellCycle 0x11 r s)) ∧
   (∀ (r : CellRef), cellRefOk r → exec (.neg r) s = .next (cellCycle 0x12 r s)) ∧
   (∀ (r : CellRef), cellRefOk r → exec (.abs r) s = .next (cellCycle 0x13 r s)) ∧
   (∀ (r : CellRef), cellRefOk r → exec (.max r) s = .next (cellCycle 0x14 r s)) ∧
   (∀ (r : CellRef), cellRefOk r → exec (.min r) s = .next (cellCycle 0x15 r s)) ∧
   (∀ (r : CellRef), cellRefOk r → exec (.cmpgt r) s = .next (cellCycle 0x16 r s)) ∧
   (∀ (r : CellRef), cellRefOk r → exec (.cmpeq r) s = .next (cellCycle 0x17 r s)) ∧
   (∀ (r : CellRef), cellRefOk r → exec (.mul r) s = .next (cellCycle 0x18 r s)) ∧
   (∀ (p pcol row : Nat), cellOk p pcol row → exec (.mulResultLanding p pcol row) s = .next (cellLand .mul p pcol row s)) ∧
   (∀ (r : CellRef), cellRefOk r → exec (.mac4 r) s = .next (cellCycle 0x20 r s)) ∧
   (∀ (r : CellRef), cellRefOk r → exec (.msu4 r) s = .next (cellCycle 0x21 r s)) ∧
   (∀ (r : CellRef), cellRefOk r → exec (.dot4 r) s = .next (cellCycle 0x22 r s)) ∧
   (∀ (r : CellRef), cellRefOk r → exec (.mac32 r) s = .next (cellCycle 0x23 r s))) ∧
  -- Cell
  ((∀ (r : CellRef), cellRefOk r → exec (.cmac r) s = .next (cellCycle 0x24 r s)) ∧
   (∀ (r : CellRef), cellRefOk r → exec (.cmacj r) s = .next (cellCycle 0x25 r s)) ∧
   (∀ (p pcol row : Nat), cellOk p pcol row → exec (.macAddStage p pcol row) s = .next (cellLand .mac p pcol row s)) ∧
   (∀ (p pcol row : Nat), cellOk p pcol row → exec (.xlExtraction p pcol row) s = .next (cellLand .xl p pcol row s)) ∧
   (∀ (r : CellRef), cellRefOk r → exec (.clra r) s = .next (cellCycle 0x26 r s)) ∧
   (∀ (r : CellRef), cellRefOk r → exec (.clrf r) s = .next (cellCycle 0x27 r s)) ∧
   (∀ (r : CellRef), cellRefOk r → exec (.extract r) s = .next (cellCycle 0x28 r s)) ∧
   (∀ (r : CellRef), cellRefOk r → exec (.norm r) s = .next (cellCycle 0x30 r s)) ∧
   (∀ (r : CellRef), cellRefOk r → exec (.exp r) s = .next (cellCycle 0x31 r s)) ∧
   (∀ (r : CellRef), cellRefOk r → exec (.bexp r) s = .next (cellCycle 0x32 r s)) ∧
   (∀ (r : CellRef), cellRefOk r → exec (.bnorm r) s = .next (cellCycle 0x33 r s)) ∧
   (∀ (r : CellRef), cellRefOk r → exec (.min2 r) s = .next (cellCycle 0x34 r s)) ∧
   (∀ (r : CellRef), cellRefOk r → exec (.msel r) s = .next (cellCycle 0x35 r s)) ∧
   (∀ (r : CellRef), cellRefOk r → exec (.crot r) s = .next (cellCycle 0x36 r s)) ∧
   (∀ (r : CellRef), cellRefOk r → exec (.lut r) s = .next (cellCycle 0x37 r s)) ∧
   (∀ (p pcol row : Nat), cellOk p pcol row → exec (.ramWriteBack p pcol row) s = .next (ramWriteBack p pcol row s)) ∧
   (∀ (p pcol row : Nat) (err : Code), cellOk p pcol row → exec (.ramPatrolRead p pcol row err) s = .next (ramPatrol p pcol row err s)) ∧
   (∀ (p pcol row a : Nat) (wr : Bool) (w : Word) (err : Code), cellOk p pcol row → exec (.configPortRamAccess p pcol row a wr w err) s = .next (cfgPortRam p pcol row (a % 512) wr w err s)) ∧
   (∀ (p amount : Nat), p < 100 → exec (.scaleSubWrite p amount) s = .next (fsub s CAB_SCALE_EVENTS_COUNT p (amount % 2 ^ 32))) ∧
   (∀ (p amount : Nat), p < 100 → exec (.ramCeSubWrite p amount) s = .next (fsub s CAB_RAM_CE_COUNT p (amount % 2 ^ 32))) ∧
   (∀ (p : Nat), p < 100 → exec (.ramLastClear p) s = .next (ramLastClear s p))) ∧
  -- Fifo
  ((∀ (k : Nat) (w : Word) (st en : Bool) (len prio : Nat) (poison : Bool), fifoExists k → exec (.fifoWrite k w st en len prio poison) s = .next (fifoWrite s k (eccEnc w) st en (len % 64) (prio % 8) poison (s.time.tick % 256))) ∧
   (∀ (k : Nat) (err : Code), fifoExists k → exec (.fifoRead k err) s = .next (fifoReadCmd s k err)) ∧
   (∀ (k : Nat), fifoExists k → exec (.fifoFreeSwap k) s = .next (fifoFreeSwap s k)) ∧
   (∀ (k : Nat), fifoExists k → exec (.fifoFlush k) s = .next (fifoFlush s k)) ∧
   (∀ (k : Nat) (v : Nat × Option (Nat × Nat)), fifoExists k → exec (.fifoModeWrite k v) s = .next (let s1 := fifoModeSwap s k (v.1 % 2)
      match v.2 with
      | none => s1
      | some f => fifoFrame s1 k f.1 f.2)) ∧
   (∀ (k : Nat), exec (.fifoPeakRead k) s = .next (if fifoExists k then fifoPeakCmd s k else { s with bus := { s.bus with data := 0, status := 0 } }))) ∧
  -- Eject
  ((∀ (st : Nat) (x : InjSrc) (errs : List Code), injOk st x → exec (.packetInject st x errs) s = .next (injSrc s st x errs)) ∧
   (∀ (net st port ln : Nat), (net < 2 && hasAgent st && port < 5 && ln < 6) → exec (.packetEject net st port ln) s = .next (eject s net st port ln)) ∧
   (∀ (k : Nat), keyOk k → exec (.streamReorderWrite k) s = .next (seqStep s k)) ∧
   (∀ (k : Nat), keyOk k → exec (.seqGapTimeout k) s = .next (seqGap s k)) ∧
   (∀ (st : Nat), hasAgent st → exec (.requestTimeout st) s = .next (reqTimeout s st)) ∧
   (∀ (st : Nat), st < 100 → exec (.testAbortByPacket st) s = .next (testAbort s st)) ∧
   (∀ (st ddev dstop code : Nat) (data : List Word), (hasAgent st && hasAgent dstop) → exec (.telemetryMsg st ddev dstop code data) s = .next (telemetry s st (ddev % 1024) dstop (code % 65536) (data.take 4)))) ∧
  -- Noc
  ((∀ (net st out : Nat) (errs : List Code) (sbErr : Nat), (net < 2 && st < 140 && 1 ≤ out && out ≤ 4 && (if out ≤ 2 then onH st else onV st)) → exec (.flitForward net st out errs sbErr) s = .next (flitForward s net st out errs sbErr)) ∧
   (∀ (net st port : Nat), (net < 2 && st < 140 && port < 5) → exec (.escapeEntry net st port) s = .next (escapeEntry s net st port)) ∧
   (∀ (st : Nat), st < 100 → exec (.bypassSwitchClose st) s = .next (bypassClose s st)) ∧
   (∀ (st : Nat), st < 100 → exec (.routerInternalFault st) s = .next (rtrFault s st)) ∧
   (∀ (reorder drain req : Nat), exec (.nocCfgWrite reorder drain req) s = .next (nocCfg s reorder drain req)) ∧
   (∀ (st : Nat), st < 100 → exec (.leavingDone st) s = .next (leavingDone s st))) ∧
  -- Jesd
  ((∀ (j n v : Nat), jnOk j n → exec (.jesdLinkEnable j n v) s = .next (jptLinkWrite s j n (v % 2 ^ 63 + 2 ^ 63))) ∧
   (∀ (j n v : Nat), jnOk j n → exec (.jesdLinkDisable j n v) s = .next (jptLinkWrite s j n (v % 2 ^ 63))) ∧
   (∀ (j n : Nat), jnOk j n → exec (.jesdRetrain j n) s = .next (if jState s (4 * j + n) = jFAILED then jptGo s (4 * j + n) jCDR 0 else s)) ∧
   (∀ (j n : Nat), jnOk j n → exec (.jesdCdrLock j n) s = .next (if jState s (4 * j + n) = jCDR then jptGo s (4 * j + n) jBLOCK 0 else s)) ∧
   (∀ (j n : Nat), jnOk j n → exec (.jesdBlockLock j n) s = .next (if jState s (4 * j + n) = jBLOCK then jptGo s (4 * j + n) jFRAME 0 else s)) ∧
   (∀ (j n : Nat) (ilas : Option Nat) (skew : Nat), jnOk j n → exec (.jesdFrameLock j n ilas skew) s = .next (jptFrameLock s (4 * j + n) ilas skew)) ∧
   (∀ (j n lat : Nat), jnOk j n → exec (.jesdRelease j n lat) s = .next (jptRelease s j n lat)) ∧
   (∀ (j n : Nat), jnOk j n → exec (.jesdBringupTimeout j n) s = .next (if bringOut s (4 * j + n) ∧ 1 ≤ jState s (4 * j + n) ∧ jState s (4 * j + n) ≤ 4 then jptGo s (4 * j + n) jFAILED (jState s (4 * j + n)) else s)) ∧
   (∀ (j n lane : Nat), (jnOk j n && lane < 8) → exec (.jesdLockLoss j n lane) s = .next (jptLockLoss s j n lane)) ∧
   (∀ (j : Nat), j < 8 → exec (.sysrefArm j) s = .next (jptArm s j)) ∧
   (∀ (j : Nat) (at_ : Nat × Nat), j < 8 → exec (.sysrefEdge j at_) s = .next (jptSysref s j at_.1 at_.2)) ∧
   (∀ (j p : Nat) (smp : List (List Nat)) (hdr crc : Nat), (j < 8 && p < 2) → exec (.rxSampleWord j p smp hdr crc) s = .next (jptRx s j p smp hdr crc)) ∧
   (∀ (j p : Nat) (e0 e1 : Code), (j < 8 && p < 2) → exec (.txSampleRead j p e0 e1) s = .next (jptTx s j p e0 e1))) ∧
  -- Cpt
  ((∀ (n v : Nat), n < 8 → exec (.ethPortEnable n v) s = .next (cptCfgWrite s n (v % 2 ^ 63 + 2 ^ 63))) ∧
   (∀ (n : Nat) (mid : Bool), n < 8 → exec (.ethLinkDown n mid) s = .next (portDown s n mid)) ∧
   (∀ (n : Nat) (l : List Byte) (err : Bool) (fec : Nat), n < 8 → exec (.rxFrame n l err fec) s = .next (rxFrame s n l err fec)) ∧
   (∀ (n : Nat), n < 8 → exec (.txFrame n) s = .next (txFrame s n)) ∧
   (∀ (v : Nat), exec (.todStepWrite v) s = .next (todStep s v)) ∧
   exec .todRead s = .next (answer (todRead s)) ∧
   (∀ (n : Nat), exec (.txtsRead n) s = .next (answer (if n < 8 then txtsRead s n else (s, 0)))) ∧
   (∀ (n : Nat), n < 8 → exec (.ethLinkUp n) s = .next (if fgetB s CPT_PORT_CFG_EN n && !fgetB s CPT_PORT_CFG_UP n then
      linkEvent (fset s CPT_PORT_CFG_UP n 1) 5 n 1 0 else s))) ∧
  -- Lex
  ((∀ (up : List (Nat × Code)), exec (.lexiconLookup up) s = .next (lexSlot s (upIn up))) ∧
   (∀ (loc : Nat) (up : List (Nat × Code)), exec (.lexSearch loc up) s = .next (lexCmd s 1 (loc % 524288) (upIn up))) ∧
   (∀ (loc : Nat) (up : List (Nat × Code)), exec (.lexInsert loc up) s = .next (lexCmd s 2 (loc % 524288) (upIn up))) ∧
   (∀ (loc : Nat) (up : List (Nat × Code)), exec (.lexDelete loc up) s = .next (lexCmd s 3 (loc % 524288) (upIn up))) ∧
   (∀ (loc : Nat) (up : List (Nat × Code)), exec (.lexUpdate loc up) s = .next (lexCmd s 4 (loc % 524288) (upIn up))) ∧
   (∀ (loc : Nat) (up : List (Nat × Code)), exec (.lexRead loc up) s = .next (lexCmd s 5 (loc % 524288) (upIn up))) ∧
   (∀ (loc : Nat) (up : List (Nat × Code)), exec (.lexReadClearHit loc up) s = .next (lexCmd s 6 (loc % 524288) (upIn up))) ∧
   (∀ (i v : Nat), i < 25 → exec (.lexPortCfgWrite i v) s = .next (lexPortWrite s i v)) ∧
   exec .mirrorConfirm s = .next (mirrorConfirm s) ∧
   exec .mirrorTimeout s = .next (mirrorTimeout s) ∧
   (∀ (up : List (Nat × Code)), exec (.lexPatrol up) s = .next (lexPatrol s (upIn up))) ∧
   exec .lexRowSpare s = .next (lexSpare s) ∧
   exec .bureauMirrorRecord s = .next (mirrorRecord s)) ∧
  -- Qm
  ((∀ (k d : Nat), (k < 4 && (d < 4 || (d = 4 && k = 0))) → exec (.segmentArrival k d) s = .next (segArrive s k d)) ∧
   (∀ (k : Nat), k < 4 → exec (.budgetWord k) s = .next (budgetWord s k)) ∧
   (∀ (ue : List Nat), exec (.budgetDeadline ue) s = .next (budgetDeadline s ue)) ∧
   (∀ (span : Bool) (id : Nat) (ue : List Nat), (if span then id < 1024 else id < 8) → exec (.clientSelection span id ue) s = .next (let d : QDest := ⟨if span then 2 else 1, id⟩
      if !span && !portSends s id then selDown s d else selRun d ue (destFrames s d + 17) selOrder 1 s)) ∧
   (∀ (isBase : Bool) (v : Nat), exec (.qmgPoolWrite isBase v) s = .next (poolWrite s isBase v)) ∧
   (∀ (v : Nat), exec (.budgetDlWrite v) s = .next (budgetDlWrite s v)) ∧
   (∀ (l : Nat) (en : Bool) (maxb : Nat), l < 16 → exec (.qmgLinkEnable l en maxb) s = .next (qmLinkWrite s l en maxb)) ∧
   (∀ (tap : Nat), tap < 3 → exec (.bureauTapEvent tap) s = .next (qmFlushAll (tapTake s tap)))) ∧
  -- Gddr
  ((∀ (line : Nat) (up : List (Nat × Code)) (edc : List Nat), exec (.gddrLineRead line up edc) s = .next (if line < usableLines s then
      let r := gRead s line (gUp up) edc false 1
      let w := gWords r.2
      { r.1 with bus := ⟨(w.headD (0, false)).1, if w.any (fun x => x.2) then 2 else 0, (wordsBytes w).map (fun x => x.1)⟩ }
      else { s with bus := { s.bus with status := 1 } })) ∧
   (∀ (line : Nat) (ws : List (Word × Bool)) (edc : List Nat), (ws.length = 16) → exec (.gddrLineWrite line ws edc) s = .next (if line < usableLines s then gWrite s line ws [0, 1, 2, 3] edc else { s with bus := { s.bus with status := 1 } })) ∧
   (∀ (line off : Nat) (b : List Byte) (pois : Bool) (up : List (Nat × Code)) (edc : List Nat), (off + b.length ≤ 128) → exec (.gddrPartialWrite line off b pois up edc) s = .next (if line < usableLines s then
      let r := gRead s line (gUp up) edc false 2
      gWrite r.1 line (gMerge (gWords r.2) off (b.map (fun x => (x, pois)))) (gDevices r.1 off b.length) edc
      else { s with bus := { s.bus with status := 1 } })) ∧
   (∀ (d : Nat), exec (.gdmFailWrite d) s = .next (let s1 := fset s GDM_CTL_DEV 0 d
      if d % 8 < 5 then gDeclare s1 (d % 8) else fset s1 GDM_CTL_REFUSED 0 1)) ∧
   exec .gdmRebuildWrite s = .next (gRebuild s) ∧
   exec .gddrRebuildDone s = .next (gRebuildDone s) ∧
   exec .gddrRowSpare s = .next (gSpare s) ∧
   (∀ (up : List (Nat × Code)) (edc : List Nat), exec (.gddrPatrol up edc) s = .next (gPatrol s (gUp up) edc))) ∧
  -- Dma
  ((∀ (c v : Nat), c < 16 → exec (.dmaPiWrite c v) s = .next (fset s DMA_IDX_PI c v)) ∧
   (∀ (c : Nat) (host : List Word), c < 16 → exec (.dmaDescFetch c host) s = .next (accessBy s.flt.raised.length (dmaMaster s c) (dmaFetch s c host))) ∧
   (∀ (c st moved : Nat) (ext : List Byte) (pois : Bool), c < 16 → exec (.dmaDescComplete c st moved ext pois) s = .next (accessBy s.flt.raised.length (dmaMaster s c)
      (dmaComplete s c (if (3 ≤ st && st ≤ 7) || st = 9 then st else 0) moved ext pois))) ∧
   (∀ (c moved : Nat) (ext : List Byte) (pois : Bool), c < 16 → exec (.dmaAbort c moved ext pois) s = .next (accessBy s.flt.raised.length (dmaMaster s c) (dmaAbort s c moved ext pois))) ∧
   (∀ (c : Nat), c < 16 → exec (.dmaResume c) s = .next (fset s DMA_CH_STAT_HALT c 0))) ∧
  -- Span
  ((∀ (k v : Nat), k < 8 → exec (.spanLinkEnable k v) s = .next (spLinkWrite s k (v % 2 ^ 63 + 2 ^ 63))) ∧
   (∀ (k : Nat), k < 8 → exec (.spanLinkDisable k) s = .next (if spState s k = 0 then s else spOff s k)) ∧
   (∀ (k : Nat), k < 8 → exec (.spanRetrain k) s = .next (if spState s k = 5 then spGo s k 1 0 else s)) ∧
   (∀ (k : Nat), k < 8 → exec (.spanFecLock k) s = .next (if spState s k = 1 then spGo s k 2 0 else s)) ∧
   (∀ (k dev port width : Nat), k < 8 → exec (.spanIdentReceived k dev port width) s = .next (spIdent s k (dev % 1024) (port % 8) width)) ∧
   (∀ (k : Nat), k < 8 → exec (.spanTrainTimeout k) s = .next (if (spState s k = 1 ∨ spState s k = 2) ∧ passedMs s (smGet 0 s.spn.trainAt k) 100 then spGo s k 5 1 else s)) ∧
   (∀ (n : Nat), n < 8 → exec (.spanLaneLockLoss n) s = .next (spLockLoss s n)) ∧
   (∀ (n x fec : Nat), n < 8 → exec (.spanFrameReceived n x fec) s = .next (spFrame s n (x % 2 ^ 352) fec)) ∧
   (∀ (n seq : Nat), n < 8 → exec (.spanNakReceived n seq) s = .next (spNak s n (seq % 4096))) ∧
   (∀ (n : Nat), n < 8 → exec (.spanResendTimeout n) s = .next (spTimeout s n)) ∧
   (∀ (net o : Nat), (net < 2 && o < 10) → exec (.spanSwitchRoute net o) s = .next (spSwitch s net o)) ∧
   (∀ (k dep : Nat), k < 8 → exec (.markerSend k dep) s = .next (markSend s k dep)) ∧
   (∀ (k prio dev hops n len : Nat) (depart : Int) (tod : Nat) (crcBad : Bool) (arr : Int), k < 8 → exec (.markerReceived k prio dev hops n len depart tod crcBad arr) s = .next (markRecv s k ⟨prio % 256, dev % 1024, hops, n % 2 ^ 64, len, depart, tod⟩ crcBad arr)) ∧
   (∀ (k : Nat), k < 8 → exec (.spanCalibration k) s = .next (if spUp s k then calStart s k else s)) ∧
   (∀ (k t u : Nat), k < 8 → exec (.echoReceived k t u) s = .next (echo s k t u)) ∧
   exec .masterLossTimeout s = .next (masterLoss s)) ∧
  -- Load
  ((∀ (staged : Nat), exec (.loadGo staged) s = .next (loadGo s (staged % 2 ^ 27))) ∧
   (∀ (bad : List Nat), exec (.loadWritePhase bad) s = .next (loadWrite s bad)) ∧
   exec .loadAbort s = .next (loadAbort s) ∧
   (∀ (staged : Nat), exec (.compatLoadGo staged) s = .next (compatGo s (staged % 2 ^ 27))) ∧
   exec .compatRecord s = .next (compatRecord s) ∧
   (∀ (v : Nat), exec (.compatCfgWrite v) s = .next (compatCfg s v)) ∧
   (∀ (bad : Bool), exec (.recoveryReload bad) s = .next (recoveryReload s bad))) ∧
  -- Pins
  ((∀ (n v : Nat), n < 96 → exec (.pinCfgWrite n v) s = .next (pinCfgWrite s n v)) ∧
   (∀ (n v : Nat), n < 96 → exec (.pinClaimWrite n v) s = .next (pinClaimWrite s n (v % 2 ^ 32)))) ∧
  -- Sched
  ((∀ (q : Nat), q < 5 → exec (.lockstepMismatch q) s = .next (lockstep s q)) ∧
   (∀ (q : Nat) (on : Bool), q < 5 → exec (.pairRunWrite q on) s = .next (fsetB s SYS_PAIR_STAT_RUN q on)) ∧
   (∀ (v : Nat), exec (.sramSecretWrite v) s = .next (fset s SYS_SRAM_SECRET_TAG 0 (fget s SYS_SRAM_SECRET_TAG 0 ||| (v % 2 ^ 64)))) ∧
   (∀ (err : Code), exec (.sramPatrol err) s = .next (sramPatrol s err)) ∧
   (∀ (t : Nat) (w : Word) (mm : Bool), t < 4096 → exec (.threadDescWrite t w mm) s = .next (if mm then schDescWrite s t 3 w else fset s SCH_STAT_REFUSED 0 1)) ∧
   (∀ (t : Nat), t < 4096 → exec (.schPostWrite t) s = .next (schPost s t)) ∧
   (∀ (e : Nat), e < 64 → exec (.eventLinePost e) s = .next (eventLinePost s e)) ∧
   exec .tickListRelease s = .next (tickListRelease s) ∧
   exec .cycleListRelease s = .next (cycleListRelease s) ∧
   (∀ (k cc : Nat), k < 4 → exec (.schTake k cc) s = .next (schTake s k cc)) ∧
   exec .threadDispatch s = .next (threadDispatch s) ∧
   (∀ (k t cc : Nat), (k < 4 && t < 4096) → exec (.schComplete k t cc) s = .next (schDone s k 0 t 0 cc)) ∧
   (∀ (k t cc : Nat), (k < 4 && t < 4096) → exec (.schYield k t cc) s = .next (schDone s k 1 t 0 cc)) ∧
   (∀ (k t delay cc : Nat), (k < 4 && t < 4096) → exec (.schSleep k t delay cc) s = .next (schDone s k 2 t (delay % 2 ^ 32) cc)) ∧
   (∀ (k t cc : Nat), (k < 4 && t < 4096) → exec (.schStop k t cc) s = .next (schDone s k 3 t 0 cc)) ∧
   (∀ (t : Nat), t < 4096 → exec (.deadlineMiss t) s = .next (deadlineMiss s t)) ∧
   (∀ (k cc : Nat), k < 4 → exec (.budgetOverrun k cc) s = .next ((inService s k).elim s (fun t => schRan s t cc)))) ∧
  -- Scrub
  ((∀ (k v : Nat) (mm : Bool), k < 4 → exec (.pairMapWrite k v mm) s = .next (if mm then pairMap s k (v % 2 ^ 32) else s)) ∧
   exec .scrubWalkStart s = .next (walkStart s) ∧
   (∀ (err : Code), exec (.scrubWordRead err) s = .next (walkRead s err)) ∧
   (∀ (err : Code), exec (.scrubQueueRepair err) s = .next (queueRepair s err)) ∧
   exec .scrubHeartbeat s = .next (setScr s { s.scr with progP := s.scr.p, progW := s.scr.w, beatAt := s.time.now }) ∧
   exec .scrubTakeover s = .next (if takeoverDue s then takeover s else s) ∧
   (∀ (kind p : Nat), (kind < 3 && p < 100) → exec (.voteDisagreement kind p) s = .next (voteLost s kind p)) ∧
   (∀ (v : Nat), exec (.scrCfgWrite v) s = .next (scrCfg s (v % 2 ^ 32))) ∧
   (∀ (v : Nat), exec (.bstCfgWrite v) s = .next (bstCfg s (v % 2 ^ 64))) ∧
   (∀ (p : Nat), p < 100 → exec (.gapStepStart p) s = .next (gapStep s p)) ∧
   (∀ (p : Nat), p < 100 → exec (.shadowCopyDone p) s = .next (shadowDone s p)) ∧
   (∀ (p : Nat), p < 100 → exec (.shadowMismatch p) s = .next (shadowMismatch s p)) ∧
   exec .bistSliceStart s = .next (bistStart s) ∧
   (∀ (u : Nat) (full sig : Bool) (rows fifos : List (Nat × Nat)), (bistUnits.contains u) → exec (.bistSliceEnd u full sig rows fifos) s = .next (bistEnd s u full sig (rows.filter (fun e => e.1 < 13600 && e.2 < 129)) (fifos.filter (fun e => fifoExists e.1 && e.2 < 2)))) ∧
   (∀ (u : Nat), (bistUnits.contains u) → exec (.bistSliceAbort u) s = .next (if 100 ≤ u then bistAbort s u else s)) ∧
   exec .testUnlock s = .next (testUnlock s) ∧
   (∀ (pk sig : List Byte), exec (.testUnlockSignature pk sig) s = .next (if unlockOk s pk sig then scanOpen s else s))) ∧
  -- Mbx
  ((∀ (m a : Nat) (b : List Byte), (m < 16 && a + b.length ≤ 4096) → exec (.mbxRequestWrite m a b) s = .next (mbxPut s m a b)) ∧
   (∀ (v : Nat), exec (.mbxDoorbellWrite v) s = .next (mbxRing s v)) ∧
   (∀ (v : Nat), exec (.mbxRspAck v) s = .next (clearBits s MBX_RSP_RDY_RDY 0 v)) ∧
   exec .spiStatus s = .next (answer (s, spiStatus s))) ∧
  -- Event
  ((∀ (v : Nat), exec (.evtCiWrite v) s = .next (evtCi s v))) ∧
  -- KalunoFw
  (exec .fwTrialExpiry s = .next (trialEnd s)) ∧
  -- Bureau
  ((∀ (oscUs : Nat), exec (.statementIssue oscUs) s = .next (stmtCheck s oscUs)) ∧
   exec .statementStored s = .next (stmtStored s) ∧
   (∀ (isOpen : Bool), exec (.sealChange isOpen) s = .next (sealChange s isOpen)) ∧
   exec .tamperEdge s = .next (burNotice (audPut (fset s BUR_STAT_TAMPER 0 1) 0x22 [] true).1 6) ∧
   (∀ (len : Nat), exec (.warrantParam len) s = .next (warSubmit s 1 (len % 4096) warParam)) ∧
   (∀ (len : Nat), exec (.warrantTratyBegin len) s = .next (warSubmit s 2 (len % 4096) warBegin)) ∧
   (∀ (len : Nat), exec (.warrantTratyData len) s = .next (warSubmit s 3 (len % 4096) warData)) ∧
   (∀ (len : Nat), exec (.warrantClearTamper len) s = .next (warSubmit s 4 (len % 4096) warClear)) ∧
   (∀ (len : Nat), exec (.warrantArchive len) s = .next (warSubmit s 5 (len % 4096) warArchive)) ∧
   (∀ (len : Nat), exec (.warrantStatementNow len) s = .next (warSubmit s 6 (len % 4096) warNow)) ∧
   exec .vddBurRestore s = .next (burRestore s) ∧
   (∀ (kind : Nat), kind < 3 → exec (.bureauFault kind) s = .next (burFault s kind))) ∧
  -- Fault
  (exec .faultEvent s = .next (faultCycle s) ∧
   (∀ (src v : Nat), src < 64 → exec (.fltSrcAckWrite src v) s = .next (srcAck s src v)) ∧
   exec .quietPeriodEnd s = .next (quietEnds s) ∧
   (∀ (src chk count : Nat) (cont dbl : Bool), src < 64 → exec (.fltInjArm src chk count cont dbl) s = .next (injArm s src (chk % 128) (count % 256) cont dbl)) ∧
   (∀ (src : Nat), src < 64 → exec (.fltInjStop src) s = .next (fset s FLT_INJ_ACTIVE src 0)) ∧
   (∀ (k v : Nat) (mm : Bool), k < 4 → exec (.fltRaiseGo k v mm) s = .next (if mm then raiseGo s k v else s)) ∧
   exec .fltFirstClear s = .next ({ s with flt := { s.flt with first := [], firstChk := [] } }) ∧
   (∀ (v : Nat), exec (.fltCiWrite v) s = .next (recCi s (v % 65536))) ∧
   (∀ (k id n : Nat), unitOk k id → exec (.fltUnitSubWrite k id n) s = .next (fsub s FLT_UNIT_RCNT (unitIx k id) (n % 65536)))) ∧
  -- Env
  ((∀ (mv : Nat), exec (.avsRequest mv) s = .next (avsRequest s (mv % 65536))) ∧
   exec .avsAlert s = .next (raise s { src := 56, cls := clsC, code := 1 }) ∧
   exec .avsNoAnswer s = .next (avsLost s) ∧
   (∀ (mv : Nat), exec (.vcoreUndervoltage mv) s = .next (underVolt s (mv % 65536))) ∧
   exec .thermalThreshold s = .next (thermCheck s) ∧
   (∀ (temps : List Int) (vcore vsram : Nat), let read := (temps.take 16).map (fun t => (BitVec.ofInt 16 t).toInt); exec (.sensorPoll temps vcore vsram) s = .next (setEnv s { s.env with temps := read ++ s.env.temps.drop read.length, vcore := vcore % 65536, vsram := vsram % 65536 })) ∧
   (∀ (bad : List Nat), exec (.gddr7Training bad) s = .next (gTrain s (bad.filter (fun d => d < 5)))) ∧
   exec .refresh s = .next (setEnv s { s.env with refresh := s.time.now }) ∧
   (∀ (lane : Nat), lane < 146 → exec (.coefficientUpdate lane) s = .next (setEnv (drawFree s) { s.env with coef := smSet 0 lane (Config.choice s.free) s.env.coef })) ∧
   (∀ (drive : Option (List (Nat × Nat))), exec (.boundaryScan drive) s = .next (setEnv s { s.env with bscan := drive.map (fun l => l.filter (fun e => e.1 < 96 && e.2 < 3)) })))

end
end

