-- ==== Sys2Proof/Laws/Keep.lean ====
section
/-!
SUPPORT. How "leaves the queue and the fuses alone" passes through folds and choices.
-/

namespace Sys2Proof
namespace Machine

@[simp] theorem ite_pending (c : Prop) [Decidable c] (a b : State) :
    (if c then a else b).pending = if c then a.pending else b.pending := by split <;> rfl

@[simp] theorem ite_otp (c : Prop) [Decidable c] (a b : State) :
    (if c then a else b).otp = if c then a.otp else b.otp := by split <;> rfl

@[simp] theorem ite_fst {α β : Type} (c : Prop) [Decidable c] (a b : α × β) :
    (if c then a else b).1 = if c then a.1 else b.1 := by split <;> rfl

@[simp] theorem ite_snd {α β : Type} (c : Prop) [Decidable c] (a b : α × β) :
    (if c then a else b).2 = if c then a.2 else b.2 := by split <;> rfl

/-- A fold of steps that leave the queue and the fuses alone. -/
@[simp ↓] theorem keep_foldl {α : Type} (f : State → α → State) (l : List α) (s : State)
    (h : ∀ s a, (f s a).pending = s.pending ∧ (f s a).otp = s.otp) :
    (l.foldl f s).pending = s.pending ∧ (l.foldl f s).otp = s.otp := by
  induction l generalizing s with
  | nil => exact ⟨rfl, rfl⟩
  | cons a l ih =>
    simp only [List.foldl_cons]
    exact ⟨(ih _).1.trans (h s a).1, (ih _).2.trans (h s a).2⟩

/-- A fold over a state and a second value. -/
@[simp ↓] theorem keep_foldl_fst {α β : Type} (f : State × β → α → State × β) (l : List α) (q : State × β)
    (h : ∀ q a, (f q a).1.pending = q.1.pending ∧ (f q a).1.otp = q.1.otp) :
    (l.foldl f q).1.pending = q.1.pending ∧ (l.foldl f q).1.otp = q.1.otp := by
  induction l generalizing q with
  | nil => exact ⟨rfl, rfl⟩
  | cons a l ih =>
    simp only [List.foldl_cons]
    exact ⟨(ih _).1.trans (h q a).1, (ih _).2.trans (h q a).2⟩

/-- An optional step. -/
@[simp ↓] theorem keep_elim {α : Type} (o : Option α) (s : State) (f : α → State)
    (h : ∀ a, (f a).pending = s.pending ∧ (f a).otp = s.otp) :
    (o.elim s f).pending = s.pending ∧ (o.elim s f).otp = s.otp := by
  cases o with
  | none => exact ⟨rfl, rfl⟩
  | some a => exact h a

/-- A choice of steps. -/
theorem keep_ite (c : Prop) [Decidable c] (a b s : State) (ha : a.pending = s.pending ∧ a.otp = s.otp)
    (hb : b.pending = s.pending ∧ b.otp = s.otp) :
    (if c then a else b).pending = s.pending ∧ (if c then a else b).otp = s.otp := by
  by_cases h : c
  · rw [if_pos h]
    exact ha
  · rw [if_neg h]
    exact hb

/-- A choice of steps that answer a second value. -/
theorem keep_ite_fst {β : Type} (c : Prop) [Decidable c] (a b : State × β) (s : State)
    (ha : a.1.pending = s.pending ∧ a.1.otp = s.otp) (hb : b.1.pending = s.pending ∧ b.1.otp = s.otp) :
    (if c then a else b).1.pending = s.pending ∧ (if c then a else b).1.otp = s.otp := by
  by_cases h : c
  · rw [if_pos h]
    exact ha
  · rw [if_neg h]
    exact hb

/-- A step with its answer. -/
theorem keep_pair {β : Type} (a s : State) (b : β) (h : a.pending = s.pending ∧ a.otp = s.otp) :
    (a, b).1.pending = s.pending ∧ (a, b).1.otp = s.otp := h

/-- One arm of a chain of choices. -/
theorem keep_getD_ite (c : Prop) [Decidable c] (a d s : State) (o : Option State)
    (ha : a.pending = s.pending ∧ a.otp = s.otp) (ho : (o.getD d).pending = s.pending ∧ (o.getD d).otp = s.otp) :
    ((if c then some a else o).getD d).pending = s.pending ∧ ((if c then some a else o).getD d).otp = s.otp := by
  by_cases h : c
  · rw [if_pos h]
    exact ha
  · rw [if_neg h]
    exact ho

end Machine
end Sys2Proof
end

