-- ==== Sys2Proof/Laws/KeepOps.lean ====
section
/-!
SUPPORT. What the operations of Machine/Ops.lean leave alone: the queue of waiting commands and the fuses.
-/

namespace Sys2Proof
namespace Machine

@[simp ↓] theorem keep_fset (s : State) (f : Fld) (i : Nat) (v : Nat) :
    (fset s f i v).pending = s.pending ∧ (fset s f i v).otp = s.otp := by
  unfold fset
  constructor <;> (repeat' split) <;> (try simp) <;> (try intros) <;> (repeat' split) <;> (try simp) <;> (try intros) <;> (repeat' split) <;> (try simp_all)

@[simp ↓] theorem keep_fsetB (s : State) (f : Fld) (i : Nat) (b : Bool) :
    (fsetB s f i b).pending = s.pending ∧ (fsetB s f i b).otp = s.otp := by
  unfold fsetB
  constructor <;> (repeat' split) <;> (try simp) <;> (try intros) <;> (repeat' split) <;> (try simp) <;> (try intros) <;> (repeat' split) <;> (try simp_all)

@[simp ↓] theorem keep_fadd (s : State) (f : Fld) (i : Nat) (n : Nat) :
    (fadd s f i n).pending = s.pending ∧ (fadd s f i n).otp = s.otp := by
  unfold fadd
  constructor <;> (repeat' split) <;> (try simp) <;> (try intros) <;> (repeat' split) <;> (try simp) <;> (try intros) <;> (repeat' split) <;> (try simp_all)

@[simp ↓] theorem keep_finc (s : State) (f : Fld) (i : Nat) :
    (finc s f i).pending = s.pending ∧ (finc s f i).otp = s.otp := by
  unfold finc
  constructor <;> (repeat' split) <;> (try simp) <;> (try intros) <;> (repeat' split) <;> (try simp) <;> (try intros) <;> (repeat' split) <;> (try simp_all)

@[simp ↓] theorem keep_fsub (s : State) (f : Fld) (i : Nat) (n : Nat) :
    (fsub s f i n).pending = s.pending ∧ (fsub s f i n).otp = s.otp := by
  unfold fsub
  constructor <;> (repeat' split) <;> (try simp) <;> (try intros) <;> (repeat' split) <;> (try simp) <;> (try intros) <;> (repeat' split) <;> (try simp_all)

@[simp ↓] theorem keep_advanceTo (s : State) (n : Nat) :
    (advanceTo s n).pending = s.pending ∧ (advanceTo s n).otp = s.otp := by
  unfold advanceTo
  constructor <;> (repeat' split) <;> (try simp) <;> (try intros) <;> (repeat' split) <;> (try simp) <;> (try intros) <;> (repeat' split) <;> (try simp_all)

@[simp ↓] theorem keep_drawFree (s : State) :
    (drawFree s).pending = s.pending ∧ (drawFree s).otp = s.otp := by
  unfold drawFree
  constructor <;> (repeat' split) <;> (try simp) <;> (try intros) <;> (repeat' split) <;> (try simp) <;> (try intros) <;> (repeat' split) <;> (try simp_all)

@[simp ↓] theorem keep_raise (s : State) (e : FaultEvt) :
    (raise s e).pending = s.pending ∧ (raise s e).otp = s.otp := by
  unfold raise
  constructor <;> (repeat' split) <;> (try simp) <;> (try intros) <;> (repeat' split) <;> (try simp) <;> (try intros) <;> (repeat' split) <;> (try simp_all)

@[simp ↓] theorem keep_accessBy (n : Nat) (master : Nat) (s : State) :
    (accessBy n master s).pending = s.pending ∧ (accessBy n master s).otp = s.otp := by
  unfold accessBy
  constructor <;> (repeat' split) <;> (try simp) <;> (try intros) <;> (repeat' split) <;> (try simp) <;> (try intros) <;> (repeat' split) <;> (try simp_all)

@[simp ↓] theorem keep_injTake (s : State) (src : Nat) (chk : Nat) :
    (injTake s src chk).1.pending = s.pending ∧ (injTake s src chk).1.otp = s.otp := by
  unfold injTake
  constructor <;> (repeat' split) <;> (try simp) <;> (try intros) <;> (repeat' split) <;> (try simp) <;> (try intros) <;> (repeat' split) <;> (try simp_all)

@[simp ↓] theorem keep_eccCheck (s : State) (src : Nat) (chk : Nat) (c : Code) :
    (eccCheck s src chk c).1.pending = s.pending ∧ (eccCheck s src chk c).1.otp = s.otp := by
  unfold eccCheck
  constructor <;> (repeat' split) <;> (try simp) <;> (try intros) <;> (repeat' split) <;> (try simp) <;> (try intros) <;> (repeat' split) <;> (try simp_all)

@[simp ↓] theorem keep_setCab (s : State) (p : Nat) (c : Cab) :
    (setCab s p c).pending = s.pending ∧ (setCab s p c).otp = s.otp := by
  unfold setCab
  constructor <;> (repeat' split) <;> (try simp) <;> (try intros) <;> (repeat' split) <;> (try simp) <;> (try intros) <;> (repeat' split) <;> (try simp_all)

@[simp ↓] theorem keep_setCell (s : State) (k : Nat) (c : Cell) :
    (setCell s k c).pending = s.pending ∧ (setCell s k c).otp = s.otp := by
  unfold setCell
  constructor <;> (repeat' split) <;> (try simp) <;> (try intros) <;> (repeat' split) <;> (try simp) <;> (try intros) <;> (repeat' split) <;> (try simp_all)

@[simp ↓] theorem keep_mapCells (s : State) (p : Nat) (f : Cell → Cell) :
    (mapCells s p f).pending = s.pending ∧ (mapCells s p f).otp = s.otp := by
  unfold mapCells
  constructor <;> (repeat' split) <;> (try simp) <;> (try intros) <;> (repeat' split) <;> (try simp) <;> (try intros) <;> (repeat' split) <;> (try simp_all)

@[simp ↓] theorem keep_setFifo (s : State) (k : Nat) (f : Fifo) :
    (setFifo s k f).pending = s.pending ∧ (setFifo s k f).otp = s.otp := by
  unfold setFifo
  constructor <;> (repeat' split) <;> (try simp) <;> (try intros) <;> (repeat' split) <;> (try simp) <;> (try intros) <;> (repeat' split) <;> (try simp_all)

end Machine
end Sys2Proof
end

