-- ==== Sys2Proof/Laws/KeepEvent.lean ====
section
/-!
SUPPORT. What the operations of Machine/Event.lean leave alone: the queue of waiting commands and the fuses.
-/

namespace Sys2Proof
namespace Machine

@[simp ↓] theorem keep_postHost (s : State) (a : Nat) (b : List Byte) :
    (postHost s a b).pending = s.pending ∧ (postHost s a b).otp = s.otp := by
  unfold postHost
  constructor <;> (repeat' split) <;> (try simp) <;> (try intros) <;> (repeat' split) <;> (try simp) <;> (try intros) <;> (repeat' split) <;> (try simp_all)

@[simp ↓] theorem keep_msix (s : State) (v : Nat) :
    (msix s v).pending = s.pending ∧ (msix s v).otp = s.otp := by
  first
  | (fun_induction msix <;> simp_all; done)
  | (fun_induction msix <;> simp_all +zetaDelta; done)
  | (unfold msix; constructor <;> (repeat' split) <;> (try simp) <;> (try intros) <;> (repeat' split) <;> (try simp) <;> (try intros) <;> (repeat' split) <;> (try simp_all))

@[simp ↓] theorem keep_evtLine (s : State) (n : Nat) :
    (evtLine s n).pending = s.pending ∧ (evtLine s n).otp = s.otp := by
  unfold evtLine
  constructor <;> (repeat' split) <;> (try simp) <;> (try intros) <;> (repeat' split) <;> (try simp) <;> (try intros) <;> (repeat' split) <;> (try simp_all)

@[simp ↓] theorem keep_ringWrite (s : State) (e : Event) :
    (ringWrite s e).pending = s.pending ∧ (ringWrite s e).otp = s.otp := by
  unfold ringWrite
  constructor <;> (repeat' split) <;> (try simp) <;> (try intros) <;> (repeat' split) <;> (try simp) <;> (try intros) <;> (repeat' split) <;> (try simp_all)

@[simp ↓] theorem keep_logEvent (s : State) (e : Event) :
    (logEvent s e).1.pending = s.pending ∧ (logEvent s e).1.otp = s.otp := by
  unfold logEvent
  constructor <;> (repeat' split) <;> (try simp) <;> (try intros) <;> (repeat' split) <;> (try simp) <;> (try intros) <;> (repeat' split) <;> (try simp_all)

@[simp ↓] theorem keep_ringLost (s : State) :
    (ringLost s).pending = s.pending ∧ (ringLost s).otp = s.otp := by
  unfold ringLost
  constructor <;> (repeat' split) <;> (try simp) <;> (try intros) <;> (repeat' split) <;> (try simp) <;> (try intros) <;> (repeat' split) <;> (try simp_all)

@[simp ↓] theorem keep_event (s : State) (ev : Nat) (cls : Nat) (arg0 : Nat) (arg1 : Nat) :
    (event s ev cls arg0 arg1).pending = s.pending ∧ (event s ev cls arg0 arg1).otp = s.otp := by
  unfold event
  constructor <;> (repeat' split) <;> (try simp) <;> (try intros) <;> (repeat' split) <;> (try simp) <;> (try intros) <;> (repeat' split) <;> (try simp_all)

@[simp ↓] theorem keep_evtCi (s : State) (v : Nat) :
    (evtCi s v).pending = s.pending ∧ (evtCi s v).otp = s.otp := by
  unfold evtCi
  constructor <;> (repeat' split) <;> (try simp) <;> (try intros) <;> (repeat' split) <;> (try simp) <;> (try intros) <;> (repeat' split) <;> (try simp_all)

@[simp ↓] theorem keep_cabGo (s : State) (p : Nat) (st : Nat) :
    (cabGo s p st).pending = s.pending ∧ (cabGo s p st).otp = s.otp := by
  unfold cabGo
  constructor <;> (repeat' split) <;> (try simp) <;> (try intros) <;> (repeat' split) <;> (try simp) <;> (try intros) <;> (repeat' split) <;> (try simp_all)

end Machine
end Sys2Proof
end

