-- ==== Sys2Proof/Laws/KeepBureau.lean ====
section
/-!
SUPPORT. What the operations of Machine/Bureau.lean leave alone: the queue of waiting commands and the fuses.
-/

namespace Sys2Proof
namespace Machine

@[simp ↓] theorem keep_setBur (s : State) (b : BurSt) :
    (setBur s b).pending = s.pending ∧ (setBur s b).otp = s.otp := by
  unfold setBur
  constructor <;> (repeat' split) <;> (try simp) <;> (try intros) <;> (repeat' split) <;> (try simp) <;> (try intros) <;> (repeat' split) <;> (try simp_all)

@[simp ↓] theorem keep_burNotice (s : State) (n : Nat) :
    (burNotice s n).pending = s.pending ∧ (burNotice s n).otp = s.otp := by
  unfold burNotice
  constructor <;> (repeat' split) <;> (try simp) <;> (try intros) <;> (repeat' split) <;> (try simp) <;> (try intros) <;> (repeat' split) <;> (try simp_all)

@[simp ↓] theorem keep_tapPut (s : State) (tap : Nat) (tenant : Nat) (len : Nat) :
    (tapPut s tap tenant len).pending = s.pending ∧ (tapPut s tap tenant len).otp = s.otp := by
  unfold tapPut
  constructor <;> (repeat' split) <;> (try simp) <;> (try intros) <;> (repeat' split) <;> (try simp) <;> (try intros) <;> (repeat' split) <;> (try simp_all)

@[simp ↓] theorem keep_tapTake (s : State) (tap : Nat) :
    (tapTake s tap).pending = s.pending ∧ (tapTake s tap).otp = s.otp := by
  unfold tapTake
  constructor <;> (repeat' split) <;> (try simp) <;> (try intros) <;> (repeat' split) <;> (try simp) <;> (try intros) <;> (repeat' split) <;> (try simp_all)

@[simp ↓] theorem keep_audShow (s : State) :
    (audShow s).pending = s.pending ∧ (audShow s).otp = s.otp := by
  unfold audShow
  constructor <;> (repeat' split) <;> (try simp) <;> (try intros) <;> (repeat' split) <;> (try simp) <;> (try intros) <;> (repeat' split) <;> (try simp_all)

@[simp ↓] theorem keep_audPut (s : State) (ty : Nat) (payload : List Byte) (reserve : Bool) :
    (audPut s ty payload reserve).1.pending = s.pending ∧ (audPut s ty payload reserve).1.otp = s.otp := by
  unfold audPut
  constructor <;> (repeat' split) <;> (try simp) <;> (try intros) <;> (repeat' split) <;> (try simp) <;> (try intros) <;> (repeat' split) <;> (try simp_all)

@[simp ↓] theorem keep_burEdge (s : State) :
    (burEdge s).pending = s.pending ∧ (burEdge s).otp = s.otp := by
  unfold burEdge
  constructor <;> (repeat' split) <;> (try simp) <;> (try intros) <;> (repeat' split) <;> (try simp) <;> (try intros) <;> (repeat' split) <;> (try simp_all)

@[simp ↓] theorem keep_stmtIssue (s0 : State) (reason : Nat) (oscUs : Nat) :
    (stmtIssue s0 reason oscUs).pending = s0.pending ∧ (stmtIssue s0 reason oscUs).otp = s0.otp := by
  unfold stmtIssue
  constructor <;> (repeat' split) <;> (try simp) <;> (try intros) <;> (repeat' split) <;> (try simp) <;> (try intros) <;> (repeat' split) <;> (try simp_all)

@[simp ↓] theorem keep_stmtCheck (s0 : State) (oscUs : Nat) :
    (stmtCheck s0 oscUs).pending = s0.pending ∧ (stmtCheck s0 oscUs).otp = s0.otp := by
  unfold stmtCheck
  constructor <;> (repeat' split) <;> (try simp) <;> (try intros) <;> (repeat' split) <;> (try simp) <;> (try intros) <;> (repeat' split) <;> (try simp_all)

@[simp ↓] theorem keep_stmtStored (s : State) :
    (stmtStored s).pending = s.pending ∧ (stmtStored s).otp = s.otp := by
  unfold stmtStored
  constructor <;> (repeat' split) <;> (try simp) <;> (try intros) <;> (repeat' split) <;> (try simp) <;> (try intros) <;> (repeat' split) <;> (try simp_all)

@[simp ↓] theorem keep_sealChange (s : State) (isOpen : Bool) :
    (sealChange s isOpen).pending = s.pending ∧ (sealChange s isOpen).otp = s.otp := by
  unfold sealChange
  constructor <;> (repeat' split) <;> (try simp) <;> (try intros) <;> (repeat' split) <;> (try simp) <;> (try intros) <;> (repeat' split) <;> (try simp_all)

@[simp ↓] theorem keep_burTestAccess (s : State) :
    (burTestAccess s).pending = s.pending ∧ (burTestAccess s).otp = s.otp := by
  unfold burTestAccess
  constructor <;> (repeat' split) <;> (try simp) <;> (try intros) <;> (repeat' split) <;> (try simp) <;> (try intros) <;> (repeat' split) <;> (try simp_all)

@[simp ↓] theorem keep_suspClear (s : State) :
    (suspClear s).pending = s.pending ∧ (suspClear s).otp = s.otp := by
  unfold suspClear
  constructor <;> (repeat' split) <;> (try simp) <;> (try intros) <;> (repeat' split) <;> (try simp) <;> (try intros) <;> (repeat' split) <;> (try simp_all)

@[simp ↓] theorem keep_warParam (s : State) (w : List Byte) :
    (warParam s w).1.pending = s.pending ∧ (warParam s w).1.otp = s.otp := by
  unfold warParam
  constructor <;> (repeat' split) <;> (try simp) <;> (try intros) <;> (repeat' split) <;> (try simp) <;> (try intros) <;> (repeat' split) <;> (try simp_all)

@[simp ↓] theorem keep_warBegin (s : State) (w : List Byte) :
    (warBegin s w).1.pending = s.pending ∧ (warBegin s w).1.otp = s.otp := by
  unfold warBegin
  constructor <;> (repeat' split) <;> (try simp) <;> (try intros) <;> (repeat' split) <;> (try simp) <;> (try intros) <;> (repeat' split) <;> (try simp_all)

@[simp ↓] theorem keep_warData (s : State) (w : List Byte) :
    (warData s w).1.pending = s.pending ∧ (warData s w).1.otp = s.otp := by
  unfold warData
  constructor <;> (repeat' split) <;> (try simp) <;> (try intros) <;> (repeat' split) <;> (try simp) <;> (try intros) <;> (repeat' split) <;> (try simp_all)

@[simp ↓] theorem keep_warClear (s : State) (w : List Byte) :
    (warClear s w).1.pending = s.pending ∧ (warClear s w).1.otp = s.otp := by
  unfold warClear
  constructor <;> (repeat' split) <;> (try simp) <;> (try intros) <;> (repeat' split) <;> (try simp) <;> (try intros) <;> (repeat' split) <;> (try simp_all)

@[simp ↓] theorem keep_warArchive (s : State) (w : List Byte) :
    (warArchive s w).1.pending = s.pending ∧ (warArchive s w).1.otp = s.otp := by
  unfold warArchive
  constructor <;> (repeat' split) <;> (try simp) <;> (try intros) <;> (repeat' split) <;> (try simp) <;> (try intros) <;> (repeat' split) <;> (try simp_all)

@[simp ↓] theorem keep_warNow (s : State) (x1 : List Byte) :
    (warNow s x1).1.pending = s.pending ∧ (warNow s x1).1.otp = s.otp := by
  unfold warNow
  constructor <;> (repeat' split) <;> (try simp) <;> (try intros) <;> (repeat' split) <;> (try simp) <;> (try intros) <;> (repeat' split) <;> (try simp_all)

@[simp ↓] theorem keep_warSubmit (s : State) (order : Nat) (len : Nat) (act : State → List Byte → State × Nat) (hact : ∀ z z0, (act z z0).1.pending = z.pending ∧ (act z z0).1.otp = z.otp) :
    (warSubmit s order len act).pending = s.pending ∧ (warSubmit s order len act).otp = s.otp := by
  unfold warSubmit
  (repeat' split) <;> simp_all

@[simp ↓] theorem keep_burRegsReset (s : State) :
    (burRegsReset s).pending = s.pending ∧ (burRegsReset s).otp = s.otp := by
  unfold burRegsReset
  constructor <;> (repeat' split) <;> (try simp) <;> (try intros) <;> (repeat' split) <;> (try simp) <;> (try intros) <;> (repeat' split) <;> (try simp_all)

@[simp ↓] theorem keep_burRestore (s0 : State) :
    (burRestore s0).pending = s0.pending ∧ (burRestore s0).otp = s0.otp := by
  unfold burRestore
  constructor <;> (repeat' split) <;> (try simp) <;> (try intros) <;> (repeat' split) <;> (try simp) <;> (try intros) <;> (repeat' split) <;> (try simp_all)

@[simp ↓] theorem keep_burFault (s : State) (kind : Nat) :
    (burFault s kind).pending = s.pending ∧ (burFault s kind).otp = s.otp := by
  unfold burFault
  constructor <;> (repeat' split) <;> (try simp) <;> (try intros) <;> (repeat' split) <;> (try simp) <;> (try intros) <;> (repeat' split) <;> (try simp_all)

end Machine
end Sys2Proof
end

