-- ==== Sys2Proof/Laws/KeepFifo.lean ====
section
/-!
SUPPORT. What the operations of Machine/Fifo.lean leave alone: the queue of waiting commands and the fuses.
-/

namespace Sys2Proof
namespace Machine

@[simp ↓] theorem keep_fifoPut (s : State) (k : Nat) (f : Fifo) :
    (fifoPut s k f).pending = s.pending ∧ (fifoPut s k f).otp = s.otp := by
  unfold fifoPut
  constructor <;> (repeat' split) <;> (try simp) <;> (try intros) <;> (repeat' split) <;> (try simp) <;> (try intros) <;> (repeat' split) <;> (try simp_all)

@[simp ↓] theorem keep_fifoProto (s : State) (k : Nat) :
    (fifoProto s k).pending = s.pending ∧ (fifoProto s k).otp = s.otp := by
  unfold fifoProto
  constructor <;> (repeat' split) <;> (try simp) <;> (try intros) <;> (repeat' split) <;> (try simp) <;> (try intros) <;> (repeat' split) <;> (try simp_all)

@[simp ↓] theorem keep_fifoFreeSwap (s : State) (k : Nat) :
    (fifoFreeSwap s k).pending = s.pending ∧ (fifoFreeSwap s k).otp = s.otp := by
  unfold fifoFreeSwap
  constructor <;> (repeat' split) <;> (try simp) <;> (try intros) <;> (repeat' split) <;> (try simp) <;> (try intros) <;> (repeat' split) <;> (try simp_all)

@[simp ↓] theorem keep_fifoWrite (s0 : State) (k : Nat) (d : Code) (st : Bool) (en : Bool) (len : Nat) (prio : Nat) (poison : Bool) (tag : Nat) :
    (fifoWrite s0 k d st en len prio poison tag).pending = s0.pending ∧ (fifoWrite s0 k d st en len prio poison tag).otp = s0.otp := by
  unfold fifoWrite
  constructor <;> (repeat' split) <;> (try simp) <;> (try intros) <;> (repeat' split) <;> (try simp) <;> (try intros) <;> (repeat' split) <;> (try simp_all)

@[simp ↓] theorem keep_fifoTickSwap (s : State) (k : Nat) :
    (fifoTickSwap s k).pending = s.pending ∧ (fifoTickSwap s k).otp = s.otp := by
  unfold fifoTickSwap
  constructor <;> (repeat' split) <;> (try simp) <;> (try intros) <;> (repeat' split) <;> (try simp) <;> (try intros) <;> (repeat' split) <;> (try simp_all)

@[simp ↓] theorem keep_fifoRead (s : State) (k : Nat) (err : Code) :
    (fifoRead s k err).1.pending = s.pending ∧ (fifoRead s k err).1.otp = s.otp := by
  unfold fifoRead
  constructor <;> (repeat' split) <;> (try simp) <;> (repeat' split) <;>
    (have h := keep_eccCheck s (fifoSrc k) (fifoChk k) (‹Code› ^^^ err); rw [‹eccCheck s _ _ _ = _›] at h; simp_all)

@[simp ↓] theorem keep_fifoFlush (s0 : State) (k : Nat) :
    (fifoFlush s0 k).pending = s0.pending ∧ (fifoFlush s0 k).otp = s0.otp := by
  unfold fifoFlush
  constructor <;> (repeat' split) <;> (try simp) <;> (try intros) <;> (repeat' split) <;> (try simp) <;> (try intros) <;> (repeat' split) <;> (try simp_all)

@[simp ↓] theorem keep_fifoLose (s : State) (k : Nat) :
    (fifoLose s k).pending = s.pending ∧ (fifoLose s k).otp = s.otp := by
  unfold fifoLose
  constructor <;> (repeat' split) <;> (try simp) <;> (try intros) <;> (repeat' split) <;> (try simp) <;> (try intros) <;> (repeat' split) <;> (try simp_all)

@[simp ↓] theorem keep_fifoModeSwap (s : State) (k : Nat) (v : Nat) :
    (fifoModeSwap s k v).pending = s.pending ∧ (fifoModeSwap s k v).otp = s.otp := by
  unfold fifoModeSwap
  constructor <;> (repeat' split) <;> (try simp) <;> (try intros) <;> (repeat' split) <;> (try simp) <;> (try intros) <;> (repeat' split) <;> (try simp_all)

@[simp ↓] theorem keep_fifoFrame (s : State) (k : Nat) (prio : Nat) (ilen : Nat) :
    (fifoFrame s k prio ilen).pending = s.pending ∧ (fifoFrame s k prio ilen).otp = s.otp := by
  unfold fifoFrame
  constructor <;> (repeat' split) <;> (try simp) <;> (try intros) <;> (repeat' split) <;> (try simp) <;> (try intros) <;> (repeat' split) <;> (try simp_all)

@[simp ↓] theorem keep_fifoOrderReq (s : State) (k : Nat) (v : Nat) :
    (fifoOrderReq s k v).pending = s.pending ∧ (fifoOrderReq s k v).otp = s.otp := by
  unfold fifoOrderReq
  constructor <;> (repeat' split) <;> (try simp) <;> (try intros) <;> (repeat' split) <;> (try simp) <;> (try intros) <;> (repeat' split) <;> (try simp_all)

@[simp ↓] theorem keep_fifoOrderGuard (s : State) (k : Nat) :
    (fifoOrderGuard s k).pending = s.pending ∧ (fifoOrderGuard s k).otp = s.otp := by
  unfold fifoOrderGuard
  constructor <;> (repeat' split) <;> (try simp) <;> (try intros) <;> (repeat' split) <;> (try simp) <;> (try intros) <;> (repeat' split) <;> (try simp_all)

@[simp ↓] theorem keep_fifoPeakRead (s : State) (k : Nat) :
    (fifoPeakRead s k).1.pending = s.pending ∧ (fifoPeakRead s k).1.otp = s.otp := by
  unfold fifoPeakRead
  constructor <;> (repeat' split) <;> (try simp) <;> (try intros) <;> (repeat' split) <;> (try simp) <;> (try intros) <;> (repeat' split) <;> (try simp_all)

@[simp ↓] theorem keep_fifoReadCmd (s : State) (k : Nat) (err : Code) :
    (fifoReadCmd s k err).pending = s.pending ∧ (fifoReadCmd s k err).otp = s.otp := by
  unfold fifoReadCmd
  constructor <;> (repeat' split) <;> (try simp) <;> (try intros) <;> (repeat' split) <;> (try simp) <;> (try intros) <;> (repeat' split) <;> (try simp_all)

@[simp ↓] theorem keep_fifoPeakCmd (s : State) (k : Nat) :
    (fifoPeakCmd s k).pending = s.pending ∧ (fifoPeakCmd s k).otp = s.otp := by
  unfold fifoPeakCmd
  constructor <;> (repeat' split) <;> (try simp) <;> (try intros) <;> (repeat' split) <;> (try simp) <;> (try intros) <;> (repeat' split) <;> (try simp_all)

end Machine
end Sys2Proof
end

