-- ==== Sys2Proof/Laws/KeepPins.lean ====
section
/-!
SUPPORT. What the operations of Machine/Pins.lean leave alone: the queue of waiting commands and the fuses.
-/

namespace Sys2Proof
namespace Machine

@[simp ↓] theorem keep_setPin (s : State) (n : Nat) (x : PinSt) :
    (setPin s n x).pending = s.pending ∧ (setPin s n x).otp = s.otp := by
  unfold setPin
  constructor <;> (repeat' split) <;> (try simp) <;> (try intros) <;> (repeat' split) <;> (try simp) <;> (try intros) <;> (repeat' split) <;> (try simp_all)

@[simp ↓] theorem keep_pinTrack (s : State) (n : Nat) :
    (pinTrack s n).pending = s.pending ∧ (pinTrack s n).otp = s.otp := by
  unfold pinTrack
  constructor <;> (repeat' split) <;> (try simp) <;> (try intros) <;> (repeat' split) <;> (try simp) <;> (try intros) <;> (repeat' split) <;> (try simp_all)

@[simp ↓] theorem keep_pinsTrack (s : State) (p : Nat) :
    (pinsTrack s p).pending = s.pending ∧ (pinsTrack s p).otp = s.otp := by
  unfold pinsTrack
  constructor <;> (repeat' split) <;> (try simp) <;> (try intros) <;> (repeat' split) <;> (try simp) <;> (try intros) <;> (repeat' split) <;> (try simp_all)

@[simp ↓] theorem keep_pinRelease (s : State) (n : Nat) :
    (pinRelease s n).pending = s.pending ∧ (pinRelease s n).otp = s.otp := by
  unfold pinRelease
  constructor <;> (repeat' split) <;> (try simp) <;> (try intros) <;> (repeat' split) <;> (try simp) <;> (try intros) <;> (repeat' split) <;> (try simp_all)

@[simp ↓] theorem keep_pinCfgWrite (s : State) (n : Nat) (v : Nat) :
    (pinCfgWrite s n v).pending = s.pending ∧ (pinCfgWrite s n v).otp = s.otp := by
  unfold pinCfgWrite
  constructor <;> (repeat' split) <;> (try simp) <;> (try intros) <;> (repeat' split) <;> (try simp) <;> (try intros) <;> (repeat' split) <;> (try simp_all)

@[simp ↓] theorem keep_pinClaimWrite (s0 : State) (n : Nat) (v : Nat) :
    (pinClaimWrite s0 n v).pending = s0.pending ∧ (pinClaimWrite s0 n v).otp = s0.otp := by
  unfold pinClaimWrite
  constructor <;> (repeat' split) <;> (try simp) <;> (try intros) <;> (repeat' split) <;> (try simp) <;> (try intros) <;> (repeat' split) <;> (try simp_all)

end Machine
end Sys2Proof
end

