-- ==== Sys2Proof/Laws/KeepCabState.lean ====
section
/-!
SUPPORT. What the operations of Machine/CabState.lean leave alone: the queue of waiting commands and the fuses.
-/

namespace Sys2Proof
namespace Machine

@[simp ↓] theorem keep_unitFault (s : State) (k : Nat) (id : Nat) :
    (unitFault s k id).pending = s.pending ∧ (unitFault s k id).otp = s.otp := by
  unfold unitFault
  constructor <;> (repeat' split) <;> (try simp) <;> (try intros) <;> (repeat' split) <;> (try simp) <;> (try intros) <;> (repeat' split) <;> (try simp_all)

@[simp ↓] theorem keep_setJptCh (s : State) (k : Nat) (c : JptCh) :
    (setJptCh s k c).pending = s.pending ∧ (setJptCh s k c).otp = s.otp := by
  unfold setJptCh
  constructor <;> (repeat' split) <;> (try simp) <;> (try intros) <;> (repeat' split) <;> (try simp) <;> (try intros) <;> (repeat' split) <;> (try simp_all)

@[simp ↓] theorem keep_jptStopCh (s : State) (j : Nat) (k : Nat) :
    (jptStopCh s j k).pending = s.pending ∧ (jptStopCh s j k).otp = s.otp := by
  unfold jptStopCh
  constructor <;> (repeat' split) <;> (try simp) <;> (try intros) <;> (repeat' split) <;> (try simp) <;> (try intros) <;> (repeat' split) <;> (try simp_all)

@[simp ↓] theorem keep_jptDoorClosed (s : State) (j : Nat) :
    (jptDoorClosed s j).pending = s.pending ∧ (jptDoorClosed s j).otp = s.otp := by
  unfold jptDoorClosed
  constructor <;> (repeat' split) <;> (try simp) <;> (try intros) <;> (repeat' split) <;> (try simp) <;> (try intros) <;> (repeat' split) <;> (try simp_all)

@[simp ↓] theorem keep_closeDoors (s : State) (p : Nat) (fault : Bool) :
    (closeDoors s p fault).pending = s.pending ∧ (closeDoors s p fault).otp = s.otp := by
  unfold closeDoors
  constructor <;> (repeat' split) <;> (try simp) <;> (try intros) <;> (repeat' split) <;> (try simp) <;> (try intros) <;> (repeat' split) <;> (try simp_all)

@[simp ↓] theorem keep_openDoors (s : State) (p : Nat) :
    (openDoors s p).pending = s.pending ∧ (openDoors s p).otp = s.otp := by
  unfold openDoors
  constructor <;> (repeat' split) <;> (try simp) <;> (try intros) <;> (repeat' split) <;> (try simp) <;> (try intros) <;> (repeat' split) <;> (try simp_all)

@[simp ↓] theorem keep_scaleCount (s : State) (p : Nat) (live : Bool) (n : Nat) :
    (scaleCount s p live n).pending = s.pending ∧ (scaleCount s p live n).otp = s.otp := by
  unfold scaleCount
  constructor <;> (repeat' split) <;> (try simp) <;> (try intros) <;> (repeat' split) <;> (try simp) <;> (try intros) <;> (repeat' split) <;> (try simp_all)

@[simp ↓] theorem keep_landCell (t : Nat) (s : State) (k : Nat) :
    (landCell t s k).pending = s.pending ∧ (landCell t s k).otp = s.otp := by
  unfold landCell
  constructor <;> (repeat' split) <;> (try simp) <;> (try intros) <;> (repeat' split) <;> (try simp) <;> (try intros) <;> (repeat' split) <;> (try simp_all)

@[simp ↓] theorem keep_landCab (s : State) (p : Nat) (t : Nat) :
    (landCab s p t).pending = s.pending ∧ (landCab s p t).otp = s.otp := by
  unfold landCab
  constructor <;> (repeat' split) <;> (try simp) <;> (try intros) <;> (repeat' split) <;> (try simp) <;> (try intros) <;> (repeat' split) <;> (try simp_all)

@[simp ↓] theorem keep_cellsHold (s : State) (p : Nat) :
    (cellsHold s p).pending = s.pending ∧ (cellsHold s p).otp = s.otp := by
  unfold cellsHold
  constructor <;> (repeat' split) <;> (try simp) <;> (try intros) <;> (repeat' split) <;> (try simp) <;> (try intros) <;> (repeat' split) <;> (try simp_all)

@[simp ↓] theorem keep_gapAbandon (s : State) (p : Nat) :
    (gapAbandon s p).pending = s.pending ∧ (gapAbandon s p).otp = s.otp := by
  unfold gapAbandon
  constructor <;> (repeat' split) <;> (try simp) <;> (try intros) <;> (repeat' split) <;> (try simp) <;> (try intros) <;> (repeat' split) <;> (try simp_all)

@[simp ↓] theorem keep_assertFF (s : State) (p : Nat) :
    (assertFF s p).pending = s.pending ∧ (assertFF s p).otp = s.otp := by
  unfold assertFF
  constructor <;> (repeat' split) <;> (try simp) <;> (try intros) <;> (repeat' split) <;> (try simp) <;> (try intros) <;> (repeat' split) <;> (try simp_all)

@[simp ↓] theorem keep_relocDrop (s : State) (p : Nat) :
    (relocDrop s p).pending = s.pending ∧ (relocDrop s p).otp = s.otp := by
  unfold relocDrop
  constructor <;> (repeat' split) <;> (try simp) <;> (try intros) <;> (repeat' split) <;> (try simp) <;> (try intros) <;> (repeat' split) <;> (try simp_all)

@[simp ↓] theorem keep_setStop (s : State) (st : Nat) (x : Stop) :
    (setStop s st x).pending = s.pending ∧ (setStop s st x).otp = s.otp := by
  unfold setStop
  constructor <;> (repeat' split) <;> (try simp) <;> (try intros) <;> (repeat' split) <;> (try simp) <;> (try intros) <;> (repeat' split) <;> (try simp_all)

@[simp ↓] theorem keep_fenceSet (s : State) (p : Nat) :
    (fenceSet s p).pending = s.pending ∧ (fenceSet s p).otp = s.otp := by
  unfold fenceSet
  constructor <;> (repeat' split) <;> (try simp) <;> (try intros) <;> (repeat' split) <;> (try simp) <;> (try intros) <;> (repeat' split) <;> (try simp_all)

@[simp ↓] theorem keep_cabFault (s : State) (p : Nat) :
    (cabFault s p).pending = s.pending ∧ (cabFault s p).otp = s.otp := by
  unfold cabFault
  constructor <;> (repeat' split) <;> (try simp) <;> (try intros) <;> (repeat' split) <;> (try simp) <;> (try intros) <;> (repeat' split) <;> (try simp_all)

@[simp ↓] theorem keep_cabEvent (s : State) (p : Nat) (cls : Nat) (code : Nat) (addr : Nat) (access : Nat) (inj : Bool) (coinc : Bool) :
    (cabEvent s p cls code addr access inj coinc).pending = s.pending ∧ (cabEvent s p cls code addr access inj coinc).otp = s.otp := by
  unfold cabEvent
  constructor <;> (repeat' split) <;> (try simp) <;> (try intros) <;> (repeat' split) <;> (try simp) <;> (try intros) <;> (repeat' split) <;> (try simp_all)

@[simp ↓] theorem keep_ramLast (s : State) (p : Nat) (pcol : Nat) (row : Nat) (a : Nat) (syn : Nat) (ue : Bool) :
    (ramLast s p pcol row a syn ue).pending = s.pending ∧ (ramLast s p pcol row a syn ue).otp = s.otp := by
  unfold ramLast
  constructor <;> (repeat' split) <;> (try simp) <;> (try intros) <;> (repeat' split) <;> (try simp) <;> (try intros) <;> (repeat' split) <;> (try simp_all)

@[simp ↓] theorem keep_ramRead (s : State) (p : Nat) (pcol : Nat) (row : Nat) (a : Nat) (access : Nat) (err : Code) :
    (ramRead s p pcol row a access err).1.pending = s.pending ∧ (ramRead s p pcol row a access err).1.otp = s.otp := by
  unfold ramRead
  constructor <;> (repeat' split) <;> (try simp) <;> (try intros) <;> (repeat' split) <;> (try simp) <;> (try intros) <;> (repeat' split) <;> (try simp_all)

end Machine
end Sys2Proof
end

