-- ==== Sys2Proof/Laws/KeepOperands.lean ====
section
/-!
SUPPORT. What the operations of Machine/Operands.lean leave alone: the queue of waiting commands and the fuses.
-/

namespace Sys2Proof
namespace Machine

@[simp ↓] theorem keep_doorEnter (s : State) (p : Nat) (port : Nat) (w : Word) :
    (doorEnter s p port w).pending = s.pending ∧ (doorEnter s p port w).otp = s.otp := by
  unfold doorEnter
  constructor <;> (repeat' split) <;> (try simp) <;> (try intros) <;> (repeat' split) <;> (try simp) <;> (try intros) <;> (repeat' split) <;> (try simp_all)

@[simp ↓] theorem keep_cellDoorOut (s : State) (p : Nat) (lcol : Nat) (row : Nat) (k : Nat) (t : Nat) :
    (cellDoorOut s p lcol row k t).pending = s.pending ∧ (cellDoorOut s p lcol row k t).otp = s.otp := by
  unfold cellDoorOut
  constructor <;> (repeat' split) <;> (try simp) <;> (try intros) <;> (repeat' split) <;> (try simp) <;> (try intros) <;> (repeat' split) <;> (try simp_all)

@[simp ↓] theorem keep_cellPins (s : State) (p : Nat) (lcol : Nat) (row : Nat) (y : Word × Bool) :
    (cellPins s p lcol row y).pending = s.pending ∧ (cellPins s p lcol row y).otp = s.otp := by
  unfold cellPins
  constructor <;> (repeat' split) <;> (try simp) <;> (try intros) <;> (repeat' split) <;> (try simp) <;> (try intros) <;> (repeat' split) <;> (try simp_all)

end Machine
end Sys2Proof
end

