-- ==== Sys2Proof/Laws/KeepCell.lean ====
section
/-!
SUPPORT. What the operations of Machine/Cell.lean leave alone: the queue of waiting commands and the fuses.
-/

namespace Sys2Proof
namespace Machine

@[simp ↓] theorem keep_mirrorWrite (s : State) (p : Nat) (lcol : Nat) (row : Nat) (a : Nat) (w : Word) :
    (mirrorWrite s p lcol row a w).pending = s.pending ∧ (mirrorWrite s p lcol row a w).otp = s.otp := by
  unfold mirrorWrite
  constructor <;> (repeat' split) <;> (try simp) <;> (try intros) <;> (repeat' split) <;> (try simp) <;> (try intros) <;> (repeat' split) <;> (try simp_all)

@[simp ↓] theorem keep_cellExec (s : State) (r : CellRef) (lcol : Nat) (live : Bool) (t : Nat) (pin : Nat → Word) :
    (cellExec s r lcol live t pin).pending = s.pending ∧ (cellExec s r lcol live t pin).otp = s.otp := by
  unfold cellExec
  constructor <;> (repeat' split) <;> (try simp) <;> (try intros) <;> (repeat' split) <;> (try simp) <;> (try intros) <;> (repeat' split) <;> (try simp_all)

@[simp ↓] theorem keep_cellRun (s : State) (r : CellRef) (lcol : Nat) (live : Bool) (t : Nat) :
    (cellRun s r lcol live t).pending = s.pending ∧ (cellRun s r lcol live t).otp = s.otp := by
  unfold cellRun
  constructor <;> (repeat' split) <;> (try simp) <;> (try intros) <;> (repeat' split) <;> (try simp) <;> (try intros) <;> (repeat' split) <;> (try simp_all)

@[simp ↓] theorem keep_cellCycle (op : Nat) (r : CellRef) (s : State) :
    (cellCycle op r s).pending = s.pending ∧ (cellCycle op r s).otp = s.otp := by
  unfold cellCycle
  constructor <;> (repeat' split) <;> (try simp) <;> (try intros) <;> (repeat' split) <;> (try simp) <;> (try intros) <;> (repeat' split) <;> (try simp_all)

@[simp ↓] theorem keep_cellLand (j : JobKind) (p : Nat) (pcol : Nat) (row : Nat) (s : State) :
    (cellLand j p pcol row s).pending = s.pending ∧ (cellLand j p pcol row s).otp = s.otp := by
  unfold cellLand
  constructor <;> (repeat' split) <;> (try simp) <;> (try intros) <;> (repeat' split) <;> (try simp) <;> (try intros) <;> (repeat' split) <;> (try simp_all)

@[simp ↓] theorem keep_ramWriteBack (p : Nat) (pcol : Nat) (row : Nat) (s : State) :
    (ramWriteBack p pcol row s).pending = s.pending ∧ (ramWriteBack p pcol row s).otp = s.otp := by
  unfold ramWriteBack
  constructor <;> (repeat' split) <;> (try simp) <;> (try intros) <;> (repeat' split) <;> (try simp) <;> (try intros) <;> (repeat' split) <;> (try simp_all)

@[simp ↓] theorem keep_ramPatrol (p : Nat) (pcol : Nat) (row : Nat) (err : Code) (s : State) :
    (ramPatrol p pcol row err s).pending = s.pending ∧ (ramPatrol p pcol row err s).otp = s.otp := by
  unfold ramPatrol
  constructor <;> (repeat' split) <;> (try simp) <;> (try intros) <;> (repeat' split) <;> (try simp) <;> (try intros) <;> (repeat' split) <;> (try simp_all)

@[simp ↓] theorem keep_cfgPortRam (p : Nat) (pcol : Nat) (row : Nat) (a : Nat) (wr : Bool) (w : Word) (err : Code) (s : State) :
    (cfgPortRam p pcol row a wr w err s).pending = s.pending ∧ (cfgPortRam p pcol row a wr w err s).otp = s.otp := by
  unfold cfgPortRam
  constructor <;> (repeat' split) <;> (try simp) <;> (try intros) <;> (repeat' split) <;> (try simp) <;> (try intros) <;> (repeat' split) <;> (try simp_all)

@[simp ↓] theorem keep_ramLastClear (s : State) (p : Nat) :
    (ramLastClear s p).pending = s.pending ∧ (ramLastClear s p).otp = s.otp := by
  unfold ramLastClear
  constructor <;> (repeat' split) <;> (try simp) <;> (try intros) <;> (repeat' split) <;> (try simp) <;> (try intros) <;> (repeat' split) <;> (try simp_all)

end Machine
end Sys2Proof
end

