-- ==== Sys2Proof/Laws/KeepJesd.lean ====
section
/-!
SUPPORT. What the operations of Machine/Jesd.lean leave alone: the queue of waiting commands and the fuses.
-/

namespace Sys2Proof
namespace Machine

@[simp ↓] theorem keep_setJptPath (s : State) (i : Nat) (p : JptPath) :
    (setJptPath s i p).pending = s.pending ∧ (setJptPath s i p).otp = s.otp := by
  unfold setJptPath
  constructor <;> (repeat' split) <;> (try simp) <;> (try intros) <;> (repeat' split) <;> (try simp) <;> (try intros) <;> (repeat' split) <;> (try simp_all)

@[simp ↓] theorem keep_fstore (s : State) (l : List Fld) (i : Nat) (v : Nat) :
    (fstore s l i v).pending = s.pending ∧ (fstore s l i v).otp = s.otp := by
  unfold fstore
  constructor <;> (repeat' split) <;> (try simp) <;> (try intros) <;> (repeat' split) <;> (try simp) <;> (try intros) <;> (repeat' split) <;> (try simp_all)

@[simp ↓] theorem keep_jptPadLink (s : State) (j : Nat) (n : Nat) :
    (jptPadLink s j n).pending = s.pending ∧ (jptPadLink s j n).otp = s.otp := by
  unfold jptPadLink
  constructor <;> (repeat' split) <;> (try simp) <;> (try intros) <;> (repeat' split) <;> (try simp) <;> (try intros) <;> (repeat' split) <;> (try simp_all)

@[simp ↓] theorem keep_jptGo (s : State) (i : Nat) (st : Nat) (reason : Nat) :
    (jptGo s i st reason).pending = s.pending ∧ (jptGo s i st reason).otp = s.otp := by
  unfold jptGo
  constructor <;> (repeat' split) <;> (try simp) <;> (try intros) <;> (repeat' split) <;> (try simp) <;> (try intros) <;> (repeat' split) <;> (try simp_all)

@[simp ↓] theorem keep_jptOff (s : State) (j : Nat) (n : Nat) :
    (jptOff s j n).pending = s.pending ∧ (jptOff s j n).otp = s.otp := by
  unfold jptOff
  constructor <;> (repeat' split) <;> (try simp) <;> (try intros) <;> (repeat' split) <;> (try simp) <;> (try intros) <;> (repeat' split) <;> (try simp_all)

@[simp ↓] theorem keep_jptLinkWrite (s0 : State) (j : Nat) (n : Nat) (v : Nat) :
    (jptLinkWrite s0 j n v).pending = s0.pending ∧ (jptLinkWrite s0 j n v).otp = s0.otp := by
  unfold jptLinkWrite
  constructor <;> (repeat' split) <;> (try simp) <;> (try intros) <;> (repeat' split) <;> (try simp) <;> (try intros) <;> (repeat' split) <;> (try simp_all)

@[simp ↓] theorem keep_jptPathWrite (s : State) (j : Nat) (q : Nat) (v : Nat) :
    (jptPathWrite s j q v).pending = s.pending ∧ (jptPathWrite s j q v).otp = s.otp := by
  unfold jptPathWrite
  constructor <;> (repeat' split) <;> (try simp) <;> (try intros) <;> (repeat' split) <;> (try simp) <;> (try intros) <;> (repeat' split) <;> (try simp_all)

@[simp ↓] theorem keep_jptFrameLock (s : State) (i : Nat) (ilas : Option Nat) (skew : Nat) :
    (jptFrameLock s i ilas skew).pending = s.pending ∧ (jptFrameLock s i ilas skew).otp = s.otp := by
  unfold jptFrameLock
  constructor <;> (repeat' split) <;> (try simp) <;> (try intros) <;> (repeat' split) <;> (try simp) <;> (try intros) <;> (repeat' split) <;> (try simp_all)

@[simp ↓] theorem keep_pathStart (j : Nat) (s : State) (q : Nat) :
    (pathStart j s q).pending = s.pending ∧ (pathStart j s q).otp = s.otp := by
  unfold pathStart
  constructor <;> (repeat' split) <;> (try simp) <;> (try intros) <;> (repeat' split) <;> (try simp) <;> (try intros) <;> (repeat' split) <;> (try simp_all)

@[simp ↓] theorem keep_jptRelease (s : State) (j : Nat) (n : Nat) (lat : Nat) :
    (jptRelease s j n lat).pending = s.pending ∧ (jptRelease s j n lat).otp = s.otp := by
  unfold jptRelease
  constructor <;> (repeat' split) <;> (try simp) <;> (try intros) <;> (repeat' split) <;> (try simp) <;> (try intros) <;> (repeat' split) <;> (try simp_all)

@[simp ↓] theorem keep_laneCount (s : State) (j : Nat) (l : Nat) (f : Fld) :
    (laneCount s j l f).pending = s.pending ∧ (laneCount s j l f).otp = s.otp := by
  unfold laneCount
  constructor <;> (repeat' split) <;> (try simp) <;> (try intros) <;> (repeat' split) <;> (try simp) <;> (try intros) <;> (repeat' split) <;> (try simp_all)

@[simp ↓] theorem keep_jptLockLoss (s : State) (j : Nat) (n : Nat) (lane : Nat) :
    (jptLockLoss s j n lane).pending = s.pending ∧ (jptLockLoss s j n lane).otp = s.otp := by
  unfold jptLockLoss
  constructor <;> (repeat' split) <;> (try simp) <;> (try intros) <;> (repeat' split) <;> (try simp) <;> (try intros) <;> (repeat' split) <;> (try simp_all)

@[simp ↓] theorem keep_jptArm (s : State) (j : Nat) :
    (jptArm s j).pending = s.pending ∧ (jptArm s j).otp = s.otp := by
  unfold jptArm
  constructor <;> (repeat' split) <;> (try simp) <;> (try intros) <;> (repeat' split) <;> (try simp) <;> (try intros) <;> (repeat' split) <;> (try simp_all)

@[simp ↓] theorem keep_jptSysref (s : State) (j : Nat) (cyc : Nat) (per : Nat) :
    (jptSysref s j cyc per).pending = s.pending ∧ (jptSysref s j cyc per).otp = s.otp := by
  unfold jptSysref
  constructor <;> (repeat' split) <;> (try simp) <;> (try intros) <;> (repeat' split) <;> (try simp) <;> (try intros) <;> (repeat' split) <;> (try simp_all)

@[simp ↓] theorem keep_rxToFifo (s : State) (j : Nat) (q : Nat) (k : Nat) (d : DWord) :
    (rxToFifo s j q k d).pending = s.pending ∧ (rxToFifo s j q k d).otp = s.otp := by
  unfold rxToFifo
  constructor <;> (repeat' split) <;> (try simp) <;> (try intros) <;> (repeat' split) <;> (try simp) <;> (try intros) <;> (repeat' split) <;> (try simp_all)

@[simp ↓] theorem keep_rxDrain (j : Nat) (q : Nat) (k : Nat) (x3 : List DWord) (x4 : State) :
    (rxDrain j q k x3 x4).pending = x4.pending ∧ (rxDrain j q k x3 x4).otp = x4.otp := by
  first
  | (fun_induction rxDrain <;> simp_all; done)
  | (fun_induction rxDrain <;> simp_all +zetaDelta; done)
  | (unfold rxDrain; constructor <;> (repeat' split) <;> (try simp) <;> (try intros) <;> (repeat' split) <;> (try simp) <;> (try intros) <;> (repeat' split) <;> (try simp_all))

@[simp ↓] theorem keep_rxPush (s0 : State) (j : Nat) (q : Nat) (k : Nat) (d : DWord) :
    (rxPush s0 j q k d).pending = s0.pending ∧ (rxPush s0 j q k d).otp = s0.otp := by
  unfold rxPush
  constructor <;> (repeat' split) <;> (try simp) <;> (try intros) <;> (repeat' split) <;> (try simp) <;> (try intros) <;> (repeat' split) <;> (try simp_all)

@[simp ↓] theorem keep_rxChan (s : State) (j : Nat) (q : Nat) (k : Nat) (w : Word) (last : Bool) :
    (rxChan s j q k w last).pending = s.pending ∧ (rxChan s j q k w last).otp = s.otp := by
  unfold rxChan
  constructor <;> (repeat' split) <;> (try simp) <;> (try intros) <;> (repeat' split) <;> (try simp) <;> (try intros) <;> (repeat' split) <;> (try simp_all)

@[simp ↓] theorem keep_laneErrs (s : State) (j : Nat) (hdr : Nat) (crc : Nat) :
    (laneErrs s j hdr crc).pending = s.pending ∧ (laneErrs s j hdr crc).otp = s.otp := by
  unfold laneErrs
  constructor <;> (repeat' split) <;> (try simp) <;> (try intros) <;> (repeat' split) <;> (try simp) <;> (try intros) <;> (repeat' split) <;> (try simp_all)

@[simp ↓] theorem keep_jptRx (s0 : State) (j : Nat) (p : Nat) (smp : List (List Nat)) (hdr : Nat) (crc : Nat) :
    (jptRx s0 j p smp hdr crc).pending = s0.pending ∧ (jptRx s0 j p smp hdr crc).otp = s0.otp := by
  unfold jptRx
  constructor <;> (repeat' split) <;> (try simp) <;> (try intros) <;> (repeat' split) <;> (try simp) <;> (try intros) <;> (repeat' split) <;> (try simp_all)

@[simp ↓] theorem keep_setTxCh (s : State) (j : Nat) (k : Nat) (c : JptCh) :
    (setTxCh s j k c).pending = s.pending ∧ (setTxCh s j k c).otp = s.otp := by
  unfold setTxCh
  constructor <;> (repeat' split) <;> (try simp) <;> (try intros) <;> (repeat' split) <;> (try simp) <;> (try intros) <;> (repeat' split) <;> (try simp_all)

@[simp ↓] theorem keep_txTake (s : State) (j : Nat) (k : Nat) (err : Code) :
    (txTake s j k err).1.pending = s.pending ∧ (txTake s j k err).1.otp = s.otp := by
  unfold txTake
  constructor <;> (repeat' split) <;> (try simp) <;> (try intros) <;> (repeat' split) <;> (try simp) <;> (try intros) <;> (repeat' split) <;> (try simp_all)

@[simp ↓] theorem keep_txFind (j : Nat) (k : Nat) (tg : Nat) (w : Nat) (err : Code) (x5 : Nat) (x6 : State) :
    (txFind j k tg w err x5 x6).1.pending = x6.pending ∧ (txFind j k tg w err x5 x6).1.otp = x6.otp := by
  first
  | (fun_induction txFind <;> simp_all; done)
  | (fun_induction txFind <;> simp_all +zetaDelta; done)
  | (unfold txFind; constructor <;> (repeat' split) <;> (try simp) <;> (try intros) <;> (repeat' split) <;> (try simp) <;> (try intros) <;> (repeat' split) <;> (try simp_all))

@[simp ↓] theorem keep_txChan (s : State) (j : Nat) (q : Nat) (k : Nat) (tg : Nat) (w : Nat) (err : Code) :
    (txChan s j q k tg w err).1.pending = s.pending ∧ (txChan s j q k tg w err).1.otp = s.otp := by
  unfold txChan
  constructor <;> (repeat' split) <;> (try simp) <;> (try intros) <;> (repeat' split) <;> (try simp) <;> (try intros) <;> (repeat' split) <;> (try simp_all)

@[simp ↓] theorem keep_jptTx (s : State) (j : Nat) (p : Nat) (e0 : Code) (e1 : Code) :
    (jptTx s j p e0 e1).pending = s.pending ∧ (jptTx s j p e0 e1).otp = s.otp := by
  unfold jptTx
  constructor <;> (repeat' split) <;> (try simp) <;> (try intros) <;> (repeat' split) <;> (try simp) <;> (try intros) <;> (repeat' split) <;> (try simp_all)

@[simp ↓] theorem keep_jptPathEdge (s : State) (j : Nat) (q : Nat) :
    (jptPathEdge s j q).pending = s.pending ∧ (jptPathEdge s j q).otp = s.otp := by
  unfold jptPathEdge
  constructor <;> (repeat' split) <;> (try simp) <;> (try intros) <;> (repeat' split) <;> (try simp) <;> (try intros) <;> (repeat' split) <;> (try simp_all)

@[simp ↓] theorem keep_jptEdge (s : State) :
    (jptEdge s).pending = s.pending ∧ (jptEdge s).otp = s.otp := by
  unfold jptEdge
  constructor <;> (repeat' split) <;> (try simp) <;> (try intros) <;> (repeat' split) <;> (try simp) <;> (try intros) <;> (repeat' split) <;> (try simp_all)

@[simp ↓] theorem keep_txDoorEdge (s : State) (j : Nat) (k : Nat) :
    (txDoorEdge s j k).pending = s.pending ∧ (txDoorEdge s j k).otp = s.otp := by
  unfold txDoorEdge
  constructor <;> (repeat' split) <;> (try simp) <;> (try intros) <;> (repeat' split) <;> (try simp) <;> (try intros) <;> (repeat' split) <;> (try simp_all)

@[simp ↓] theorem keep_txDoorsEdge (s : State) :
    (txDoorsEdge s).pending = s.pending ∧ (txDoorsEdge s).otp = s.otp := by
  unfold txDoorsEdge
  constructor <;> (repeat' split) <;> (try simp) <;> (try intros) <;> (repeat' split) <;> (try simp) <;> (try intros) <;> (repeat' split) <;> (try simp_all)

end Machine
end Sys2Proof
end

