-- ==== Sys2Proof/Laws/KeepNoc.lean ====
section
/-!
SUPPORT. What the operations of Machine/Noc.lean leave alone: the queue of waiting commands and the fuses.
-/

namespace Sys2Proof
namespace Machine

@[simp ↓] theorem keep_setLane (s : State) (k : Nat) (l : Lane) :
    (setLane s k l).pending = s.pending ∧ (setLane s k l).otp = s.otp := by
  unfold setLane
  constructor <;> (repeat' split) <;> (try simp) <;> (try intros) <;> (repeat' split) <;> (try simp) <;> (try intros) <;> (repeat' split) <;> (try simp_all)

@[simp ↓] theorem keep_queueRsp (s : State) (st : Nat) (p : Pkt) :
    (queueRsp s st p).pending = s.pending ∧ (queueRsp s st p).otp = s.otp := by
  unfold queueRsp
  constructor <;> (repeat' split) <;> (try simp) <;> (try intros) <;> (repeat' split) <;> (try simp) <;> (try intros) <;> (repeat' split) <;> (try simp_all)

@[simp ↓] theorem keep_checkWords (s : State) (st : Nat) (x2 : List (Code × Code)) :
    (checkWords s st x2).1.pending = s.pending ∧ (checkWords s st x2).1.otp = s.otp := by
  induction x2 generalizing s with
  | nil => simp [checkWords]
  | cons a r ih =>
    obtain ⟨c, e⟩ := a
    have h := keep_eccCheck s (rtrSrc st) (rtrChk st 0) (c ^^^ e)
    rcases hq : eccCheck s (rtrSrc st) (rtrChk st 0) (c ^^^ e) with ⟨s1, k⟩
    rw [hq] at h
    have h2 := ih s1
    rcases hr : checkWords s1 st r with ⟨s2, l, ue, ce⟩
    rw [hr] at h2
    simp only [checkWords, hq, hr]
    split <;> simp_all

@[simp ↓] theorem keep_pktEvent (s : State) (src : Nat) (code : Nat) (p : Pkt) (st : Nat) :
    (pktEvent s src code p st).pending = s.pending ∧ (pktEvent s src code p st).otp = s.otp := by
  unfold pktEvent
  constructor <;> (repeat' split) <;> (try simp) <;> (try intros) <;> (repeat' split) <;> (try simp) <;> (try intros) <;> (repeat' split) <;> (try simp_all)

@[simp ↓] theorem keep_headDrop (s : State) (st : Nat) (d : List Code) :
    (headDrop s st d).pending = s.pending ∧ (headDrop s st d).otp = s.otp := by
  unfold headDrop
  constructor <;> (repeat' split) <;> (try simp) <;> (try intros) <;> (repeat' split) <;> (try simp) <;> (try intros) <;> (repeat' split) <;> (try simp_all)

@[simp ↓] theorem keep_flitLand (s : State) (st : Nat) (bad : Bool) (ce : Bool) :
    (flitLand s st bad ce).pending = s.pending ∧ (flitLand s st bad ce).otp = s.otp := by
  unfold flitLand
  constructor <;> (repeat' split) <;> (try simp) <;> (try intros) <;> (repeat' split) <;> (try simp) <;> (try intros) <;> (repeat' split) <;> (try simp_all)

@[simp ↓] theorem keep_flitArrive (s : State) (k : Nat) (st : Nat) (f : Flit) (errs : List Code) (sbErr : Nat) :
    (flitArrive s k st f errs sbErr).pending = s.pending ∧ (flitArrive s k st f errs sbErr).otp = s.otp := by
  have h := keep_checkWords s st (f.data.zip (errs ++ [0, 0, 0, 0]))
  unfold flitArrive
  generalize checkWords s st (f.data.zip (errs ++ [0, 0, 0, 0])) = q at h ⊢
  obtain ⟨s1, d, ue, ce⟩ := q
  dsimp only at h ⊢
  split
  · simp
  · split <;> simp [h]

@[simp ↓] theorem keep_flitForward (s : State) (net : Nat) (st : Nat) (out : Nat) (errs : List Code) (sbErr : Nat) :
    (flitForward s net st out errs sbErr).pending = s.pending ∧ (flitForward s net st out errs sbErr).otp = s.otp := by
  unfold flitForward
  dsimp only
  split
  · simp
  · split <;> simp

@[simp ↓] theorem keep_escapeEntry (s : State) (net : Nat) (st : Nat) (port : Nat) :
    (escapeEntry s net st port).pending = s.pending ∧ (escapeEntry s net st port).otp = s.otp := by
  unfold escapeEntry
  constructor <;> (repeat' split) <;> (try simp) <;> (try intros) <;> (repeat' split) <;> (try simp) <;> (try intros) <;> (repeat' split) <;> (try simp_all)

@[simp ↓] theorem keep_sumLinks (s : State) :
    (sumLinks s).pending = s.pending ∧ (sumLinks s).otp = s.otp := by
  unfold sumLinks
  constructor <;> (repeat' split) <;> (try simp) <;> (try intros) <;> (repeat' split) <;> (try simp) <;> (try intros) <;> (repeat' split) <;> (try simp_all)

@[simp ↓] theorem keep_reroute (s : State) (st : Nat) :
    (reroute s st).pending = s.pending ∧ (reroute s st).otp = s.otp := by
  unfold reroute
  constructor <;> (repeat' split) <;> (try simp) <;> (try intros) <;> (repeat' split) <;> (try simp) <;> (try intros) <;> (repeat' split) <;> (try simp_all)

@[simp ↓] theorem keep_ringName (s : State) (st : Nat) (b : Nat) :
    (ringName s st b).pending = s.pending ∧ (ringName s st b).otp = s.otp := by
  unfold ringName
  constructor <;> (repeat' split) <;> (try simp) <;> (try intros) <;> (repeat' split) <;> (try simp) <;> (try intros) <;> (repeat' split) <;> (try simp_all)

@[simp ↓] theorem keep_endTest (s : State) (st : Nat) :
    (endTest s st).pending = s.pending ∧ (endTest s st).otp = s.otp := by
  unfold endTest
  constructor <;> (repeat' split) <;> (try simp) <;> (try intros) <;> (repeat' split) <;> (try simp) <;> (try intros) <;> (repeat' split) <;> (try simp_all)

@[simp ↓] theorem keep_rtrMode (s : State) (st : Nat) (mode : Nat) :
    (rtrMode s st mode).pending = s.pending ∧ (rtrMode s st mode).otp = s.otp := by
  unfold rtrMode
  constructor <;> (repeat' split) <;> (try simp) <;> (try intros) <;> (repeat' split) <;> (try simp) <;> (try intros) <;> (repeat' split) <;> (try simp_all)

@[simp ↓] theorem keep_bypassClose (s : State) (st : Nat) :
    (bypassClose s st).pending = s.pending ∧ (bypassClose s st).otp = s.otp := by
  unfold bypassClose
  constructor <;> (repeat' split) <;> (try simp) <;> (try intros) <;> (repeat' split) <;> (try simp) <;> (try intros) <;> (repeat' split) <;> (try simp_all)

@[simp ↓] theorem keep_rtrDropAll (s : State) (st : Nat) :
    (rtrDropAll s st).pending = s.pending ∧ (rtrDropAll s st).otp = s.otp := by
  unfold rtrDropAll
  exact keep_foldl _ _ s (fun s i => by dsimp only; split <;> (try split) <;> simp)

@[simp ↓] theorem keep_rtrFault (s : State) (st : Nat) :
    (rtrFault s st).pending = s.pending ∧ (rtrFault s st).otp = s.otp := by
  unfold rtrFault
  constructor <;> (repeat' split) <;> (try simp) <;> (try intros) <;> (repeat' split) <;> (try simp) <;> (try intros) <;> (repeat' split) <;> (try simp_all)

@[simp ↓] theorem keep_leavingDone (s : State) (st : Nat) :
    (leavingDone s st).pending = s.pending ∧ (leavingDone s st).otp = s.otp := by
  unfold leavingDone
  constructor <;> (repeat' split) <;> (try simp) <;> (try intros) <;> (repeat' split) <;> (try simp) <;> (try intros) <;> (repeat' split) <;> (try simp_all)

@[simp ↓] theorem keep_nocCfg (s : State) (reorder : Nat) (drain : Nat) (req : Nat) :
    (nocCfg s reorder drain req).pending = s.pending ∧ (nocCfg s reorder drain req).otp = s.otp := by
  unfold nocCfg
  constructor <;> (repeat' split) <;> (try simp) <;> (try intros) <;> (repeat' split) <;> (try simp) <;> (try intros) <;> (repeat' split) <;> (try simp_all)

end Machine
end Sys2Proof
end

