-- ==== Sys2Proof/Laws/KeepSched.lean ====
section
/-!
SUPPORT. What the operations of Machine/Sched.lean leave alone: the queue of waiting commands and the fuses.
-/

namespace Sys2Proof
namespace Machine

@[simp ↓] theorem keep_setThr (s : State) (t : Nat) (x : Thr) :
    (setThr s t x).pending = s.pending ∧ (setThr s t x).otp = s.otp := by
  unfold setThr
  constructor <;> (repeat' split) <;> (try simp) <;> (try intros) <;> (repeat' split) <;> (try simp) <;> (try intros) <;> (repeat' split) <;> (try simp_all)

@[simp ↓] theorem keep_setService (s : State) (k : Nat) (t : Option Nat) :
    (setService s k t).pending = s.pending ∧ (setService s k t).otp = s.otp := by
  unfold setService
  constructor <;> (repeat' split) <;> (try simp) <;> (try intros) <;> (repeat' split) <;> (try simp) <;> (try intros) <;> (repeat' split) <;> (try simp_all)

@[simp ↓] theorem keep_schDescSet (s : State) (t : Nat) (v : Nat) :
    (schDescSet s t v).pending = s.pending ∧ (schDescSet s t v).otp = s.otp := by
  unfold schDescSet
  constructor <;> (repeat' split) <;> (try simp) <;> (try intros) <;> (repeat' split) <;> (try simp) <;> (try intros) <;> (repeat' split) <;> (try simp_all)

@[simp ↓] theorem keep_schDescWrite (s : State) (t : Nat) (k : Nat) (w : Word) :
    (schDescWrite s t k w).pending = s.pending ∧ (schDescWrite s t k w).otp = s.otp := by
  unfold schDescWrite
  constructor <;> (repeat' split) <;> (try simp) <;> (try intros) <;> (repeat' split) <;> (try simp) <;> (try intros) <;> (repeat' split) <;> (try simp_all)

@[simp ↓] theorem keep_schRelease (s : State) (t : Nat) (tick : Nat) (ofs : Nat) (early : Bool) :
    (schRelease s t tick ofs early).pending = s.pending ∧ (schRelease s t tick ofs early).otp = s.otp := by
  unfold schRelease
  constructor <;> (repeat' split) <;> (try simp) <;> (try intros) <;> (repeat' split) <;> (try simp) <;> (try intros) <;> (repeat' split) <;> (try simp_all)

@[simp ↓] theorem keep_dlFull (s : State) (t : Nat) :
    (dlFull s t).pending = s.pending ∧ (dlFull s t).otp = s.otp := by
  unfold dlFull
  constructor <;> (repeat' split) <;> (try simp) <;> (try intros) <;> (repeat' split) <;> (try simp) <;> (try intros) <;> (repeat' split) <;> (try simp_all)

@[simp ↓] theorem keep_schDelay (s : State) (t : Nat) (due : Nat) :
    (schDelay s t due).pending = s.pending ∧ (schDelay s t due).otp = s.otp := by
  unfold schDelay
  constructor <;> (repeat' split) <;> (try simp) <;> (try intros) <;> (repeat' split) <;> (try simp) <;> (try intros) <;> (repeat' split) <;> (try simp_all)

@[simp ↓] theorem keep_schPostRelease (s : State) (t : Nat) :
    (schPostRelease s t).pending = s.pending ∧ (schPostRelease s t).otp = s.otp := by
  unfold schPostRelease
  constructor <;> (repeat' split) <;> (try simp) <;> (try intros) <;> (repeat' split) <;> (try simp) <;> (try intros) <;> (repeat' split) <;> (try simp_all)

@[simp ↓] theorem keep_schPreempt (s : State) :
    (schPreempt s).pending = s.pending ∧ (schPreempt s).otp = s.otp := by
  unfold schPreempt
  constructor <;> (repeat' split) <;> (try simp) <;> (try intros) <;> (repeat' split) <;> (try simp) <;> (try intros) <;> (repeat' split) <;> (try simp_all)

@[simp ↓] theorem keep_schPost (s : State) (t : Nat) :
    (schPost s t).pending = s.pending ∧ (schPost s t).otp = s.otp := by
  unfold schPost
  constructor <;> (repeat' split) <;> (try simp) <;> (try intros) <;> (repeat' split) <;> (try simp) <;> (try intros) <;> (repeat' split) <;> (try simp_all)

@[simp ↓] theorem keep_eventLinePost (s : State) (e : Nat) :
    (eventLinePost s e).pending = s.pending ∧ (eventLinePost s e).otp = s.otp := by
  unfold eventLinePost
  constructor <;> (repeat' split) <;> (try simp) <;> (try intros) <;> (repeat' split) <;> (try simp) <;> (try intros) <;> (repeat' split) <;> (try simp_all)

@[simp ↓] theorem keep_tickListRelease (s : State) :
    (tickListRelease s).pending = s.pending ∧ (tickListRelease s).otp = s.otp := by
  unfold tickListRelease
  constructor <;> (repeat' split) <;> (try simp) <;> (try intros) <;> (repeat' split) <;> (try simp) <;> (try intros) <;> (repeat' split) <;> (try simp_all)

@[simp ↓] theorem keep_cycleListRelease (s : State) :
    (cycleListRelease s).pending = s.pending ∧ (cycleListRelease s).otp = s.otp := by
  unfold cycleListRelease
  constructor <;> (repeat' split) <;> (try simp) <;> (try intros) <;> (repeat' split) <;> (try simp) <;> (try intros) <;> (repeat' split) <;> (try simp_all)

@[simp ↓] theorem keep_schRan (s : State) (t : Nat) (cc : Nat) :
    (schRan s t cc).pending = s.pending ∧ (schRan s t cc).otp = s.otp := by
  unfold schRan
  constructor <;> (repeat' split) <;> (try simp) <;> (try intros) <;> (repeat' split) <;> (try simp) <;> (try intros) <;> (repeat' split) <;> (try simp_all)

@[simp ↓] theorem keep_flowFree (s : State) (t : Nat) :
    (flowFree s t).pending = s.pending ∧ (flowFree s t).otp = s.otp := by
  unfold flowFree
  constructor <;> (repeat' split) <;> (try simp) <;> (try intros) <;> (repeat' split) <;> (try simp) <;> (try intros) <;> (repeat' split) <;> (try simp_all)

@[simp ↓] theorem keep_thrFault (s : State) (t : Nat) :
    (thrFault s t).pending = s.pending ∧ (thrFault s t).otp = s.otp := by
  unfold thrFault
  constructor <;> (repeat' split) <;> (try simp) <;> (try intros) <;> (repeat' split) <;> (try simp) <;> (try intros) <;> (repeat' split) <;> (try simp_all)

@[simp ↓] theorem keep_schNext (s : State) (t : Nat) :
    (schNext s t).pending = s.pending ∧ (schNext s t).otp = s.otp := by
  unfold schNext
  constructor <;> (repeat' split) <;> (try simp) <;> (try intros) <;> (repeat' split) <;> (try simp) <;> (try intros) <;> (repeat' split) <;> (try simp_all)

@[simp ↓] theorem keep_schLeave (s : State) (k : Nat) (mode : Nat) (t : Nat) (delay : Nat) (cc : Nat) :
    (schLeave s k mode t delay cc).pending = s.pending ∧ (schLeave s k mode t delay cc).otp = s.otp := by
  unfold schLeave
  constructor <;> (repeat' split) <;> (try simp) <;> (try intros) <;> (repeat' split) <;> (try simp) <;> (try intros) <;> (repeat' split) <;> (try simp_all)

@[simp ↓] theorem keep_schDone (s : State) (k : Nat) (mode : Nat) (t : Nat) (delay : Nat) (cc : Nat) :
    (schDone s k mode t delay cc).pending = s.pending ∧ (schDone s k mode t delay cc).otp = s.otp := by
  unfold schDone
  constructor <;> (repeat' split) <;> (try simp) <;> (try intros) <;> (repeat' split) <;> (try simp) <;> (try intros) <;> (repeat' split) <;> (try simp_all)

@[simp ↓] theorem keep_schTake (s : State) (k : Nat) (cc : Nat) :
    (schTake s k cc).pending = s.pending ∧ (schTake s k cc).otp = s.otp := by
  unfold schTake
  constructor <;> (repeat' split) <;> (try simp) <;> (try intros) <;> (repeat' split) <;> (try simp) <;> (try intros) <;> (repeat' split) <;> (try simp_all)

@[simp ↓] theorem keep_schGive (s : State) (k : Nat) (t : Nat) :
    (schGive s k t).pending = s.pending ∧ (schGive s k t).otp = s.otp := by
  unfold schGive
  constructor <;> (repeat' split) <;> (try simp) <;> (try intros) <;> (repeat' split) <;> (try simp) <;> (try intros) <;> (repeat' split) <;> (try simp_all)

@[simp ↓] theorem keep_threadDispatch (s : State) :
    (threadDispatch s).pending = s.pending ∧ (threadDispatch s).otp = s.otp := by
  unfold threadDispatch
  constructor <;> (repeat' split) <;> (try simp) <;> (try intros) <;> (repeat' split) <;> (try simp) <;> (try intros) <;> (repeat' split) <;> (try simp_all)

@[simp ↓] theorem keep_deadlineMiss (s : State) (t : Nat) :
    (deadlineMiss s t).pending = s.pending ∧ (deadlineMiss s t).otp = s.otp := by
  unfold deadlineMiss
  constructor <;> (repeat' split) <;> (try simp) <;> (try intros) <;> (repeat' split) <;> (try simp) <;> (try intros) <;> (repeat' split) <;> (try simp_all)

@[simp ↓] theorem keep_thrRecover (s : State) (t : Nat) :
    (thrRecover s t).pending = s.pending ∧ (thrRecover s t).otp = s.otp := by
  unfold thrRecover
  constructor <;> (repeat' split) <;> (try simp) <;> (try intros) <;> (repeat' split) <;> (try simp) <;> (try intros) <;> (repeat' split) <;> (try simp_all)

@[simp ↓] theorem keep_lockstep (s : State) (q : Nat) :
    (lockstep s q).pending = s.pending ∧ (lockstep s q).otp = s.otp := by
  unfold lockstep
  constructor <;> (repeat' split) <;> (try simp) <;> (try intros) <;> (repeat' split) <;> (try simp) <;> (try intros) <;> (repeat' split) <;> (try simp_all)

@[simp ↓] theorem keep_sramPut (s : State) (i : Nat) (c : Code) :
    (sramPut s i c).pending = s.pending ∧ (sramPut s i c).otp = s.otp := by
  unfold sramPut
  constructor <;> (repeat' split) <;> (try simp) <;> (try intros) <;> (repeat' split) <;> (try simp) <;> (try intros) <;> (repeat' split) <;> (try simp_all)

@[simp ↓] theorem keep_sramRead (s : State) (i : Nat) (access : Nat) (err : Code) :
    (sramRead s i access err).1.pending = s.pending ∧ (sramRead s i access err).1.otp = s.otp := by
  unfold sramRead
  constructor <;> (repeat' split) <;> (try simp) <;> (try intros) <;> (repeat' split) <;> (try simp) <;> (try intros) <;> (repeat' split) <;> (try simp_all)

@[simp ↓] theorem keep_sramPatrol (s : State) (err : Code) :
    (sramPatrol s err).pending = s.pending ∧ (sramPatrol s err).otp = s.otp := by
  unfold sramPatrol
  constructor <;> (repeat' split) <;> (try simp) <;> (try intros) <;> (repeat' split) <;> (try simp) <;> (try intros) <;> (repeat' split) <;> (try simp_all)

end Machine
end Sys2Proof
end

