-- ==== Sys2Proof/Laws/KeepAdmit.lean ====
section
/-!
SUPPORT. What the operations of Machine/Admit.lean leave alone: the queue of waiting commands and the fuses.
-/

namespace Sys2Proof
namespace Machine

@[simp ↓] theorem keep_putSlots (p : Nat) (plan : Nat) (x2 : Nat) (x3 : Nat) (x4 : List (Nat × Nat)) (x5 : State) :
    (putSlots p plan x2 x3 x4 x5).pending = x5.pending ∧ (putSlots p plan x2 x3 x4 x5).otp = x5.otp := by
  first
  | (fun_induction putSlots <;> simp_all; done)
  | (fun_induction putSlots <;> simp_all +zetaDelta; done)
  | (unfold putSlots; constructor <;> (repeat' split) <;> (try simp) <;> (try intros) <;> (repeat' split) <;> (try simp) <;> (try intros) <;> (repeat' split) <;> (try simp_all))

@[simp ↓] theorem keep_setAdm (s : State) (p : Nat) (plan : Nat) (b : Bool) :
    (setAdm s p plan b).pending = s.pending ∧ (setAdm s p plan b).otp = s.otp := by
  unfold setAdm
  constructor <;> (repeat' split) <;> (try simp) <;> (try intros) <;> (repeat' split) <;> (try simp) <;> (try intros) <;> (repeat' split) <;> (try simp_all)

@[simp ↓] theorem keep_putPlan (s : State) (p : Nat) (plan : Nat) (i : PlanImg) :
    (putPlan s p plan i).pending = s.pending ∧ (putPlan s p plan i).otp = s.otp := by
  unfold putPlan
  constructor <;> (repeat' split) <;> (try simp) <;> (try intros) <;> (repeat' split) <;> (try simp) <;> (try intros) <;> (repeat' split) <;> (try simp_all)

@[simp ↓] theorem keep_putBook (s : State) (st : Nat) (k : Nat) (v : Nat) :
    (putBook s st k v).pending = s.pending ∧ (putBook s st k v).otp = s.otp := by
  unfold putBook
  constructor <;> (repeat' split) <;> (try simp) <;> (try intros) <;> (repeat' split) <;> (try simp) <;> (try intros) <;> (repeat' split) <;> (try simp_all)

@[simp ↓] theorem keep_putBooks (st : Nat) (x1 : Nat) (x2 : Nat) (x3 : List Nat) (x4 : State) :
    (putBooks st x1 x2 x3 x4).pending = x4.pending ∧ (putBooks st x1 x2 x3 x4).otp = x4.otp := by
  first
  | (fun_induction putBooks <;> simp_all; done)
  | (fun_induction putBooks <;> simp_all +zetaDelta; done)
  | (unfold putBooks; constructor <;> (repeat' split) <;> (try simp) <;> (try intros) <;> (repeat' split) <;> (try simp) <;> (try intros) <;> (repeat' split) <;> (try simp_all))

@[simp ↓] theorem keep_putFifos (p : Nat) (x1 : Nat) (x2 : Nat) (x3 : List Nat) (x4 : State) :
    (putFifos p x1 x2 x3 x4).pending = x4.pending ∧ (putFifos p x1 x2 x3 x4).otp = x4.otp := by
  first
  | (fun_induction putFifos <;> simp_all; done)
  | (fun_induction putFifos <;> simp_all +zetaDelta; done)
  | (unfold putFifos; constructor <;> (repeat' split) <;> (try simp) <;> (try intros) <;> (repeat' split) <;> (try simp) <;> (try intros) <;> (repeat' split) <;> (try simp_all))

@[simp ↓] theorem keep_putDoorRegs (s : State) (p : Nat) (d : DoorImg) :
    (putDoorRegs s p d).pending = s.pending ∧ (putDoorRegs s p d).otp = s.otp := by
  unfold putDoorRegs
  constructor <;> (repeat' split) <;> (try simp) <;> (try intros) <;> (repeat' split) <;> (try simp) <;> (try intros) <;> (repeat' split) <;> (try simp_all)

@[simp ↓] theorem keep_planAdmit (s : State) (p : Nat) (plan : Nat) :
    (planAdmit s p plan).pending = s.pending ∧ (planAdmit s p plan).otp = s.otp := by
  unfold planAdmit
  constructor <;> (repeat' split) <;> (try simp) <;> (try intros) <;> (repeat' split) <;> (try simp) <;> (try intros) <;> (repeat' split) <;> (try simp_all)

end Machine
end Sys2Proof
end

