-- ==== Sys2Proof/Laws/KeepGddr.lean ====
section
/-!
SUPPORT. What the operations of Machine/Gddr.lean leave alone: the queue of waiting commands and the fuses.
-/

namespace Sys2Proof
namespace Machine

@[simp ↓] theorem keep_setGdr (s : State) (g : GdrSt) :
    (setGdr s g).pending = s.pending ∧ (setGdr s g).otp = s.otp := by
  unfold setGdr
  constructor <;> (repeat' split) <;> (try simp) <;> (try intros) <;> (repeat' split) <;> (try simp) <;> (try intros) <;> (repeat' split) <;> (try simp_all)

@[simp ↓] theorem keep_gPut (s : State) (line : Nat) (d : Nat) (w : Nat) (c : Code) :
    (gPut s line d w c).pending = s.pending ∧ (gPut s line d w c).otp = s.otp := by
  unfold gPut
  constructor <;> (repeat' split) <;> (try simp) <;> (try intros) <;> (repeat' split) <;> (try simp) <;> (try intros) <;> (repeat' split) <;> (try simp_all)

@[simp ↓] theorem keep_gUpset (s : State) (line : Nat) (l : List (Nat × Code)) :
    (gUpset s line l).pending = s.pending ∧ (gUpset s line l).otp = s.otp := by
  unfold gUpset
  constructor <;> (repeat' split) <;> (try simp) <;> (try intros) <;> (repeat' split) <;> (try simp) <;> (try intros) <;> (repeat' split) <;> (try simp_all)

@[simp ↓] theorem keep_memEvent (s : State) :
    (memEvent s).pending = s.pending ∧ (memEvent s).otp = s.otp := by
  unfold memEvent
  constructor <;> (repeat' split) <;> (try simp) <;> (try intros) <;> (repeat' split) <;> (try simp) <;> (try intros) <;> (repeat' split) <;> (try simp_all)

@[simp ↓] theorem keep_gLast (s : State) (ue : Bool) (dev : Nat) (kind : Nat) (line : Nat) :
    (gLast s ue dev kind line).pending = s.pending ∧ (gLast s ue dev kind line).otp = s.otp := by
  unfold gLast
  constructor <;> (repeat' split) <;> (try simp) <;> (try intros) <;> (repeat' split) <;> (try simp) <;> (try intros) <;> (repeat' split) <;> (try simp_all)

@[simp ↓] theorem keep_gDeclare (s : State) (d : Nat) :
    (gDeclare s d).pending = s.pending ∧ (gDeclare s d).otp = s.otp := by
  unfold gDeclare
  constructor <;> (repeat' split) <;> (try simp) <;> (try intros) <;> (repeat' split) <;> (try simp) <;> (try intros) <;> (repeat' split) <;> (try simp_all)

@[simp ↓] theorem keep_gPiece (s : State) (line : Nat) (d : Nat) (edc : Nat) :
    (gPiece s line d edc).1.pending = s.pending ∧ (gPiece s line d edc).1.otp = s.otp := by
  unfold gPiece
  constructor <;> (repeat' split) <;> (try simp) <;> (try intros) <;> (repeat' split) <;> (try simp) <;> (try intros) <;> (repeat' split) <;> (try simp_all)

@[simp ↓] theorem keep_gRecon (s : State) (line : Nat) (d : Nat) :
    (gRecon s line d).pending = s.pending ∧ (gRecon s line d).otp = s.otp := by
  unfold gRecon
  constructor <;> (repeat' split) <;> (try simp) <;> (try intros) <;> (repeat' split) <;> (try simp) <;> (try intros) <;> (repeat' split) <;> (try simp_all)

@[simp ↓] theorem keep_gFixWord (line : Nat) (d : Nat) (s : State) (e : Verdict × Nat) :
    (gFixWord line d s e).pending = s.pending ∧ (gFixWord line d s e).otp = s.otp := by
  unfold gFixWord
  constructor <;> (repeat' split) <;> (try simp) <;> (try intros) <;> (repeat' split) <;> (try simp) <;> (try intros) <;> (repeat' split) <;> (try simp_all)

@[simp ↓] theorem keep_gFix (s : State) (line : Nat) (d : Nat) (p : GPiece) :
    (gFix s line d p).pending = s.pending ∧ (gFix s line d p).otp = s.otp := by
  unfold gFix
  constructor <;> (repeat' split) <;> (try simp) <;> (try intros) <;> (repeat' split) <;> (try simp) <;> (try intros) <;> (repeat' split) <;> (try simp_all)

@[simp ↓] theorem keep_gRead (s0 : State) (line : Nat) (up : List (Nat × Code)) (edc : List Nat) (all : Bool) (access : Nat) :
    (gRead s0 line up edc all access).1.pending = s0.pending ∧ (gRead s0 line up edc all access).1.otp = s0.otp := by
  unfold gRead
  extract_lets s1 f rd q4 need q ps piece badDev bads dataBads vw dat others rebuilt one word words s2 inj coinc ue ce mism d s4 s5 s3
  have hrd : ∀ q d, (rd q d).1.pending = q.1.pending ∧ (rd q d).1.otp = q.1.otp := by
    intro q d
    simp only [rd]
    split <;> simp
  have h4 : q4.1.pending = s0.pending ∧ q4.1.otp = s0.otp := by
    have h := keep_foldl_fst rd [0, 1, 2, 3] (s1, []) hrd
    exact ⟨h.1.trans (by simp [s1]), h.2.trans (by simp [s1])⟩
  have hq : q.1.pending = s0.pending ∧ q.1.otp = s0.otp := by
    simp only [q]
    split
    · exact ⟨(hrd q4 4).1.trans h4.1, (hrd q4 4).2.trans h4.2⟩
    · exact h4
  have h2 : s2.pending = s0.pending ∧ s2.otp = s0.otp := by
    have h := keep_foldl (fun s d => if f = some d then s else gFix s line d (piece d)) [0, 1, 2, 3, 4] q.1
      (by intro s d; split <;> simp)
    exact ⟨h.1.trans hq.1, h.2.trans hq.2⟩
  have h4' : s4.pending = s0.pending ∧ s4.otp = s0.otp := by
    have h := keep_foldl (fun s w => if isBad (vw d w) then gPut s line d w (eccEnc (rebuilt d w)) else s) [0, 1, 2, 3] s2
      (by intro s w; split <;> simp)
    exact ⟨h.1.trans h2.1, h.2.trans h2.2⟩
  have h5 : s3.pending = s0.pending ∧ s3.otp = s0.otp := by
    simp only [s3]
    (repeat' split) <;> simp [h2, s5, h4']
  exact h5

@[simp ↓] theorem keep_gWrite (s0 : State) (line : Nat) (ws : List (Word × Bool)) (ds : List Nat) (edc : List Nat) :
    (gWrite s0 line ws ds edc).pending = s0.pending ∧ (gWrite s0 line ws ds edc).otp = s0.otp := by
  unfold gWrite
  constructor <;> (repeat' split) <;> (try simp) <;> (try intros) <;> (repeat' split) <;> (try simp) <;> (try intros) <;> (repeat' split) <;> (try simp_all)

@[simp ↓] theorem keep_gWriteSpan (s : State) (line : Nat) (off : Nat) (b : List (Byte × Bool)) (up : List (Nat × Code)) (edc : List Nat) :
    (gWriteSpan s line off b up edc).pending = s.pending ∧ (gWriteSpan s line off b up edc).otp = s.otp := by
  unfold gWriteSpan
  constructor <;> (repeat' split) <;> (try simp) <;> (try intros) <;> (repeat' split) <;> (try simp) <;> (try intros) <;> (repeat' split) <;> (try simp_all)

@[simp ↓] theorem keep_gReadBytes (x0 : Nat) (x1 : Nat) (x2 : Nat) (x3 : State) :
    (gReadBytes x0 x1 x2 x3).1.pending = x3.pending ∧ (gReadBytes x0 x1 x2 x3).1.otp = x3.otp := by
  fun_induction gReadBytes with
  | case1 => simp
  | case2 => simp_all
  | case3 fuel a n s h r k q ih => exact ⟨ih.1.trans (by simp [r]), ih.2.trans (by simp [r])⟩

@[simp ↓] theorem keep_gWriteBytes (x0 : Nat) (x1 : Nat) (x2 : List (Byte × Bool)) (x3 : State) :
    (gWriteBytes x0 x1 x2 x3).pending = x3.pending ∧ (gWriteBytes x0 x1 x2 x3).otp = x3.otp := by
  fun_induction gWriteBytes <;> simp_all

@[simp ↓] theorem keep_gRebuild (s : State) :
    (gRebuild s).pending = s.pending ∧ (gRebuild s).otp = s.otp := by
  unfold gRebuild
  constructor <;> (repeat' split) <;> (try simp) <;> (try intros) <;> (repeat' split) <;> (try simp) <;> (try intros) <;> (repeat' split) <;> (try simp_all)

@[simp ↓] theorem keep_gRebuildLine (d : Nat) (s : State) (line : Nat) :
    (gRebuildLine d s line).pending = s.pending ∧ (gRebuildLine d s line).otp = s.otp := by
  unfold gRebuildLine
  constructor <;> (repeat' split) <;> (try simp) <;> (try intros) <;> (repeat' split) <;> (try simp) <;> (try intros) <;> (repeat' split) <;> (try simp_all)

@[simp ↓] theorem keep_gRebuildDone (s : State) :
    (gRebuildDone s).pending = s.pending ∧ (gRebuildDone s).otp = s.otp := by
  unfold gRebuildDone
  constructor <;> (repeat' split) <;> (try simp) <;> (try intros) <;> (repeat' split) <;> (try simp) <;> (try intros) <;> (repeat' split) <;> (try simp_all)

@[simp ↓] theorem keep_gCopyWord (d : Nat) (line : Nat) (s : State) (w : Nat) :
    (gCopyWord d line s w).pending = s.pending ∧ (gCopyWord d line s w).otp = s.otp := by
  delta gCopyWord
  cases eccJudge (gCode s line d w) with
  | fixed x => exact keep_gPut ..
  | bad =>
    dsimp only
    split
    · exact keep_gPut ..
    · exact ⟨rfl, rfl⟩
  | _ => exact ⟨rfl, rfl⟩

@[simp ↓] theorem keep_gCopyLine (d : Nat) (s : State) (line : Nat) :
    (gCopyLine d s line).pending = s.pending ∧ (gCopyLine d s line).otp = s.otp := by
  unfold gCopyLine
  constructor <;> (repeat' split) <;> (try simp) <;> (try intros) <;> (repeat' split) <;> (try simp) <;> (try intros) <;> (repeat' split) <;> (try simp_all)

@[simp ↓] theorem keep_gSpare (s : State) :
    (gSpare s).pending = s.pending ∧ (gSpare s).otp = s.otp := by
  unfold gSpare
  constructor <;> (repeat' split) <;> (try simp) <;> (try intros) <;> (repeat' split) <;> (try simp) <;> (try intros) <;> (repeat' split) <;> (try simp_all)

@[simp ↓] theorem keep_gPatrol (s0 : State) (up : List (Nat × Code)) (edc : List Nat) :
    (gPatrol s0 up edc).pending = s0.pending ∧ (gPatrol s0 up edc).otp = s0.otp := by
  unfold gPatrol
  split
  · simp
  · extract_lets line next r g s1 ws s2 s3
    have h1 : s1.pending = s0.pending ∧ s1.otp = s0.otp := by simp [s1, r]
    have h2 : s2.pending = s0.pending ∧ s2.otp = s0.otp := by simp [s2, h1]
    have h3 : s3.pending = s0.pending ∧ s3.otp = s0.otp := by
      have h := keep_foldl (fun s w => gPut s line 4 w (eccPoison (eccData (gCode s line 4 w)))) [0, 1, 2, 3] s2
        (by intro s w; simp)
      exact ⟨h.1.trans h2.1, h.2.trans h2.2⟩
    split <;> simp [h1, h3]

end Machine
end Sys2Proof
end

