-- ==== Sys2Proof/Laws/KeepQm.lean ====
section
/-!
SUPPORT. What the operations of Machine/Qm.lean leave alone: the queue of waiting commands and the fuses.
-/

namespace Sys2Proof
namespace Machine

@[simp ↓] theorem keep_setFlow (s : State) (f : Nat) (x : Flow) :
    (setFlow s f x).pending = s.pending ∧ (setFlow s f x).otp = s.otp := by
  unfold setFlow
  constructor <;> (repeat' split) <;> (try simp) <;> (try intros) <;> (repeat' split) <;> (try simp) <;> (try intros) <;> (repeat' split) <;> (try simp_all)

@[simp ↓] theorem keep_setQLink (s : State) (l : Nat) (x : QLink) :
    (setQLink s l x).pending = s.pending ∧ (setQLink s l x).otp = s.otp := by
  unfold setQLink
  constructor <;> (repeat' split) <;> (try simp) <;> (try intros) <;> (repeat' split) <;> (try simp) <;> (try intros) <;> (repeat' split) <;> (try simp_all)

@[simp ↓] theorem keep_qmDrop (s : State) (f : Nat) (reason : Nat) (n : Nat) (tenant : Nat) (counted : Bool) :
    (qmDrop s f reason n tenant counted).pending = s.pending ∧ (qmDrop s f reason n tenant counted).otp = s.otp := by
  unfold qmDrop
  constructor <;> (repeat' split) <;> (try simp) <;> (try intros) <;> (repeat' split) <;> (try simp) <;> (try intros) <;> (repeat' split) <;> (try simp_all)

@[simp ↓] theorem keep_poolGive (s : State) (n : Nat) :
    (poolGive s n).pending = s.pending ∧ (poolGive s n).otp = s.otp := by
  unfold poolGive
  constructor <;> (repeat' split) <;> (try simp) <;> (try intros) <;> (repeat' split) <;> (try simp) <;> (try intros) <;> (repeat' split) <;> (try simp_all)

@[simp ↓] theorem keep_qmPop (s : State) (f : Nat) :
    (qmPop s f).pending = s.pending ∧ (qmPop s f).otp = s.otp := by
  unfold qmPop
  constructor <;> (repeat' split) <;> (try simp) <;> (try intros) <;> (repeat' split) <;> (try simp) <;> (try intros) <;> (repeat' split) <;> (try simp_all)

@[simp ↓] theorem keep_qmDropHead (s : State) (f : Nat) (reason : Nat) :
    (qmDropHead s f reason).pending = s.pending ∧ (qmDropHead s f reason).otp = s.otp := by
  unfold qmDropHead
  constructor <;> (repeat' split) <;> (try simp) <;> (try intros) <;> (repeat' split) <;> (try simp) <;> (try intros) <;> (repeat' split) <;> (try simp_all)

@[simp ↓] theorem keep_qmFlush (f : Nat) (x1 : Nat) (x2 : State) :
    (qmFlush f x1 x2).pending = x2.pending ∧ (qmFlush f x1 x2).otp = x2.otp := by
  first
  | (fun_induction qmFlush <;> simp_all; done)
  | (fun_induction qmFlush <;> simp_all +zetaDelta; done)
  | (unfold qmFlush; constructor <;> (repeat' split) <;> (try simp) <;> (try intros) <;> (repeat' split) <;> (try simp) <;> (try intros) <;> (repeat' split) <;> (try simp_all))

@[simp ↓] theorem keep_qmFlushAll (s : State) :
    (qmFlushAll s).pending = s.pending ∧ (qmFlushAll s).otp = s.otp := by
  unfold qmFlushAll
  constructor <;> (repeat' split) <;> (try simp) <;> (try intros) <;> (repeat' split) <;> (try simp) <;> (try intros) <;> (repeat' split) <;> (try simp_all)

@[simp ↓] theorem keep_poolDraw (s : State) (have_ : List Nat) (k : Nat) :
    (poolDraw s have_ k).1.pending = s.pending ∧ (poolDraw s have_ k).1.otp = s.otp := by
  unfold poolDraw
  constructor <;> (repeat' split) <;> (try simp) <;> (try intros) <;> (repeat' split) <;> (try simp) <;> (try intros) <;> (repeat' split) <;> (try simp_all)

theorem keep_poolMore (s : State) (l : List Nat) (c : Nat) (q : State × List Nat) (h : poolMore s l c = some q) :
    q.1.pending = s.pending ∧ q.1.otp = s.otp := by
  unfold poolMore at h
  split at h
  · cases h
    exact ⟨rfl, rfl⟩
  · split at h
    · cases h
    · cases h
      exact keep_poolDraw ..

@[simp ↓] theorem keep_frameStore (s : State) (x : QFrame) (sel : Nat → Bool) :
    (frameStore s x sel).pending = s.pending ∧ (frameStore s x sel).otp = s.otp := by
  unfold frameStore
  constructor <;> (repeat' split) <;> (try simp) <;> (try intros) <;> (repeat' split) <;> (try simp) <;> (try intros) <;> (repeat' split) <;> (try simp_all)

@[simp ↓] theorem keep_frameRead (s : State) (cells : List Nat) (lo : Nat) (n : Nat) :
    (frameRead s cells lo n).1.pending = s.pending ∧ (frameRead s cells lo n).1.otp = s.otp := by
  unfold frameRead
  constructor <;> (repeat' split) <;> (try simp) <;> (try intros) <;> (repeat' split) <;> (try simp) <;> (try intros) <;> (repeat' split) <;> (try simp_all)

@[simp ↓] theorem keep_headRead (s : State) (f : Nat) (lo : Nat) (n : Nat) :
    (headRead s f lo n).1.pending = s.pending ∧ (headRead s f lo n).1.otp = s.otp := by
  unfold headRead
  constructor <;> (repeat' split) <;> (try simp) <;> (try intros) <;> (repeat' split) <;> (try simp) <;> (try intros) <;> (repeat' split) <;> (try simp_all)

@[simp ↓] theorem keep_qmEnqueue (s : State) (f : Nat) (x : QFrame) :
    (qmEnqueue s f x).pending = s.pending ∧ (qmEnqueue s f x).otp = s.otp := by
  unfold qmEnqueue
  extract_lets o n c s0
  have h0 : s0.pending = s.pending ∧ s0.otp = s.otp := keep_poolGive ..
  refine keep_ite _ _ _ s ?_ (keep_ite _ _ _ s ?_ ?_)
  · simp [h0]
  · simp [h0]
  · cases e : poolMore s x.cells c with
    | none => simp [h0]
    | some q =>
      have k := keep_poolMore _ _ _ _ e
      dsimp only
      split <;> simp [k]

@[simp ↓] theorem keep_qmApply (s : State) (h : LexHit) (data : List Byte) (port : Nat) (cells : List Nat) (stamp : Option Nat) :
    (qmApply s h data port cells stamp).pending = s.pending ∧ (qmApply s h data port cells stamp).otp = s.otp := by
  unfold qmApply
  constructor <;> (repeat' split) <;> (try simp) <;> (try intros) <;> (repeat' split) <;> (try simp) <;> (try intros) <;> (repeat' split) <;> (try simp_all)

@[simp ↓] theorem keep_flowPut (s : State) (f : Nat) (v : Nat) :
    (flowPut s f v).pending = s.pending ∧ (flowPut s f v).otp = s.otp := by
  unfold flowPut
  constructor <;> (repeat' split) <;> (try simp) <;> (try intros) <;> (repeat' split) <;> (try simp) <;> (try intros) <;> (repeat' split) <;> (try simp_all)

@[simp ↓] theorem keep_flowSet (s : State) (f : Nat) (v : Nat) :
    (flowSet s f v).pending = s.pending ∧ (flowSet s f v).otp = s.otp := by
  unfold flowSet
  constructor <;> (repeat' split) <;> (try simp) <;> (try intros) <;> (repeat' split) <;> (try simp) <;> (try intros) <;> (repeat' split) <;> (try simp_all)

@[simp ↓] theorem keep_flowRecover (s : State) (f : Nat) :
    (flowRecover s f).pending = s.pending ∧ (flowRecover s f).otp = s.otp := by
  unfold flowRecover
  constructor <;> (repeat' split) <;> (try simp) <;> (try intros) <;> (repeat' split) <;> (try simp) <;> (try intros) <;> (repeat' split) <;> (try simp_all)

theorem keep_dwrrTurn (key : Nat) (l : List Nat) (n : Nat) (s : State) (f : Nat) (t : State)
    (h : dwrrTurn key l n s = some (f, t)) : t.pending = s.pending ∧ t.otp = s.otp := by
  induction n generalizing s with
  | zero => simp [dwrrTurn] at h
  | succ n ih =>
    simp only [dwrrTurn] at h
    split at h
    · simp at h
    · split at h
      · simp only [Option.some.injEq, Prod.mk.injEq] at h
        rw [← h.2]
        simp
      · have := ih _ h
        simpa using this

theorem keep_dwrrNext (s : State) (d : QDest) (c pass f : Nat) (t : State)
    (h : dwrrNext s d c pass = some (f, t)) : t.pending = s.pending ∧ t.otp = s.otp := by
  simp only [dwrrNext] at h
  split at h
  · simp only [Option.some.injEq, Prod.mk.injEq] at h
    rw [← h.2]
    simp
  · exact keep_dwrrTurn _ _ _ _ _ _ h

@[simp ↓] theorem keep_selCharge (s : State) (f : Nat) (pass : Nat) :
    (selCharge s f pass).pending = s.pending ∧ (selCharge s f pass).otp = s.otp := by
  unfold selCharge
  constructor <;> (repeat' split) <;> (try simp) <;> (try intros) <;> (repeat' split) <;> (try simp) <;> (try intros) <;> (repeat' split) <;> (try simp_all)

@[simp ↓] theorem keep_qmBufferUe (s : State) (f : Nat) :
    (qmBufferUe s f).pending = s.pending ∧ (qmBufferUe s f).otp = s.otp := by
  unfold qmBufferUe
  constructor <;> (repeat' split) <;> (try simp) <;> (try intros) <;> (repeat' split) <;> (try simp) <;> (try intros) <;> (repeat' split) <;> (try simp_all)

@[simp ↓] theorem keep_sendRadio (s : State) (l : Nat) (f : Nat) (b : List Byte) :
    (sendRadio s l f b).pending = s.pending ∧ (sendRadio s l f b).otp = s.otp := by
  unfold sendRadio
  constructor <;> (repeat' split) <;> (try simp) <;> (try intros) <;> (repeat' split) <;> (try simp) <;> (try intros) <;> (repeat' split) <;> (try simp_all)

@[simp ↓] theorem keep_setCptPort (s : State) (n : Nat) (x : CptPort) :
    (setCptPort s n x).pending = s.pending ∧ (setCptPort s n x).otp = s.otp := by
  unfold setCptPort
  constructor <;> (repeat' split) <;> (try simp) <;> (try intros) <;> (repeat' split) <;> (try simp) <;> (try intros) <;> (repeat' split) <;> (try simp_all)

@[simp ↓] theorem keep_sendWhole (s : State) (d : QDest) (f : Nat) (b : List Byte) :
    (sendWhole s d f b).pending = s.pending ∧ (sendWhole s d f b).otp = s.otp := by
  unfold sendWhole
  constructor <;> (repeat' split) <;> (try simp) <;> (try intros) <;> (repeat' split) <;> (try simp) <;> (try intros) <;> (repeat' split) <;> (try simp_all)

@[simp ↓] theorem keep_selRun (d : QDest) (ue : List Nat) (x2 : Nat) (x3 : List (Nat × Nat)) (x4 : Nat) (x5 : State) :
    (selRun d ue x2 x3 x4 x5).pending = x5.pending ∧ (selRun d ue x2 x3 x4 x5).otp = x5.otp := by
  induction x2 generalizing x3 x4 x5 ue with
  | zero => simp [selRun]
  | succ n ih =>
    cases x3 with
    | nil => simp [selRun]
    | cons a rest =>
      obtain ⟨pass, c⟩ := a
      rw [selRun]
      refine keep_ite _ _ _ x5 ⟨rfl, rfl⟩ ?_
      cases e : dwrrNext x5 d c pass with
      | none => exact ih ..
      | some q =>
        obtain ⟨f, s1⟩ := q
        have k := keep_dwrrNext _ _ _ _ _ _ e
        have r := keep_headRead s1 f 0 (if d.kind = 0 then min x4 (headLen (flow s1 f)) else headLen (flow s1 f))
        dsimp only
        (repeat' split) <;> simp [ih, k, r]

@[simp ↓] theorem keep_linkSelect (s : State) (l : Nat) (budget : Nat) (ue : List Nat) :
    (linkSelect s l budget ue).pending = s.pending ∧ (linkSelect s l budget ue).otp = s.otp := by
  unfold linkSelect
  constructor <;> (repeat' split) <;> (try simp) <;> (try intros) <;> (repeat' split) <;> (try simp) <;> (try intros) <;> (repeat' split) <;> (try simp_all)

@[simp ↓] theorem keep_dropAged (f : Nat) (x1 : Nat) (x2 : State) :
    (dropAged f x1 x2).pending = x2.pending ∧ (dropAged f x1 x2).otp = x2.otp := by
  first
  | (fun_induction dropAged <;> simp_all; done)
  | (fun_induction dropAged <;> simp_all +zetaDelta; done)
  | (unfold dropAged; constructor <;> (repeat' split) <;> (try simp) <;> (try intros) <;> (repeat' split) <;> (try simp) <;> (try intros) <;> (repeat' split) <;> (try simp_all))

@[simp ↓] theorem keep_selDown (s : State) (d : QDest) :
    (selDown s d).pending = s.pending ∧ (selDown s d).otp = s.otp := by
  unfold selDown
  constructor <;> (repeat' split) <;> (try simp) <;> (try intros) <;> (repeat' split) <;> (try simp) <;> (try intros) <;> (repeat' split) <;> (try simp_all)

@[simp ↓] theorem keep_setInlet (s : State) (i : Nat) (l : List InWord) :
    (setInlet s i l).pending = s.pending ∧ (setInlet s i l).otp = s.otp := by
  unfold setInlet
  constructor <;> (repeat' split) <;> (try simp) <;> (try intros) <;> (repeat' split) <;> (try simp) <;> (try intros) <;> (repeat' split) <;> (try simp_all)

@[simp ↓] theorem keep_budgetWord (s : State) (k : Nat) :
    (budgetWord s k).pending = s.pending ∧ (budgetWord s k).otp = s.otp := by
  unfold budgetWord
  constructor <;> (repeat' split) <;> (try simp) <;> (try intros) <;> (repeat' split) <;> (try simp) <;> (try intros) <;> (repeat' split) <;> (try simp_all)

@[simp ↓] theorem keep_linkDeadline (s : State) (l : Nat) (ue : List Nat) :
    (linkDeadline s l ue).pending = s.pending ∧ (linkDeadline s l ue).otp = s.otp := by
  unfold linkDeadline
  constructor <;> (repeat' split) <;> (try simp) <;> (try intros) <;> (repeat' split) <;> (try simp) <;> (try intros) <;> (repeat' split) <;> (try simp_all)

@[simp ↓] theorem keep_budgetDeadline (s : State) (ue : List Nat) :
    (budgetDeadline s ue).pending = s.pending ∧ (budgetDeadline s ue).otp = s.otp := by
  unfold budgetDeadline
  constructor <;> (repeat' split) <;> (try simp) <;> (try intros) <;> (repeat' split) <;> (try simp) <;> (try intros) <;> (repeat' split) <;> (try simp_all)

@[simp ↓] theorem keep_flowTake (s : State) (e : Nat × Flow) :
    (flowTake s e).pending = s.pending ∧ (flowTake s e).otp = s.otp := by
  unfold flowTake
  constructor <;> (repeat' split) <;> (try simp) <;> (try intros) <;> (repeat' split) <;> (try simp) <;> (try intros) <;> (repeat' split) <;> (try simp_all)

@[simp ↓] theorem keep_qmEdge (s : State) :
    (qmEdge s).pending = s.pending ∧ (qmEdge s).otp = s.otp := by
  unfold qmEdge
  constructor <;> (repeat' split) <;> (try simp) <;> (try intros) <;> (repeat' split) <;> (try simp) <;> (try intros) <;> (repeat' split) <;> (try simp_all)

@[simp ↓] theorem keep_setBuilt (s : State) (key : Nat) (l : List InFrame) :
    (setBuilt s key l).pending = s.pending ∧ (setBuilt s key l).otp = s.otp := by
  unfold setBuilt
  constructor <;> (repeat' split) <;> (try simp) <;> (try intros) <;> (repeat' split) <;> (try simp) <;> (try intros) <;> (repeat' split) <;> (try simp_all)

@[simp ↓] theorem keep_buildDrop (s : State) (x : InFrame) (reason : Nat) :
    (buildDrop s x reason).pending = s.pending ∧ (buildDrop s x reason).otp = s.otp := by
  unfold buildDrop
  constructor <;> (repeat' split) <;> (try simp) <;> (try intros) <;> (repeat' split) <;> (try simp) <;> (try intros) <;> (repeat' split) <;> (try simp_all)

@[simp ↓] theorem keep_buildApply (s : State) (x : InFrame) (h : LexHit) :
    (buildApply s x h).pending = s.pending ∧ (buildApply s x h).otp = s.otp := by
  unfold buildApply
  constructor <;> (repeat' split) <;> (try simp) <;> (try intros) <;> (repeat' split) <;> (try simp) <;> (try intros) <;> (repeat' split) <;> (try simp_all)

@[simp ↓] theorem keep_buildFlush (key : Nat) (x1 : Nat) (x2 : State) :
    (buildFlush key x1 x2).pending = x2.pending ∧ (buildFlush key x1 x2).otp = x2.otp := by
  first
  | (fun_induction buildFlush <;> simp_all; done)
  | (fun_induction buildFlush <;> simp_all +zetaDelta; done)
  | (unfold buildFlush; constructor <;> (repeat' split) <;> (try simp) <;> (try intros) <;> (repeat' split) <;> (try simp) <;> (try intros) <;> (repeat' split) <;> (try simp_all))

@[simp ↓] theorem keep_buildStore (s : State) (x : InFrame) (old : Nat) :
    (buildStore s x old).1.pending = s.pending ∧ (buildStore s x old).1.otp = s.otp := by
  unfold buildStore
  dsimp only
  cases e : poolMore s x.cells (frameCells x.data.length) with
  | none => exact ⟨rfl, rfl⟩
  | some q =>
    have k := keep_poolMore _ _ _ _ e
    dsimp only
    refine ⟨?_, ?_⟩ <;> simp [k]

@[simp ↓] theorem keep_segStep (s : State) (l : List InFrame) (h : InWord) (ws : List InWord) (port : Nat) (link : Nat) :
    (segStep s l h ws port link).1.pending = s.pending ∧ (segStep s l h ws port link).1.otp = s.otp := by
  unfold segStep
  constructor <;> (repeat' split) <;> (try simp) <;> (try intros) <;> (repeat' split) <;> (try simp) <;> (try intros) <;> (repeat' split) <;> (try simp_all)

@[simp ↓] theorem keep_segTake (s : State) (key : Nat) (h : InWord) (ws : List InWord) (port : Nat) (link : Nat) :
    (segTake s key h ws port link).pending = s.pending ∧ (segTake s key h ws port link).otp = s.otp := by
  unfold segTake
  constructor <;> (repeat' split) <;> (try simp) <;> (try intros) <;> (repeat' split) <;> (try simp) <;> (try intros) <;> (repeat' split) <;> (try simp_all)

@[simp ↓] theorem keep_segArrive (s : State) (k : Nat) (d : Nat) :
    (segArrive s k d).pending = s.pending ∧ (segArrive s k d).otp = s.otp := by
  unfold segArrive
  constructor <;> (repeat' split) <;> (try simp) <;> (try intros) <;> (repeat' split) <;> (try simp) <;> (try intros) <;> (repeat' split) <;> (try simp_all)

@[simp ↓] theorem keep_poolWrite (s : State) (isBase : Bool) (v : Nat) :
    (poolWrite s isBase v).pending = s.pending ∧ (poolWrite s isBase v).otp = s.otp := by
  unfold poolWrite
  constructor <;> (repeat' split) <;> (try simp) <;> (try intros) <;> (repeat' split) <;> (try simp) <;> (try intros) <;> (repeat' split) <;> (try simp_all)

@[simp ↓] theorem keep_budgetDlWrite (s : State) (v : Nat) :
    (budgetDlWrite s v).pending = s.pending ∧ (budgetDlWrite s v).otp = s.otp := by
  unfold budgetDlWrite
  constructor <;> (repeat' split) <;> (try simp) <;> (try intros) <;> (repeat' split) <;> (try simp) <;> (try intros) <;> (repeat' split) <;> (try simp_all)

@[simp ↓] theorem keep_qmLinkWrite (s : State) (l : Nat) (en : Bool) (maxb : Nat) :
    (qmLinkWrite s l en maxb).pending = s.pending ∧ (qmLinkWrite s l en maxb).otp = s.otp := by
  unfold qmLinkWrite
  constructor <;> (repeat' split) <;> (try simp) <;> (try intros) <;> (repeat' split) <;> (try simp) <;> (try intros) <;> (repeat' split) <;> (try simp_all)

end Machine
end Sys2Proof
end

