-- ==== Sys2Proof/Laws/KeepDma.lean ====
section
/-!
SUPPORT. What the operations of Machine/Dma.lean leave alone: the queue of waiting commands and the fuses.
-/

namespace Sys2Proof
namespace Machine

@[simp ↓] theorem keep_setDmaCh (s : State) (c : Nat) (x : DmaCh) :
    (setDmaCh s c x).pending = s.pending ∧ (setDmaCh s c x).otp = s.otp := by
  unfold setDmaCh
  constructor <;> (repeat' split) <;> (try simp) <;> (try intros) <;> (repeat' split) <;> (try simp) <;> (try intros) <;> (repeat' split) <;> (try simp_all)

@[simp ↓] theorem keep_dmaItem (k prio : Nat) (q : State × List (Word × Bool)) (ws : List (Word × Bool)) :
    (dmaItem k prio q ws).1.pending = q.1.pending ∧ (dmaItem k prio q ws).1.otp = q.1.otp := by
  unfold dmaItem
  extract_lets n s1 s2
  have h1 : s1.pending = q.1.pending ∧ s1.otp = q.1.otp := keep_foldl _ _ _ (fun s e => keep_fifoWrite ..)
  have h2 : s2.pending = q.1.pending ∧ s2.otp = q.1.otp := h1
  have h := keep_foldl_fst (fun (r : State × List (Word × Bool)) (_ : Nat) =>
    let t := fifoRead r.1 k 0
    (t.1, r.2 ++ (t.2.elim [] (fun w => [(w.w, w.pois)])))) (List.range n) (s2, q.2) (fun r _ => keep_fifoRead r.1 k 0)
  exact ⟨h.1.trans h2.1, h.2.trans h2.2⟩

@[simp ↓] theorem keep_dmaThrough (s : State) (c : Nat) (ilen : Nat) (prio : Nat) (b : List (Byte × Bool)) :
    (dmaThrough s c ilen prio b).1.pending = s.pending ∧ (dmaThrough s c ilen prio b).1.otp = s.otp := by
  unfold dmaThrough
  exact keep_foldl_fst _ _ _ (fun q a => keep_dmaItem _ _ q a)

@[simp ↓] theorem keep_sramReadBytes (x0 : Nat) (x1 : Nat) (x2 : Nat) (x3 : State) :
    (sramReadBytes x0 x1 x2 x3).1.pending = x3.pending ∧ (sramReadBytes x0 x1 x2 x3).1.otp = x3.otp := by
  induction x0 generalizing x1 x2 x3 with
  | zero => simp [sramReadBytes]
  | succ n ih =>
    unfold sramReadBytes
    split
    · simp
    · simp [ih]

@[simp ↓] theorem keep_sramWriteBytes (x0 : Nat) (x1 : Nat) (x2 : List (Byte × Bool)) (x3 : State) :
    (sramWriteBytes x0 x1 x2 x3).pending = x3.pending ∧ (sramWriteBytes x0 x1 x2 x3).otp = x3.otp := by
  first
  | (fun_induction sramWriteBytes <;> simp_all; done)
  | (fun_induction sramWriteBytes <;> simp_all +zetaDelta; done)
  | (unfold sramWriteBytes; constructor <;> (repeat' split) <;> (try simp) <;> (try intros) <;> (repeat' split) <;> (try simp) <;> (try intros) <;> (repeat' split) <;> (try simp_all))

@[simp ↓] theorem keep_streamTake (c : Nat) (irec : Bool) (x2 : Nat) (x3 : State) :
    (streamTake c irec x2 x3).1.pending = x3.pending ∧ (streamTake c irec x2 x3).1.otp = x3.otp := by
  induction x2 generalizing x3 with
  | zero => simp [streamTake]
  | succ n ih =>
    unfold streamTake
    dsimp only
    (repeat' split) <;> simp [ih]

@[simp ↓] theorem keep_qflowTake (f : Nat) (x1 : Nat) (x2 : Nat) (x3 : State) :
    (qflowTake f x1 x2 x3).1.pending = x3.pending ∧ (qflowTake f x1 x2 x3).1.otp = x3.otp := by
  induction x1 generalizing x2 x3 with
  | zero => simp [qflowTake]
  | succ n ih =>
    unfold qflowTake
    dsimp only
    (repeat' split) <;> simp [ih]

@[simp ↓] theorem keep_dmaSource (s : State) (d : Nat) (n : Nat) (ext : List Byte) (pois : Bool) :
    (dmaSource s d n ext pois).1.pending = s.pending ∧ (dmaSource s d n ext pois).1.otp = s.otp := by
  unfold dmaSource
  constructor <;> (repeat' split) <;> (try simp) <;> (try intros) <;> (repeat' split) <;> (try simp) <;> (try intros) <;> (repeat' split) <;> (try simp_all)

@[simp ↓] theorem keep_dmaOut (s : State) (c : Nat) (l : List OutItem) :
    (dmaOut s c l).pending = s.pending ∧ (dmaOut s c l).otp = s.otp := by
  unfold dmaOut
  constructor <;> (repeat' split) <;> (try simp) <;> (try intros) <;> (repeat' split) <;> (try simp) <;> (try intros) <;> (repeat' split) <;> (try simp_all)

@[simp ↓] theorem keep_dmaDestGddr (s : State) (a : Nat) (b : List (Byte × Bool)) :
    (dmaDestGddr s a b).1.pending = s.pending ∧ (dmaDestGddr s a b).1.otp = s.otp := by
  unfold dmaDestGddr
  constructor <;> (repeat' split) <;> (try simp) <;> (try intros) <;> (repeat' split) <;> (try simp) <;> (try intros) <;> (repeat' split) <;> (try simp_all)

@[simp ↓] theorem keep_dmaDestSram (s : State) (a : Nat) (b : List (Byte × Bool)) :
    (dmaDestSram s a b).1.pending = s.pending ∧ (dmaDestSram s a b).1.otp = s.otp := by
  unfold dmaDestSram
  constructor <;> (repeat' split) <;> (try simp) <;> (try intros) <;> (repeat' split) <;> (try simp) <;> (try intros) <;> (repeat' split) <;> (try simp_all)

@[simp ↓] theorem keep_dmaDestFlash (s : State) (a : Nat) (b : List (Byte × Bool)) :
    (dmaDestFlash s a b).1.pending = s.pending ∧ (dmaDestFlash s a b).1.otp = s.otp := by
  unfold dmaDestFlash
  constructor <;> (repeat' split) <;> (try simp) <;> (try intros) <;> (repeat' split) <;> (try simp) <;> (try intros) <;> (repeat' split) <;> (try simp_all)

@[simp ↓] theorem keep_dmaDestFifo (s : State) (c : Nat) (d : Nat) (b : List (Byte × Bool)) :
    (dmaDestFifo s c d b).1.pending = s.pending ∧ (dmaDestFifo s c d b).1.otp = s.otp := by
  unfold dmaDestFifo
  constructor <;> (repeat' split) <;> (try simp) <;> (try intros) <;> (repeat' split) <;> (try simp) <;> (try intros) <;> (repeat' split) <;> (try simp_all)

@[simp ↓] theorem keep_dmaDestPort (s : State) (c : Nat) (d : Nat) (b : List (Byte × Bool)) :
    (dmaDestPort s c d b).1.pending = s.pending ∧ (dmaDestPort s c d b).1.otp = s.otp := by
  unfold dmaDestPort
  constructor <;> (repeat' split) <;> (try simp) <;> (try intros) <;> (repeat' split) <;> (try simp) <;> (try intros) <;> (repeat' split) <;> (try simp_all)

@[simp ↓] theorem keep_dmaDest (s : State) (c : Nat) (d : Nat) (b : List (Byte × Bool)) :
    (dmaDest s c d b).1.pending = s.pending ∧ (dmaDest s c d b).1.otp = s.otp := by
  unfold dmaDest
  constructor <;> (repeat' split) <;> (try simp) <;> (try intros) <;> (repeat' split) <;> (try simp) <;> (try intros) <;> (repeat' split) <;> (try simp_all)

@[simp ↓] theorem keep_dmaGetState (s : State) (c : Nat) (i : Nat) :
    (dmaGetState s c i).pending = s.pending ∧ (dmaGetState s c i).otp = s.otp := by
  unfold dmaGetState
  constructor <;> (repeat' split) <;> (try simp) <;> (try intros) <;> (repeat' split) <;> (try simp) <;> (try intros) <;> (repeat' split) <;> (try simp_all)

@[simp ↓] theorem keep_dmaHold (s : State) (c : Nat) (i : Nat) (d : Nat) :
    (dmaHold s c i d).pending = s.pending ∧ (dmaHold s c i d).otp = s.otp := by
  unfold dmaHold
  constructor <;> (repeat' split) <;> (try simp) <;> (try intros) <;> (repeat' split) <;> (try simp) <;> (try intros) <;> (repeat' split) <;> (try simp_all)

@[simp ↓] theorem keep_dmaFetch (s : State) (c : Nat) (host : List Word) :
    (dmaFetch s c host).pending = s.pending ∧ (dmaFetch s c host).otp = s.otp := by
  unfold dmaFetch
  constructor <;> (repeat' split) <;> (try simp) <;> (try intros) <;> (repeat' split) <;> (try simp) <;> (try intros) <;> (repeat' split) <;> (try simp_all)

@[simp ↓] theorem keep_dmaBack (s : State) (c : Nat) (i : Nat) (d : Nat) (st : Nat) (n : Nat) :
    (dmaBack s c i d st n).pending = s.pending ∧ (dmaBack s c i d st n).otp = s.otp := by
  unfold dmaBack
  constructor <;> (repeat' split) <;> (try simp) <;> (try intros) <;> (repeat' split) <;> (try simp) <;> (try intros) <;> (repeat' split) <;> (try simp_all)

@[simp ↓] theorem keep_dmaPoisoned (s : State) (c : Nat) (d : Nat) :
    (dmaPoisoned s c d).pending = s.pending ∧ (dmaPoisoned s c d).otp = s.otp := by
  unfold dmaPoisoned
  constructor <;> (repeat' split) <;> (try simp) <;> (try intros) <;> (repeat' split) <;> (try simp) <;> (try intros) <;> (repeat' split) <;> (try simp_all)

@[simp ↓] theorem keep_dmaEnd (s : State) (c : Nat) (i : Nat) (d : Nat) (n : Nat) (bad : Bool) :
    (dmaEnd s c i d n bad).pending = s.pending ∧ (dmaEnd s c i d n bad).otp = s.otp := by
  unfold dmaEnd
  constructor <;> (repeat' split) <;> (try simp) <;> (try intros) <;> (repeat' split) <;> (try simp) <;> (try intros) <;> (repeat' split) <;> (try simp_all)

@[simp ↓] theorem keep_dmaStream (s : State) (c : Nat) (i : Nat) (d : Nat) (st : Nat) :
    (dmaStream s c i d st).pending = s.pending ∧ (dmaStream s c i d st).otp = s.otp := by
  unfold dmaStream
  constructor <;> (repeat' split) <;> (try simp) <;> (try intros) <;> (repeat' split) <;> (try simp) <;> (try intros) <;> (repeat' split) <;> (try simp_all)

@[simp ↓] theorem keep_dmaComplete (s : State) (c : Nat) (st : Nat) (moved : Nat) (ext : List Byte) (pois : Bool) :
    (dmaComplete s c st moved ext pois).pending = s.pending ∧ (dmaComplete s c st moved ext pois).otp = s.otp := by
  unfold dmaComplete
  constructor <;> (repeat' split) <;> (try simp) <;> (try intros) <;> (repeat' split) <;> (try simp) <;> (try intros) <;> (repeat' split) <;> (try simp_all)

@[simp ↓] theorem keep_dmaAbort (s : State) (c : Nat) (moved : Nat) (ext : List Byte) (pois : Bool) :
    (dmaAbort s c moved ext pois).pending = s.pending ∧ (dmaAbort s c moved ext pois).otp = s.otp := by
  unfold dmaAbort
  constructor <;> (repeat' split) <;> (try simp) <;> (try intros) <;> (repeat' split) <;> (try simp) <;> (try intros) <;> (repeat' split) <;> (try simp_all)

end Machine
end Sys2Proof
end

