-- ==== Sys2Proof/Laws/KeepLoad.lean ====
section
/-!
SUPPORT. What the operations of Machine/Load.lean leave alone: the queue of waiting commands and the fuses.
-/

namespace Sys2Proof
namespace Machine

@[simp ↓] theorem keep_setImg (s : State) (l : Nat) (g : Img) :
    (setImg s l g).pending = s.pending ∧ (setImg s l g).otp = s.otp := by
  unfold setImg
  constructor <;> (repeat' split) <;> (try simp) <;> (try intros) <;> (repeat' split) <;> (try simp) <;> (try intros) <;> (repeat' split) <;> (try simp_all)

@[simp ↓] theorem keep_fenceLift (s : State) (p : Nat) :
    (fenceLift s p).pending = s.pending ∧ (fenceLift s p).otp = s.otp := by
  unfold fenceLift
  constructor <;> (repeat' split) <;> (try simp) <;> (try intros) <;> (repeat' split) <;> (try simp) <;> (try intros) <;> (repeat' split) <;> (try simp_all)

@[simp ↓] theorem keep_captureCancel (s : State) (p : Nat) :
    (captureCancel s p).pending = s.pending ∧ (captureCancel s p).otp = s.otp := by
  unfold captureCancel
  constructor <;> (repeat' split) <;> (try simp) <;> (try intros) <;> (repeat' split) <;> (try simp) <;> (try intros) <;> (repeat' split) <;> (try simp_all)

@[simp ↓] theorem keep_startupCancel (s : State) (p : Nat) :
    (startupCancel s p).pending = s.pending ∧ (startupCancel s p).otp = s.otp := by
  unfold startupCancel
  constructor <;> (repeat' split) <;> (try simp) <;> (try intros) <;> (repeat' split) <;> (try simp) <;> (try intros) <;> (repeat' split) <;> (try simp_all)

@[simp ↓] theorem keep_unitClear (s : State) (k : Nat) (id : Nat) :
    (unitClear s k id).pending = s.pending ∧ (unitClear s k id).otp = s.otp := by
  unfold unitClear
  constructor <;> (repeat' split) <;> (try simp) <;> (try intros) <;> (repeat' split) <;> (try simp) <;> (try intros) <;> (repeat' split) <;> (try simp_all)

@[simp ↓] theorem keep_cabClear (s : State) (p : Nat) :
    (cabClear s p).pending = s.pending ∧ (cabClear s p).otp = s.otp := by
  unfold cabClear
  constructor <;> (repeat' split) <;> (try simp) <;> (try intros) <;> (repeat' split) <;> (try simp) <;> (try intros) <;> (repeat' split) <;> (try simp_all)

@[simp ↓] theorem keep_cabUnmark (s : State) (p : Nat) :
    (cabUnmark s p).pending = s.pending ∧ (cabUnmark s p).otp = s.otp := by
  unfold cabUnmark
  constructor <;> (repeat' split) <;> (try simp) <;> (try intros) <;> (repeat' split) <;> (try simp) <;> (try intros) <;> (repeat' split) <;> (try simp_all)

@[simp ↓] theorem keep_cabEmpty (s : State) (p : Nat) :
    (cabEmpty s p).pending = s.pending ∧ (cabEmpty s p).otp = s.otp := by
  unfold cabEmpty
  constructor <;> (repeat' split) <;> (try simp) <;> (try intros) <;> (repeat' split) <;> (try simp) <;> (try intros) <;> (repeat' split) <;> (try simp_all)

@[simp ↓] theorem keep_fifoLoading (s : State) (k : Nat) :
    (fifoLoading s k).pending = s.pending ∧ (fifoLoading s k).otp = s.otp := by
  unfold fifoLoading
  constructor <;> (repeat' split) <;> (try simp) <;> (try intros) <;> (repeat' split) <;> (try simp) <;> (try intros) <;> (repeat' split) <;> (try simp_all)

@[simp ↓] theorem keep_cabLoading (s : State) (p : Nat) :
    (cabLoading s p).pending = s.pending ∧ (cabLoading s p).otp = s.otp := by
  unfold cabLoading
  constructor <;> (repeat' split) <;> (try simp) <;> (try intros) <;> (repeat' split) <;> (try simp) <;> (try intros) <;> (repeat' split) <;> (try simp_all)

@[simp ↓] theorem keep_cellsLoad (s : State) (p : Nat) (g : Img) :
    (cellsLoad s p g).pending = s.pending ∧ (cellsLoad s p g).otp = s.otp := by
  unfold cellsLoad
  constructor <;> (repeat' split) <;> (try simp) <;> (try intros) <;> (repeat' split) <;> (try simp) <;> (try intros) <;> (repeat' split) <;> (try simp_all)

@[simp ↓] theorem keep_putPins (s : State) (p : Nat) (l : Nat) (pins : List (Nat × Nat)) :
    (putPins s p l pins).pending = s.pending ∧ (putPins s p l pins).otp = s.otp := by
  unfold putPins
  constructor <;> (repeat' split) <;> (try simp) <;> (try intros) <;> (repeat' split) <;> (try simp) <;> (try intros) <;> (repeat' split) <;> (try simp_all)

@[simp ↓] theorem keep_cabSettings (s : State) (p : Nat) (g : Img) :
    (cabSettings s p g).pending = s.pending ∧ (cabSettings s p g).otp = s.otp := by
  unfold cabSettings
  constructor <;> (repeat' split) <;> (try simp) <;> (try intros) <;> (repeat' split) <;> (try simp) <;> (try intros) <;> (repeat' split) <;> (try simp_all)

@[simp ↓] theorem keep_cabHeld (s : State) (p : Nat) :
    (cabHeld s p).pending = s.pending ∧ (cabHeld s p).otp = s.otp := by
  unfold cabHeld
  constructor <;> (repeat' split) <;> (try simp) <;> (try intros) <;> (repeat' split) <;> (try simp) <;> (try intros) <;> (repeat' split) <;> (try simp_all)

@[simp ↓] theorem keep_planDone (s : State) (p : Nat) (plan : Nat) :
    (planDone s p plan).pending = s.pending ∧ (planDone s p plan).otp = s.otp := by
  unfold planDone
  constructor <;> (repeat' split) <;> (try simp) <;> (try intros) <;> (repeat' split) <;> (try simp) <;> (try intros) <;> (repeat' split) <;> (try simp_all)

@[simp ↓] theorem keep_cabWrite (s : State) (p : Nat) (g : Img) (bad : Bool) :
    (cabWrite s p g bad).pending = s.pending ∧ (cabWrite s p g bad).otp = s.otp := by
  unfold cabWrite
  constructor <;> (repeat' split) <;> (try simp) <;> (try intros) <;> (repeat' split) <;> (try simp) <;> (try intros) <;> (repeat' split) <;> (try simp_all)

@[simp ↓] theorem keep_putEdges (s : State) (cls : List (Nat × Cl)) :
    (putEdges s cls).pending = s.pending ∧ (putEdges s cls).otp = s.otp := by
  unfold putEdges
  constructor <;> (repeat' split) <;> (try simp) <;> (try intros) <;> (repeat' split) <;> (try simp) <;> (try intros) <;> (repeat' split) <;> (try simp_all)

@[simp ↓] theorem keep_jobState (s : State) (j : LoadJob) :
    (jobState s j).pending = s.pending ∧ (jobState s j).otp = s.otp := by
  unfold jobState
  constructor <;> (repeat' split) <;> (try simp) <;> (try intros) <;> (repeat' split) <;> (try simp) <;> (try intros) <;> (repeat' split) <;> (try simp_all)

@[simp ↓] theorem keep_stageRead (s : State) (n : Nat) :
    (stageRead s n).1.pending = s.pending ∧ (stageRead s n).1.otp = s.otp := by
  unfold stageRead
  constructor <;> (repeat' split) <;> (try simp) <;> (try intros) <;> (repeat' split) <;> (try simp) <;> (try intros) <;> (repeat' split) <;> (try simp_all)

@[simp ↓] theorem keep_stageZero (s : State) (n : Nat) :
    (stageZero s n).pending = s.pending ∧ (stageZero s n).otp = s.otp := by
  unfold stageZero
  constructor <;> (repeat' split) <;> (try simp) <;> (try intros) <;> (repeat' split) <;> (try simp) <;> (try intros) <;> (repeat' split) <;> (try simp_all)

@[simp ↓] theorem keep_loadStat (s : State) (phase : Nat) (code : Nat) (sub : Nat) (ofs : Nat) :
    (loadStat s phase code sub ofs).pending = s.pending ∧ (loadStat s phase code sub ofs).otp = s.otp := by
  unfold loadStat
  constructor <;> (repeat' split) <;> (try simp) <;> (try intros) <;> (repeat' split) <;> (try simp) <;> (try intros) <;> (repeat' split) <;> (try simp_all)

@[simp ↓] theorem keep_loadEnd (s : State) (phase : Nat) (code : Nat) (sub : Nat) (ofs : Nat) :
    (loadEnd s phase code sub ofs).pending = s.pending ∧ (loadEnd s phase code sub ofs).otp = s.otp := by
  unfold loadEnd
  constructor <;> (repeat' split) <;> (try simp) <;> (try intros) <;> (repeat' split) <;> (try simp) <;> (try intros) <;> (repeat' split) <;> (try simp_all)

@[simp ↓] theorem keep_bringOver (s : State) :
    (bringOver s).pending = s.pending ∧ (bringOver s).otp = s.otp := by
  unfold bringOver
  constructor <;> (repeat' split) <;> (try simp) <;> (try intros) <;> (repeat' split) <;> (try simp) <;> (try intros) <;> (repeat' split) <;> (try simp_all)

@[simp ↓] theorem keep_loadPhase (s : State) (full : Bool) :
    (loadPhase s full).pending = s.pending ∧ (loadPhase s full).otp = s.otp := by
  unfold loadPhase
  constructor <;> (repeat' split) <;> (try simp) <;> (try intros) <;> (repeat' split) <;> (try simp) <;> (try intros) <;> (repeat' split) <;> (try simp_all)

@[simp ↓] theorem keep_loadGo (s : State) (staged : Nat) :
    (loadGo s staged).pending = s.pending ∧ (loadGo s staged).otp = s.otp := by
  unfold loadGo
  constructor <;> (repeat' split) <;> (try simp) <;> (try intros) <;> (repeat' split) <;> (try simp) <;> (try intros) <;> (repeat' split) <;> (try simp_all)

@[simp ↓] theorem keep_jobCab (j : LoadJob) (bad : List Nat) (s : State) (l : Nat) :
    (jobCab j bad s l).pending = s.pending ∧ (jobCab j bad s l).otp = s.otp := by
  unfold jobCab
  constructor <;> (repeat' split) <;> (try simp) <;> (try intros) <;> (repeat' split) <;> (try simp) <;> (try intros) <;> (repeat' split) <;> (try simp_all)

@[simp ↓] theorem keep_drawerPut (g : Img) (p : Nat) (s : State) (e : Nat × Nat × Nat) :
    (drawerPut g p s e).pending = s.pending ∧ (drawerPut g p s e).otp = s.otp := by
  unfold drawerPut
  constructor <;> (repeat' split) <;> (try simp) <;> (try intros) <;> (repeat' split) <;> (try simp) <;> (try intros) <;> (repeat' split) <;> (try simp_all)

@[simp ↓] theorem keep_jobDrawerCab (j : LoadJob) (bad : List Nat) (s : State) (l : Nat) :
    (jobDrawerCab j bad s l).pending = s.pending ∧ (jobDrawerCab j bad s l).otp = s.otp := by
  unfold jobDrawerCab
  constructor <;> (repeat' split) <;> (try simp) <;> (try intros) <;> (repeat' split) <;> (try simp) <;> (try intros) <;> (repeat' split) <;> (try simp_all)

@[simp ↓] theorem keep_emptyOutside (s : State) (region : Nat) :
    (emptyOutside s region).pending = s.pending ∧ (emptyOutside s region).otp = s.otp := by
  unfold emptyOutside
  constructor <;> (repeat' split) <;> (try simp) <;> (try intros) <;> (repeat' split) <;> (try simp) <;> (try intros) <;> (repeat' split) <;> (try simp_all)

@[simp ↓] theorem keep_loadWrite (s : State) (bad : List Nat) :
    (loadWrite s bad).pending = s.pending ∧ (loadWrite s bad).otp = s.otp := by
  unfold loadWrite
  constructor <;> (repeat' split) <;> (try simp) <;> (try intros) <;> (repeat' split) <;> (try simp) <;> (try intros) <;> (repeat' split) <;> (try simp_all)

@[simp ↓] theorem keep_compatAbort (s : State) (c : CompatJob) (code : Nat) (ofs : Nat) :
    (compatAbort s c code ofs).pending = s.pending ∧ (compatAbort s c code ofs).otp = s.otp := by
  unfold compatAbort
  constructor <;> (repeat' split) <;> (try simp) <;> (try intros) <;> (repeat' split) <;> (try simp) <;> (try intros) <;> (repeat' split) <;> (try simp_all)

@[simp ↓] theorem keep_compatGo (s : State) (staged : Nat) :
    (compatGo s staged).pending = s.pending ∧ (compatGo s staged).otp = s.otp := by
  unfold compatGo
  constructor <;> (repeat' split) <;> (try simp) <;> (try intros) <;> (repeat' split) <;> (try simp) <;> (try intros) <;> (repeat' split) <;> (try simp_all)

@[simp ↓] theorem keep_compatAt (s : State) (c : CompatJob) :
    (compatAt s c).pending = s.pending ∧ (compatAt s c).otp = s.otp := by
  unfold compatAt
  constructor <;> (repeat' split) <;> (try simp) <;> (try intros) <;> (repeat' split) <;> (try simp) <;> (try intros) <;> (repeat' split) <;> (try simp_all)

@[simp ↓] theorem keep_compatFrame (s : State) (c : CompatJob) (f : FrameWr) :
    (compatFrame s c f).pending = s.pending ∧ (compatFrame s c f).otp = s.otp := by
  unfold compatFrame
  constructor <;> (repeat' split) <;> (try simp) <;> (try intros) <;> (repeat' split) <;> (try simp) <;> (try intros) <;> (repeat' split) <;> (try simp_all)

@[simp ↓] theorem keep_compatPlan (s : State) (l : Nat) (q : Nat) (slots : List (Nat × Nat)) :
    (compatPlan s l q slots).pending = s.pending ∧ (compatPlan s l q slots).otp = s.otp := by
  unfold compatPlan
  constructor <;> (repeat' split) <;> (try simp) <;> (try intros) <;> (repeat' split) <;> (try simp) <;> (try intros) <;> (repeat' split) <;> (try simp_all)

@[simp ↓] theorem keep_compatDoor (s : State) (l : Nat) (bcen : Nat) (pins : List (Nat × Nat)) :
    (compatDoor s l bcen pins).pending = s.pending ∧ (compatDoor s l bcen pins).otp = s.otp := by
  unfold compatDoor
  constructor <;> (repeat' split) <;> (try simp) <;> (try intros) <;> (repeat' split) <;> (try simp) <;> (try intros) <;> (repeat' split) <;> (try simp_all)

@[simp ↓] theorem keep_compatDone (s : State) (c : CompatJob) :
    (compatDone s c).pending = s.pending ∧ (compatDone s c).otp = s.otp := by
  unfold compatDone
  constructor <;> (repeat' split) <;> (try simp) <;> (try intros) <;> (repeat' split) <;> (try simp) <;> (try intros) <;> (repeat' split) <;> (try simp_all)

@[simp ↓] theorem keep_compatApply (s : State) (c : CompatJob) (w : List Word) :
    (compatApply s c w).pending = s.pending ∧ (compatApply s c w).otp = s.otp := by
  unfold compatApply
  constructor <;> (repeat' split) <;> (try simp) <;> (try intros) <;> (repeat' split) <;> (try simp) <;> (try intros) <;> (repeat' split) <;> (try simp_all)

@[simp ↓] theorem keep_compatRecord (s : State) :
    (compatRecord s).pending = s.pending ∧ (compatRecord s).otp = s.otp := by
  unfold compatRecord
  constructor <;> (repeat' split) <;> (try simp) <;> (try intros) <;> (repeat' split) <;> (try simp) <;> (try intros) <;> (repeat' split) <;> (try simp_all)

@[simp ↓] theorem keep_loadAbort (s : State) :
    (loadAbort s).pending = s.pending ∧ (loadAbort s).otp = s.otp := by
  unfold loadAbort
  constructor <;> (repeat' split) <;> (try simp) <;> (try intros) <;> (repeat' split) <;> (try simp) <;> (try intros) <;> (repeat' split) <;> (try simp_all)

@[simp ↓] theorem keep_compatCfg (s : State) (v : Nat) :
    (compatCfg s v).pending = s.pending ∧ (compatCfg s v).otp = s.otp := by
  unfold compatCfg
  constructor <;> (repeat' split) <;> (try simp) <;> (try intros) <;> (repeat' split) <;> (try simp) <;> (try intros) <;> (repeat' split) <;> (try simp_all)

@[simp ↓] theorem keep_recoveredRun (s : State) (p : Nat) :
    (recoveredRun s p).pending = s.pending ∧ (recoveredRun s p).otp = s.otp := by
  unfold recoveredRun
  constructor <;> (repeat' split) <;> (try simp) <;> (try intros) <;> (repeat' split) <;> (try simp) <;> (try intros) <;> (repeat' split) <;> (try simp_all)

@[simp ↓] theorem keep_suspectTest (s : State) (p : Nat) :
    (suspectTest s p).pending = s.pending ∧ (suspectTest s p).otp = s.otp := by
  unfold suspectTest
  constructor <;> (repeat' split) <;> (try simp) <;> (try intros) <;> (repeat' split) <;> (try simp) <;> (try intros) <;> (repeat' split) <;> (try simp_all)

@[simp ↓] theorem keep_reload (s : State) (l : Nat) (bad : Bool) :
    (reload s l bad).pending = s.pending ∧ (reload s l bad).otp = s.otp := by
  unfold reload
  constructor <;> (repeat' split) <;> (try simp) <;> (try intros) <;> (repeat' split) <;> (try simp) <;> (try intros) <;> (repeat' split) <;> (try simp_all)

@[simp ↓] theorem keep_recoveryReload (s : State) (bad : Bool) :
    (recoveryReload s bad).pending = s.pending ∧ (recoveryReload s bad).otp = s.otp := by
  unfold recoveryReload
  constructor <;> (repeat' split) <;> (try simp) <;> (try intros) <;> (repeat' split) <;> (try simp) <;> (try intros) <;> (repeat' split) <;> (try simp_all)

end Machine
end Sys2Proof
end

