-- ==== Sys2Proof/Laws/KeepCabinet.lean ====
section
/-!
SUPPORT. What the operations of Machine/Cabinet.lean leave alone: the queue of waiting commands and the fuses.
-/

namespace Sys2Proof
namespace Machine

@[simp ↓] theorem keep_planRequest (s : State) (p : Nat) (q : Nat) :
    (planRequest s p q).pending = s.pending ∧ (planRequest s p q).otp = s.otp := by
  unfold planRequest
  constructor <;> (repeat' split) <;> (try simp) <;> (try intros) <;> (repeat' split) <;> (try simp) <;> (try intros) <;> (repeat' split) <;> (try simp_all)

@[simp ↓] theorem keep_planSelWrite (s : State) (p : Nat) (v : Nat) :
    (planSelWrite s p v).pending = s.pending ∧ (planSelWrite s p v).otp = s.otp := by
  unfold planSelWrite
  constructor <;> (repeat' split) <;> (try simp) <;> (try intros) <;> (repeat' split) <;> (try simp) <;> (try intros) <;> (repeat' split) <;> (try simp_all)

@[simp ↓] theorem keep_doorDrain (s : State) (p : Nat) (port : Nat) :
    (doorDrain s p port).pending = s.pending ∧ (doorDrain s p port).otp = s.otp := by
  unfold doorDrain
  constructor <;> (repeat' split) <;> (try simp) <;> (try intros) <;> (repeat' split) <;> (try simp) <;> (try intros) <;> (repeat' split) <;> (try simp_all)

@[simp ↓] theorem keep_borderArrive (s : State) (p : Nat) (i : Nat) :
    (borderArrive s p i).pending = s.pending ∧ (borderArrive s p i).otp = s.otp := by
  unfold borderArrive
  constructor <;> (repeat' split) <;> (try simp) <;> (try intros) <;> (repeat' split) <;> (try simp) <;> (try intros) <;> (repeat' split) <;> (try simp_all)

@[simp ↓] theorem keep_fetchWord (s : State) (p : Nat) (i : Nat) (c : Code) :
    (fetchWord s p i c).1.pending = s.pending ∧ (fetchWord s p i c).1.otp = s.otp := by
  unfold fetchWord
  constructor <;> (repeat' split) <;> (try simp) <;> (try intros) <;> (repeat' split) <;> (try simp) <;> (try intros) <;> (repeat' split) <;> (try simp_all)

@[simp ↓] theorem keep_fetchRecord (s : State) (p : Nat) (cls : Nat) (kind : Nat) (word : Nat) (drawer : Nat) (lcol : Nat) (row : Nat) :
    (fetchRecord s p cls kind word drawer lcol row).pending = s.pending ∧ (fetchRecord s p cls kind word drawer lcol row).otp = s.otp := by
  unfold fetchRecord
  constructor <;> (repeat' split) <;> (try simp) <;> (try intros) <;> (repeat' split) <;> (try simp) <;> (try intros) <;> (repeat' split) <;> (try simp_all)

@[simp ↓] theorem keep_scrubQueue (s : State) (k : Nat) (ws : List Nat) :
    (scrubQueue s k ws).pending = s.pending ∧ (scrubQueue s k ws).otp = s.otp := by
  unfold scrubQueue
  constructor <;> (repeat' split) <;> (try simp) <;> (try intros) <;> (repeat' split) <;> (try simp) <;> (try intros) <;> (repeat' split) <;> (try simp_all)

@[simp ↓] theorem keep_fetchCell (s : State) (p : Nat) (pcol : Nat) (lcol : Nat) (row : Nat) (d : Nat) (errs : List Code) :
    (fetchCell s p pcol lcol row d errs).pending = s.pending ∧ (fetchCell s p pcol lcol row d errs).otp = s.otp := by
  unfold fetchCell
  constructor <;> (repeat' split) <;> (try simp) <;> (try intros) <;> (repeat' split) <;> (try simp) <;> (try intros) <;> (repeat' split) <;> (try simp_all)

@[simp ↓] theorem keep_drawerFetch (s : State) (p : Nat) (pcol : Nat) (row : Nat) (errs : List Code) :
    (drawerFetch s p pcol row errs).pending = s.pending ∧ (drawerFetch s p pcol row errs).otp = s.otp := by
  unfold drawerFetch
  constructor <;> (repeat' split) <;> (try simp) <;> (try intros) <;> (repeat' split) <;> (try simp) <;> (try intros) <;> (repeat' split) <;> (try simp_all)

@[simp ↓] theorem keep_fetchCol (p : Nat) (d : Nat) (s : State) (pcol : Nat) :
    (fetchCol p d s pcol).pending = s.pending ∧ (fetchCol p d s pcol).otp = s.otp := by
  unfold fetchCol
  constructor <;> (repeat' split) <;> (try simp) <;> (try intros) <;> (repeat' split) <;> (try simp) <;> (try intros) <;> (repeat' split) <;> (try simp_all)

@[simp ↓] theorem keep_fetchRest (s : State) (p : Nat) (d : Nat) :
    (fetchRest s p d).pending = s.pending ∧ (fetchRest s p d).otp = s.otp := by
  unfold fetchRest
  constructor <;> (repeat' split) <;> (try simp) <;> (try intros) <;> (repeat' split) <;> (try simp) <;> (try intros) <;> (repeat' split) <;> (try simp_all)

@[simp ↓] theorem keep_slotBegin (s : State) (p : Nat) (n : Nat) (t : Nat) :
    (slotBegin s p n t).pending = s.pending ∧ (slotBegin s p n t).otp = s.otp := by
  unfold slotBegin
  constructor <;> (repeat' split) <;> (try simp) <;> (try intros) <;> (repeat' split) <;> (try simp) <;> (try intros) <;> (repeat' split) <;> (try simp_all)

@[simp ↓] theorem keep_slotStep (s : State) (p : Nat) :
    (slotStep s p).pending = s.pending ∧ (slotStep s p).otp = s.otp := by
  unfold slotStep
  constructor <;> (repeat' split) <;> (try simp) <;> (try intros) <;> (repeat' split) <;> (try simp) <;> (try intros) <;> (repeat' split) <;> (try simp_all)

@[simp ↓] theorem keep_slotGuard (s : State) (p : Nat) :
    (slotGuard s p).pending = s.pending ∧ (slotGuard s p).otp = s.otp := by
  unfold slotGuard
  constructor <;> (repeat' split) <;> (try simp) <;> (try intros) <;> (repeat' split) <;> (try simp) <;> (try intros) <;> (repeat' split) <;> (try simp_all)

@[simp ↓] theorem keep_planStart (s : State) (p : Nat) :
    (planStart s p).pending = s.pending ∧ (planStart s p).otp = s.otp := by
  unfold planStart
  constructor <;> (repeat' split) <;> (try simp) <;> (try intros) <;> (repeat' split) <;> (try simp) <;> (try intros) <;> (repeat' split) <;> (try simp_all)

@[simp ↓] theorem keep_stepDo (s0 : State) (p : Nat) (k : Nat) :
    (stepDo s0 p k).pending = s0.pending ∧ (stepDo s0 p k).otp = s0.otp := by
  unfold stepDo
  constructor <;> (repeat' split) <;> (try simp) <;> (try intros) <;> (repeat' split) <;> (try simp) <;> (try intros) <;> (repeat' split) <;> (try simp_all)

@[simp ↓] theorem keep_startupStep (s : State) (p : Nat) :
    (startupStep s p).pending = s.pending ∧ (startupStep s p).otp = s.otp := by
  unfold startupStep
  constructor <;> (repeat' split) <;> (try simp) <;> (try intros) <;> (repeat' split) <;> (try simp) <;> (try intros) <;> (repeat' split) <;> (try simp_all)

@[simp ↓] theorem keep_startupEdge (s : State) (p : Nat) :
    (startupEdge s p).pending = s.pending ∧ (startupEdge s p).otp = s.otp := by
  unfold startupEdge
  constructor <;> (repeat' split) <;> (try simp) <;> (try intros) <;> (repeat' split) <;> (try simp) <;> (try intros) <;> (repeat' split) <;> (try simp_all)

@[simp ↓] theorem keep_capture (s : State) (p : Nat) (t : Nat) :
    (capture s p t).pending = s.pending ∧ (capture s p t).otp = s.otp := by
  unfold capture
  constructor <;> (repeat' split) <;> (try simp) <;> (try intros) <;> (repeat' split) <;> (try simp) <;> (try intros) <;> (repeat' split) <;> (try simp_all)

@[simp ↓] theorem keep_captureArm (s : State) (p : Nat) (mode : Nat) (ofs : Nat) :
    (captureArm s p mode ofs).pending = s.pending ∧ (captureArm s p mode ofs).otp = s.otp := by
  unfold captureArm
  constructor <;> (repeat' split) <;> (try simp) <;> (try intros) <;> (repeat' split) <;> (try simp) <;> (try intros) <;> (repeat' split) <;> (try simp_all)

@[simp ↓] theorem keep_captureWrite (s : State) (p : Nat) (v : Nat) (mm : Bool) :
    (captureWrite s p v mm).pending = s.pending ∧ (captureWrite s p v mm).otp = s.otp := by
  unfold captureWrite
  constructor <;> (repeat' split) <;> (try simp) <;> (try intros) <;> (repeat' split) <;> (try simp) <;> (try intros) <;> (repeat' split) <;> (try simp_all)

@[simp ↓] theorem keep_setReq (s : State) (p : Nat) (r : GReq) :
    (setReq s p r).pending = s.pending ∧ (setReq s p r).otp = s.otp := by
  unfold setReq
  constructor <;> (repeat' split) <;> (try simp) <;> (try intros) <;> (repeat' split) <;> (try simp) <;> (try intros) <;> (repeat' split) <;> (try simp_all)

@[simp ↓] theorem keep_cabStart (s : State) (p : Nat) (plan : Nat) :
    (cabStart s p plan).pending = s.pending ∧ (cabStart s p plan).otp = s.otp := by
  unfold cabStart
  constructor <;> (repeat' split) <;> (try simp) <;> (try intros) <;> (repeat' split) <;> (try simp) <;> (try intros) <;> (repeat' split) <;> (try simp_all)

@[simp ↓] theorem keep_cabStop (s : State) (p : Nat) (st : Nat) :
    (cabStop s p st).pending = s.pending ∧ (cabStop s p st).otp = s.otp := by
  unfold cabStop
  constructor <;> (repeat' split) <;> (try simp) <;> (try intros) <;> (repeat' split) <;> (try simp) <;> (try intros) <;> (repeat' split) <;> (try simp_all)

@[simp ↓] theorem keep_cabOff (s : State) (p : Nat) :
    (cabOff s p).pending = s.pending ∧ (cabOff s p).otp = s.otp := by
  unfold cabOff
  constructor <;> (repeat' split) <;> (try simp) <;> (try intros) <;> (repeat' split) <;> (try simp) <;> (try intros) <;> (repeat' split) <;> (try simp_all)

@[simp ↓] theorem keep_relocSwitch (s : State) (p : Nat) (r : Reloc) (plan : Nat) :
    (relocSwitch s p r plan).pending = s.pending ∧ (relocSwitch s p r plan).otp = s.otp := by
  unfold relocSwitch
  constructor <;> (repeat' split) <;> (try simp) <;> (try intros) <;> (repeat' split) <;> (try simp) <;> (try intros) <;> (repeat' split) <;> (try simp_all)

@[simp ↓] theorem keep_drainFinish (s : State) (p : Nat) :
    (drainFinish s p).pending = s.pending ∧ (drainFinish s p).otp = s.otp := by
  unfold drainFinish
  constructor <;> (repeat' split) <;> (try simp) <;> (try intros) <;> (repeat' split) <;> (try simp) <;> (try intros) <;> (repeat' split) <;> (try simp_all)

end Machine
end Sys2Proof
end

