-- ==== Sys2Proof/Laws/KeepLex.lean ====
section
/-!
SUPPORT. What the operations of Machine/Lex.lean leave alone: the queue of waiting commands and the fuses.
-/

namespace Sys2Proof
namespace Machine

@[simp ↓] theorem keep_setLex (s : State) (x : LexSt) :
    (setLex s x).pending = s.pending ∧ (setLex s x).otp = s.otp := by
  unfold setLex
  constructor <;> (repeat' split) <;> (try simp) <;> (try intros) <;> (repeat' split) <;> (try simp) <;> (try intros) <;> (repeat' split) <;> (try simp_all)

@[simp ↓] theorem keep_lexUpset (s : State) (l : List (Nat × Code)) :
    (lexUpset s l).pending = s.pending ∧ (lexUpset s l).otp = s.otp := by
  unfold lexUpset
  constructor <;> (repeat' split) <;> (try simp) <;> (try intros) <;> (repeat' split) <;> (try simp) <;> (try intros) <;> (repeat' split) <;> (try simp_all)

@[simp ↓] theorem keep_lexMirror (s : State) (m : Mirror) :
    (lexMirror s m).pending = s.pending ∧ (lexMirror s m).otp = s.otp := by
  unfold lexMirror
  constructor <;> (repeat' split) <;> (try simp) <;> (try intros) <;> (repeat' split) <;> (try simp) <;> (try intros) <;> (repeat' split) <;> (try simp_all)

@[simp ↓] theorem keep_lexRead (s : State) (loc : Nat) (patrol : Bool) :
    (lexRead s loc patrol).1.pending = s.pending ∧ (lexRead s loc patrol).1.otp = s.otp := by
  unfold lexRead
  constructor <;> (repeat' split) <;> (try simp) <;> (try intros) <;> (repeat' split) <;> (try simp) <;> (try intros) <;> (repeat' split) <;> (try simp_all)

@[simp ↓] theorem keep_lexFind (tk : Nat) (x1 : List Nat) (x2 : State) :
    (lexFind tk x1 x2).1.pending = x2.pending ∧ (lexFind tk x1 x2).1.otp = x2.otp := by
  induction x1 generalizing x2 with
  | nil => simp [lexFind]
  | cons l r ih =>
    unfold lexFind
    dsimp only
    split <;> simp [ih]

@[simp ↓] theorem keep_lexLookup (s : State) (port : Nat) (l : List Byte) (sdev : Nat) (rflow : Nat) :
    (lexLookup s port l sdev rflow).1.pending = s.pending ∧ (lexLookup s port l sdev rflow).1.otp = s.otp := by
  unfold lexLookup
  constructor <;> (repeat' split) <;> (try simp) <;> (try intros) <;> (repeat' split) <;> (try simp) <;> (try intros) <;> (repeat' split) <;> (try simp_all)

@[simp ↓] theorem keep_qmLookup (s : State) (k : Nat) (since : Nat) :
    (qmLookup s k since).pending = s.pending ∧ (qmLookup s k since).otp = s.otp := by
  unfold qmLookup
  constructor <;> (repeat' split) <;> (try simp) <;> (try intros) <;> (repeat' split) <;> (try simp) <;> (try intros) <;> (repeat' split) <;> (try simp_all)

@[simp ↓] theorem keep_lexSlot (s0 : State) (up : List (Nat × Code)) :
    (lexSlot s0 up).pending = s0.pending ∧ (lexSlot s0 up).otp = s0.otp := by
  unfold lexSlot
  constructor <;> (repeat' split) <;> (try simp) <;> (try intros) <;> (repeat' split) <;> (try simp) <;> (try intros) <;> (repeat' split) <;> (try simp_all)

@[simp ↓] theorem keep_lexDone (s : State) (status : Nat) (loc : Nat) (moves : Nat) :
    (lexDone s status loc moves).pending = s.pending ∧ (lexDone s status loc moves).otp = s.otp := by
  unfold lexDone
  constructor <;> (repeat' split) <;> (try simp) <;> (try intros) <;> (repeat' split) <;> (try simp) <;> (try intros) <;> (repeat' split) <;> (try simp_all)

@[simp ↓] theorem keep_lexScan (x0 : List (List Nat)) (x1 : State) :
    (lexScan x0 x1).1.pending = x1.pending ∧ (lexScan x0 x1).1.otp = x1.otp := by
  first
  | (fun_induction lexScan <;> simp_all; done)
  | (fun_induction lexScan <;> simp_all +zetaDelta; done)
  | (unfold lexScan; constructor <;> (repeat' split) <;> (try simp) <;> (try intros) <;> (repeat' split) <;> (try simp) <;> (try intros) <;> (repeat' split) <;> (try simp_all))

@[simp ↓] theorem keep_lexChain (x0 : Nat) (x1 : List (List Nat)) (x2 : State) :
    (lexChain x0 x1 x2).1.pending = x2.pending ∧ (lexChain x0 x1 x2).1.otp = x2.otp := by
  first
  | (fun_induction lexChain <;> simp_all; done)
  | (fun_induction lexChain <;> simp_all +zetaDelta; done)
  | (unfold lexChain; constructor <;> (repeat' split) <;> (try simp) <;> (try intros) <;> (repeat' split) <;> (try simp) <;> (try intros) <;> (repeat' split) <;> (try simp_all))

@[simp ↓] theorem keep_lexPlace (s : State) (tk : Nat) :
    (lexPlace s tk).1.pending = s.pending ∧ (lexPlace s tk).1.otp = s.otp := by
  unfold lexPlace
  constructor <;> (repeat' split) <;> (try simp) <;> (try intros) <;> (repeat' split) <;> (try simp) <;> (try intros) <;> (repeat' split) <;> (try simp_all)

@[simp ↓] theorem keep_lexHold (s : State) (op : Nat) (e : Nat) (old : Nat) (new : Nat) :
    (lexHold s op e old new).pending = s.pending ∧ (lexHold s op e old new).otp = s.otp := by
  unfold lexHold
  constructor <;> (repeat' split) <;> (try simp) <;> (try intros) <;> (repeat' split) <;> (try simp) <;> (try intros) <;> (repeat' split) <;> (try simp_all)

@[simp ↓] theorem keep_lexCmdLoc (s : State) (op : Nat) (loc : Nat) :
    (lexCmdLoc s op loc).pending = s.pending ∧ (lexCmdLoc s op loc).otp = s.otp := by
  unfold lexCmdLoc
  constructor <;> (repeat' split) <;> (try simp) <;> (try intros) <;> (repeat' split) <;> (try simp) <;> (try intros) <;> (repeat' split) <;> (try simp_all)

@[simp ↓] theorem keep_lexCmdHit (s : State) (op : Nat) (loc : Nat) (e : Nat) (l : Nat) (x : Nat) :
    (lexCmdHit s op loc e l x).pending = s.pending ∧ (lexCmdHit s op loc e l x).otp = s.otp := by
  unfold lexCmdHit
  constructor <;> (repeat' split) <;> (try simp) <;> (try intros) <;> (repeat' split) <;> (try simp) <;> (try intros) <;> (repeat' split) <;> (try simp_all)

@[simp ↓] theorem keep_lexCmdMiss (s : State) (op : Nat) (loc : Nat) (e : Nat) :
    (lexCmdMiss s op loc e).pending = s.pending ∧ (lexCmdMiss s op loc e).otp = s.otp := by
  unfold lexCmdMiss
  constructor <;> (repeat' split) <;> (try simp) <;> (try intros) <;> (repeat' split) <;> (try simp) <;> (try intros) <;> (repeat' split) <;> (try simp_all)

@[simp ↓] theorem keep_lexCmd (s0 : State) (op : Nat) (loc : Nat) (up : List (Nat × Code)) :
    (lexCmd s0 op loc up).pending = s0.pending ∧ (lexCmd s0 op loc up).otp = s0.otp := by
  unfold lexCmd
  constructor <;> (repeat' split) <;> (try simp) <;> (try intros) <;> (repeat' split) <;> (try simp) <;> (try intros) <;> (repeat' split) <;> (try simp_all)

@[simp ↓] theorem keep_lexCommitIns (s : State) (e : Nat) (hit : Option Nat) :
    (lexCommitIns s e hit).pending = s.pending ∧ (lexCommitIns s e hit).otp = s.otp := by
  unfold lexCommitIns
  constructor <;> (repeat' split) <;> (try simp) <;> (try intros) <;> (repeat' split) <;> (try simp) <;> (try intros) <;> (repeat' split) <;> (try simp_all)

@[simp ↓] theorem keep_lexCommitMod (s : State) (op : Nat) (e : Nat) (hit : Option (Nat × Nat)) :
    (lexCommitMod s op e hit).pending = s.pending ∧ (lexCommitMod s op e hit).otp = s.otp := by
  unfold lexCommitMod
  constructor <;> (repeat' split) <;> (try simp) <;> (try intros) <;> (repeat' split) <;> (try simp) <;> (try intros) <;> (repeat' split) <;> (try simp_all)

@[simp ↓] theorem keep_lexCommit (s : State) (m : Mirror) :
    (lexCommit s m).pending = s.pending ∧ (lexCommit s m).otp = s.otp := by
  unfold lexCommit
  constructor <;> (repeat' split) <;> (try simp) <;> (try intros) <;> (repeat' split) <;> (try simp) <;> (try intros) <;> (repeat' split) <;> (try simp_all)

@[simp ↓] theorem keep_lexPortPut (s : State) (i : Nat) (v : Nat) :
    (lexPortPut s i v).pending = s.pending ∧ (lexPortPut s i v).otp = s.otp := by
  unfold lexPortPut
  constructor <;> (repeat' split) <;> (try simp) <;> (try intros) <;> (repeat' split) <;> (try simp) <;> (try intros) <;> (repeat' split) <;> (try simp_all)

@[simp ↓] theorem keep_lexPortWrite (s : State) (i : Nat) (v : Nat) :
    (lexPortWrite s i v).pending = s.pending ∧ (lexPortWrite s i v).otp = s.otp := by
  unfold lexPortWrite
  constructor <;> (repeat' split) <;> (try simp) <;> (try intros) <;> (repeat' split) <;> (try simp) <;> (try intros) <;> (repeat' split) <;> (try simp_all)

@[simp ↓] theorem keep_mirrorEnd (s : State) (m : Mirror) :
    (mirrorEnd s m).pending = s.pending ∧ (mirrorEnd s m).otp = s.otp := by
  unfold mirrorEnd
  constructor <;> (repeat' split) <;> (try simp) <;> (try intros) <;> (repeat' split) <;> (try simp) <;> (try intros) <;> (repeat' split) <;> (try simp_all)

@[simp ↓] theorem keep_mirrorRecord (s : State) :
    (mirrorRecord s).pending = s.pending ∧ (mirrorRecord s).otp = s.otp := by
  unfold mirrorRecord
  constructor <;> (repeat' split) <;> (try simp) <;> (try intros) <;> (repeat' split) <;> (try simp) <;> (try intros) <;> (repeat' split) <;> (try simp_all)

@[simp ↓] theorem keep_mirrorConfirm (s : State) :
    (mirrorConfirm s).pending = s.pending ∧ (mirrorConfirm s).otp = s.otp := by
  unfold mirrorConfirm
  constructor <;> (repeat' split) <;> (try simp) <;> (try intros) <;> (repeat' split) <;> (try simp) <;> (try intros) <;> (repeat' split) <;> (try simp_all)

@[simp ↓] theorem keep_mirrorTimeout (s : State) :
    (mirrorTimeout s).pending = s.pending ∧ (mirrorTimeout s).otp = s.otp := by
  unfold mirrorTimeout
  constructor <;> (repeat' split) <;> (try simp) <;> (try intros) <;> (repeat' split) <;> (try simp) <;> (try intros) <;> (repeat' split) <;> (try simp_all)

@[simp ↓] theorem keep_lexPatrol (s0 : State) (up : List (Nat × Code)) :
    (lexPatrol s0 up).pending = s0.pending ∧ (lexPatrol s0 up).otp = s0.otp := by
  unfold lexPatrol
  constructor <;> (repeat' split) <;> (try simp) <;> (try intros) <;> (repeat' split) <;> (try simp) <;> (try intros) <;> (repeat' split) <;> (try simp_all)

@[simp ↓] theorem keep_lexSpare (s : State) :
    (lexSpare s).pending = s.pending ∧ (lexSpare s).otp = s.otp := by
  unfold lexSpare
  constructor <;> (repeat' split) <;> (try simp) <;> (try intros) <;> (repeat' split) <;> (try simp) <;> (try intros) <;> (repeat' split) <;> (try simp_all)

end Machine
end Sys2Proof
end

