-- ==== Sys2Proof/Laws/KeepCpt.lean ====
section
/-!
SUPPORT. What the operations of Machine/Cpt.lean leave alone: the queue of waiting commands and the fuses.
-/

namespace Sys2Proof
namespace Machine

@[simp ↓] theorem keep_linkEvent (s : State) (kind : Nat) (id : Nat) (st : Nat) (reason : Nat) :
    (linkEvent s kind id st reason).pending = s.pending ∧ (linkEvent s kind id st reason).otp = s.otp := by
  unfold linkEvent
  constructor <;> (repeat' split) <;> (try simp) <;> (try intros) <;> (repeat' split) <;> (try simp) <;> (try intros) <;> (repeat' split) <;> (try simp_all)

@[simp ↓] theorem keep_portDown (s : State) (n : Nat) (mid : Bool) :
    (portDown s n mid).pending = s.pending ∧ (portDown s n mid).otp = s.otp := by
  unfold portDown
  constructor <;> (repeat' split) <;> (try simp) <;> (try intros) <;> (repeat' split) <;> (try simp) <;> (try intros) <;> (repeat' split) <;> (try simp_all)

@[simp ↓] theorem keep_cptCfgWrite (s : State) (n : Nat) (v : Nat) :
    (cptCfgWrite s n v).pending = s.pending ∧ (cptCfgWrite s n v).otp = s.otp := by
  unfold cptCfgWrite
  constructor <;> (repeat' split) <;> (try simp) <;> (try intros) <;> (repeat' split) <;> (try simp) <;> (try intros) <;> (repeat' split) <;> (try simp_all)

@[simp ↓] theorem keep_rxFrame (s0 : State) (n : Nat) (l : List Byte) (err : Bool) (fec : Nat) :
    (rxFrame s0 n l err fec).pending = s0.pending ∧ (rxFrame s0 n l err fec).otp = s0.otp := by
  unfold rxFrame
  constructor <;> (repeat' split) <;> (try simp) <;> (try intros) <;> (repeat' split) <;> (try simp) <;> (try intros) <;> (repeat' split) <;> (try simp_all)

@[simp ↓] theorem keep_stampPut (s : State) (n : Nat) (seq : Nat) :
    (stampPut s n seq).pending = s.pending ∧ (stampPut s n seq).otp = s.otp := by
  unfold stampPut
  constructor <;> (repeat' split) <;> (try simp) <;> (try intros) <;> (repeat' split) <;> (try simp) <;> (try intros) <;> (repeat' split) <;> (try simp_all)

@[simp ↓] theorem keep_txStamp (s : State) (n : Nat) (l : List Byte) :
    (txStamp s n l).1.pending = s.pending ∧ (txStamp s n l).1.otp = s.otp := by
  unfold txStamp
  constructor <;> (repeat' split) <;> (try simp) <;> (try intros) <;> (repeat' split) <;> (try simp) <;> (try intros) <;> (repeat' split) <;> (try simp_all)

@[simp ↓] theorem keep_txFrame (s : State) (n : Nat) :
    (txFrame s n).pending = s.pending ∧ (txFrame s n).otp = s.otp := by
  unfold txFrame
  constructor <;> (repeat' split) <;> (try simp) <;> (try intros) <;> (repeat' split) <;> (try simp) <;> (try intros) <;> (repeat' split) <;> (try simp_all)

@[simp ↓] theorem keep_txtsRead (s : State) (n : Nat) :
    (txtsRead s n).1.pending = s.pending ∧ (txtsRead s n).1.otp = s.otp := by
  unfold txtsRead
  constructor <;> (repeat' split) <;> (try simp) <;> (try intros) <;> (repeat' split) <;> (try simp) <;> (try intros) <;> (repeat' split) <;> (try simp_all)

@[simp ↓] theorem keep_txtsReadLow (s : State) (n : Nat) :
    (txtsReadLow s n).1.pending = s.pending ∧ (txtsReadLow s n).1.otp = s.otp := by
  unfold txtsReadLow
  constructor <;> (repeat' split) <;> (try simp) <;> (try intros) <;> (repeat' split) <;> (try simp) <;> (try intros) <;> (repeat' split) <;> (try simp_all)

@[simp ↓] theorem keep_txtsReadHigh (s : State) (n : Nat) :
    (txtsReadHigh s n).1.pending = s.pending ∧ (txtsReadHigh s n).1.otp = s.otp := by
  unfold txtsReadHigh
  constructor <;> (repeat' split) <;> (try simp) <;> (try intros) <;> (repeat' split) <;> (try simp) <;> (try intros) <;> (repeat' split) <;> (try simp_all)

@[simp ↓] theorem keep_todStep (s : State) (v : Nat) :
    (todStep s v).pending = s.pending ∧ (todStep s v).otp = s.otp := by
  unfold todStep
  constructor <;> (repeat' split) <;> (try simp) <;> (try intros) <;> (repeat' split) <;> (try simp) <;> (try intros) <;> (repeat' split) <;> (try simp_all)

@[simp ↓] theorem keep_todRead (s : State) :
    (todRead s).1.pending = s.pending ∧ (todRead s).1.otp = s.otp := by
  unfold todRead
  constructor <;> (repeat' split) <;> (try simp) <;> (try intros) <;> (repeat' split) <;> (try simp) <;> (try intros) <;> (repeat' split) <;> (try simp_all)

end Machine
end Sys2Proof
end

