-- ==== Sys2Proof/Laws/KeepTickSrc.lean ====
section
/-!
SUPPORT. What the operations of Machine/TickSrc.lean leave alone: the queue of waiting commands and the fuses.
-/

namespace Sys2Proof
namespace Machine

@[simp ↓] theorem keep_setTime (s : State) (t : TimeSt) :
    (setTime s t).pending = s.pending ∧ (setTime s t).otp = s.otp := by
  unfold setTime
  constructor <;> (repeat' split) <;> (try simp) <;> (try intros) <;> (repeat' split) <;> (try simp) <;> (try intros) <;> (repeat' split) <;> (try simp_all)

@[simp ↓] theorem keep_tickEvent (s : State) (realigned : Bool) :
    (tickEvent s realigned).pending = s.pending ∧ (tickEvent s realigned).otp = s.otp := by
  unfold tickEvent
  constructor <;> (repeat' split) <;> (try simp) <;> (try intros) <;> (repeat' split) <;> (try simp) <;> (try intros) <;> (repeat' split) <;> (try simp_all)

@[simp ↓] theorem keep_pllLoss (s : State) (k : Nat) :
    (pllLoss s k).pending = s.pending ∧ (pllLoss s k).otp = s.otp := by
  unfold pllLoss
  constructor <;> (repeat' split) <;> (try simp) <;> (try intros) <;> (repeat' split) <;> (try simp) <;> (try intros) <;> (repeat' split) <;> (try simp_all)

@[simp ↓] theorem keep_pllRelock (s : State) (k : Nat) :
    (pllRelock s k).pending = s.pending ∧ (pllRelock s k).otp = s.otp := by
  unfold pllRelock
  constructor <;> (repeat' split) <;> (try simp) <;> (try intros) <;> (repeat' split) <;> (try simp) <;> (try intros) <;> (repeat' split) <;> (try simp_all)

@[simp ↓] theorem keep_tickPhase (s : State) (err : Int) :
    (tickPhase s err).pending = s.pending ∧ (tickPhase s err).otp = s.otp := by
  unfold tickPhase
  constructor <;> (repeat' split) <;> (try simp) <;> (try intros) <;> (repeat' split) <;> (try simp) <;> (try intros) <;> (repeat' split) <;> (try simp_all)

@[simp ↓] theorem keep_tickMissed (s : State) :
    (tickMissed s).pending = s.pending ∧ (tickMissed s).otp = s.otp := by
  unfold tickMissed
  constructor <;> (repeat' split) <;> (try simp) <;> (try intros) <;> (repeat' split) <;> (try simp) <;> (try intros) <;> (repeat' split) <;> (try simp_all)

@[simp ↓] theorem keep_tickLenWrite (s : State) (v : Nat) :
    (tickLenWrite s v).pending = s.pending ∧ (tickLenWrite s v).otp = s.otp := by
  unfold tickLenWrite
  constructor <;> (repeat' split) <;> (try simp) <;> (try intros) <;> (repeat' split) <;> (try simp) <;> (try intros) <;> (repeat' split) <;> (try simp_all)

@[simp ↓] theorem keep_tickAlign (s : State) :
    (tickAlign s).pending = s.pending ∧ (tickAlign s).otp = s.otp := by
  unfold tickAlign
  constructor <;> (repeat' split) <;> (try simp) <;> (try intros) <;> (repeat' split) <;> (try simp) <;> (try intros) <;> (repeat' split) <;> (try simp_all)

@[simp ↓] theorem keep_tickSrcWrite (s : State) (v : Nat) :
    (tickSrcWrite s v).pending = s.pending ∧ (tickSrcWrite s v).otp = s.otp := by
  unfold tickSrcWrite
  constructor <;> (repeat' split) <;> (try simp) <;> (try intros) <;> (repeat' split) <;> (try simp) <;> (try intros) <;> (repeat' split) <;> (try simp_all)

@[simp ↓] theorem keep_tickCntRead (s : State) :
    (tickCntRead s).1.pending = s.pending ∧ (tickCntRead s).1.otp = s.otp := by
  unfold tickCntRead
  constructor <;> (repeat' split) <;> (try simp) <;> (try intros) <;> (repeat' split) <;> (try simp) <;> (try intros) <;> (repeat' split) <;> (try simp_all)

end Machine
end Sys2Proof
end

