-- ==== Sys2Proof/Laws/KeepSpan.lean ====
section
/-!
SUPPORT. What the operations of Machine/Span.lean leave alone: the queue of waiting commands and the fuses.
-/

namespace Sys2Proof
namespace Machine

@[simp ↓] theorem keep_setSpLane (s : State) (n : Nat) (x : SpnLane) :
    (setSpLane s n x).pending = s.pending ∧ (setSpLane s n x).otp = s.otp := by
  unfold setSpLane
  constructor <;> (repeat' split) <;> (try simp) <;> (try intros) <;> (repeat' split) <;> (try simp) <;> (try intros) <;> (repeat' split) <;> (try simp_all)

@[simp ↓] theorem keep_spGo (s : State) (k : Nat) (st : Nat) (reason : Nat) :
    (spGo s k st reason).pending = s.pending ∧ (spGo s k st reason).otp = s.otp := by
  unfold spGo
  constructor <;> (repeat' split) <;> (try simp) <;> (try intros) <;> (repeat' split) <;> (try simp) <;> (try intros) <;> (repeat' split) <;> (try simp_all)

@[simp ↓] theorem keep_setTxQueue (s : State) (n : Nat) (l : List SOut) :
    (setTxQueue s n l).pending = s.pending ∧ (setTxQueue s n l).otp = s.otp := by
  unfold setTxQueue
  constructor <;> (repeat' split) <;> (try simp) <;> (try intros) <;> (repeat' split) <;> (try simp) <;> (try intros) <;> (repeat' split) <;> (try simp_all)

@[simp ↓] theorem keep_txPut (s : State) (n : Nat) (o : SOut) :
    (txPut s n o).pending = s.pending ∧ (txPut s n o).otp = s.otp := by
  unfold txPut
  constructor <;> (repeat' split) <;> (try simp) <;> (try intros) <;> (repeat' split) <;> (try simp) <;> (try intros) <;> (repeat' split) <;> (try simp_all)

@[simp ↓] theorem keep_calStart (s : State) (k : Nat) :
    (calStart s k).pending = s.pending ∧ (calStart s k).otp = s.otp := by
  unfold calStart
  constructor <;> (repeat' split) <;> (try simp) <;> (try intros) <;> (repeat' split) <;> (try simp) <;> (try intros) <;> (repeat' split) <;> (try simp_all)

@[simp ↓] theorem keep_calOff (s : State) (k : Nat) (run0 : Bool) :
    (calOff s k run0).pending = s.pending ∧ (calOff s k run0).otp = s.otp := by
  unfold calOff
  constructor <;> (repeat' split) <;> (try simp) <;> (try intros) <;> (repeat' split) <;> (try simp) <;> (try intros) <;> (repeat' split) <;> (try simp_all)

@[simp ↓] theorem keep_spClear (s : State) (k : Nat) (up : Bool) :
    (spClear s k up).pending = s.pending ∧ (spClear s k up).otp = s.otp := by
  unfold spClear
  constructor <;> (repeat' split) <;> (try simp) <;> (try intros) <;> (repeat' split) <;> (try simp) <;> (try intros) <;> (repeat' split) <;> (try simp_all)

@[simp ↓] theorem keep_spOff (s : State) (k : Nat) :
    (spOff s k).pending = s.pending ∧ (spOff s k).otp = s.otp := by
  unfold spOff
  constructor <;> (repeat' split) <;> (try simp) <;> (try intros) <;> (repeat' split) <;> (try simp) <;> (try intros) <;> (repeat' split) <;> (try simp_all)

@[simp ↓] theorem keep_spLinkWrite (s0 : State) (k : Nat) (v : Nat) :
    (spLinkWrite s0 k v).pending = s0.pending ∧ (spLinkWrite s0 k v).otp = s0.otp := by
  unfold spLinkWrite
  constructor <;> (repeat' split) <;> (try simp) <;> (try intros) <;> (repeat' split) <;> (try simp) <;> (try intros) <;> (repeat' split) <;> (try simp_all)

@[simp ↓] theorem keep_spIdent (s : State) (k : Nat) (dev : Nat) (port : Nat) (width : Nat) :
    (spIdent s k dev port width).pending = s.pending ∧ (spIdent s k dev port width).otp = s.otp := by
  unfold spIdent
  constructor <;> (repeat' split) <;> (try simp) <;> (try intros) <;> (repeat' split) <;> (try simp) <;> (try intros) <;> (repeat' split) <;> (try simp_all)

@[simp ↓] theorem keep_spLaneDrop (s : State) (k : Nat) (n : Nat) :
    (spLaneDrop s k n).pending = s.pending ∧ (spLaneDrop s k n).otp = s.otp := by
  unfold spLaneDrop
  constructor <;> (repeat' split) <;> (try simp) <;> (try intros) <;> (repeat' split) <;> (try simp) <;> (try intros) <;> (repeat' split) <;> (try simp_all)

@[simp ↓] theorem keep_spDown (s : State) (k : Nat) (reason : Nat) :
    (spDown s k reason).pending = s.pending ∧ (spDown s k reason).otp = s.otp := by
  unfold spDown
  constructor <;> (repeat' split) <;> (try simp) <;> (try intros) <;> (repeat' split) <;> (try simp) <;> (try intros) <;> (repeat' split) <;> (try simp_all)

@[simp ↓] theorem keep_spLockLoss (s : State) (n : Nat) :
    (spLockLoss s n).pending = s.pending ∧ (spLockLoss s n).otp = s.otp := by
  unfold spLockLoss
  constructor <;> (repeat' split) <;> (try simp) <;> (try intros) <;> (repeat' split) <;> (try simp) <;> (try intros) <;> (repeat' split) <;> (try simp_all)

@[simp ↓] theorem keep_ackNow (s : State) (n : Nat) :
    (ackNow s n).pending = s.pending ∧ (ackNow s n).otp = s.otp := by
  unfold ackNow
  constructor <;> (repeat' split) <;> (try simp) <;> (try intros) <;> (repeat' split) <;> (try simp) <;> (try intros) <;> (repeat' split) <;> (try simp_all)

@[simp ↓] theorem keep_spResend (s : State) (k : Nat) (n : Nat) :
    (spResend s k n).pending = s.pending ∧ (spResend s k n).otp = s.otp := by
  unfold spResend
  constructor <;> (repeat' split) <;> (try simp) <;> (try intros) <;> (repeat' split) <;> (try simp) <;> (try intros) <;> (repeat' split) <;> (try simp_all)

@[simp ↓] theorem keep_spAck (s : State) (n : Nat) (x : Nat) :
    (spAck s n x).pending = s.pending ∧ (spAck s n x).otp = s.otp := by
  unfold spAck
  constructor <;> (repeat' split) <;> (try simp) <;> (try intros) <;> (repeat' split) <;> (try simp) <;> (try intros) <;> (repeat' split) <;> (try simp_all)

@[simp ↓] theorem keep_spAccept (s : State) (n : Nat) (x : Nat) :
    (spAccept s n x).pending = s.pending ∧ (spAccept s n x).otp = s.otp := by
  unfold spAccept
  constructor <;> (repeat' split) <;> (try simp) <;> (try intros) <;> (repeat' split) <;> (try simp) <;> (try intros) <;> (repeat' split) <;> (try simp_all)

@[simp ↓] theorem keep_spBad (s : State) (n : Nat) :
    (spBad s n).pending = s.pending ∧ (spBad s n).otp = s.otp := by
  unfold spBad
  constructor <;> (repeat' split) <;> (try simp) <;> (try intros) <;> (repeat' split) <;> (try simp) <;> (try intros) <;> (repeat' split) <;> (try simp_all)

@[simp ↓] theorem keep_spNakAt (s : State) (k : Nat) (n : Nat) (seq : Nat) :
    (spNakAt s k n seq).pending = s.pending ∧ (spNakAt s k n seq).otp = s.otp := by
  unfold spNakAt
  constructor <;> (repeat' split) <;> (try simp) <;> (try intros) <;> (repeat' split) <;> (try simp) <;> (try intros) <;> (repeat' split) <;> (try simp_all)

@[simp ↓] theorem keep_spFrame (s : State) (n : Nat) (x : Nat) (fec : Nat) :
    (spFrame s n x fec).pending = s.pending ∧ (spFrame s n x fec).otp = s.otp := by
  unfold spFrame
  constructor <;> (repeat' split) <;> (try simp) <;> (try intros) <;> (repeat' split) <;> (try simp) <;> (try intros) <;> (repeat' split) <;> (try simp_all)

@[simp ↓] theorem keep_spNak (s : State) (n : Nat) (seq : Nat) :
    (spNak s n seq).pending = s.pending ∧ (spNak s n seq).otp = s.otp := by
  unfold spNak
  constructor <;> (repeat' split) <;> (try simp) <;> (try intros) <;> (repeat' split) <;> (try simp) <;> (try intros) <;> (repeat' split) <;> (try simp_all)

@[simp ↓] theorem keep_spTimeout (s : State) (n : Nat) :
    (spTimeout s n).pending = s.pending ∧ (spTimeout s n).otp = s.otp := by
  unfold spTimeout
  constructor <;> (repeat' split) <;> (try simp) <;> (try intros) <;> (repeat' split) <;> (try simp) <;> (try intros) <;> (repeat' split) <;> (try simp_all)

@[simp ↓] theorem keep_spTx (n : Nat) (x1 : Nat) (x2 : State) :
    (spTx n x1 x2).pending = x2.pending ∧ (spTx n x1 x2).otp = x2.otp := by
  first
  | (fun_induction spTx <;> simp_all; done)
  | (fun_induction spTx <;> simp_all +zetaDelta; done)
  | (unfold spTx; constructor <;> (repeat' split) <;> (try simp) <;> (try intros) <;> (repeat' split) <;> (try simp) <;> (try intros) <;> (repeat' split) <;> (try simp_all))

@[simp ↓] theorem keep_spanIdle (s : State) :
    (spanIdle s).pending = s.pending ∧ (spanIdle s).otp = s.otp := by
  unfold spanIdle
  constructor <;> (repeat' split) <;> (try simp) <;> (try intros) <;> (repeat' split) <;> (try simp) <;> (try intros) <;> (repeat' split) <;> (try simp_all)

@[simp ↓] theorem keep_spTake (s : State) (net : Nat) (src : Nat) (sl : Nat) (p : SPkt) :
    (spTake s net src sl p).pending = s.pending ∧ (spTake s net src sl p).otp = s.otp := by
  unfold spTake
  constructor <;> (repeat' split) <;> (try simp) <;> (try intros) <;> (repeat' split) <;> (try simp) <;> (try intros) <;> (repeat' split) <;> (try simp_all)

@[simp ↓] theorem keep_spSend (s : State) (n : Nat) (sl : Nat) (dir : Nat) (dring : Nat) (p : SPkt) :
    (spSend s n sl dir dring p).pending = s.pending ∧ (spSend s n sl dir dring p).otp = s.otp := by
  unfold spSend
  constructor <;> (repeat' split) <;> (try simp) <;> (try intros) <;> (repeat' split) <;> (try simp) <;> (try intros) <;> (repeat' split) <;> (try simp_all)

@[simp ↓] theorem keep_spDropNote (s : State) (h : Pkt) (k : Nat) :
    (spDropNote s h k).pending = s.pending ∧ (spDropNote s h k).otp = s.otp := by
  unfold spDropNote
  constructor <;> (repeat' split) <;> (try simp) <;> (try intros) <;> (repeat' split) <;> (try simp) <;> (try intros) <;> (repeat' split) <;> (try simp_all)

@[simp ↓] theorem keep_spDropAt (s : State) (h : Bool × Pkt) (k : Nat) (st : Nat) :
    (spDropAt s h k st).pending = s.pending ∧ (spDropAt s h k st).otp = s.otp := by
  unfold spDropAt
  split <;> simp

@[simp ↓] theorem keep_spDrop (s : State) (src : Nat) (p : SPkt) :
    (spDrop s src p).pending = s.pending ∧ (spDrop s src p).otp = s.otp := by
  unfold spDrop
  exact keep_spDropAt ..

@[simp ↓] theorem keep_spEject (s : State) (st : Nat) (p : SPkt) :
    (spEject s st p).pending = s.pending ∧ (spEject s st p).otp = s.otp := by
  unfold spEject
  constructor <;> (repeat' split) <;> (try simp) <;> (try intros) <;> (repeat' split) <;> (try simp) <;> (try intros) <;> (repeat' split) <;> (try simp_all)

@[simp ↓] theorem keep_spGrant (s : State) (net : Nat) (q : SReq) :
    (spGrant s net q).pending = s.pending ∧ (spGrant s net q).otp = s.otp := by
  unfold spGrant
  cases q.r with
  | eject st => simp
  | drop => simp
  | send k sl dir dring =>
    dsimp only
    cases spPick (spTake s net q.src q.sl q.p) k <;> simp

@[simp ↓] theorem keep_spDropOne (net : Nat) (s : State) (q : SReq) :
    (spDropOne net s q).pending = s.pending ∧ (spDropOne net s q).otp = s.otp := by
  unfold spDropOne
  constructor <;> (repeat' split) <;> (try simp) <;> (try intros) <;> (repeat' split) <;> (try simp) <;> (try intros) <;> (repeat' split) <;> (try simp_all)

@[simp ↓] theorem keep_spDrops (s : State) (net : Nat) :
    (spDrops s net).pending = s.pending ∧ (spDrops s net).otp = s.otp := by
  unfold spDrops
  constructor <;> (repeat' split) <;> (try simp) <;> (try intros) <;> (repeat' split) <;> (try simp) <;> (try intros) <;> (repeat' split) <;> (try simp_all)

@[simp ↓] theorem keep_spArb (s : State) (net : Nat) (o : Nat) (rq : List SReq) :
    (spArb s net o rq).pending = s.pending ∧ (spArb s net o rq).otp = s.otp := by
  unfold spArb
  generalize pickSr s net (smGet 0 s.spn.ptr (10 * net + o)) rq = q
  cases q with
  | none => exact ⟨rfl, rfl⟩
  | some q => exact ⟨(keep_spGrant _ _ _).1, (keep_spGrant _ _ _).2⟩

@[simp ↓] theorem keep_spSwitch (s : State) (net : Nat) (o : Nat) :
    (spSwitch s net o).pending = s.pending ∧ (spSwitch s net o).otp = s.otp := by
  unfold spSwitch
  constructor <;> (repeat' split) <;> (try simp) <;> (try intros) <;> (repeat' split) <;> (try simp) <;> (try intros) <;> (repeat' split) <;> (try simp_all)

@[simp ↓] theorem keep_markSend (s : State) (k : Nat) (dep : Nat) :
    (markSend s k dep).pending = s.pending ∧ (markSend s k dep).otp = s.otp := by
  unfold markSend
  constructor <;> (repeat' split) <;> (try simp) <;> (try intros) <;> (repeat' split) <;> (try simp) <;> (try intros) <;> (repeat' split) <;> (try simp_all)

@[simp ↓] theorem keep_fineCycles (s : State) (f : Int) :
    (fineCycles s f).1.pending = s.pending ∧ (fineCycles s f).1.otp = s.otp := by
  unfold fineCycles
  constructor <;> (repeat' split) <;> (try simp) <;> (try intros) <;> (repeat' split) <;> (try simp) <;> (try intros) <;> (repeat' split) <;> (try simp_all)

@[simp ↓] theorem keep_markFollow (s : State) (k : Nat) (m : Marker) (arr : Int) :
    (markFollow s k m arr).pending = s.pending ∧ (markFollow s k m arr).otp = s.otp := by
  unfold markFollow
  constructor <;> (repeat' split) <;> (try simp) <;> (try intros) <;> (repeat' split) <;> (try simp) <;> (try intros) <;> (repeat' split) <;> (try simp_all)

@[simp ↓] theorem keep_markRecv (s : State) (k : Nat) (m : Marker) (crcBad : Bool) (arr : Int) :
    (markRecv s k m crcBad arr).pending = s.pending ∧ (markRecv s k m crcBad arr).otp = s.otp := by
  unfold markRecv
  constructor <;> (repeat' split) <;> (try simp) <;> (try intros) <;> (repeat' split) <;> (try simp) <;> (try intros) <;> (repeat' split) <;> (try simp_all)

@[simp ↓] theorem keep_masterLoss (s : State) :
    (masterLoss s).pending = s.pending ∧ (masterLoss s).otp = s.otp := by
  unfold masterLoss
  constructor <;> (repeat' split) <;> (try simp) <;> (try intros) <;> (repeat' split) <;> (try simp) <;> (try intros) <;> (repeat' split) <;> (try simp_all)

@[simp ↓] theorem keep_heardEdge (s : State) :
    (heardEdge s).pending = s.pending ∧ (heardEdge s).otp = s.otp := by
  unfold heardEdge
  constructor <;> (repeat' split) <;> (try simp) <;> (try intros) <;> (repeat' split) <;> (try simp) <;> (try intros) <;> (repeat' split) <;> (try simp_all)

@[simp ↓] theorem keep_spanEdge (s : State) :
    (spanEdge s).pending = s.pending ∧ (spanEdge s).otp = s.otp := by
  unfold spanEdge
  constructor <;> (repeat' split) <;> (try simp) <;> (try intros) <;> (repeat' split) <;> (try simp) <;> (try intros) <;> (repeat' split) <;> (try simp_all)

@[simp ↓] theorem keep_echo (s : State) (k : Nat) (t : Nat) (u : Nat) :
    (echo s k t u).pending = s.pending ∧ (echo s k t u).otp = s.otp := by
  unfold echo
  constructor <;> (repeat' split) <;> (try simp) <;> (try intros) <;> (repeat' split) <;> (try simp) <;> (try intros) <;> (repeat' split) <;> (try simp_all)

@[simp ↓] theorem keep_spSysWrite (s0 : State) (v : Nat) :
    (spSysWrite s0 v).pending = s0.pending ∧ (spSysWrite s0 v).otp = s0.otp := by
  unfold spSysWrite
  constructor <;> (repeat' split) <;> (try simp) <;> (try intros) <;> (repeat' split) <;> (try simp) <;> (try intros) <;> (repeat' split) <;> (try simp_all)

@[simp ↓] theorem keep_spRouteWrite (s : State) (d : Nat) (v : Nat) :
    (spRouteWrite s d v).pending = s.pending ∧ (spRouteWrite s d v).otp = s.otp := by
  unfold spRouteWrite
  constructor <;> (repeat' split) <;> (try simp) <;> (try intros) <;> (repeat' split) <;> (try simp) <;> (try intros) <;> (repeat' split) <;> (try simp_all)

end Machine
end Sys2Proof
end

