-- ==== Sys2Proof/Laws/KeepTick.lean ====
section
/-!
SUPPORT. What the operations of Machine/Tick.lean leave alone: the queue of waiting commands and the fuses.
-/

namespace Sys2Proof
namespace Machine

@[simp ↓] theorem keep_arithSnap (s : State) (p : Nat) :
    (arithSnap s p).pending = s.pending ∧ (arithSnap s p).otp = s.otp := by
  unfold arithSnap
  constructor <;> (repeat' split) <;> (try simp) <;> (try intros) <;> (repeat' split) <;> (try simp) <;> (try intros) <;> (repeat' split) <;> (try simp_all)

@[simp ↓] theorem keep_gapSwap (s : State) (p : Nat) :
    (gapSwap s p).pending = s.pending ∧ (gapSwap s p).otp = s.otp := by
  unfold gapSwap
  constructor <;> (repeat' split) <;> (try simp) <;> (try intros) <;> (repeat' split) <;> (try simp) <;> (try intros) <;> (repeat' split) <;> (try simp_all)

@[simp ↓] theorem keep_planSwitch (s : State) (p : Nat) :
    (planSwitch s p).pending = s.pending ∧ (planSwitch s p).otp = s.otp := by
  unfold planSwitch
  constructor <;> (repeat' split) <;> (try simp) <;> (try intros) <;> (repeat' split) <;> (try simp) <;> (try intros) <;> (repeat' split) <;> (try simp_all)

@[simp ↓] theorem keep_guardState (s : State) (p : Nat) :
    (guardState s p).pending = s.pending ∧ (guardState s p).otp = s.otp := by
  unfold guardState
  constructor <;> (repeat' split) <;> (try simp) <;> (try intros) <;> (repeat' split) <;> (try simp) <;> (try intros) <;> (repeat' split) <;> (try simp_all)

@[simp ↓] theorem keep_guardCab (s : State) (p : Nat) :
    (guardCab s p).pending = s.pending ∧ (guardCab s p).otp = s.otp := by
  unfold guardCab
  constructor <;> (repeat' split) <;> (try simp) <;> (try intros) <;> (repeat' split) <;> (try simp) <;> (try intros) <;> (repeat' split) <;> (try simp_all)

@[simp ↓] theorem keep_doorLatch (s : State) (p : Nat) :
    (doorLatch s p).pending = s.pending ∧ (doorLatch s p).otp = s.otp := by
  unfold doorLatch
  constructor <;> (repeat' split) <;> (try simp) <;> (try intros) <;> (repeat' split) <;> (try simp) <;> (try intros) <;> (repeat' split) <;> (try simp_all)

@[simp ↓] theorem keep_gapTransfer (s : State) (p : Nat) :
    (gapTransfer s p).pending = s.pending ∧ (gapTransfer s p).otp = s.otp := by
  unfold gapTransfer
  constructor <;> (repeat' split) <;> (try simp) <;> (try intros) <;> (repeat' split) <;> (try simp) <;> (try intros) <;> (repeat' split) <;> (try simp_all)

@[simp ↓] theorem keep_offsetCapture (a : Nat) (b : Nat) (s : State) (p : Nat) :
    (offsetCapture a b s p).pending = s.pending ∧ (offsetCapture a b s p).otp = s.otp := by
  unfold offsetCapture
  constructor <;> (repeat' split) <;> (try simp) <;> (try intros) <;> (repeat' split) <;> (try simp) <;> (try intros) <;> (repeat' split) <;> (try simp_all)

@[simp ↓] theorem keep_guardCapture (s : State) (p : Nat) :
    (guardCapture s p).pending = s.pending ∧ (guardCapture s p).otp = s.otp := by
  unfold guardCapture
  constructor <;> (repeat' split) <;> (try simp) <;> (try intros) <;> (repeat' split) <;> (try simp) <;> (try intros) <;> (repeat' split) <;> (try simp_all)

@[simp ↓] theorem keep_eachCab (f : State → Nat → State) (s : State) (hf : ∀ z z0, (f z z0).pending = z.pending ∧ (f z z0).otp = z.otp) :
    (eachCab f s).pending = s.pending ∧ (eachCab f s).otp = s.otp := by
  unfold eachCab
  (repeat' split) <;> simp_all

@[simp ↓] theorem keep_guardStatus (s : State) :
    (guardStatus s).pending = s.pending ∧ (guardStatus s).otp = s.otp := by
  unfold guardStatus
  extract_lets g s0
  have h0 : s0.pending = s.pending ∧ s0.otp = s.otp := by
    have h := keep_eachCab slotGuard (advanceTo s g) (fun z p => keep_slotGuard z p)
    exact ⟨h.1.trans (keep_advanceTo s g).1, h.2.trans (keep_advanceTo s g).2⟩
  generalize busyCells s0 = l
  have h1 := keep_foldl (landCell (g + 3)) l s0 (fun z k => keep_landCell _ z k)
  generalize List.foldl (landCell (g + 3)) s0 l = s1 at h1 ⊢
  have h2 := keep_advanceTo s1 (g + 3)
  generalize advanceTo s1 (g + 3) = s2 at h2 ⊢
  have h3 := keep_eachCab arithSnap s2 (fun z p => keep_arithSnap z p)
  generalize eachCab arithSnap s2 = s3 at h3 ⊢
  have h4 := keep_txDoorsEdge s3
  exact ⟨h4.1.trans (h3.1.trans (h2.1.trans (h1.1.trans h0.1))), h4.2.trans (h3.2.trans (h2.2.trans (h1.2.trans h0.2)))⟩

@[simp ↓] theorem keep_guardSwitch (s : State) :
    (guardSwitch s).pending = s.pending ∧ (guardSwitch s).otp = s.otp := by
  unfold guardSwitch
  extract_lets g s3 s4 s5 s6 s7
  have k3 : s3.pending = s.pending ∧ s3.otp = s.otp := keep_advanceTo ..
  have k4 : s4.pending = s3.pending ∧ s4.otp = s3.otp := keep_foldl _ _ _ (fun z k => keep_fifoTickSwap z k)
  have k5 : s5.pending = s4.pending ∧ s5.otp = s4.otp := by
    have h := keep_foldl fifoOrderGuard (setInstances s4 FIFO_MODE_ORDER_PEND) (advanceTo s4 (g + 5)) (fun z k => keep_fifoOrderGuard z k)
    exact ⟨h.1.trans (keep_advanceTo ..).1, h.2.trans (keep_advanceTo ..).2⟩
  have k6 : s6.pending = s5.pending ∧ s6.otp = s5.otp := by
    have a := keep_eachCab (offsetCapture g (g + 5)) s5 (fun z p => keep_offsetCapture _ _ z p)
    have b := keep_advanceTo (eachCab (offsetCapture g (g + 5)) s5) (g + 6)
    have c := keep_eachCab gapSwap (advanceTo (eachCab (offsetCapture g (g + 5)) s5) (g + 6)) (fun z p => keep_gapSwap z p)
    exact ⟨c.1.trans (b.1.trans a.1), c.2.trans (b.2.trans a.2)⟩
  have k7 : s7.pending = s6.pending ∧ s7.otp = s6.otp := by
    have h := keep_eachCab guardCab (advanceTo s6 (g + 7)) (fun z p => keep_guardCab z p)
    exact ⟨h.1.trans (keep_advanceTo ..).1, h.2.trans (keep_advanceTo ..).2⟩
  clear_value s3 s4 s5 s6 s7
  have h := keep_eachCab doorLatch (advanceTo s7 (g + 8)) (fun z p => keep_doorLatch z p)
  have b := keep_advanceTo s7 (g + 8)
  exact ⟨h.1.trans (b.1.trans (k7.1.trans (k6.1.trans (k5.1.trans (k4.1.trans k3.1))))),
    h.2.trans (b.2.trans (k7.2.trans (k6.2.trans (k5.2.trans (k4.2.trans k3.2)))))⟩

@[simp ↓] theorem keep_tickGuard (s : State) :
    (tickGuard s).pending = s.pending ∧ (tickGuard s).otp = s.otp := by
  unfold tickGuard
  constructor <;> (repeat' split) <;> (try simp) <;> (try intros) <;> (repeat' split) <;> (try simp) <;> (try intros) <;> (repeat' split) <;> (try simp_all)

@[simp ↓] theorem keep_captureDue (s : State) (p : Nat) :
    (captureDue s p).pending = s.pending ∧ (captureDue s p).otp = s.otp := by
  unfold captureDue
  constructor <;> (repeat' split) <;> (try simp) <;> (try intros) <;> (repeat' split) <;> (try simp) <;> (try intros) <;> (repeat' split) <;> (try simp_all)

@[simp ↓] theorem keep_drainWindowEnd (s : State) (p : Nat) :
    (drainWindowEnd s p).pending = s.pending ∧ (drainWindowEnd s p).otp = s.otp := by
  unfold drainWindowEnd
  constructor <;> (repeat' split) <;> (try simp) <;> (try intros) <;> (repeat' split) <;> (try simp) <;> (try intros) <;> (repeat' split) <;> (try simp_all)

@[simp ↓] theorem keep_realign (s : State) (n : Nat) :
    (realign s n).pending = s.pending ∧ (realign s n).otp = s.otp := by
  unfold realign
  constructor <;> (repeat' split) <;> (try simp) <;> (try intros) <;> (repeat' split) <;> (try simp) <;> (try intros) <;> (repeat' split) <;> (try simp_all)

@[simp ↓] theorem keep_lenTake (s : State) :
    (lenTake s).pending = s.pending ∧ (lenTake s).otp = s.otp := by
  unfold lenTake
  constructor <;> (repeat' split) <;> (try simp) <;> (try intros) <;> (repeat' split) <;> (try simp) <;> (try intros) <;> (repeat' split) <;> (try simp_all)

@[simp ↓] theorem keep_alignEnd (s : State) :
    (alignEnd s).pending = s.pending ∧ (alignEnd s).otp = s.otp := by
  unfold alignEnd
  constructor <;> (repeat' split) <;> (try simp) <;> (try intros) <;> (repeat' split) <;> (try simp) <;> (try intros) <;> (repeat' split) <;> (try simp_all)

@[simp ↓] theorem keep_cabEdge (s : State) (p : Nat) :
    (cabEdge s p).pending = s.pending ∧ (cabEdge s p).otp = s.otp := by
  unfold cabEdge
  constructor <;> (repeat' split) <;> (try simp) <;> (try intros) <;> (repeat' split) <;> (try simp) <;> (try intros) <;> (repeat' split) <;> (try simp_all)

@[simp ↓] theorem keep_tickEdge (s0 : State) :
    (tickEdge s0).pending = s0.pending ∧ (tickEdge s0).otp = s0.otp := by
  unfold tickEdge
  constructor <;> (repeat' split) <;> (try simp) <;> (try intros) <;> (repeat' split) <;> (try simp) <;> (try intros) <;> (repeat' split) <;> (try simp_all)

@[simp ↓] theorem keep_idleCycle (s : State) :
    (idleCycle s).pending = s.pending ∧ (idleCycle s).otp = s.otp := by
  unfold idleCycle
  constructor <;> (repeat' split) <;> (try simp) <;> (try intros) <;> (repeat' split) <;> (try simp) <;> (try intros) <;> (repeat' split) <;> (try simp_all)

end Machine
end Sys2Proof
end

