-- ==== Sys2Proof/Laws/KeepFault.lean ====
section
/-!
SUPPORT. What the operations of Machine/Fault.lean leave alone: the queue of waiting commands and the fuses.
-/

namespace Sys2Proof
namespace Machine

@[simp ↓] theorem keep_unitEnter (s : State) (k : Nat) (id : Nat) :
    (unitEnter s k id).pending = s.pending ∧ (unitEnter s k id).otp = s.otp := by
  unfold unitEnter
  constructor <;> (repeat' split) <;> (try simp) <;> (try intros) <;> (repeat' split) <;> (try simp) <;> (try intros) <;> (repeat' split) <;> (try simp_all)

@[simp ↓] theorem keep_safeCab (s : State) (p : Nat) :
    (safeCab s p).pending = s.pending ∧ (safeCab s p).otp = s.otp := by
  unfold safeCab
  constructor <;> (repeat' split) <;> (try simp) <;> (try intros) <;> (repeat' split) <;> (try simp) <;> (try intros) <;> (repeat' split) <;> (try simp_all)

@[simp ↓] theorem keep_safeEnter (s : State) (src : Nat) (halt : Bool) :
    (safeEnter s src halt).pending = s.pending ∧ (safeEnter s src halt).otp = s.otp := by
  unfold safeEnter
  constructor <;> (repeat' split) <;> (try simp) <;> (try intros) <;> (repeat' split) <;> (try simp) <;> (try intros) <;> (repeat' split) <;> (try simp_all)

@[simp ↓] theorem keep_srcClass (s : State) (src : Nat) :
    (srcClass s src).pending = s.pending ∧ (srcClass s src).otp = s.otp := by
  unfold srcClass
  constructor <;> (repeat' split) <;> (try simp) <;> (try intros) <;> (repeat' split) <;> (try simp) <;> (try intros) <;> (repeat' split) <;> (try simp_all)

@[simp ↓] theorem keep_judge (s : State) (e : FaultEvt) :
    (judge s e).1.pending = s.pending ∧ (judge s e).1.otp = s.otp := by
  unfold judge
  constructor <;> (repeat' split) <;> (try simp) <;> (try intros) <;> (repeat' split) <;> (try simp) <;> (try intros) <;> (repeat' split) <;> (try simp_all)

@[simp ↓] theorem keep_ownRead (s : State) (chk : BitVec 8) (w : Word) (addr : Nat) :
    (ownRead s chk w addr).1.pending = s.pending ∧ (ownRead s chk w addr).1.otp = s.otp := by
  unfold ownRead
  constructor <;> (repeat' split) <;> (try simp) <;> (try intros) <;> (repeat' split) <;> (try simp) <;> (try intros) <;> (repeat' split) <;> (try simp_all)

@[simp ↓] theorem keep_recRead (s : State) (i : Nat) :
    (recRead s i).1.pending = s.pending ∧ (recRead s i).1.otp = s.otp := by
  unfold recRead
  constructor <;> (repeat' split) <;> (try simp) <;> (try intros) <;> (repeat' split) <;> (try simp) <;> (try intros) <;> (repeat' split) <;> (try simp_all)

@[simp ↓] theorem keep_recReads (x0 : List Nat) (x1 : State) :
    (recReads x0 x1).1.pending = x1.pending ∧ (recReads x0 x1).1.otp = x1.otp := by
  first
  | (fun_induction recReads <;> simp_all; done)
  | (fun_induction recReads <;> simp_all +zetaDelta; done)
  | (unfold recReads; constructor <;> (repeat' split) <;> (try simp) <;> (try intros) <;> (repeat' split) <;> (try simp) <;> (try intros) <;> (repeat' split) <;> (try simp_all))

@[simp ↓] theorem keep_firstRead (s : State) (i : Nat) :
    (firstRead s i).1.pending = s.pending ∧ (firstRead s i).1.otp = s.otp := by
  unfold firstRead
  constructor <;> (repeat' split) <;> (try simp) <;> (try intros) <;> (repeat' split) <;> (try simp) <;> (try intros) <;> (repeat' split) <;> (try simp_all)

@[simp ↓] theorem keep_srcRead (s : State) (src : Nat) (v : Nat) :
    (srcRead s src v).1.pending = s.pending ∧ (srcRead s src v).1.otp = s.otp := by
  unfold srcRead
  constructor <;> (repeat' split) <;> (try simp) <;> (try intros) <;> (repeat' split) <;> (try simp) <;> (try intros) <;> (repeat' split) <;> (try simp_all)

@[simp ↓] theorem keep_recWrite (s : State) (j : Judged) (first : Bool) :
    (recWrite s j first).pending = s.pending ∧ (recWrite s j first).otp = s.otp := by
  unfold recWrite
  constructor <;> (repeat' split) <;> (try simp) <;> (try intros) <;> (repeat' split) <;> (try simp) <;> (try intros) <;> (repeat' split) <;> (try simp_all)

@[simp ↓] theorem keep_recAct (s : State) (j : Judged) :
    (recAct s j).pending = s.pending ∧ (recAct s j).otp = s.otp := by
  unfold recAct
  constructor <;> (repeat' split) <;> (try simp) <;> (try intros) <;> (repeat' split) <;> (try simp) <;> (try intros) <;> (repeat' split) <;> (try simp_all)

@[simp ↓] theorem keep_silentNote (s : State) (e : FaultEvt) :
    (silentNote s e).pending = s.pending ∧ (silentNote s e).otp = s.otp := by
  unfold silentNote
  constructor <;> (repeat' split) <;> (try simp) <;> (try intros) <;> (repeat' split) <;> (try simp) <;> (try intros) <;> (repeat' split) <;> (try simp_all)

@[simp ↓] theorem keep_judgeAll (x0 : List FaultEvt) (x1 : State) :
    (judgeAll x0 x1).1.pending = x1.pending ∧ (judgeAll x0 x1).1.otp = x1.otp := by
  first
  | (fun_induction judgeAll <;> simp_all; done)
  | (fun_induction judgeAll <;> simp_all +zetaDelta; done)
  | (unfold judgeAll; constructor <;> (repeat' split) <;> (try simp) <;> (try intros) <;> (repeat' split) <;> (try simp) <;> (try intros) <;> (repeat' split) <;> (try simp_all))

@[simp ↓] theorem keep_copiesCompare (s : State) :
    (copiesCompare s).pending = s.pending ∧ (copiesCompare s).otp = s.otp := by
  unfold copiesCompare
  constructor <;> (repeat' split) <;> (try simp) <;> (try intros) <;> (repeat' split) <;> (try simp) <;> (try intros) <;> (repeat' split) <;> (try simp_all)

@[simp ↓] theorem keep_eventCycle (s : State) :
    (eventCycle s).pending = s.pending ∧ (eventCycle s).otp = s.otp := by
  unfold eventCycle
  constructor <;> (repeat' split) <;> (try simp) <;> (try intros) <;> (repeat' split) <;> (try simp) <;> (try intros) <;> (repeat' split) <;> (try simp_all)

@[simp ↓] theorem keep_faultCycle (s : State) :
    (faultCycle s).pending = s.pending ∧ (faultCycle s).otp = s.otp := by
  unfold faultCycle
  constructor <;> (repeat' split) <;> (try simp) <;> (try intros) <;> (repeat' split) <;> (try simp) <;> (try intros) <;> (repeat' split) <;> (try simp_all)

@[simp ↓] theorem keep_srcAck (s : State) (src : Nat) (v : Nat) :
    (srcAck s src v).pending = s.pending ∧ (srcAck s src v).otp = s.otp := by
  unfold srcAck
  constructor <;> (repeat' split) <;> (try simp) <;> (try intros) <;> (repeat' split) <;> (try simp) <;> (try intros) <;> (repeat' split) <;> (try simp_all)

@[simp ↓] theorem keep_recCi (s : State) (v : Nat) :
    (recCi s v).pending = s.pending ∧ (recCi s v).otp = s.otp := by
  unfold recCi
  constructor <;> (repeat' split) <;> (try simp) <;> (try intros) <;> (repeat' split) <;> (try simp) <;> (try intros) <;> (repeat' split) <;> (try simp_all)

@[simp ↓] theorem keep_injArm (s : State) (src : Nat) (chk : Nat) (count : Nat) (cont : Bool) (dbl : Bool) :
    (injArm s src chk count cont dbl).pending = s.pending ∧ (injArm s src chk count cont dbl).otp = s.otp := by
  unfold injArm
  constructor <;> (repeat' split) <;> (try simp) <;> (try intros) <;> (repeat' split) <;> (try simp) <;> (try intros) <;> (repeat' split) <;> (try simp_all)

@[simp ↓] theorem keep_raiseGo (s : State) (k : Nat) (v : Nat) :
    (raiseGo s k v).pending = s.pending ∧ (raiseGo s k v).otp = s.otp := by
  unfold raiseGo
  constructor <;> (repeat' split) <;> (try simp) <;> (try intros) <;> (repeat' split) <;> (try simp) <;> (try intros) <;> (repeat' split) <;> (try simp_all)

@[simp ↓] theorem keep_recCount (s : State) (k : Nat) (id : Nat) :
    (recCount s k id).pending = s.pending ∧ (recCount s k id).otp = s.otp := by
  unfold recCount
  constructor <;> (repeat' split) <;> (try simp) <;> (try intros) <;> (repeat' split) <;> (try simp) <;> (try intros) <;> (repeat' split) <;> (try simp_all)

@[simp ↓] theorem keep_unitRecover (s : State) (k : Nat) (id : Nat) :
    (unitRecover s k id).pending = s.pending ∧ (unitRecover s k id).otp = s.otp := by
  unfold unitRecover
  constructor <;> (repeat' split) <;> (try simp) <;> (try intros) <;> (repeat' split) <;> (try simp) <;> (try intros) <;> (repeat' split) <;> (try simp_all)

@[simp ↓] theorem keep_unitQuiet (s : State) (ix : Nat) :
    (unitQuiet s ix).pending = s.pending ∧ (unitQuiet s ix).otp = s.otp := by
  unfold unitQuiet
  constructor <;> (repeat' split) <;> (try simp) <;> (try intros) <;> (repeat' split) <;> (try simp) <;> (try intros) <;> (repeat' split) <;> (try simp_all)

@[simp ↓] theorem keep_safeRuns (s : State) :
    (safeRuns s).pending = s.pending ∧ (safeRuns s).otp = s.otp := by
  unfold safeRuns
  constructor <;> (repeat' split) <;> (try simp) <;> (try intros) <;> (repeat' split) <;> (try simp) <;> (try intros) <;> (repeat' split) <;> (try simp_all)

@[simp ↓] theorem keep_safeLeave (s0 : State) :
    (safeLeave s0).pending = s0.pending ∧ (safeLeave s0).otp = s0.otp := by
  unfold safeLeave
  constructor <;> (repeat' split) <;> (try simp) <;> (try intros) <;> (repeat' split) <;> (try simp) <;> (try intros) <;> (repeat' split) <;> (try simp_all)

@[simp ↓] theorem keep_safeQuiet (s : State) :
    (safeQuiet s).pending = s.pending ∧ (safeQuiet s).otp = s.otp := by
  unfold safeQuiet
  constructor <;> (repeat' split) <;> (try simp) <;> (try intros) <;> (repeat' split) <;> (try simp) <;> (try intros) <;> (repeat' split) <;> (try simp_all)

@[simp ↓] theorem keep_quietEnds (s : State) :
    (quietEnds s).pending = s.pending ∧ (quietEnds s).otp = s.otp := by
  unfold quietEnds
  constructor <;> (repeat' split) <;> (try simp) <;> (try intros) <;> (repeat' split) <;> (try simp) <;> (try intros) <;> (repeat' split) <;> (try simp_all)

@[simp ↓] theorem keep_fltRecover (s : State) (k : Nat) (id : Nat) :
    (fltRecover s k id).1.pending = s.pending ∧ (fltRecover s k id).1.otp = s.otp := by
  unfold fltRecover
  constructor <;> (repeat' split) <;> (try simp) <;> (try intros) <;> (repeat' split) <;> (try simp) <;> (try intros) <;> (repeat' split) <;> (try simp_all)

end Machine
end Sys2Proof
end

