-- ==== Sys2Proof/Laws/KeepScrub.lean ====
section
/-!
SUPPORT. What the operations of Machine/Scrub.lean leave alone: the queue of waiting commands and the fuses.
-/

namespace Sys2Proof
namespace Machine

@[simp ↓] theorem keep_setScr (s : State) (x : ScrSt) :
    (setScr s x).pending = s.pending ∧ (setScr s x).otp = s.otp := by
  unfold setScr
  constructor <;> (repeat' split) <;> (try simp) <;> (try intros) <;> (repeat' split) <;> (try simp) <;> (try intros) <;> (repeat' split) <;> (try simp_all)

@[simp ↓] theorem keep_setBunit (s : State) (u : Nat) (x : BUnit) :
    (setBunit s u x).pending = s.pending ∧ (setBunit s u x).otp = s.otp := by
  unfold setBunit
  constructor <;> (repeat' split) <;> (try simp) <;> (try intros) <;> (repeat' split) <;> (try simp) <;> (try intros) <;> (repeat' split) <;> (try simp_all)

@[simp ↓] theorem keep_unitMark (s : State) (u : Nat) :
    (unitMark s u).pending = s.pending ∧ (unitMark s u).otp = s.otp := by
  unfold unitMark
  constructor <;> (repeat' split) <;> (try simp) <;> (try intros) <;> (repeat' split) <;> (try simp) <;> (try intros) <;> (repeat' split) <;> (try simp_all)

@[simp ↓] theorem keep_bistOrder (s : State) (u : Nat) :
    (bistOrder s u).pending = s.pending ∧ (bistOrder s u).otp = s.otp := by
  unfold bistOrder
  constructor <;> (repeat' split) <;> (try simp) <;> (try intros) <;> (repeat' split) <;> (try simp) <;> (try intros) <;> (repeat' split) <;> (try simp_all)

@[simp ↓] theorem keep_routerTest (s : State) (u : Nat) (done : Nat) :
    (routerTest s u done).pending = s.pending ∧ (routerTest s u done).otp = s.otp := by
  unfold routerTest
  constructor <;> (repeat' split) <;> (try simp) <;> (try intros) <;> (repeat' split) <;> (try simp) <;> (try intros) <;> (repeat' split) <;> (try simp_all)

@[simp ↓] theorem keep_routerBack (s : State) (p : Nat) :
    (routerBack s p).pending = s.pending ∧ (routerBack s p).otp = s.otp := by
  unfold routerBack
  constructor <;> (repeat' split) <;> (try simp) <;> (try intros) <;> (repeat' split) <;> (try simp) <;> (try intros) <;> (repeat' split) <;> (try simp_all)

@[simp ↓] theorem keep_sliceBegin (s : State) (u : Nat) :
    (sliceBegin s u).pending = s.pending ∧ (sliceBegin s u).otp = s.otp := by
  unfold sliceBegin
  constructor <;> (repeat' split) <;> (try simp) <;> (try intros) <;> (repeat' split) <;> (try simp) <;> (try intros) <;> (repeat' split) <;> (try simp_all)

@[simp ↓] theorem keep_bistStart (s0 : State) :
    (bistStart s0).pending = s0.pending ∧ (bistStart s0).otp = s0.otp := by
  unfold bistStart
  constructor <;> (repeat' split) <;> (try simp) <;> (try intros) <;> (repeat' split) <;> (try simp) <;> (try intros) <;> (repeat' split) <;> (try simp_all)

@[simp ↓] theorem keep_rowRepair (s : State) (k : Nat) (row : Nat) :
    (rowRepair s k row).1.pending = s.pending ∧ (rowRepair s k row).1.otp = s.otp := by
  unfold rowRepair
  constructor <;> (repeat' split) <;> (try simp) <;> (try intros) <;> (repeat' split) <;> (try simp) <;> (try intros) <;> (repeat' split) <;> (try simp_all)

@[simp ↓] theorem keep_fifoRepair (s : State) (k : Nat) (bank : Nat) :
    (fifoRepair s k bank).pending = s.pending ∧ (fifoRepair s k bank).otp = s.otp := by
  unfold fifoRepair
  constructor <;> (repeat' split) <;> (try simp) <;> (try intros) <;> (repeat' split) <;> (try simp) <;> (try intros) <;> (repeat' split) <;> (try simp_all)

@[simp ↓] theorem keep_rowRepairs (u : Nat) (x1 : List (Nat × Nat)) (x2 : State) :
    (rowRepairs u x1 x2).1.pending = x2.pending ∧ (rowRepairs u x1 x2).1.otp = x2.otp := by
  first
  | (fun_induction rowRepairs <;> simp_all; done)
  | (fun_induction rowRepairs <;> simp_all +zetaDelta; done)
  | (unfold rowRepairs; constructor <;> (repeat' split) <;> (try simp) <;> (try intros) <;> (repeat' split) <;> (try simp) <;> (try intros) <;> (repeat' split) <;> (try simp_all))

@[simp ↓] theorem keep_columnClean (s : State) (p : Nat) (q : Nat) :
    (columnClean s p q).pending = s.pending ∧ (columnClean s p q).otp = s.otp := by
  unfold columnClean
  constructor <;> (repeat' split) <;> (try simp) <;> (try intros) <;> (repeat' split) <;> (try simp) <;> (try intros) <;> (repeat' split) <;> (try simp_all)

@[simp ↓] theorem keep_gapPark (s : State) (p : Nat) :
    (gapPark s p).pending = s.pending ∧ (gapPark s p).otp = s.otp := by
  unfold gapPark
  constructor <;> (repeat' split) <;> (try simp) <;> (try intros) <;> (repeat' split) <;> (try simp) <;> (try intros) <;> (repeat' split) <;> (try simp_all)

@[simp ↓] theorem keep_suspectClear (s : State) (p : Nat) :
    (suspectClear s p).pending = s.pending ∧ (suspectClear s p).otp = s.otp := by
  unfold suspectClear
  constructor <;> (repeat' split) <;> (try simp) <;> (try intros) <;> (repeat' split) <;> (try simp) <;> (try intros) <;> (repeat' split) <;> (try simp_all)

@[simp ↓] theorem keep_gapPass (s0 : State) (p : Nat) :
    (gapPass s0 p).pending = s0.pending ∧ (gapPass s0 p).otp = s0.otp := by
  unfold gapPass
  constructor <;> (repeat' split) <;> (try simp) <;> (try intros) <;> (repeat' split) <;> (try simp) <;> (try intros) <;> (repeat' split) <;> (try simp_all)

@[simp ↓] theorem keep_standbyLost (s : State) :
    (standbyLost s).pending = s.pending ∧ (standbyLost s).otp = s.otp := by
  unfold standbyLost
  constructor <;> (repeat' split) <;> (try simp) <;> (try intros) <;> (repeat' split) <;> (try simp) <;> (try intros) <;> (repeat' split) <;> (try simp_all)

@[simp ↓] theorem keep_unitPass (s : State) (u : Nat) :
    (unitPass s u).pending = s.pending ∧ (unitPass s u).otp = s.otp := by
  unfold unitPass
  constructor <;> (repeat' split) <;> (try simp) <;> (try intros) <;> (repeat' split) <;> (try simp) <;> (try intros) <;> (repeat' split) <;> (try simp_all)

@[simp ↓] theorem keep_unitFail (s : State) (u : Nat) (cells : List Nat) :
    (unitFail s u cells).pending = s.pending ∧ (unitFail s u cells).otp = s.otp := by
  unfold unitFail
  constructor <;> (repeat' split) <;> (try simp) <;> (try intros) <;> (repeat' split) <;> (try simp) <;> (try intros) <;> (repeat' split) <;> (try simp_all)

@[simp ↓] theorem keep_incShow (s : State) (u : Nat) (n : Nat) :
    (incShow s u n).pending = s.pending ∧ (incShow s u n).otp = s.otp := by
  unfold incShow
  constructor <;> (repeat' split) <;> (try simp) <;> (try intros) <;> (repeat' split) <;> (try simp) <;> (try intros) <;> (repeat' split) <;> (try simp_all)

@[simp ↓] theorem keep_sliceIncomplete (s : State) (u : Nat) :
    (sliceIncomplete s u).pending = s.pending ∧ (sliceIncomplete s u).otp = s.otp := by
  unfold sliceIncomplete
  constructor <;> (repeat' split) <;> (try simp) <;> (try intros) <;> (repeat' split) <;> (try simp) <;> (try intros) <;> (repeat' split) <;> (try simp_all)

@[simp ↓] theorem keep_sliceDone (s : State) (u : Nat) (sig : Bool) (rows : List (Nat × Nat)) (fifos : List (Nat × Nat)) :
    (sliceDone s u sig rows fifos).pending = s.pending ∧ (sliceDone s u sig rows fifos).otp = s.otp := by
  unfold sliceDone
  constructor <;> (repeat' split) <;> (try simp) <;> (try intros) <;> (repeat' split) <;> (try simp) <;> (try intros) <;> (repeat' split) <;> (try simp_all)

@[simp ↓] theorem keep_bistEnd (s : State) (u : Nat) (full : Bool) (sig : Bool) (rows : List (Nat × Nat)) (fifos : List (Nat × Nat)) :
    (bistEnd s u full sig rows fifos).pending = s.pending ∧ (bistEnd s u full sig rows fifos).otp = s.otp := by
  unfold bistEnd
  constructor <;> (repeat' split) <;> (try simp) <;> (try intros) <;> (repeat' split) <;> (try simp) <;> (try intros) <;> (repeat' split) <;> (try simp_all)

@[simp ↓] theorem keep_unitRestore (s : State) (u : Nat) :
    (unitRestore s u).pending = s.pending ∧ (unitRestore s u).otp = s.otp := by
  unfold unitRestore
  constructor <;> (repeat' split) <;> (try simp) <;> (try intros) <;> (repeat' split) <;> (try simp) <;> (try intros) <;> (repeat' split) <;> (try simp_all)

@[simp ↓] theorem keep_bistAbort (s : State) (u : Nat) :
    (bistAbort s u).pending = s.pending ∧ (bistAbort s u).otp = s.otp := by
  unfold bistAbort
  constructor <;> (repeat' split) <;> (try simp) <;> (try intros) <;> (repeat' split) <;> (try simp) <;> (try intros) <;> (repeat' split) <;> (try simp_all)

@[simp ↓] theorem keep_pairMap (s : State) (k : Nat) (v : Nat) :
    (pairMap s k v).pending = s.pending ∧ (pairMap s k v).otp = s.otp := by
  unfold pairMap
  constructor <;> (repeat' split) <;> (try simp) <;> (try intros) <;> (repeat' split) <;> (try simp) <;> (try intros) <;> (repeat' split) <;> (try simp_all)

@[simp ↓] theorem keep_takeover (s : State) :
    (takeover s).pending = s.pending ∧ (takeover s).otp = s.otp := by
  unfold takeover
  constructor <;> (repeat' split) <;> (try simp) <;> (try intros) <;> (repeat' split) <;> (try simp) <;> (try intros) <;> (repeat' split) <;> (try simp_all)

@[simp ↓] theorem keep_voteLost (s : State) (kind : Nat) (p : Nat) :
    (voteLost s kind p).pending = s.pending ∧ (voteLost s kind p).otp = s.otp := by
  unfold voteLost
  constructor <;> (repeat' split) <;> (try simp) <;> (try intros) <;> (repeat' split) <;> (try simp) <;> (try intros) <;> (repeat' split) <;> (try simp_all)

@[simp ↓] theorem keep_scrCfg (s : State) (v : Nat) :
    (scrCfg s v).pending = s.pending ∧ (scrCfg s v).otp = s.otp := by
  unfold scrCfg
  constructor <;> (repeat' split) <;> (try simp) <;> (try intros) <;> (repeat' split) <;> (try simp) <;> (try intros) <;> (repeat' split) <;> (try simp_all)

@[simp ↓] theorem keep_walkStart (s : State) :
    (walkStart s).pending = s.pending ∧ (walkStart s).otp = s.otp := by
  unfold walkStart
  constructor <;> (repeat' split) <;> (try simp) <;> (try intros) <;> (repeat' split) <;> (try simp) <;> (try intros) <;> (repeat' split) <;> (try simp_all)

@[simp ↓] theorem keep_scrubWord (s : State) (k : Nat) (w : Nat) (err : Code) :
    (scrubWord s k w err).pending = s.pending ∧ (scrubWord s k w err).otp = s.otp := by
  unfold scrubWord
  constructor <;> (repeat' split) <;> (try simp) <;> (try intros) <;> (repeat' split) <;> (try simp) <;> (try intros) <;> (repeat' split) <;> (try simp_all)

@[simp ↓] theorem keep_walkAt (s : State) (p : Nat) (w : Nat) :
    (walkAt s p w).pending = s.pending ∧ (walkAt s p w).otp = s.otp := by
  unfold walkAt
  constructor <;> (repeat' split) <;> (try simp) <;> (try intros) <;> (repeat' split) <;> (try simp) <;> (try intros) <;> (repeat' split) <;> (try simp_all)

@[simp ↓] theorem keep_walkRead (s : State) (err : Code) :
    (walkRead s err).pending = s.pending ∧ (walkRead s err).otp = s.otp := by
  unfold walkRead
  constructor <;> (repeat' split) <;> (try simp) <;> (try intros) <;> (repeat' split) <;> (try simp) <;> (try intros) <;> (repeat' split) <;> (try simp_all)

@[simp ↓] theorem keep_queueRepair (s : State) (err : Code) :
    (queueRepair s err).pending = s.pending ∧ (queueRepair s err).otp = s.otp := by
  unfold queueRepair
  constructor <;> (repeat' split) <;> (try simp) <;> (try intros) <;> (repeat' split) <;> (try simp) <;> (try intros) <;> (repeat' split) <;> (try simp_all)

@[simp ↓] theorem keep_bstCfg (s : State) (v : Nat) :
    (bstCfg s v).pending = s.pending ∧ (bstCfg s v).otp = s.otp := by
  unfold bstCfg
  constructor <;> (repeat' split) <;> (try simp) <;> (try intros) <;> (repeat' split) <;> (try simp) <;> (try intros) <;> (repeat' split) <;> (try simp_all)

@[simp ↓] theorem keep_shadowCfg (s : State) (p : Nat) :
    (shadowCfg s p).pending = s.pending ∧ (shadowCfg s p).otp = s.otp := by
  unfold shadowCfg
  constructor <;> (repeat' split) <;> (try simp) <;> (try intros) <;> (repeat' split) <;> (try simp) <;> (try intros) <;> (repeat' split) <;> (try simp_all)

@[simp ↓] theorem keep_gapStep (s : State) (p : Nat) :
    (gapStep s p).pending = s.pending ∧ (gapStep s p).otp = s.otp := by
  unfold gapStep
  constructor <;> (repeat' split) <;> (try simp) <;> (try intros) <;> (repeat' split) <;> (try simp) <;> (try intros) <;> (repeat' split) <;> (try simp_all)

@[simp ↓] theorem keep_copyWord (p : Nat) (q : Nat) (r : Nat) (s : State) (a : Nat) :
    (copyWord p q r s a).pending = s.pending ∧ (copyWord p q r s a).otp = s.otp := by
  unfold copyWord
  constructor <;> (repeat' split) <;> (try simp) <;> (try intros) <;> (repeat' split) <;> (try simp) <;> (try intros) <;> (repeat' split) <;> (try simp_all)

@[simp ↓] theorem keep_copyRow (p : Nat) (q : Nat) (s : State) (r : Nat) :
    (copyRow p q s r).pending = s.pending ∧ (copyRow p q s r).otp = s.otp := by
  unfold copyRow
  exact keep_foldl _ _ _ (fun s a => keep_copyWord p q r s a)

@[simp ↓] theorem keep_copyEnd (s : State) (p : Nat) :
    (copyEnd s p).pending = s.pending ∧ (copyEnd s p).otp = s.otp := by
  unfold copyEnd
  constructor <;> (repeat' split) <;> (try simp) <;> (try intros) <;> (repeat' split) <;> (try simp) <;> (try intros) <;> (repeat' split) <;> (try simp_all)

@[simp ↓] theorem keep_shadowDone (s : State) (p : Nat) :
    (shadowDone s p).pending = s.pending ∧ (shadowDone s p).otp = s.otp := by
  unfold shadowDone
  split
  · have h := keep_foldl (copyRow p (pcolOf s p (cab s p).gapCol)) (List.range 8) (shadowCfg s p) (fun s a => keep_copyRow p _ s a)
    exact ⟨(keep_copyEnd _ _).1.trans (h.1.trans (keep_shadowCfg _ _).1), (keep_copyEnd _ _).2.trans (h.2.trans (keep_shadowCfg _ _).2)⟩
  · exact ⟨rfl, rfl⟩

@[simp ↓] theorem keep_shadowMismatch (s : State) (p : Nat) :
    (shadowMismatch s p).pending = s.pending ∧ (shadowMismatch s p).otp = s.otp := by
  unfold shadowMismatch
  constructor <;> (repeat' split) <;> (try simp) <;> (try intros) <;> (repeat' split) <;> (try simp) <;> (try intros) <;> (repeat' split) <;> (try simp_all)

@[simp ↓] theorem keep_testUnlock (s : State) :
    (testUnlock s).pending = s.pending ∧ (testUnlock s).otp = s.otp := by
  unfold testUnlock
  constructor <;> (repeat' split) <;> (try simp) <;> (try intros) <;> (repeat' split) <;> (try simp) <;> (try intros) <;> (repeat' split) <;> (try simp_all)

@[simp ↓] theorem keep_sramScrubSecrets (s : State) :
    (sramScrubSecrets s).pending = s.pending ∧ (sramScrubSecrets s).otp = s.otp := by
  unfold sramScrubSecrets
  constructor <;> (repeat' split) <;> (try simp) <;> (try intros) <;> (repeat' split) <;> (try simp) <;> (try intros) <;> (repeat' split) <;> (try simp_all)

@[simp ↓] theorem keep_stagingZero (s : State) :
    (stagingZero s).pending = s.pending ∧ (stagingZero s).otp = s.otp := by
  unfold stagingZero
  constructor <;> (repeat' split) <;> (try simp) <;> (try intros) <;> (repeat' split) <;> (try simp) <;> (try intros) <;> (repeat' split) <;> (try simp_all)

@[simp ↓] theorem keep_scanOpen (s : State) :
    (scanOpen s).pending = s.pending ∧ (scanOpen s).otp = s.otp := by
  unfold scanOpen
  constructor <;> (repeat' split) <;> (try simp) <;> (try intros) <;> (repeat' split) <;> (try simp) <;> (try intros) <;> (repeat' split) <;> (try simp_all)

end Machine
end Sys2Proof
end

