-- ==== Sys2Proof/Laws/KeepBoot.lean ====
section
/-!
SUPPORT. What the operations of Machine/Boot.lean leave alone: the queue of waiting commands and the fuses.
-/

namespace Sys2Proof
namespace Machine

@[simp ↓] theorem keep_setBoot (s : State) (b : BootSt) :
    (setBoot s b).pending = s.pending ∧ (setBoot s b).otp = s.otp := by
  unfold setBoot
  constructor <;> (repeat' split) <;> (try simp) <;> (try intros) <;> (repeat' split) <;> (try simp) <;> (try intros) <;> (repeat' split) <;> (try simp_all)

@[simp ↓] theorem keep_flashPut (s : State) (a : Nat) (b : List Byte) :
    (flashPut s a b).pending = s.pending ∧ (flashPut s a b).otp = s.otp := by
  unfold flashPut
  constructor <;> (repeat' split) <;> (try simp) <;> (try intros) <;> (repeat' split) <;> (try simp) <;> (try intros) <;> (repeat' split) <;> (try simp_all)

@[simp ↓] theorem keep_slotsExchange (s : State) :
    (slotsExchange s).pending = s.pending ∧ (slotsExchange s).otp = s.otp := by
  unfold slotsExchange
  constructor <;> (repeat' split) <;> (try simp) <;> (try intros) <;> (repeat' split) <;> (try simp) <;> (try intros) <;> (repeat' split) <;> (try simp_all)

@[simp ↓] theorem keep_imageLoad (s : State) (b : List Byte) :
    (imageLoad s b).pending = s.pending ∧ (imageLoad s b).otp = s.otp := by
  unfold imageLoad
  constructor <;> (repeat' split) <;> (try simp) <;> (try intros) <;> (repeat' split) <;> (try simp) <;> (try intros) <;> (repeat' split) <;> (try simp_all)

@[simp ↓] theorem keep_bootPhase (s : State) (ph : Nat) :
    (bootPhase s ph).pending = s.pending ∧ (bootPhase s ph).otp = s.otp := by
  unfold bootPhase
  constructor <;> (repeat' split) <;> (try simp) <;> (try intros) <;> (repeat' split) <;> (try simp) <;> (try intros) <;> (repeat' split) <;> (try simp_all)

@[simp ↓] theorem keep_pairsReset (s : State) :
    (pairsReset s).pending = s.pending ∧ (pairsReset s).otp = s.otp := by
  unfold pairsReset
  constructor <;> (repeat' split) <;> (try simp) <;> (try intros) <;> (repeat' split) <;> (try simp) <;> (try intros) <;> (repeat' split) <;> (try simp_all)

@[simp ↓] theorem keep_svcRestart (s : State) :
    (svcRestart s).pending = s.pending ∧ (svcRestart s).otp = s.otp := by
  unfold svcRestart
  constructor <;> (repeat' split) <;> (try simp) <;> (try intros) <;> (repeat' split) <;> (try simp) <;> (try intros) <;> (repeat' split) <;> (try simp_all)

@[simp ↓] theorem keep_controlReset (s : State) :
    (controlReset s).pending = s.pending ∧ (controlReset s).otp = s.otp := by
  unfold controlReset
  constructor <;> (repeat' split) <;> (try simp) <;> (try intros) <;> (repeat' split) <;> (try simp) <;> (try intros) <;> (repeat' split) <;> (try simp_all)

@[simp ↓] theorem keep_bootNext (s : State) :
    (bootNext s).pending = s.pending ∧ (bootNext s).otp = s.otp := by
  unfold bootNext
  constructor <;> (repeat' split) <;> (try simp) <;> (try intros) <;> (repeat' split) <;> (try simp) <;> (try intros) <;> (repeat' split) <;> (try simp_all)

@[simp ↓] theorem keep_bootFail (s : State) (cause : Nat) (lcode : Nat) :
    (bootFail s cause lcode).pending = s.pending ∧ (bootFail s cause lcode).otp = s.otp := by
  unfold bootFail
  constructor <;> (repeat' split) <;> (try simp) <;> (try intros) <;> (repeat' split) <;> (try simp) <;> (try intros) <;> (repeat' split) <;> (try simp_all)

@[simp ↓] theorem keep_fwEvent (s : State) (st : Nat) :
    (fwEvent s st).pending = s.pending ∧ (fwEvent s st).otp = s.otp := by
  unfold fwEvent
  constructor <;> (repeat' split) <;> (try simp) <;> (try intros) <;> (repeat' split) <;> (try simp) <;> (try intros) <;> (repeat' split) <;> (try simp_all)

@[simp ↓] theorem keep_fwOldImage (s : State) :
    (fwOldImage s).pending = s.pending ∧ (fwOldImage s).otp = s.otp := by
  unfold fwOldImage
  constructor <;> (repeat' split) <;> (try simp) <;> (try intros) <;> (repeat' split) <;> (try simp) <;> (try intros) <;> (repeat' split) <;> (try simp_all)

@[simp ↓] theorem keep_kalunoStart (s : State) (b : List Byte) (slot : Option Nat) :
    (kalunoStart s b slot).pending = s.pending ∧ (kalunoStart s b slot).otp = s.otp := by
  unfold kalunoStart
  constructor <;> (repeat' split) <;> (try simp) <;> (try intros) <;> (repeat' split) <;> (try simp) <;> (try intros) <;> (repeat' split) <;> (try simp_all)

@[simp ↓] theorem keep_bootAttempt (s : State) :
    (bootAttempt s).pending = s.pending ∧ (bootAttempt s).otp = s.otp := by
  unfold bootAttempt
  constructor <;> (repeat' split) <;> (try simp) <;> (try intros) <;> (repeat' split) <;> (try simp) <;> (try intros) <;> (repeat' split) <;> (try simp_all)

@[simp ↓] theorem keep_bootDone (s : State) :
    (bootDone s).pending = s.pending ∧ (bootDone s).otp = s.otp := by
  unfold bootDone
  constructor <;> (repeat' split) <;> (try simp) <;> (try intros) <;> (repeat' split) <;> (try simp) <;> (try intros) <;> (repeat' split) <;> (try simp_all)

@[simp ↓] theorem keep_bootFailWrite (s : State) (v : Nat) :
    (bootFailWrite s v).pending = s.pending ∧ (bootFailWrite s v).otp = s.otp := by
  unfold bootFailWrite
  constructor <;> (repeat' split) <;> (try simp) <;> (try intros) <;> (repeat' split) <;> (try simp) <;> (try intros) <;> (repeat' split) <;> (try simp_all)

@[simp ↓] theorem keep_backoffEnd (s : State) :
    (backoffEnd s).pending = s.pending ∧ (backoffEnd s).otp = s.otp := by
  unfold backoffEnd
  constructor <;> (repeat' split) <;> (try simp) <;> (try intros) <;> (repeat' split) <;> (try simp) <;> (try intros) <;> (repeat' split) <;> (try simp_all)

@[simp ↓] theorem keep_pairBoot (s : State) :
    (pairBoot s).pending = s.pending ∧ (pairBoot s).otp = s.otp := by
  unfold pairBoot
  constructor <;> (repeat' split) <;> (try simp) <;> (try intros) <;> (repeat' split) <;> (try simp) <;> (try intros) <;> (repeat' split) <;> (try simp_all)

@[simp ↓] theorem keep_cabsWarm (s : State) :
    (cabsWarm s).pending = s.pending ∧ (cabsWarm s).otp = s.otp := by
  unfold cabsWarm
  constructor <;> (repeat' split) <;> (try simp) <;> (try intros) <;> (repeat' split) <;> (try simp) <;> (try intros) <;> (repeat' split) <;> (try simp_all)

@[simp ↓] theorem keep_warmReset (s : State) :
    (warmReset s).pending = s.pending ∧ (warmReset s).otp = s.otp := by
  unfold warmReset
  constructor <;> (repeat' split) <;> (try simp) <;> (try intros) <;> (repeat' split) <;> (try simp) <;> (try intros) <;> (repeat' split) <;> (try simp_all)

@[simp ↓] theorem keep_powerOn (s : State) (vsel : Nat) :
    (powerOn s vsel).pending = s.pending ∧ (powerOn s vsel).otp = s.otp := by
  unfold powerOn
  constructor <;> (repeat' split) <;> (try simp) <;> (try intros) <;> (repeat' split) <;> (try simp) <;> (try intros) <;> (repeat' split) <;> (try simp_all)

@[simp ↓] theorem keep_strapLatch (s : State) (sel : Nat) (pull : Bool) :
    (strapLatch s sel pull).pending = s.pending ∧ (strapLatch s sel pull).otp = s.otp := by
  unfold strapLatch
  constructor <;> (repeat' split) <;> (try simp) <;> (try intros) <;> (repeat' split) <;> (try simp) <;> (try intros) <;> (repeat' split) <;> (try simp_all)

@[simp ↓] theorem keep_warmNow (s : State) :
    (warmNow s).pending = s.pending ∧ (warmNow s).otp = s.otp := by
  unfold warmNow
  constructor <;> (repeat' split) <;> (try simp) <;> (try intros) <;> (repeat' split) <;> (try simp) <;> (try intros) <;> (repeat' split) <;> (try simp_all)

@[simp ↓] theorem keep_warmCmd (s : State) (pin : Bool) :
    (warmCmd s pin).pending = s.pending ∧ (warmCmd s pin).otp = s.otp := by
  unfold warmCmd
  constructor <;> (repeat' split) <;> (try simp) <;> (try intros) <;> (repeat' split) <;> (try simp) <;> (try intros) <;> (repeat' split) <;> (try simp_all)

@[simp ↓] theorem keep_pllLock (s : State) :
    (pllLock s).pending = s.pending ∧ (pllLock s).otp = s.otp := by
  unfold pllLock
  constructor <;> (repeat' split) <;> (try simp) <;> (try intros) <;> (repeat' split) <;> (try simp) <;> (try intros) <;> (repeat' split) <;> (try simp_all)

end Machine
end Sys2Proof
end

