-- ==== Sys2Proof/Laws/KeepMbx.lean ====
section
/-!
SUPPORT. What the operations of Machine/Mbx.lean leave alone: the queue of waiting commands and the fuses.
-/

namespace Sys2Proof
namespace Machine

@[simp ↓] theorem keep_setMbx (s : State) (m : Nat) (x : Mbx) :
    (setMbx s m x).pending = s.pending ∧ (setMbx s m x).otp = s.otp := by
  unfold setMbx
  constructor <;> (repeat' split) <;> (try simp) <;> (try intros) <;> (repeat' split) <;> (try simp) <;> (try intros) <;> (repeat' split) <;> (try simp_all)

@[simp ↓] theorem keep_setSvc (s : State) (x : SvcSt) :
    (setSvc s x).pending = s.pending ∧ (setSvc s x).otp = s.otp := by
  unfold setSvc
  constructor <;> (repeat' split) <;> (try simp) <;> (try intros) <;> (repeat' split) <;> (try simp) <;> (try intros) <;> (repeat' split) <;> (try simp_all)

@[simp ↓] theorem keep_mbxPut (s : State) (m : Nat) (a : Nat) (b : List Byte) :
    (mbxPut s m a b).pending = s.pending ∧ (mbxPut s m a b).otp = s.otp := by
  unfold mbxPut
  constructor <;> (repeat' split) <;> (try simp) <;> (try intros) <;> (repeat' split) <;> (try simp) <;> (try intros) <;> (repeat' split) <;> (try simp_all)

@[simp ↓] theorem keep_mbxRing (s : State) (v : Nat) :
    (mbxRing s v).pending = s.pending ∧ (mbxRing s v).otp = s.otp := by
  unfold mbxRing
  constructor <;> (repeat' split) <;> (try simp) <;> (try intros) <;> (repeat' split) <;> (try simp) <;> (try intros) <;> (repeat' split) <;> (try simp_all)

@[simp ↓] theorem keep_clearBits (s : State) (f : Fld) (i : Nat) (v : Nat) :
    (clearBits s f i v).pending = s.pending ∧ (clearBits s f i v).otp = s.otp := by
  unfold clearBits
  constructor <;> (repeat' split) <;> (try simp) <;> (try intros) <;> (repeat' split) <;> (try simp) <;> (try intros) <;> (repeat' split) <;> (try simp_all)

end Machine
end Sys2Proof
end

