-- ==== Sys2Proof/Laws/KeepBus.lean ====
section
/-!
SUPPORT. What the operations of Machine/Bus.lean leave alone: the queue of waiting commands and the fuses.
-/

namespace Sys2Proof
namespace Machine

@[simp ↓] theorem keep_rcClear (s : State) (r : Nat) (i : Nat) (lo : Nat) (n : Nat) :
    (rcClear s r i lo n).pending = s.pending ∧ (rcClear s r i lo n).otp = s.otp := by
  unfold rcClear
  constructor <;> (repeat' split) <;> (try simp) <;> (try intros) <;> (repeat' split) <;> (try simp) <;> (try intros) <;> (repeat' split) <;> (try simp_all)

@[simp ↓] theorem keep_regRead (s : State) (r : Nat) (i : Nat) (lo : Nat) (n : Nat) :
    (regRead s r i lo n).1.pending = s.pending ∧ (regRead s r i lo n).1.otp = s.otp := by
  unfold regRead
  constructor <;> (repeat' split) <;> (try simp) <;> (try intros) <;> (repeat' split) <;> (try simp) <;> (try intros) <;> (repeat' split) <;> (try simp_all)

@[simp ↓] theorem keep_fldPut (s : State) (f : Fld) (i : Nat) (v : Nat) :
    (fldPut s f i v).pending = s.pending ∧ (fldPut s f i v).otp = s.otp := by
  unfold fldPut
  constructor <;> (repeat' split) <;> (try simp) <;> (try intros) <;> (repeat' split) <;> (try simp) <;> (try intros) <;> (repeat' split) <;> (try simp_all)

@[simp ↓] theorem keep_regPutPlain (s : State) (r : Nat) (i : Nat) (v : Nat) :
    (regPutPlain s r i v).pending = s.pending ∧ (regPutPlain s r i v).otp = s.otp := by
  unfold regPutPlain
  constructor <;> (repeat' split) <;> (try simp) <;> (try intros) <;> (repeat' split) <;> (try simp) <;> (try intros) <;> (repeat' split) <;> (try simp_all)

@[simp ↓] theorem keep_regPutW1c (s : State) (r : Nat) (i : Nat) (v : Nat) :
    (regPutW1c s r i v).pending = s.pending ∧ (regPutW1c s r i v).otp = s.otp := by
  unfold regPutW1c
  constructor <;> (repeat' split) <;> (try simp) <;> (try intros) <;> (repeat' split) <;> (try simp) <;> (try intros) <;> (repeat' split) <;> (try simp_all)

@[simp ↓] theorem keep_tickCfgPut (s : State) (v : Nat) :
    (tickCfgPut s v).pending = s.pending ∧ (tickCfgPut s v).otp = s.otp := by
  unfold tickCfgPut
  constructor <;> (repeat' split) <;> (try simp) <;> (try intros) <;> (repeat' split) <;> (try simp) <;> (try intros) <;> (repeat' split) <;> (try simp_all)

@[simp ↓] theorem keep_routerMode (s : State) (st : Nat) (mode : Nat) :
    (routerMode s st mode).pending = s.pending ∧ (routerMode s st mode).otp = s.otp := by
  unfold routerMode
  constructor <;> (repeat' split) <;> (try simp) <;> (try intros) <;> (repeat' split) <;> (try simp) <;> (try intros) <;> (repeat' split) <;> (try simp_all)

@[simp ↓] theorem keep_gdmCfgPut (s : State) (v : Nat) :
    (gdmCfgPut s v).pending = s.pending ∧ (gdmCfgPut s v).otp = s.otp := by
  unfold gdmCfgPut
  constructor <;> (repeat' split) <;> (try simp) <;> (try intros) <;> (repeat' split) <;> (try simp) <;> (try intros) <;> (repeat' split) <;> (try simp_all)

@[simp ↓] theorem keep_gdmCtlPut (s : State) (v : Nat) :
    (gdmCtlPut s v).pending = s.pending ∧ (gdmCtlPut s v).otp = s.otp := by
  unfold gdmCtlPut
  constructor <;> (repeat' split) <;> (try simp) <;> (try intros) <;> (repeat' split) <;> (try simp) <;> (try intros) <;> (repeat' split) <;> (try simp_all)

@[simp ↓] theorem keep_dmaCfgPut (s : State) (r : Nat) (c : Nat) (v : Nat) :
    (dmaCfgPut s r c v).pending = s.pending ∧ (dmaCfgPut s r c v).otp = s.otp := by
  unfold dmaCfgPut
  constructor <;> (repeat' split) <;> (try simp) <;> (try intros) <;> (repeat' split) <;> (try simp) <;> (try intros) <;> (repeat' split) <;> (try simp_all)

@[simp ↓] theorem keep_dmaCtlPut (s : State) (c : Nat) (v : Nat) :
    (dmaCtlPut s c v).pending = s.pending ∧ (dmaCtlPut s c v).otp = s.otp := by
  unfold dmaCtlPut
  constructor <;> (repeat' split) <;> (try simp) <;> (try intros) <;> (repeat' split) <;> (try simp) <;> (try intros) <;> (repeat' split) <;> (try simp_all)

@[simp ↓] theorem keep_qmgCfgPut (s : State) (v : Nat) :
    (qmgCfgPut s v).pending = s.pending ∧ (qmgCfgPut s v).otp = s.otp := by
  unfold qmgCfgPut
  constructor <;> (repeat' split) <;> (try simp) <;> (try intros) <;> (repeat' split) <;> (try simp) <;> (try intros) <;> (repeat' split) <;> (try simp_all)

@[simp ↓] theorem keep_jptSysrefPut (s : State) (j : Nat) (v : Nat) :
    (jptSysrefPut s j v).pending = s.pending ∧ (jptSysrefPut s j v).otp = s.otp := by
  unfold jptSysrefPut
  constructor <;> (repeat' split) <;> (try simp) <;> (try intros) <;> (repeat' split) <;> (try simp) <;> (try intros) <;> (repeat' split) <;> (try simp_all)

@[simp ↓] theorem keep_loadCtlPut (s : State) (v : Nat) :
    (loadCtlPut s v).pending = s.pending ∧ (loadCtlPut s v).otp = s.otp := by
  unfold loadCtlPut
  constructor <;> (repeat' split) <;> (try simp) <;> (try intros) <;> (repeat' split) <;> (try simp) <;> (try intros) <;> (repeat' split) <;> (try simp_all)

@[simp ↓] theorem keep_bootCtlPut (s : State) (v : Nat) :
    (bootCtlPut s v).pending = s.pending ∧ (bootCtlPut s v).otp = s.otp := by
  unfold bootCtlPut
  constructor <;> (repeat' split) <;> (try simp) <;> (try intros) <;> (repeat' split) <;> (try simp) <;> (try intros) <;> (repeat' split) <;> (try simp_all)

@[simp ↓] theorem keep_pinBankPut (s : State) (r : Nat) (b : Nat) (v : Nat) :
    (pinBankPut s r b v).pending = s.pending ∧ (pinBankPut s r b v).otp = s.otp := by
  unfold pinBankPut
  constructor <;> (repeat' split) <;> (try simp) <;> (try intros) <;> (repeat' split) <;> (try simp) <;> (try intros) <;> (repeat' split) <;> (try simp_all)

@[simp ↓] theorem keep_fltCfgPut (s : State) (v : Nat) :
    (fltCfgPut s v).pending = s.pending ∧ (fltCfgPut s v).otp = s.otp := by
  unfold fltCfgPut
  constructor <;> (repeat' split) <;> (try simp) <;> (try intros) <;> (repeat' split) <;> (try simp) <;> (try intros) <;> (repeat' split) <;> (try simp_all)

@[simp ↓] theorem keep_fltInjPut (s : State) (k : Nat) (v : Nat) :
    (fltInjPut s k v).pending = s.pending ∧ (fltInjPut s k v).otp = s.otp := by
  unfold fltInjPut
  constructor <;> (repeat' split) <;> (try simp) <;> (try intros) <;> (repeat' split) <;> (try simp) <;> (try intros) <;> (repeat' split) <;> (try simp_all)

@[simp ↓] theorem keep_burSubmit (s : State) (len : Nat) :
    (burSubmit s len).pending = s.pending ∧ (burSubmit s len).otp = s.otp := by
  unfold burSubmit
  constructor <;> (repeat' split) <;> (try simp) <;> (try intros) <;> (repeat' split) <;> (try simp) <;> (try intros) <;> (repeat' split) <;> (try simp_all)

theorem keep_regPutCab (s : State) (m r i v : Nat) (d : State) (hd : d.pending = s.pending ∧ d.otp = s.otp) :
    ((regPutCab s m r i v).getD d).pending = s.pending ∧ ((regPutCab s m r i v).getD d).otp = s.otp := by
  unfold regPutCab
  repeat' (refine keep_getD_ite _ _ _ _ _ (by (repeat' split) <;> simp) ?_)
  exact hd

theorem keep_regPutPort (s : State) (r i v : Nat) (d : State) (hd : d.pending = s.pending ∧ d.otp = s.otp) :
    ((regPutPort s r i v).getD d).pending = s.pending ∧ ((regPutPort s r i v).getD d).otp = s.otp := by
  unfold regPutPort
  repeat' (refine keep_getD_ite _ _ _ _ _ (by (repeat' split) <;> simp) ?_)
  exact hd

theorem keep_regPutCtl (s : State) (m r i v : Nat) (d : State) (hd : d.pending = s.pending ∧ d.otp = s.otp) :
    ((regPutCtl s m r i v).getD d).pending = s.pending ∧ ((regPutCtl s m r i v).getD d).otp = s.otp := by
  unfold regPutCtl
  repeat' (refine keep_getD_ite _ _ _ _ _ (by (repeat' split) <;> simp) ?_)
  exact hd

@[simp ↓] theorem keep_regPut (s : State) (m : Nat) (r : Nat) (i : Nat) (v : Nat) :
    (regPut s m r i v).pending = s.pending ∧ (regPut s m r i v).otp = s.otp := by
  unfold regPut
  exact keep_regPutCab s m r i v _ (keep_regPutPort s r i v _ (keep_regPutCtl s m r i v _ (keep_regPutPlain s r i v)))

@[simp ↓] theorem keep_placePut (s : State) (m : Nat) (r : Nat) (i : Nat) (lo : Nat) (n : Nat) (v : Nat) :
    (placePut s m r i lo n v).pending = s.pending ∧ (placePut s m r i lo n v).otp = s.otp := by
  unfold placePut
  constructor <;> (repeat' split) <;> (try simp) <;> (try intros) <;> (repeat' split) <;> (try simp) <;> (try intros) <;> (repeat' split) <;> (try simp_all)

@[simp ↓] theorem keep_regWrite (s : State) (m : Nat) (r : Nat) (i : Nat) (lo : Nat) (n : Nat) (v : Nat) :
    (regWrite s m r i lo n v).pending = s.pending ∧ (regWrite s m r i lo n v).otp = s.otp := by
  unfold regWrite
  constructor <;> (repeat' split) <;> (try simp) <;> (try intros) <;> (repeat' split) <;> (try simp) <;> (try intros) <;> (repeat' split) <;> (try simp_all)

@[simp ↓] theorem keep_partRead (s : State) (p : Option (RegAt × Nat) × Nat) :
    (partRead s p).1.pending = s.pending ∧ (partRead s p).1.otp = s.otp := by
  unfold partRead
  constructor <;> (repeat' split) <;> (try simp) <;> (try intros) <;> (repeat' split) <;> (try simp) <;> (try intros) <;> (repeat' split) <;> (try simp_all)

@[simp ↓] theorem keep_partsRead (l : List (Option (RegAt × Nat) × Nat)) (s : State) :
    (partsRead l s).1.pending = s.pending ∧ (partsRead l s).1.otp = s.otp := by
  unfold partsRead
  constructor <;> (repeat' split) <;> (try simp) <;> (try intros) <;> (repeat' split) <;> (try simp) <;> (try intros) <;> (repeat' split) <;> (try simp_all)

@[simp ↓] theorem keep_partWrite (m : Nat) (v : Nat) (s : State) (p : Option (RegAt × Nat) × Nat) :
    (partWrite m v s p).pending = s.pending ∧ (partWrite m v s p).otp = s.otp := by
  unfold partWrite
  constructor <;> (repeat' split) <;> (try simp) <;> (try intros) <;> (repeat' split) <;> (try simp) <;> (try intros) <;> (repeat' split) <;> (try simp_all)

@[simp ↓] theorem keep_spaceRead (s : State) (a : Nat) (n : Nat) :
    (spaceRead s a n).1.pending = s.pending ∧ (spaceRead s a n).1.otp = s.otp := by
  unfold spaceRead
  refine keep_ite_fst _ _ _ s ⟨rfl, rfl⟩ (keep_ite_fst _ _ _ s ⟨rfl, rfl⟩ ?_)
  exact keep_pair _ s _ (keep_partsRead (regParts a n) s)

@[simp ↓] theorem keep_spaceWrite (s : State) (m : Nat) (a : Nat) (n : Nat) (v : Nat) :
    (spaceWrite s m a n v).1.pending = s.pending ∧ (spaceWrite s m a n v).1.otp = s.otp := by
  unfold spaceWrite
  refine keep_ite_fst _ _ _ s ⟨rfl, rfl⟩ (keep_ite_fst _ _ _ s ⟨rfl, rfl⟩ ?_)
  exact keep_pair _ s _ (keep_foldl (partWrite m v) (regParts a n) s (fun s a => keep_partWrite m v s a))

@[simp ↓] theorem keep_busRead (s : State) (m : Nat) (a0 : Nat) (n : Nat) :
    (busRead s m a0 n).1.pending = s.pending ∧ (busRead s m a0 n).1.otp = s.otp := by
  unfold busRead
  constructor <;> (repeat' split) <;> (try simp) <;> (try intros) <;> (repeat' split) <;> (try simp) <;> (try intros) <;> (repeat' split) <;> (try simp_all)

@[simp ↓] theorem keep_busWrite (s : State) (m : Nat) (a0 : Nat) (b : List Byte) (pois : Bool) :
    (busWrite s m a0 b pois).1.pending = s.pending ∧ (busWrite s m a0 b pois).1.otp = s.otp := by
  unfold busWrite
  constructor <;> (repeat' split) <;> (try simp) <;> (try intros) <;> (repeat' split) <;> (try simp) <;> (try intros) <;> (repeat' split) <;> (try simp_all)

@[simp ↓] theorem keep_busAnswer (s : State) (st : Nat) (b : List Byte) :
    (busAnswer s st b).pending = s.pending ∧ (busAnswer s st b).otp = s.otp := by
  unfold busAnswer
  constructor <;> (repeat' split) <;> (try simp) <;> (try intros) <;> (repeat' split) <;> (try simp) <;> (try intros) <;> (repeat' split) <;> (try simp_all)

@[simp ↓] theorem keep_busReadCmd (s : State) (m : Nat) (a : Nat) (n : Nat) :
    (busReadCmd s m a n).pending = s.pending ∧ (busReadCmd s m a n).otp = s.otp := by
  unfold busReadCmd
  constructor <;> (repeat' split) <;> (try simp) <;> (try intros) <;> (repeat' split) <;> (try simp) <;> (try intros) <;> (repeat' split) <;> (try simp_all)

@[simp ↓] theorem keep_spiGroup (s : State) (a : Nat) :
    (spiGroup s a).1.pending = s.pending ∧ (spiGroup s a).1.otp = s.otp := by
  unfold spiGroup
  constructor <;> (repeat' split) <;> (try simp) <;> (try intros) <;> (repeat' split) <;> (try simp) <;> (try intros) <;> (repeat' split) <;> (try simp_all)

@[simp ↓] theorem keep_spiGroups (x0 : Nat) (x1 : Nat) (x2 : State) :
    (spiGroups x0 x1 x2).1.pending = x2.pending ∧ (spiGroups x0 x1 x2).1.otp = x2.otp := by
  first
  | (fun_induction spiGroups <;> simp_all; done)
  | (fun_induction spiGroups <;> simp_all +zetaDelta; done)
  | (unfold spiGroups; constructor <;> (repeat' split) <;> (try simp) <;> (try intros) <;> (repeat' split) <;> (try simp) <;> (try intros) <;> (repeat' split) <;> (try simp_all))

@[simp ↓] theorem keep_spiRead (s : State) (a : Nat) (n : Nat) :
    (spiRead s a n).pending = s.pending ∧ (spiRead s a n).otp = s.otp := by
  unfold spiRead
  constructor <;> (repeat' split) <;> (try simp) <;> (try intros) <;> (repeat' split) <;> (try simp) <;> (try intros) <;> (repeat' split) <;> (try simp_all)

@[simp ↓] theorem keep_spiWrite (x0 : Nat) (x1 : List Byte) (x2 : State) :
    (spiWrite x0 x1 x2).pending = x2.pending ∧ (spiWrite x0 x1 x2).otp = x2.otp := by
  first
  | (fun_induction spiWrite <;> simp_all; done)
  | (fun_induction spiWrite <;> simp_all +zetaDelta; done)
  | (unfold spiWrite; constructor <;> (repeat' split) <;> (try simp) <;> (try intros) <;> (repeat' split) <;> (try simp) <;> (try intros) <;> (repeat' split) <;> (try simp_all))

@[simp ↓] theorem keep_remoteAsk (s : State) (st : Nat) (a : Nat) (n : Nat) (wr : Option (List Byte)) :
    (remoteAsk s st a n wr).pending = s.pending ∧ (remoteAsk s st a n wr).otp = s.otp := by
  unfold remoteAsk
  constructor <;> (repeat' split) <;> (try simp) <;> (try intros) <;> (repeat' split) <;> (try simp) <;> (try intros) <;> (repeat' split) <;> (try simp_all)

@[simp ↓] theorem keep_pcieAccess (s : State) (o : Nat) (n : Nat) (wr : Option (List Byte)) :
    (pcieAccess s o n wr).pending = s.pending ∧ (pcieAccess s o n wr).otp = s.otp := by
  unfold pcieAccess
  constructor <;> (repeat' split) <;> (try simp) <;> (try intros) <;> (repeat' split) <;> (try simp) <;> (try intros) <;> (repeat' split) <;> (try simp_all)

end Machine
end Sys2Proof
end

