-- ==== Sys2Proof/Laws/KeepEject.lean ====
section
/-!
SUPPORT. What the operations of Machine/Eject.lean leave alone: the queue of waiting commands and the fuses.
-/

namespace Sys2Proof
namespace Machine

@[simp ↓] theorem keep_inject (s : State) (st : Nat) (p : Pkt) (booked : Bool) :
    (inject s st p booked).pending = s.pending ∧ (inject s st p booked).otp = s.otp := by
  unfold inject
  constructor <;> (repeat' split) <;> (try simp) <;> (try intros) <;> (repeat' split) <;> (try simp) <;> (try intros) <;> (repeat' split) <;> (try simp_all)

@[simp ↓] theorem keep_injRsp (s : State) (st : Nat) :
    (injRsp s st).pending = s.pending ∧ (injRsp s st).otp = s.otp := by
  unfold injRsp
  constructor <;> (repeat' split) <;> (try simp) <;> (try intros) <;> (repeat' split) <;> (try simp) <;> (try intros) <;> (repeat' split) <;> (try simp_all)

@[simp ↓] theorem keep_sendReq (s : State) (st : Nat) (p : Pkt) :
    (sendReq s st p).pending = s.pending ∧ (sendReq s st p).otp = s.otp := by
  unfold sendReq
  constructor <;> (repeat' split) <;> (try simp) <;> (try intros) <;> (repeat' split) <;> (try simp) <;> (try intros) <;> (repeat' split) <;> (try simp_all)

@[simp ↓] theorem keep_injReq (s : State) (st : Nat) :
    (injReq s st).pending = s.pending ∧ (injReq s st).otp = s.otp := by
  unfold injReq
  constructor <;> (repeat' split) <;> (try simp) <;> (try intros) <;> (repeat' split) <;> (try simp) <;> (try intros) <;> (repeat' split) <;> (try simp_all)

@[simp ↓] theorem keep_bookSend (s : State) (st : Nat) (e : Nat) (c : Chunk) :
    (bookSend s st e c).pending = s.pending ∧ (bookSend s st e c).otp = s.otp := by
  unfold bookSend
  constructor <;> (repeat' split) <;> (try simp) <;> (try intros) <;> (repeat' split) <;> (try simp) <;> (try intros) <;> (repeat' split) <;> (try simp_all)

@[simp ↓] theorem keep_fifoReadN (k : Nat) (x1 : Nat) (x2 : List Code) (x3 : State) :
    (fifoReadN k x1 x2 x3).1.pending = x3.pending ∧ (fifoReadN k x1 x2 x3).1.otp = x3.otp := by
  first
  | (fun_induction fifoReadN <;> simp_all; done)
  | (fun_induction fifoReadN <;> simp_all +zetaDelta; done)
  | (unfold fifoReadN; constructor <;> (repeat' split) <;> (try simp) <;> (try intros) <;> (repeat' split) <;> (try simp) <;> (try intros) <;> (repeat' split) <;> (try simp_all))

@[simp ↓] theorem keep_injFifo (s : State) (st : Nat) (k : Nat) (e : Nat) (errs : List Code) :
    (injFifo s st k e errs).pending = s.pending ∧ (injFifo s st k e errs).otp = s.otp := by
  unfold injFifo
  constructor <;> (repeat' split) <;> (try simp) <;> (try intros) <;> (repeat' split) <;> (try simp) <;> (try intros) <;> (repeat' split) <;> (try simp_all)

@[simp ↓] theorem keep_setSent (s : State) (st : Nat) (key : Nat) (c : Chunk) :
    (setSent s st key c).pending = s.pending ∧ (setSent s st key c).otp = s.otp := by
  unfold setSent
  constructor <;> (repeat' split) <;> (try simp) <;> (try intros) <;> (repeat' split) <;> (try simp) <;> (try intros) <;> (repeat' split) <;> (try simp_all)

@[simp ↓] theorem keep_injDma (s : State) (c : Nat) :
    (injDma s c).pending = s.pending ∧ (injDma s c).otp = s.otp := by
  unfold injDma
  constructor <;> (repeat' split) <;> (try simp) <;> (try intros) <;> (repeat' split) <;> (try simp) <;> (try intros) <;> (repeat' split) <;> (try simp_all)

@[simp ↓] theorem keep_injRadio (s : State) (l : Nat) :
    (injRadio s l).pending = s.pending ∧ (injRadio s l).otp = s.otp := by
  unfold injRadio
  constructor <;> (repeat' split) <;> (try simp) <;> (try intros) <;> (repeat' split) <;> (try simp) <;> (try intros) <;> (repeat' split) <;> (try simp_all)

@[simp ↓] theorem keep_injSpan (s : State) :
    (injSpan s).pending = s.pending ∧ (injSpan s).otp = s.otp := by
  unfold injSpan
  constructor <;> (repeat' split) <;> (try simp) <;> (try intros) <;> (repeat' split) <;> (try simp) <;> (try intros) <;> (repeat' split) <;> (try simp_all)

@[simp ↓] theorem keep_injSrc (s : State) (st : Nat) (x : InjSrc) (errs : List Code) :
    (injSrc s st x errs).pending = s.pending ∧ (injSrc s st x errs).otp = s.otp := by
  unfold injSrc
  constructor <;> (repeat' split) <;> (try simp) <;> (try intros) <;> (repeat' split) <;> (try simp) <;> (try intros) <;> (repeat' split) <;> (try simp_all)

@[simp ↓] theorem keep_setSeqr (s : State) (k : Nat) (x : Seqr) :
    (setSeqr s k x).pending = s.pending ∧ (setSeqr s k x).otp = s.otp := by
  unfold setSeqr
  constructor <;> (repeat' split) <;> (try simp) <;> (try intros) <;> (repeat' split) <;> (try simp) <;> (try intros) <;> (repeat' split) <;> (try simp_all)

@[simp ↓] theorem keep_clientTake (n : Nat) (x1 : Nat) (x2 : State) :
    (clientTake n x1 x2).pending = x2.pending ∧ (clientTake n x1 x2).otp = x2.otp := by
  first
  | (fun_induction clientTake <;> simp_all; done)
  | (fun_induction clientTake <;> simp_all +zetaDelta; done)
  | (unfold clientTake; constructor <;> (repeat' split) <;> (try simp) <;> (try intros) <;> (repeat' split) <;> (try simp) <;> (try intros) <;> (repeat' split) <;> (try simp_all))

@[simp ↓] theorem keep_inletPut (s : State) (k : Nat) (l : List InWord) :
    (inletPut s k l).pending = s.pending ∧ (inletPut s k l).otp = s.otp := by
  unfold inletPut
  constructor <;> (repeat' split) <;> (try simp) <;> (try intros) <;> (repeat' split) <;> (try simp) <;> (try intros) <;> (repeat' split) <;> (try simp_all)

@[simp ↓] theorem keep_endOpen (s : State) (k : Nat) :
    (endOpen s k).pending = s.pending ∧ (endOpen s k).otp = s.otp := by
  unfold endOpen
  constructor <;> (repeat' split) <;> (try simp) <;> (try intros) <;> (repeat' split) <;> (try simp) <;> (try intros) <;> (repeat' split) <;> (try simp_all)

@[simp ↓] theorem keep_gapCheck (s : State) (k : Nat) (later : Bool) :
    (gapCheck s k later).pending = s.pending ∧ (gapCheck s k later).otp = s.otp := by
  unfold gapCheck
  constructor <;> (repeat' split) <;> (try simp) <;> (try intros) <;> (repeat' split) <;> (try simp) <;> (try intros) <;> (repeat' split) <;> (try simp_all)

@[simp ↓] theorem keep_seqStale (s : State) (k : Nat) :
    (seqStale s k).pending = s.pending ∧ (seqStale s k).otp = s.otp := by
  unfold seqStale
  constructor <;> (repeat' split) <;> (try simp) <;> (try intros) <;> (repeat' split) <;> (try simp) <;> (try intros) <;> (repeat' split) <;> (try simp_all)

@[simp ↓] theorem keep_seqTake (s : State) (k : Nat) (p : Pkt) :
    (seqTake s k p).pending = s.pending ∧ (seqTake s k p).otp = s.otp := by
  unfold seqTake
  constructor <;> (repeat' split) <;> (try simp) <;> (try intros) <;> (repeat' split) <;> (try simp) <;> (try intros) <;> (repeat' split) <;> (try simp_all)

@[simp ↓] theorem keep_seqWrite (s : State) (k : Nat) (p : Pkt) :
    (seqWrite s k p).pending = s.pending ∧ (seqWrite s k p).otp = s.otp := by
  unfold seqWrite
  constructor <;> (repeat' split) <;> (try simp) <;> (try intros) <;> (repeat' split) <;> (try simp) <;> (try intros) <;> (repeat' split) <;> (try simp_all)

@[simp ↓] theorem keep_seqStep (s : State) (k : Nat) :
    (seqStep s k).pending = s.pending ∧ (seqStep s k).otp = s.otp := by
  unfold seqStep
  constructor <;> (repeat' split) <;> (try simp) <;> (try intros) <;> (repeat' split) <;> (try simp) <;> (try intros) <;> (repeat' split) <;> (try simp_all)

@[simp ↓] theorem keep_seqGap (s : State) (k : Nat) :
    (seqGap s k).pending = s.pending ∧ (seqGap s k).otp = s.otp := by
  unfold seqGap
  constructor <;> (repeat' split) <;> (try simp) <;> (try intros) <;> (repeat' split) <;> (try simp) <;> (try intros) <;> (repeat' split) <;> (try simp_all)

@[simp ↓] theorem keep_serveReq (s : State) (st : Nat) (p : Pkt) :
    (serveReq s st p).pending = s.pending ∧ (serveReq s st p).otp = s.otp := by
  unfold serveReq
  constructor <;> (repeat' split) <;> (try simp) <;> (try intros) <;> (repeat' split) <;> (try simp) <;> (try intros) <;> (repeat' split) <;> (try simp_all)

@[simp ↓] theorem keep_toAgent (s : State) (st : Nat) (p : Pkt) :
    (toAgent s st p).pending = s.pending ∧ (toAgent s st p).otp = s.otp := by
  unfold toAgent
  constructor <;> (repeat' split) <;> (try simp) <;> (try intros) <;> (repeat' split) <;> (try simp) <;> (try intros) <;> (repeat' split) <;> (try simp_all)

@[simp ↓] theorem keep_rspTake (s : State) (st : Nat) (p : Pkt) :
    (rspTake s st p).pending = s.pending ∧ (rspTake s st p).otp = s.otp := by
  unfold rspTake
  constructor <;> (repeat' split) <;> (try simp) <;> (try intros) <;> (repeat' split) <;> (try simp) <;> (try intros) <;> (repeat' split) <;> (try simp_all)

@[simp ↓] theorem keep_fenceRecord (s : State) (st : Nat) (byp : Bool) (p : Pkt) :
    (fenceRecord s st byp p).pending = s.pending ∧ (fenceRecord s st byp p).otp = s.otp := by
  unfold fenceRecord
  constructor <;> (repeat' split) <;> (try simp) <;> (try intros) <;> (repeat' split) <;> (try simp) <;> (try intros) <;> (repeat' split) <;> (try simp_all)

@[simp ↓] theorem keep_fenceTake (s : State) (st : Nat) (p : Pkt) :
    (fenceTake s st p).pending = s.pending ∧ (fenceTake s st p).otp = s.otp := by
  unfold fenceTake
  constructor <;> (repeat' split) <;> (try simp) <;> (try intros) <;> (repeat' split) <;> (try simp) <;> (try intros) <;> (repeat' split) <;> (try simp_all)

@[simp ↓] theorem keep_deliverGood (s : State) (st : Nat) (p : Pkt) :
    (deliverGood s st p).pending = s.pending ∧ (deliverGood s st p).otp = s.otp := by
  unfold deliverGood
  constructor <;> (repeat' split) <;> (try simp) <;> (try intros) <;> (repeat' split) <;> (try simp) <;> (try intros) <;> (repeat' split) <;> (try simp_all)

@[simp ↓] theorem keep_deliver (s : State) (net : Nat) (st : Nat) (l : List Flit) :
    (deliver s net st l).pending = s.pending ∧ (deliver s net st l).otp = s.otp := by
  rw [deliver]
  generalize pktOf l = q
  extract_lets dev i p
  clear_value p i
  refine keep_ite _ _ _ s ?_ (keep_ite _ _ _ s ⟨rfl, rfl⟩ (keep_deliverGood ..))
  have h := keep_pktEvent (finc s NOC_RTR_ERR_CRC_DROP st) (rtrSrc st) 6 q.2 st
  exact ⟨h.1.trans (keep_finc ..).1, h.2.trans (keep_finc ..).2⟩

@[simp ↓] theorem keep_eject (s : State) (net : Nat) (st : Nat) (port : Nat) (ln : Nat) :
    (eject s net st port ln).pending = s.pending ∧ (eject s net st port ln).otp = s.otp := by
  unfold eject
  constructor <;> (repeat' split) <;> (try simp) <;> (try intros) <;> (repeat' split) <;> (try simp) <;> (try intros) <;> (repeat' split) <;> (try simp_all)

@[simp ↓] theorem keep_reqTimeout (s : State) (st : Nat) :
    (reqTimeout s st).pending = s.pending ∧ (reqTimeout s st).otp = s.otp := by
  unfold reqTimeout
  constructor <;> (repeat' split) <;> (try simp) <;> (try intros) <;> (repeat' split) <;> (try simp) <;> (try intros) <;> (repeat' split) <;> (try simp_all)

@[simp ↓] theorem keep_testAbort (s : State) (st : Nat) :
    (testAbort s st).pending = s.pending ∧ (testAbort s st).otp = s.otp := by
  unfold testAbort
  constructor <;> (repeat' split) <;> (try simp) <;> (try intros) <;> (repeat' split) <;> (try simp) <;> (try intros) <;> (repeat' split) <;> (try simp_all)

@[simp ↓] theorem keep_telemetry (s : State) (st : Nat) (ddev : Nat) (dstop : Nat) (code : Nat) (data : List Word) :
    (telemetry s st ddev dstop code data).pending = s.pending ∧ (telemetry s st ddev dstop code data).otp = s.otp := by
  unfold telemetry
  constructor <;> (repeat' split) <;> (try simp) <;> (try intros) <;> (repeat' split) <;> (try simp) <;> (try intros) <;> (repeat' split) <;> (try simp_all)

end Machine
end Sys2Proof
end

