-- ==== Sys2Proof/Laws/KeepKaluno.lean ====
section
/-!
SUPPORT. What the operations of Machine/Kaluno.lean leave alone: the queue of waiting commands and the fuses.
-/

namespace Sys2Proof
namespace Machine

@[simp ↓] theorem keep_readRegs (x0 : List (Nat × Nat)) (x1 : State) :
    (readRegs x0 x1).1.pending = x1.pending ∧ (readRegs x0 x1).1.otp = x1.otp := by
  first
  | (fun_induction readRegs <;> simp_all; done)
  | (fun_induction readRegs <;> simp_all +zetaDelta; done)
  | (unfold readRegs; constructor <;> (repeat' split) <;> (try simp) <;> (try intros) <;> (repeat' split) <;> (try simp) <;> (try intros) <;> (repeat' split) <;> (try simp_all))

@[simp ↓] theorem keep_regAnswer (s : State) (l : List (Nat × Nat)) :
    (regAnswer s l).1.pending = s.pending ∧ (regAnswer s l).1.otp = s.otp := by
  unfold regAnswer
  constructor <;> (repeat' split) <;> (try simp) <;> (try intros) <;> (repeat' split) <;> (try simp) <;> (try intros) <;> (repeat' split) <;> (try simp_all)

@[simp ↓] theorem keep_oneReg (s : State) (r : Nat) (i : Nat) :
    (oneReg s r i).1.pending = s.pending ∧ (oneReg s r i).1.otp = s.otp := by
  unfold oneReg
  constructor <;> (repeat' split) <;> (try simp) <;> (try intros) <;> (repeat' split) <;> (try simp) <;> (try intros) <;> (repeat' split) <;> (try simp_all)

@[simp ↓] theorem keep_tried (s : State) (f : Fld) (i : Nat) (g : State → State) (hg : ∀ z, (g z).pending = z.pending ∧ (g z).otp = z.otp) :
    (tried s f i g).1.pending = s.pending ∧ (tried s f i g).1.otp = s.otp := by
  unfold tried
  (repeat' split) <;> simp_all

@[simp ↓] theorem keep_drawBelow (s : State) (n : Nat) :
    (drawBelow s n).1.pending = s.pending ∧ (drawBelow s n).1.otp = s.otp := by
  unfold drawBelow
  constructor <;> (repeat' split) <;> (try simp) <;> (try intros) <;> (repeat' split) <;> (try simp) <;> (try intros) <;> (repeat' split) <;> (try simp_all)

@[simp ↓] theorem keep_cIdentify (s : State) :
    (cIdentify s).1.pending = s.pending ∧ (cIdentify s).1.otp = s.otp := by
  unfold cIdentify
  constructor <;> (repeat' split) <;> (try simp) <;> (try intros) <;> (repeat' split) <;> (try simp) <;> (try intros) <;> (repeat' split) <;> (try simp_all)

@[simp ↓] theorem keep_cSysStatus (s : State) :
    (cSysStatus s).1.pending = s.pending ∧ (cSysStatus s).1.otp = s.otp := by
  unfold cSysStatus
  constructor <;> (repeat' split) <;> (try simp) <;> (try intros) <;> (repeat' split) <;> (try simp) <;> (try intros) <;> (repeat' split) <;> (try simp_all)

@[simp ↓] theorem keep_cAttest (s : State) (nonce : List Byte) :
    (cAttest s nonce).1.pending = s.pending ∧ (cAttest s nonce).1.otp = s.otp := by
  unfold cAttest
  constructor <;> (repeat' split) <;> (try simp) <;> (try intros) <;> (repeat' split) <;> (try simp) <;> (try intros) <;> (repeat' split) <;> (try simp_all)

@[simp ↓] theorem keep_cSysReset (s : State) (d : Nat) :
    (cSysReset s d).1.pending = s.pending ∧ (cSysReset s d).1.otp = s.otp := by
  unfold cSysReset
  constructor <;> (repeat' split) <;> (try simp) <;> (try intros) <;> (repeat' split) <;> (try simp) <;> (try intros) <;> (repeat' split) <;> (try simp_all)

@[simp ↓] theorem keep_cSensors (s : State) :
    (cSensors s).1.pending = s.pending ∧ (cSensors s).1.otp = s.otp := by
  unfold cSensors
  constructor <;> (repeat' split) <;> (try simp) <;> (try intros) <;> (repeat' split) <;> (try simp) <;> (try intros) <;> (repeat' split) <;> (try simp_all)

@[simp ↓] theorem keep_cCabLoad (s : State) (src : Nat) (compat : Nat) (cofs : Nat) (addr : Nat) (n : Nat) (ext : List Byte) :
    (cCabLoad s src compat cofs addr n ext).1.pending = s.pending ∧ (cCabLoad s src compat cofs addr n ext).1.otp = s.otp := by
  unfold cCabLoad
  constructor <;> (repeat' split) <;> (try simp) <;> (try intros) <;> (repeat' split) <;> (try simp) <;> (try intros) <;> (repeat' split) <;> (try simp_all)

@[simp ↓] theorem keep_cabArg (s : State) (l : Nat) (f : Nat → State × Reply)
    (h : ∀ p, (f p).1.pending = s.pending ∧ (f p).1.otp = s.otp) :
    (cabArg s l f).1.pending = s.pending ∧ (cabArg s l f).1.otp = s.otp := by
  unfold cabArg
  exact keep_ite_fst _ _ _ s ⟨rfl, rfl⟩ (h _)

@[simp ↓] theorem keep_dueDrop (s : State) (l : Nat) :
    (dueDrop s l).pending = s.pending ∧ (dueDrop s l).otp = s.otp := by
  unfold dueDrop
  constructor <;> (repeat' split) <;> (try simp) <;> (try intros) <;> (repeat' split) <;> (try simp) <;> (try intros) <;> (repeat' split) <;> (try simp_all)

@[simp ↓] theorem keep_cUnload (s : State) (l : Nat) :
    (cUnload s l).1.pending = s.pending ∧ (cUnload s l).1.otp = s.otp := by
  unfold cUnload
  constructor <;> (repeat' split) <;> (try simp) <;> (try intros) <;> (repeat' split) <;> (try simp) <;> (try intros) <;> (repeat' split) <;> (try simp_all)

@[simp ↓] theorem keep_cHold (s : State) (l : Nat) :
    (cHold s l).1.pending = s.pending ∧ (cHold s l).1.otp = s.otp := by
  unfold cHold
  constructor <;> (repeat' split) <;> (try simp) <;> (try intros) <;> (repeat' split) <;> (try simp) <;> (try intros) <;> (repeat' split) <;> (try simp_all)

@[simp ↓] theorem keep_cRun (s : State) (l : Nat) (plan : Nat) :
    (cRun s l plan).1.pending = s.pending ∧ (cRun s l plan).1.otp = s.otp := by
  unfold cRun
  constructor <;> (repeat' split) <;> (try simp) <;> (try intros) <;> (repeat' split) <;> (try simp) <;> (try intros) <;> (repeat' split) <;> (try simp_all)

@[simp ↓] theorem keep_cDrain (s : State) (l : Nat) :
    (cDrain s l).1.pending = s.pending ∧ (cDrain s l).1.otp = s.otp := by
  unfold cDrain
  constructor <;> (repeat' split) <;> (try simp) <;> (try intros) <;> (repeat' split) <;> (try simp) <;> (try intros) <;> (repeat' split) <;> (try simp_all)

@[simp ↓] theorem keep_cPower (s : State) (l : Nat) (on : Nat) :
    (cPower s l on).1.pending = s.pending ∧ (cPower s l on).1.otp = s.otp := by
  unfold cPower
  constructor <;> (repeat' split) <;> (try simp) <;> (try intros) <;> (repeat' split) <;> (try simp) <;> (try intros) <;> (repeat' split) <;> (try simp_all)

@[simp ↓] theorem keep_relocTrial (s : State) (l : Nat) (p : Nat) (r : Nat) :
    (relocTrial s l p r).pending = s.pending ∧ (relocTrial s l p r).otp = s.otp := by
  unfold relocTrial
  constructor <;> (repeat' split) <;> (try simp) <;> (try intros) <;> (repeat' split) <;> (try simp) <;> (try intros) <;> (repeat' split) <;> (try simp_all)

@[simp ↓] theorem keep_cRelocate (s : State) (l : Nat) (target : Nat) :
    (cRelocate s l target).1.pending = s.pending ∧ (cRelocate s l target).1.otp = s.otp := by
  unfold cRelocate
  constructor <;> (repeat' split) <;> (try simp) <;> (try intros) <;> (repeat' split) <;> (try simp) <;> (try intros) <;> (repeat' split) <;> (try simp_all)

@[simp ↓] theorem keep_cPlan (s : State) (l : Nat) (plan : Nat) :
    (cPlan s l plan).1.pending = s.pending ∧ (cPlan s l plan).1.otp = s.otp := by
  unfold cPlan
  constructor <;> (repeat' split) <;> (try simp) <;> (try intros) <;> (repeat' split) <;> (try simp) <;> (try intros) <;> (repeat' split) <;> (try simp_all)

@[simp ↓] theorem keep_cCapture (s : State) (l : Nat) (mode : Nat) (ofs : Nat) (tick : Nat) :
    (cCapture s l mode ofs tick).1.pending = s.pending ∧ (cCapture s l mode ofs tick).1.otp = s.otp := by
  unfold cCapture
  constructor <;> (repeat' split) <;> (try simp) <;> (try intros) <;> (repeat' split) <;> (try simp) <;> (try intros) <;> (repeat' split) <;> (try simp_all)

@[simp ↓] theorem keep_ramWords (p : Nat) (q : Nat) (r : Nat) (x3 : Nat) (x4 : Nat) (x5 : State) :
    (ramWords p q r x3 x4 x5).1.pending = x5.pending ∧ (ramWords p q r x3 x4 x5).1.otp = x5.otp := by
  first
  | (fun_induction ramWords <;> simp_all; done)
  | (fun_induction ramWords <;> simp_all +zetaDelta; done)
  | (unfold ramWords; constructor <;> (repeat' split) <;> (try simp) <;> (try intros) <;> (repeat' split) <;> (try simp) <;> (try intros) <;> (repeat' split) <;> (try simp_all))

@[simp ↓] theorem keep_cReadback (s : State) (l : Nat) (col : Nat) (row : Nat) (sec : Nat) :
    (cReadback s l col row sec).1.pending = s.pending ∧ (cReadback s l col row sec).1.otp = s.otp := by
  unfold cReadback
  constructor <;> (repeat' split) <;> (try simp) <;> (try intros) <;> (repeat' split) <;> (try simp) <;> (try intros) <;> (repeat' split) <;> (try simp_all)

@[simp ↓] theorem keep_cCabStatus (s : State) (l : Nat) :
    (cCabStatus s l).1.pending = s.pending ∧ (cCabStatus s l).1.otp = s.otp := by
  unfold cCabStatus
  constructor <;> (repeat' split) <;> (try simp) <;> (try intros) <;> (repeat' split) <;> (try simp) <;> (try intros) <;> (repeat' split) <;> (try simp_all)

@[simp ↓] theorem keep_cTickGet (s : State) :
    (cTickGet s).1.pending = s.pending ∧ (cTickGet s).1.otp = s.otp := by
  unfold cTickGet
  constructor <;> (repeat' split) <;> (try simp) <;> (try intros) <;> (repeat' split) <;> (try simp) <;> (try intros) <;> (repeat' split) <;> (try simp_all)

@[simp ↓] theorem keep_cSetLen (s : State) (n : Nat) :
    (cSetLen s n).1.pending = s.pending ∧ (cSetLen s n).1.otp = s.otp := by
  unfold cSetLen
  constructor <;> (repeat' split) <;> (try simp) <;> (try intros) <;> (repeat' split) <;> (try simp) <;> (try intros) <;> (repeat' split) <;> (try simp_all)

@[simp ↓] theorem keep_cSetSource (s : State) (src : Nat) (tol : Nat) :
    (cSetSource s src tol).1.pending = s.pending ∧ (cSetSource s src tol).1.otp = s.otp := by
  unfold cSetSource
  constructor <;> (repeat' split) <;> (try simp) <;> (try intros) <;> (repeat' split) <;> (try simp) <;> (try intros) <;> (repeat' split) <;> (try simp_all)

@[simp ↓] theorem keep_cAlign (s : State) :
    (cAlign s).1.pending = s.pending ∧ (cAlign s).1.otp = s.otp := by
  unfold cAlign
  constructor <;> (repeat' split) <;> (try simp) <;> (try intros) <;> (repeat' split) <;> (try simp) <;> (try intros) <;> (repeat' split) <;> (try simp_all)

@[simp ↓] theorem keep_cOutput (s : State) (en : Nat) :
    (cOutput s en).1.pending = s.pending ∧ (cOutput s en).1.otp = s.otp := by
  unfold cOutput
  constructor <;> (repeat' split) <;> (try simp) <;> (try intros) <;> (repeat' split) <;> (try simp) <;> (try intros) <;> (repeat' split) <;> (try simp_all)

@[simp ↓] theorem keep_cRingStatus (s : State) (r : Nat) :
    (cRingStatus s r).1.pending = s.pending ∧ (cRingStatus s r).1.otp = s.otp := by
  unfold cRingStatus
  constructor <;> (repeat' split) <;> (try simp) <;> (try intros) <;> (repeat' split) <;> (try simp) <;> (try intros) <;> (repeat' split) <;> (try simp_all)

@[simp ↓] theorem keep_cRouter (s : State) (st : Nat) (mode : Nat) :
    (cRouter s st mode).1.pending = s.pending ∧ (cRouter s st mode).1.otp = s.otp := by
  unfold cRouter
  constructor <;> (repeat' split) <;> (try simp) <;> (try intros) <;> (repeat' split) <;> (try simp) <;> (try intros) <;> (repeat' split) <;> (try simp_all)

@[simp ↓] theorem keep_cNetLoad (s : State) (st : Nat) :
    (cNetLoad s st).1.pending = s.pending ∧ (cNetLoad s st).1.otp = s.otp := by
  unfold cNetLoad
  constructor <;> (repeat' split) <;> (try simp) <;> (try intros) <;> (repeat' split) <;> (try simp) <;> (try intros) <;> (repeat' split) <;> (try simp_all)

@[simp ↓] theorem keep_cBookings (s : State) (st : Nat) :
    (cBookings s st).1.pending = s.pending ∧ (cBookings s st).1.otp = s.otp := by
  unfold cBookings
  constructor <;> (repeat' split) <;> (try simp) <;> (try intros) <;> (repeat' split) <;> (try simp) <;> (try intros) <;> (repeat' split) <;> (try simp_all)

@[simp ↓] theorem keep_cCounters (s : State) (st : Nat) :
    (cCounters s st).1.pending = s.pending ∧ (cCounters s st).1.otp = s.otp := by
  unfold cCounters
  constructor <;> (repeat' split) <;> (try simp) <;> (try intros) <;> (repeat' split) <;> (try simp) <;> (try intros) <;> (repeat' split) <;> (try simp_all)

@[simp ↓] theorem keep_cTimers (s : State) (req : Nat) (drain : Nat) (reorder : Nat) :
    (cTimers s req drain reorder).1.pending = s.pending ∧ (cTimers s req drain reorder).1.otp = s.otp := by
  unfold cTimers
  constructor <;> (repeat' split) <;> (try simp) <;> (try intros) <;> (repeat' split) <;> (try simp) <;> (try intros) <;> (repeat' split) <;> (try simp_all)

end Machine
end Sys2Proof
end

