-- ==== Sys2Proof/Laws/KeepKalunoIo.lean ====
section
/-!
SUPPORT. What the operations of Machine/KalunoIo.lean leave alone: the queue of waiting commands and the fuses.
-/

namespace Sys2Proof
namespace Machine

@[simp ↓] theorem keep_cJesdCfg (s : State) (j : Nat) (n : Nat) (cfg : Nat) (rel : Nat) (q : Nat) (path : Nat) :
    (cJesdCfg s j n cfg rel q path).1.pending = s.pending ∧ (cJesdCfg s j n cfg rel q path).1.otp = s.otp := by
  unfold cJesdCfg
  constructor <;> (repeat' split) <;> (try simp) <;> (try intros) <;> (repeat' split) <;> (try simp) <;> (try intros) <;> (repeat' split) <;> (try simp_all)

@[simp ↓] theorem keep_jesdEnPut (j : Nat) (n : Nat) (en : Nat) (s : State) :
    (jesdEnPut j n en s).pending = s.pending ∧ (jesdEnPut j n en s).otp = s.otp := by
  unfold jesdEnPut
  exact keep_jptLinkWrite s j n _

@[simp ↓] theorem keep_jesdEnTry (s : State) (j : Nat) (n : Nat) (en : Nat) :
    (jesdEnTry s j n en).1.pending = s.pending ∧ (jesdEnTry s j n en).1.otp = s.otp := by
  unfold jesdEnTry
  exact keep_tried s _ _ _ (fun z => keep_jesdEnPut j n en z)

@[simp ↓] theorem keep_cJesdEnable (s : State) (j : Nat) (n : Nat) (en : Nat) :
    (cJesdEnable s j n en).1.pending = s.pending ∧ (cJesdEnable s j n en).1.otp = s.otp := by
  unfold cJesdEnable
  exact keep_ite_fst _ _ _ s ⟨rfl, rfl⟩ (keep_pair _ s _ (keep_jesdEnTry s j n en))

@[simp ↓] theorem keep_cJesdSysref (s : State) (j : Nat) :
    (cJesdSysref s j).1.pending = s.pending ∧ (cJesdSysref s j).1.otp = s.otp := by
  unfold cJesdSysref
  constructor <;> (repeat' split) <;> (try simp) <;> (try intros) <;> (repeat' split) <;> (try simp) <;> (try intros) <;> (repeat' split) <;> (try simp_all)

@[simp ↓] theorem keep_cJesdStatus (s : State) (j : Nat) :
    (cJesdStatus s j).1.pending = s.pending ∧ (cJesdStatus s j).1.otp = s.otp := by
  unfold cJesdStatus
  constructor <;> (repeat' split) <;> (try simp) <;> (try intros) <;> (repeat' split) <;> (try simp) <;> (try intros) <;> (repeat' split) <;> (try simp_all)

@[simp ↓] theorem keep_cEthCfg (s : State) (n : Nat) (v : Nat) :
    (cEthCfg s n v).1.pending = s.pending ∧ (cEthCfg s n v).1.otp = s.otp := by
  unfold cEthCfg
  constructor <;> (repeat' split) <;> (try simp) <;> (try intros) <;> (repeat' split) <;> (try simp) <;> (try intros) <;> (repeat' split) <;> (try simp_all)

@[simp ↓] theorem keep_cEthStatus (s : State) (n : Nat) :
    (cEthStatus s n).1.pending = s.pending ∧ (cEthStatus s n).1.otp = s.otp := by
  unfold cEthStatus
  constructor <;> (repeat' split) <;> (try simp) <;> (try intros) <;> (repeat' split) <;> (try simp) <;> (try intros) <;> (repeat' split) <;> (try simp_all)

@[simp ↓] theorem keep_cTod (s : State) (op : Nat) (v : Nat) :
    (cTod s op v).1.pending = s.pending ∧ (cTod s op v).1.otp = s.otp := by
  unfold cTod
  constructor <;> (repeat' split) <;> (try simp) <;> (try intros) <;> (repeat' split) <;> (try simp) <;> (try intros) <;> (repeat' split) <;> (try simp_all)

@[simp ↓] theorem keep_stampsRead (n : Nat) (x1 : Nat) (x2 : State) :
    (stampsRead n x1 x2).1.pending = x2.pending ∧ (stampsRead n x1 x2).1.otp = x2.otp := by
  first
  | (fun_induction stampsRead <;> simp_all; done)
  | (fun_induction stampsRead <;> simp_all +zetaDelta; done)
  | (unfold stampsRead; constructor <;> (repeat' split) <;> (try simp) <;> (try intros) <;> (repeat' split) <;> (try simp) <;> (try intros) <;> (repeat' split) <;> (try simp_all))

@[simp ↓] theorem keep_cTxts (s : State) (n : Nat) (most : Nat) :
    (cTxts s n most).1.pending = s.pending ∧ (cTxts s n most).1.otp = s.otp := by
  unfold cTxts
  constructor <;> (repeat' split) <;> (try simp) <;> (try intros) <;> (repeat' split) <;> (try simp) <;> (try intros) <;> (repeat' split) <;> (try simp_all)

@[simp ↓] theorem keep_cSynce (s : State) (o : Nat) (v : Nat) :
    (cSynce s o v).1.pending = s.pending ∧ (cSynce s o v).1.otp = s.otp := by
  unfold cSynce
  constructor <;> (repeat' split) <;> (try simp) <;> (try intros) <;> (repeat' split) <;> (try simp) <;> (try intros) <;> (repeat' split) <;> (try simp_all)

@[simp ↓] theorem keep_cSpanCfg (s : State) (k : Nat) (v : Nat) :
    (cSpanCfg s k v).1.pending = s.pending ∧ (cSpanCfg s k v).1.otp = s.otp := by
  unfold cSpanCfg
  constructor <;> (repeat' split) <;> (try simp) <;> (try intros) <;> (repeat' split) <;> (try simp) <;> (try intros) <;> (repeat' split) <;> (try simp_all)

@[simp ↓] theorem keep_cSpanStatus (s : State) (k : Nat) :
    (cSpanStatus s k).1.pending = s.pending ∧ (cSpanStatus s k).1.otp = s.otp := by
  unfold cSpanStatus
  constructor <;> (repeat' split) <;> (try simp) <;> (try intros) <;> (repeat' split) <;> (try simp) <;> (try intros) <;> (repeat' split) <;> (try simp_all)

@[simp ↓] theorem keep_cSpanRoute (s : State) (d : Nat) (v : Nat) :
    (cSpanRoute s d v).1.pending = s.pending ∧ (cSpanRoute s d v).1.otp = s.otp := by
  unfold cSpanRoute
  constructor <;> (repeat' split) <;> (try simp) <;> (try intros) <;> (repeat' split) <;> (try simp) <;> (try intros) <;> (repeat' split) <;> (try simp_all)

@[simp ↓] theorem keep_cSpanSys (s : State) (sys : Nat) (tick : Nat) (rclk : Nat) :
    (cSpanSys s sys tick rclk).1.pending = s.pending ∧ (cSpanSys s sys tick rclk).1.otp = s.otp := by
  unfold cSpanSys
  constructor <;> (repeat' split) <;> (try simp) <;> (try intros) <;> (repeat' split) <;> (try simp) <;> (try intros) <;> (repeat' split) <;> (try simp_all)

@[simp ↓] theorem keep_cLex (s : State) (op : Nat) (loc : Nat) (ent : Nat) :
    (cLex s op loc ent).1.pending = s.pending ∧ (cLex s op loc ent).1.otp = s.otp := by
  unfold cLex
  constructor <;> (repeat' split) <;> (try simp) <;> (try intros) <;> (repeat' split) <;> (try simp) <;> (try intros) <;> (repeat' split) <;> (try simp_all)

@[simp ↓] theorem keep_cLexPort (s : State) (i : Nat) (v : Nat) :
    (cLexPort s i v).1.pending = s.pending ∧ (cLexPort s i v).1.otp = s.otp := by
  unfold cLexPort
  constructor <;> (repeat' split) <;> (try simp) <;> (try intros) <;> (repeat' split) <;> (try simp) <;> (try intros) <;> (repeat' split) <;> (try simp_all)

@[simp ↓] theorem keep_cFlowSet (s : State) (f : Nat) (desc : Nat) :
    (cFlowSet s f desc).1.pending = s.pending ∧ (cFlowSet s f desc).1.otp = s.otp := by
  unfold cFlowSet
  constructor <;> (repeat' split) <;> (try simp) <;> (try intros) <;> (repeat' split) <;> (try simp) <;> (try intros) <;> (repeat' split) <;> (try simp_all)

@[simp ↓] theorem keep_cFlowGet (s : State) (f : Nat) :
    (cFlowGet s f).1.pending = s.pending ∧ (cFlowGet s f).1.otp = s.otp := by
  unfold cFlowGet
  constructor <;> (repeat' split) <;> (try simp) <;> (try intros) <;> (repeat' split) <;> (try simp) <;> (try intros) <;> (repeat' split) <;> (try simp_all)

@[simp ↓] theorem keep_cLink (s : State) (l : Nat) (v : Nat) :
    (cLink s l v).1.pending = s.pending ∧ (cLink s l v).1.otp = s.otp := by
  unfold cLink
  constructor <;> (repeat' split) <;> (try simp) <;> (try intros) <;> (repeat' split) <;> (try simp) <;> (try intros) <;> (repeat' split) <;> (try simp_all)

@[simp ↓] theorem keep_cQmCfg (s : State) (cfg : Nat) (base : Nat) (cells : Nat) :
    (cQmCfg s cfg base cells).1.pending = s.pending ∧ (cQmCfg s cfg base cells).1.otp = s.otp := by
  unfold cQmCfg
  constructor <;> (repeat' split) <;> (try simp) <;> (try intros) <;> (repeat' split) <;> (try simp) <;> (try intros) <;> (repeat' split) <;> (try simp_all)

@[simp ↓] theorem keep_cMemStatus (s : State) :
    (cMemStatus s).1.pending = s.pending ∧ (cMemStatus s).1.otp = s.otp := by
  unfold cMemStatus
  constructor <;> (repeat' split) <;> (try simp) <;> (try intros) <;> (repeat' split) <;> (try simp) <;> (try intros) <;> (repeat' split) <;> (try simp_all)

@[simp ↓] theorem keep_cMemFail (s : State) (d : Nat) :
    (cMemFail s d).1.pending = s.pending ∧ (cMemFail s d).1.otp = s.otp := by
  unfold cMemFail
  constructor <;> (repeat' split) <;> (try simp) <;> (try intros) <;> (repeat' split) <;> (try simp) <;> (try intros) <;> (repeat' split) <;> (try simp_all)

@[simp ↓] theorem keep_cMemRetrain (s : State) :
    (cMemRetrain s).1.pending = s.pending ∧ (cMemRetrain s).1.otp = s.otp := by
  unfold cMemRetrain
  constructor <;> (repeat' split) <;> (try simp) <;> (try intros) <;> (repeat' split) <;> (try simp) <;> (try intros) <;> (repeat' split) <;> (try simp_all)

@[simp ↓] theorem keep_cMemRebuild (s : State) :
    (cMemRebuild s).1.pending = s.pending ∧ (cMemRebuild s).1.otp = s.otp := by
  unfold cMemRebuild
  constructor <;> (repeat' split) <;> (try simp) <;> (try intros) <;> (repeat' split) <;> (try simp) <;> (try intros) <;> (repeat' split) <;> (try simp_all)

@[simp ↓] theorem keep_cSpareGet (s : State) (d : Nat) (from_ : Nat) :
    (cSpareGet s d from_).1.pending = s.pending ∧ (cSpareGet s d from_).1.otp = s.otp := by
  unfold cSpareGet
  constructor <;> (repeat' split) <;> (try simp) <;> (try intros) <;> (repeat' split) <;> (try simp) <;> (try intros) <;> (repeat' split) <;> (try simp_all)

@[simp ↓] theorem keep_cSpareSet (s : State) (d : Nat) (es : List Nat) :
    (cSpareSet s d es).1.pending = s.pending ∧ (cSpareSet s d es).1.otp = s.otp := by
  unfold cSpareSet
  constructor <;> (repeat' split) <;> (try simp) <;> (try intros) <;> (repeat' split) <;> (try simp) <;> (try intros) <;> (repeat' split) <;> (try simp_all)

@[simp ↓] theorem keep_cDmaStatus (s : State) (c : Nat) :
    (cDmaStatus s c).1.pending = s.pending ∧ (cDmaStatus s c).1.otp = s.otp := by
  unfold cDmaStatus
  constructor <;> (repeat' split) <;> (try simp) <;> (try intros) <;> (repeat' split) <;> (try simp) <;> (try intros) <;> (repeat' split) <;> (try simp_all)

@[simp ↓] theorem keep_pairBand (s : State) (ths : List Thr) :
    (pairBand s ths).1.pending = s.pending ∧ (pairBand s ths).1.otp = s.otp := by
  unfold pairBand
  constructor <;> (repeat' split) <;> (try simp) <;> (try intros) <;> (repeat' split) <;> (try simp) <;> (try intros) <;> (repeat' split) <;> (try simp_all)

@[simp ↓] theorem keep_cThreadSet (s : State) (t : Nat) (desc : Nat) :
    (cThreadSet s t desc).1.pending = s.pending ∧ (cThreadSet s t desc).1.otp = s.otp := by
  unfold cThreadSet
  constructor <;> (repeat' split) <;> (try simp) <;> (try intros) <;> (repeat' split) <;> (try simp) <;> (try intros) <;> (repeat' split) <;> (try simp_all)

@[simp ↓] theorem keep_cThreadGet (s : State) (t : Nat) :
    (cThreadGet s t).1.pending = s.pending ∧ (cThreadGet s t).1.otp = s.otp := by
  unfold cThreadGet
  constructor <;> (repeat' split) <;> (try simp) <;> (try intros) <;> (repeat' split) <;> (try simp) <;> (try intros) <;> (repeat' split) <;> (try simp_all)

@[simp ↓] theorem keep_cThreadDel (s : State) (t : Nat) :
    (cThreadDel s t).1.pending = s.pending ∧ (cThreadDel s t).1.otp = s.otp := by
  unfold cThreadDel
  constructor <;> (repeat' split) <;> (try simp) <;> (try intros) <;> (repeat' split) <;> (try simp) <;> (try intros) <;> (repeat' split) <;> (try simp_all)

@[simp ↓] theorem keep_cAdmitTest (s : State) (ts : List Nat) (descs : List Nat) :
    (cAdmitTest s ts descs).1.pending = s.pending ∧ (cAdmitTest s ts descs).1.otp = s.otp := by
  unfold cAdmitTest
  constructor <;> (repeat' split) <;> (try simp) <;> (try intros) <;> (repeat' split) <;> (try simp) <;> (try intros) <;> (repeat' split) <;> (try simp_all)

@[simp ↓] theorem keep_cPost (s : State) (t : Nat) :
    (cPost s t).1.pending = s.pending ∧ (cPost s t).1.otp = s.otp := by
  unfold cPost
  constructor <;> (repeat' split) <;> (try simp) <;> (try intros) <;> (repeat' split) <;> (try simp) <;> (try intros) <;> (repeat' split) <;> (try simp_all)

@[simp ↓] theorem keep_cSchStatus (s : State) :
    (cSchStatus s).1.pending = s.pending ∧ (cSchStatus s).1.otp = s.otp := by
  unfold cSchStatus
  constructor <;> (repeat' split) <;> (try simp) <;> (try intros) <;> (repeat' split) <;> (try simp) <;> (try intros) <;> (repeat' split) <;> (try simp_all)

end Machine
end Sys2Proof
end

