-- ==== Sys2Proof/Laws/KeepKalunoFw.lean ====
section
/-!
SUPPORT. What the operations of Machine/KalunoFw.lean leave alone: the queue of waiting commands and the fuses.
-/

namespace Sys2Proof
namespace Machine

@[simp ↓] theorem keep_cRecords (s : State) (from_ : Nat) :
    (cRecords s from_).1.pending = s.pending ∧ (cRecords s from_).1.otp = s.otp := by
  unfold cRecords
  constructor <;> (repeat' split) <;> (try simp) <;> (try intros) <;> (repeat' split) <;> (try simp) <;> (try intros) <;> (repeat' split) <;> (try simp_all)

@[simp ↓] theorem keep_cAck (s : State) (src : Nat) :
    (cAck s src).1.pending = s.pending ∧ (cAck s src).1.otp = s.otp := by
  unfold cAck
  constructor <;> (repeat' split) <;> (try simp) <;> (try intros) <;> (repeat' split) <;> (try simp) <;> (try intros) <;> (repeat' split) <;> (try simp_all)

@[simp ↓] theorem keep_cInject (s : State) (src : Nat) (chk : Nat) (count : Nat) :
    (cInject s src chk count).1.pending = s.pending ∧ (cInject s src chk count).1.otp = s.otp := by
  unfold cInject
  constructor <;> (repeat' split) <;> (try simp) <;> (try intros) <;> (repeat' split) <;> (try simp) <;> (try intros) <;> (repeat' split) <;> (try simp_all)

@[simp ↓] theorem keep_cRecover (s : State) (k : Nat) (id : Nat) :
    (cRecover s k id).1.pending = s.pending ∧ (cRecover s k id).1.otp = s.otp := by
  unfold cRecover
  constructor <;> (repeat' split) <;> (try simp) <;> (try intros) <;> (repeat' split) <;> (try simp) <;> (try intros) <;> (repeat' split) <;> (try simp_all)

@[simp ↓] theorem keep_cFltConfig (s : State) (quiet : Nat) (mode : Nat) :
    (cFltConfig s quiet mode).1.pending = s.pending ∧ (cFltConfig s quiet mode).1.otp = s.otp := by
  unfold cFltConfig
  constructor <;> (repeat' split) <;> (try simp) <;> (try intros) <;> (repeat' split) <;> (try simp) <;> (try intros) <;> (repeat' split) <;> (try simp_all)

@[simp ↓] theorem keep_cCalendarGet (s : State) :
    (cCalendarGet s).1.pending = s.pending ∧ (cCalendarGet s).1.otp = s.otp := by
  unfold cCalendarGet
  constructor <;> (repeat' split) <;> (try simp) <;> (try intros) <;> (repeat' split) <;> (try simp) <;> (try intros) <;> (repeat' split) <;> (try simp_all)

@[simp ↓] theorem keep_cCalendarSet (s : State) (scrub : Nat) (slice : Nat) (cmp : Nat) (gap : Nat) :
    (cCalendarSet s scrub slice cmp gap).1.pending = s.pending ∧ (cCalendarSet s scrub slice cmp gap).1.otp = s.otp := by
  unfold cCalendarSet
  constructor <;> (repeat' split) <;> (try simp) <;> (try intros) <;> (repeat' split) <;> (try simp) <;> (try intros) <;> (repeat' split) <;> (try simp_all)

@[simp ↓] theorem keep_cResults (s : State) (k : Nat) (id : Nat) :
    (cResults s k id).1.pending = s.pending ∧ (cResults s k id).1.otp = s.otp := by
  unfold cResults
  constructor <;> (repeat' split) <;> (try simp) <;> (try intros) <;> (repeat' split) <;> (try simp) <;> (try intros) <;> (repeat' split) <;> (try simp_all)

@[simp ↓] theorem keep_testEnds (s0 : State) (u : Nat) (res : Nat) :
    (testEnds s0 u res).pending = s0.pending ∧ (testEnds s0 u res).otp = s0.otp := by
  unfold testEnds
  constructor <;> (repeat' split) <;> (try simp) <;> (try intros) <;> (repeat' split) <;> (try simp) <;> (try intros) <;> (repeat' split) <;> (try simp_all)

@[simp ↓] theorem keep_cTestRun (s : State) (k : Nat) (id : Nat) (res : Nat) :
    (cTestRun s k id res).1.pending = s.pending ∧ (cTestRun s k id res).1.otp = s.otp := by
  unfold cTestRun
  constructor <;> (repeat' split) <;> (try simp) <;> (try intros) <;> (repeat' split) <;> (try simp) <;> (try intros) <;> (repeat' split) <;> (try simp_all)

@[simp ↓] theorem keep_cLogRead (s : State) (from_ : Nat) (most : Nat) :
    (cLogRead s from_ most).1.pending = s.pending ∧ (cLogRead s from_ most).1.otp = s.otp := by
  unfold cLogRead
  constructor <;> (repeat' split) <;> (try simp) <;> (try intros) <;> (repeat' split) <;> (try simp) <;> (try intros) <;> (repeat' split) <;> (try simp_all)

@[simp ↓] theorem keep_cLogInfo (s : State) :
    (cLogInfo s).1.pending = s.pending ∧ (cLogInfo s).1.otp = s.otp := by
  unfold cLogInfo
  constructor <;> (repeat' split) <;> (try simp) <;> (try intros) <;> (repeat' split) <;> (try simp) <;> (try intros) <;> (repeat' split) <;> (try simp_all)

@[simp ↓] theorem keep_cBurIdentify (s : State) :
    (cBurIdentify s).1.pending = s.pending ∧ (cBurIdentify s).1.otp = s.otp := by
  unfold cBurIdentify
  constructor <;> (repeat' split) <;> (try simp) <;> (try intros) <;> (repeat' split) <;> (try simp) <;> (try intros) <;> (repeat' split) <;> (try simp_all)

@[simp ↓] theorem keep_cTotals (s : State) (from_ : Nat) (n : Nat) :
    (cTotals s from_ n).1.pending = s.pending ∧ (cTotals s from_ n).1.otp = s.otp := by
  unfold cTotals
  constructor <;> (repeat' split) <;> (try simp) <;> (try intros) <;> (repeat' split) <;> (try simp) <;> (try intros) <;> (repeat' split) <;> (try simp_all)

@[simp ↓] theorem keep_cStatement (s : State) (index : Nat) :
    (cStatement s index).1.pending = s.pending ∧ (cStatement s index).1.otp = s.otp := by
  unfold cStatement
  constructor <;> (repeat' split) <;> (try simp) <;> (try intros) <;> (repeat' split) <;> (try simp) <;> (try intros) <;> (repeat' split) <;> (try simp_all)

@[simp ↓] theorem keep_cAudit (s : State) (from_ : Nat) (most : Nat) :
    (cAudit s from_ most).1.pending = s.pending ∧ (cAudit s from_ most).1.otp = s.otp := by
  unfold cAudit
  constructor <;> (repeat' split) <;> (try simp) <;> (try intros) <;> (repeat' split) <;> (try simp) <;> (try intros) <;> (repeat' split) <;> (try simp_all)

@[simp ↓] theorem keep_cBurStatus (s : State) :
    (cBurStatus s).1.pending = s.pending ∧ (cBurStatus s).1.otp = s.otp := by
  unfold cBurStatus
  constructor <;> (repeat' split) <;> (try simp) <;> (try intros) <;> (repeat' split) <;> (try simp) <;> (try intros) <;> (repeat' split) <;> (try simp_all)

@[simp ↓] theorem keep_cFwStatus (s : State) :
    (cFwStatus s).1.pending = s.pending ∧ (cFwStatus s).1.otp = s.otp := by
  unfold cFwStatus
  constructor <;> (repeat' split) <;> (try simp) <;> (try intros) <;> (repeat' split) <;> (try simp) <;> (try intros) <;> (repeat' split) <;> (try simp_all)

@[simp ↓] theorem keep_fwErase (s : State) (a : Option (Nat × Nat)) :
    (fwErase s a).pending = s.pending ∧ (fwErase s a).otp = s.otp := by
  unfold fwErase
  constructor <;> (repeat' split) <;> (try simp) <;> (try intros) <;> (repeat' split) <;> (try simp) <;> (try intros) <;> (repeat' split) <;> (try simp_all)

@[simp ↓] theorem keep_cFwBegin (s : State) :
    (cFwBegin s).1.pending = s.pending ∧ (cFwBegin s).1.otp = s.otp := by
  unfold cFwBegin
  constructor <;> (repeat' split) <;> (try simp) <;> (try intros) <;> (repeat' split) <;> (try simp) <;> (try intros) <;> (repeat' split) <;> (try simp_all)

@[simp ↓] theorem keep_fwProgram (s : State) (part : Nat) (ofs : Nat) (b : List Byte) :
    (fwProgram s part ofs b).1.pending = s.pending ∧ (fwProgram s part ofs b).1.otp = s.otp := by
  unfold fwProgram
  constructor <;> (repeat' split) <;> (try simp) <;> (try intros) <;> (repeat' split) <;> (try simp) <;> (try intros) <;> (repeat' split) <;> (try simp_all)

@[simp ↓] theorem keep_cFwData (s : State) (part : Nat) (ofs : Nat) (b : List Byte) :
    (cFwData s part ofs b).1.pending = s.pending ∧ (cFwData s part ofs b).1.otp = s.otp := by
  unfold cFwData
  constructor <;> (repeat' split) <;> (try simp) <;> (try intros) <;> (repeat' split) <;> (try simp) <;> (try intros) <;> (repeat' split) <;> (try simp_all)

@[simp ↓] theorem keep_cFwWrite (s : State) (part : Nat) (src : Nat) (addr : Nat) (ofs : Nat) (n : Nat) (ext : List Byte) :
    (cFwWrite s part src addr ofs n ext).1.pending = s.pending ∧ (cFwWrite s part src addr ofs n ext).1.otp = s.otp := by
  unfold cFwWrite
  constructor <;> (repeat' split) <;> (try simp) <;> (try intros) <;> (repeat' split) <;> (try simp) <;> (try intros) <;> (repeat' split) <;> (try simp_all)

@[simp ↓] theorem keep_cFwCopy (s : State) (part : Nat) :
    (cFwCopy s part).1.pending = s.pending ∧ (cFwCopy s part).1.otp = s.otp := by
  unfold cFwCopy
  constructor <;> (repeat' split) <;> (try simp) <;> (try intros) <;> (repeat' split) <;> (try simp) <;> (try intros) <;> (repeat' split) <;> (try simp_all)

@[simp ↓] theorem keep_cFwVerify (s : State) (part : Nat) (n : Nat) :
    (cFwVerify s part n).1.pending = s.pending ∧ (cFwVerify s part n).1.otp = s.otp := by
  unfold cFwVerify
  constructor <;> (repeat' split) <;> (try simp) <;> (try intros) <;> (repeat' split) <;> (try simp) <;> (try intros) <;> (repeat' split) <;> (try simp_all)

@[simp ↓] theorem keep_cFwActivate (s : State) (trial : Nat) (reset : Nat) :
    (cFwActivate s trial reset).1.pending = s.pending ∧ (cFwActivate s trial reset).1.otp = s.otp := by
  unfold cFwActivate
  constructor <;> (repeat' split) <;> (try simp) <;> (try intros) <;> (repeat' split) <;> (try simp) <;> (try intros) <;> (repeat' split) <;> (try simp_all)

@[simp ↓] theorem keep_fwBack (s : State) :
    (fwBack s).pending = s.pending ∧ (fwBack s).otp = s.otp := by
  unfold fwBack
  constructor <;> (repeat' split) <;> (try simp) <;> (try intros) <;> (repeat' split) <;> (try simp) <;> (try intros) <;> (repeat' split) <;> (try simp_all)

@[simp ↓] theorem keep_cFwRollback (s : State) :
    (cFwRollback s).1.pending = s.pending ∧ (cFwRollback s).1.otp = s.otp := by
  unfold cFwRollback
  constructor <;> (repeat' split) <;> (try simp) <;> (try intros) <;> (repeat' split) <;> (try simp) <;> (try intros) <;> (repeat' split) <;> (try simp_all)

@[simp ↓] theorem keep_trialEnd (s : State) :
    (trialEnd s).pending = s.pending ∧ (trialEnd s).otp = s.otp := by
  unfold trialEnd
  constructor <;> (repeat' split) <;> (try simp) <;> (try intros) <;> (repeat' split) <;> (try simp) <;> (try intros) <;> (repeat' split) <;> (try simp_all)

@[simp ↓] theorem keep_cPushBegin (s : State) (n : Nat) :
    (cPushBegin s n).1.pending = s.pending ∧ (cPushBegin s n).1.otp = s.otp := by
  unfold cPushBegin
  constructor <;> (repeat' split) <;> (try simp) <;> (try intros) <;> (repeat' split) <;> (try simp) <;> (try intros) <;> (repeat' split) <;> (try simp_all)

@[simp ↓] theorem keep_cPushData (s : State) (ofs : Nat) (b : List Byte) :
    (cPushData s ofs b).1.pending = s.pending ∧ (cPushData s ofs b).1.otp = s.otp := by
  unfold cPushData
  constructor <;> (repeat' split) <;> (try simp) <;> (try intros) <;> (repeat' split) <;> (try simp) <;> (try intros) <;> (repeat' split) <;> (try simp_all)

@[simp ↓] theorem keep_cPushEnd (s : State) :
    (cPushEnd s).1.pending = s.pending ∧ (cPushEnd s).1.otp = s.otp := by
  unfold cPushEnd
  constructor <;> (repeat' split) <;> (try simp) <;> (try intros) <;> (repeat' split) <;> (try simp) <;> (try intros) <;> (repeat' split) <;> (try simp_all)

end Machine
end Sys2Proof
end

