-- ==== Sys2Proof/Laws/KeepMailbox.lean ====
section
/-!
SUPPORT. What the operations of Machine/Mailbox.lean leave alone: the queue of waiting commands and the fuses.
-/

namespace Sys2Proof
namespace Machine

@[simp ↓] theorem keep_kCab (c : Nat) (a : List Nat) (ext : List Byte) (s : State) :
    (kCab c a ext s).1.pending = s.pending ∧ (kCab c a ext s).1.otp = s.otp := by
  unfold kCab
  refine keep_ite_fst _ _ _ s (keep_cCabLoad ..) ?_
  refine keep_ite_fst _ _ _ s (keep_cUnload ..) ?_
  refine keep_ite_fst _ _ _ s (keep_cHold ..) ?_
  refine keep_ite_fst _ _ _ s (keep_cRun ..) ?_
  refine keep_ite_fst _ _ _ s (keep_cDrain ..) ?_
  refine keep_ite_fst _ _ _ s (keep_cPower ..) ?_
  refine keep_ite_fst _ _ _ s (keep_cRelocate ..) ?_
  refine keep_ite_fst _ _ _ s (keep_cPlan ..) ?_
  refine keep_ite_fst _ _ _ s (keep_cCapture ..) ?_
  refine keep_ite_fst _ _ _ s (keep_cReadback ..) ?_
  exact keep_cCabStatus ..

@[simp ↓] theorem keep_kTickNet (g : Nat) (c : Nat) (a : List Nat) (s : State) :
    (kTickNet g c a s).1.pending = s.pending ∧ (kTickNet g c a s).1.otp = s.otp := by
  unfold kTickNet
  refine keep_ite_fst _ _ _ s ?_ ?_
  · refine keep_ite_fst _ _ _ s (keep_cTickGet ..) ?_
    refine keep_ite_fst _ _ _ s (keep_cSetLen ..) ?_
    refine keep_ite_fst _ _ _ s (keep_cSetSource ..) ?_
    refine keep_ite_fst _ _ _ s (keep_cAlign ..) ?_
    exact keep_cOutput ..
  · refine keep_ite_fst _ _ _ s (keep_cRingStatus ..) ?_
    refine keep_ite_fst _ _ _ s (keep_cRouter ..) ?_
    refine keep_ite_fst _ _ _ s (keep_cNetLoad ..) ?_
    refine keep_ite_fst _ _ _ s (keep_cBookings ..) ?_
    refine keep_ite_fst _ _ _ s (keep_cCounters ..) ?_
    exact keep_cTimers ..

@[simp ↓] theorem keep_kPort (c : Nat) (a : List Nat) (s : State) :
    (kPort c a s).1.pending = s.pending ∧ (kPort c a s).1.otp = s.otp := by
  unfold kPort
  refine keep_ite_fst _ _ _ s (keep_cJesdCfg ..) ?_
  refine keep_ite_fst _ _ _ s (keep_cJesdEnable ..) ?_
  refine keep_ite_fst _ _ _ s (keep_cJesdSysref ..) ?_
  refine keep_ite_fst _ _ _ s (keep_cJesdStatus ..) ?_
  refine keep_ite_fst _ _ _ s (keep_cEthCfg ..) ?_
  refine keep_ite_fst _ _ _ s (keep_cEthStatus ..) ?_
  refine keep_ite_fst _ _ _ s (keep_cTod ..) ?_
  refine keep_ite_fst _ _ _ s (keep_cTxts ..) ?_
  refine keep_ite_fst _ _ _ s (keep_cSynce ..) ?_
  refine keep_ite_fst _ _ _ s (keep_cSpanCfg ..) ?_
  refine keep_ite_fst _ _ _ s (keep_cSpanStatus ..) ?_
  refine keep_ite_fst _ _ _ s (keep_cSpanRoute ..) ?_
  exact keep_cSpanSys ..

@[simp ↓] theorem keep_kFlowMem (g : Nat) (c : Nat) (a : List Nat) (s : State) :
    (kFlowMem g c a s).1.pending = s.pending ∧ (kFlowMem g c a s).1.otp = s.otp := by
  unfold kFlowMem
  refine keep_ite_fst _ _ _ s ?_ ?_
  · refine keep_ite_fst _ _ _ s (keep_cLex ..) ?_
    refine keep_ite_fst _ _ _ s (keep_cLexPort ..) ?_
    refine keep_ite_fst _ _ _ s (keep_cFlowSet ..) ?_
    refine keep_ite_fst _ _ _ s (keep_cFlowGet ..) ?_
    refine keep_ite_fst _ _ _ s (keep_cLink ..) ?_
    exact keep_cQmCfg ..
  · refine keep_ite_fst _ _ _ s (keep_cMemStatus ..) ?_
    refine keep_ite_fst _ _ _ s (keep_cMemFail ..) ?_
    refine keep_ite_fst _ _ _ s (keep_cMemRetrain ..) ?_
    refine keep_ite_fst _ _ _ s (keep_cMemRebuild ..) ?_
    refine keep_ite_fst _ _ _ s (keep_cSpareGet ..) ?_
    refine keep_ite_fst _ _ _ s (keep_cSpareSet ..) ?_
    exact keep_cDmaStatus ..

@[simp ↓] theorem keep_kSchFlt (g : Nat) (c : Nat) (a : List Nat) (s : State) :
    (kSchFlt g c a s).1.pending = s.pending ∧ (kSchFlt g c a s).1.otp = s.otp := by
  unfold kSchFlt
  refine keep_ite_fst _ _ _ s ?_ ?_
  · refine keep_ite_fst _ _ _ s (keep_cThreadSet ..) ?_
    refine keep_ite_fst _ _ _ s (keep_cThreadGet ..) ?_
    refine keep_ite_fst _ _ _ s (keep_cThreadDel ..) ?_
    refine keep_ite_fst _ _ _ s (keep_cAdmitTest ..) ?_
    refine keep_ite_fst _ _ _ s (keep_cPost ..) ?_
    exact keep_cSchStatus ..
  · refine keep_ite_fst _ _ _ s (keep_cRecords ..) ?_
    refine keep_ite_fst _ _ _ s (keep_cAck ..) ?_
    refine keep_ite_fst _ _ _ s (keep_cInject ..) ?_
    refine keep_ite_fst _ _ _ s (keep_cRecover ..) ?_
    exact keep_cFltConfig ..

@[simp ↓] theorem keep_kRest (g : Nat) (c : Nat) (a : List Nat) (ext : List Byte) (s : State) :
    (kRest g c a ext s).1.pending = s.pending ∧ (kRest g c a ext s).1.otp = s.otp := by
  unfold kRest
  refine keep_ite_fst _ _ _ s ?_ ?_
  · refine keep_ite_fst _ _ _ s (keep_cCalendarGet ..) ?_
    refine keep_ite_fst _ _ _ s (keep_cCalendarSet ..) ?_
    refine keep_ite_fst _ _ _ s (keep_cResults ..) ?_
    exact keep_cTestRun ..
  · refine keep_ite_fst _ _ _ s (keep_ite_fst _ _ _ s (keep_cLogRead ..) (keep_cLogInfo ..)) ?_
    refine keep_ite_fst _ _ _ s (keep_cBurIdentify ..) ?_
    refine keep_ite_fst _ _ _ s (keep_cTotals ..) ?_
    refine keep_ite_fst _ _ _ s (keep_cStatement ..) ?_
    refine keep_ite_fst _ _ _ s (keep_cAudit ..) ?_
    exact keep_cBurStatus ..

@[simp ↓] theorem keep_sendRsp (s : State) (m : Nat) (h : Mbx) (replay : Bool) :
    (sendRsp s m h replay).pending = s.pending ∧ (sendRsp s m h replay).otp = s.otp := by
  unfold sendRsp
  constructor <;> (repeat' split) <;> (try simp) <;> (try intros) <;> (repeat' split) <;> (try simp) <;> (try intros) <;> (repeat' split) <;> (try simp_all)

@[simp ↓] theorem keep_finish (s : State) (m : Nat) (st : Nat) (sub : Nat) (more : Bool) (pay : List Byte) :
    (finish s m st sub more pay).pending = s.pending ∧ (finish s m st sub more pay).otp = s.otp := by
  unfold finish
  constructor <;> (repeat' split) <;> (try simp) <;> (try intros) <;> (repeat' split) <;> (try simp) <;> (try intros) <;> (repeat' split) <;> (try simp_all)

theorem keep_of_some {x q : State × Reply} {s : State} (k : x.1.pending = s.pending ∧ x.1.otp = s.otp)
    (h : some x = some q) : q.1.pending = s.pending ∧ q.1.otp = s.otp := Option.some.inj h ▸ k

theorem keep_of_none {q : State × Reply} {P : Prop} (h : (none : Option (State × Reply)) = some q) : P := nomatch h

theorem keep_of_ite {q : State × Reply} {P : Prop} {c : Prop} [Decidable c] {a b : Option (State × Reply)}
    (h : (if c then a else b) = some q) (ha : a = some q → P) (hb : b = some q → P) : P := by
  by_cases k : c
  · rw [if_pos k] at h
    exact ha h
  · rw [if_neg k] at h
    exact hb h

theorem keep_waitNow (s : State) (w : Wait) (q : State × Reply) (h : waitNow s w = some q) :
    q.1.pending = s.pending ∧ q.1.otp = s.otp := by
  have k := keep_pair (β := Reply) s s
  cases w with
  | load => exact keep_of_ite h keep_of_none (keep_of_some (k _ ⟨rfl, rfl⟩))
  | hold l => exact keep_of_ite h (keep_of_some (k _ ⟨rfl, rfl⟩)) fun h => keep_of_ite h (keep_of_some (k _ ⟨rfl, rfl⟩)) keep_of_none
  | run l => exact keep_of_ite h (keep_of_some (k _ ⟨rfl, rfl⟩)) fun h => keep_of_ite h (keep_of_some (k _ ⟨rfl, rfl⟩)) keep_of_none
  | drain l => exact keep_of_ite h (keep_of_some (k _ ⟨rfl, rfl⟩)) fun h => keep_of_ite h (keep_of_some (k _ ⟨rfl, rfl⟩)) keep_of_none
  | unload l => exact keep_of_ite h (keep_of_some (k _ ⟨rfl, rfl⟩)) fun h => keep_of_ite h keep_of_none (keep_of_some (k _ ⟨rfl, rfl⟩))
  | power l => exact keep_of_ite h (keep_of_some (k _ ⟨rfl, rfl⟩)) fun h => keep_of_ite h keep_of_none (keep_of_some (k _ ⟨rfl, rfl⟩))
  | relocate l dest =>
    exact keep_of_ite h (keep_of_some (k _ ⟨rfl, rfl⟩)) fun h =>
      keep_of_ite h keep_of_none (keep_of_some (k _ ⟨rfl, rfl⟩))
  | align => exact keep_of_ite h keep_of_none (keep_of_some (k _ ⟨rfl, rfl⟩))
  | router stp mode since => exact keep_of_ite h (keep_of_some (k _ ⟨rfl, rfl⟩)) fun h => keep_of_ite h (keep_of_some (k _ ⟨rfl, rfl⟩)) keep_of_none
  | jesd i since => exact keep_of_ite h (keep_of_some (keep_oneReg ..)) fun h => keep_of_ite h (keep_of_some (k _ ⟨rfl, rfl⟩)) keep_of_none
  | sysref j since => exact keep_of_ite h (keep_of_some (keep_oneReg ..)) fun h => keep_of_ite h (keep_of_some (k _ ⟨rfl, rfl⟩)) keep_of_none
  | lex => exact keep_of_ite h keep_of_none (keep_of_some (k _ ⟨rfl, rfl⟩))
  | lexPort => exact keep_of_ite h keep_of_none (keep_of_some (k _ ⟨rfl, rfl⟩))
  | retrain since => exact keep_of_ite h (keep_of_some (k _ ⟨rfl, rfl⟩)) fun h => keep_of_ite h (keep_of_some (k _ ⟨rfl, rfl⟩)) keep_of_none

@[simp ↓] theorem keep_conclude (s : State) (m : Nat) (r : Reply) :
    (conclude s m r).pending = s.pending ∧ (conclude s m r).otp = s.otp := by
  unfold conclude
  cases r with
  | done st sub more pay => exact keep_finish ..
  | wait w =>
    dsimp only
    cases e : waitNow s w with
    | none => exact ⟨rfl, rfl⟩
    | some q =>
      have k := keep_waitNow s w q e
      obtain ⟨s1, r⟩ := q
      cases r with
      | done st sub more pay =>
        have f := keep_finish s1 m st sub more pay
        exact ⟨f.1.trans k.1, f.2.trans k.2⟩
      | wait w2 => exact ⟨rfl, rfl⟩

@[simp ↓] theorem keep_reject (s : State) (m : Nat) (h : Mbx) (st : Nat) :
    (reject s m h st).pending = s.pending ∧ (reject s m h st).otp = s.otp := by
  unfold reject
  constructor <;> (repeat' split) <;> (try simp) <;> (try intros) <;> (repeat' split) <;> (try simp) <;> (try intros) <;> (repeat' split) <;> (try simp_all)

@[simp ↓] theorem keep_keepReq (s : State) (m : Nat) (h : Mbx) :
    (keepReq s m h).pending = s.pending ∧ (keepReq s m h).otp = s.otp := by
  unfold keepReq
  constructor <;> (repeat' split) <;> (try simp) <;> (try intros) <;> (repeat' split) <;> (try simp) <;> (try intros) <;> (repeat' split) <;> (try simp_all)

@[simp ↓] theorem keep_settleOne (s : State) (e : Nat × Wait) :
    (settleOne s e).pending = s.pending ∧ (settleOne s e).otp = s.otp := by
  unfold settleOne
  cases h : waitNow s e.2 with
  | none => exact ⟨rfl, rfl⟩
  | some q =>
    have k := keep_waitNow s e.2 q h
    obtain ⟨s1, r⟩ := q
    cases r with
    | done st sub more pay =>
      have f := keep_finish (setSvc s1 { s1.svc with waits := s1.svc.waits.filter (fun x => x != e) }) e.1 st sub more pay
      exact ⟨f.1.trans k.1, f.2.trans k.2⟩
    | wait w2 => exact ⟨rfl, rfl⟩

end Machine
end Sys2Proof
end

