-- ==== Sys2Proof/Laws/KeepEnv.lean ====
section
/-!
SUPPORT. What the operations of Machine/Env.lean leave alone: the queue of waiting commands and the fuses.
-/

namespace Sys2Proof
namespace Machine

@[simp ↓] theorem keep_setEnv (s : State) (e : EnvSt) :
    (setEnv s e).pending = s.pending ∧ (setEnv s e).otp = s.otp := by
  unfold setEnv
  constructor <;> (repeat' split) <;> (try simp) <;> (try intros) <;> (repeat' split) <;> (try simp) <;> (try intros) <;> (repeat' split) <;> (try simp_all)

@[simp ↓] theorem keep_avsRequest (s : State) (mv : Nat) :
    (avsRequest s mv).pending = s.pending ∧ (avsRequest s mv).otp = s.otp := by
  unfold avsRequest
  constructor <;> (repeat' split) <;> (try simp) <;> (try intros) <;> (repeat' split) <;> (try simp) <;> (try intros) <;> (repeat' split) <;> (try simp_all)

@[simp ↓] theorem keep_avsLost (s : State) :
    (avsLost s).pending = s.pending ∧ (avsLost s).otp = s.otp := by
  unfold avsLost
  constructor <;> (repeat' split) <;> (try simp) <;> (try intros) <;> (repeat' split) <;> (try simp) <;> (try intros) <;> (repeat' split) <;> (try simp_all)

@[simp ↓] theorem keep_underVolt (s : State) (mv : Nat) :
    (underVolt s mv).pending = s.pending ∧ (underVolt s mv).otp = s.otp := by
  unfold underVolt
  constructor <;> (repeat' split) <;> (try simp) <;> (try intros) <;> (repeat' split) <;> (try simp) <;> (try intros) <;> (repeat' split) <;> (try simp_all)

@[simp ↓] theorem keep_thermOne (t : Int) (s : State) (e : Nat × Bool × Int × Nat) :
    (thermOne t s e).pending = s.pending ∧ (thermOne t s e).otp = s.otp := by
  unfold thermOne
  constructor <;> (repeat' split) <;> (try simp) <;> (try intros) <;> (repeat' split) <;> (try simp) <;> (try intros) <;> (repeat' split) <;> (try simp_all)

@[simp ↓] theorem keep_thermCheck (s : State) :
    (thermCheck s).pending = s.pending ∧ (thermCheck s).otp = s.otp := by
  unfold thermCheck
  constructor <;> (repeat' split) <;> (try simp) <;> (try intros) <;> (repeat' split) <;> (try simp) <;> (try intros) <;> (repeat' split) <;> (try simp_all)

@[simp ↓] theorem keep_gTrain (s : State) (bad : List Nat) :
    (gTrain s bad).pending = s.pending ∧ (gTrain s bad).otp = s.otp := by
  unfold gTrain
  constructor <;> (repeat' split) <;> (try simp) <;> (try intros) <;> (repeat' split) <;> (try simp) <;> (try intros) <;> (repeat' split) <;> (try simp_all)

end Machine
end Sys2Proof
end

