-- ==== Sys2Proof/Laws/Kept.lean ====
section
/-!
SUPPORT. What a mailbox command leaves alone: the queue stays, and the fuses move one way.
-/

namespace Sys2Proof
namespace Machine

theorem FuseStep.refl (a : OtpSt) : FuseStep a a :=
  ⟨fun _ h => h, fun h => h, Nat.le_refl _, Nat.le_refl _, rfl, rfl, rfl, rfl, rfl, rfl, rfl⟩

theorem FuseStep.trans {a b c : OtpSt} (h : FuseStep a b) (k : FuseStep b c) : FuseStep a c :=
  ⟨fun i x => k.revoked i (h.revoked i x), fun x => k.left (h.left x), Nat.le_trans h.svn k.svn,
   Nat.le_trans h.fwSvn k.fwSvn, k.digest.trans h.digest, k.key.trans h.key, k.encReq.trans h.encReq,
   k.compatForbid.trans h.compatForbid, k.testKey.trans h.testKey, k.testRevoked.trans h.testRevoked, k.authority.trans h.authority⟩

/-- A step that leaves the queue and the fuses alone keeps them. -/
theorem Kept.of_keep {s t : State} (h : t.pending = s.pending ∧ t.otp = s.otp) : Kept s t :=
  ⟨h.1, h.2 ▸ FuseStep.refl _⟩

theorem Kept.refl (s : State) : Kept s s := ⟨rfl, FuseStep.refl _⟩

theorem Kept.trans {s t u : State} (h : Kept s t) (k : Kept t u) : Kept s u :=
  ⟨k.pending.trans h.pending, h.fuses.trans k.fuses⟩

theorem Kept.ite {s : State} (c : Prop) [Decidable c] {a b : State} (ha : Kept s a) (hb : Kept s b) :
    Kept s (if c then a else b) := by
  by_cases h : c
  · rw [if_pos h]
    exact ha
  · rw [if_neg h]
    exact hb

theorem Kept.ite_fst {β : Type} {s : State} (c : Prop) [Decidable c] {a b : State × β} (ha : Kept s a.1)
    (hb : Kept s b.1) : Kept s (if c then a else b).1 := by
  by_cases h : c
  · rw [if_pos h]
    exact ha
  · rw [if_neg h]
    exact hb

theorem Kept.foldl {α : Type} (f : State → α → State) (l : List α) (s : State) (h : ∀ s a, Kept s (f s a)) :
    Kept s (l.foldl f s) := by
  induction l generalizing s with
  | nil => exact Kept.refl s
  | cons a l ih => exact (h s a).trans (ih _)

/-- A command that answers a next state answers the state its effect gives. -/
theorem Kept.of_run {ok : Bool} {s t u : State} (k : Kept s u) (h : run ok u = .next t) : Kept s t := by
  unfold run at h
  split at h
  · cases h
    exact k
  · cases h

/-- An answer given to the bus leaves the queue and the fuses alone. -/
theorem Kept.answer {s : State} {q : State × Nat} (k : Kept s q.1) : Kept s (answer q) := ⟨k.pending, k.fuses⟩

/-! ### The three commands that blow fuses -/

/-- KEY_REVOKE blows one revoke fuse, never the last slot's (R293). -/
theorem kept_cKeyRevoke (s : State) (slot auth : Nat) (pk sig : List Byte) : Kept s (cKeyRevoke s slot auth pk sig).1 := by
  unfold cKeyRevoke
  refine Kept.ite_fst _ (Kept.refl s) ?_
  by_cases h : (auth = slot || s.otp.revoked.testBit auth || (s.otp.revoked ||| 2 ^ slot) % 16 = 15) = true
  · rw [if_pos h]
    exact Kept.refl s
  · rw [if_neg h]
    refine Kept.ite_fst _ (Kept.refl s) ?_
    refine ⟨rfl, ?_⟩
    simp only [Bool.or_eq_true, decide_eq_true_eq, not_or] at h
    refine ⟨fun i hi => ?_, fun _ => ?_, Nat.le_refl _, Nat.le_refl _, rfl, rfl, rfl, rfl, rfl, rfl, rfl⟩
    · simp [Nat.testBit_or, hi]
    · simp [keyLeft, h.2]

/-- SVN_RAISE raises one minimum. -/
theorem kept_cSvnRaise (s : State) (which svn auth : Nat) (pk sig : List Byte) :
    Kept s (cSvnRaise s which svn auth pk sig).1 := by
  unfold cSvnRaise
  by_cases h : 1 < which ∨ 4 ≤ auth ∨ svn < (if which = 0 then s.otp.svn else s.otp.fwSvn)
  · simp only [h, if_true]
    exact Kept.refl s
  · simp only [h, if_false]
    refine Kept.ite_fst _ (Kept.refl s) ?_
    by_cases w : which = 0
    · simp only [w, if_true] at h ⊢
      exact ⟨rfl, ⟨fun _ h => h, fun h => h, by dsimp only; omega, Nat.le_refl _, rfl, rfl, rfl, rfl, rfl, rfl, rfl⟩⟩
    · simp only [w, if_false] at h ⊢
      exact ⟨rfl, ⟨fun _ h => h, fun h => h, Nat.le_refl _, by dsimp only; omega, rfl, rfl, rfl, rfl, rfl, rfl, rfl⟩⟩

/-- FW COMMIT raises the firmware minimum at most. -/
theorem kept_cFwCommit (s : State) (up : Nat) : Kept s (cFwCommit s up).1 := by
  unfold cFwCommit
  refine Kept.ite_fst _ (Kept.refl s) (Kept.ite_fst _ (Kept.refl s) (Kept.ite_fst _ (Kept.refl s) ?_))
  by_cases h : up = 1
  · simp only [h, if_true]
    exact ⟨by simp, by
      simp only [keep_fwEvent]
      exact ⟨fun _ h => h, fun h => h, Nat.le_refl _, by dsimp only; omega, rfl, rfl, rfl, rfl, rfl, rfl, rfl⟩⟩
  · simp only [h, if_false]
    exact Kept.of_keep ⟨by simp, by simp⟩

/-! ### The mailbox from a command to its answer -/

theorem kept_kSys (c : Nat) (a : List Nat) (s : State) : Kept s (kSys c a s).1 := by
  unfold kSys
  refine Kept.ite_fst _ (Kept.of_keep (keep_cIdentify ..)) ?_
  refine Kept.ite_fst _ (Kept.of_keep (keep_cSysStatus ..)) ?_
  refine Kept.ite_fst _ (Kept.of_keep (keep_cAttest ..)) ?_
  refine Kept.ite_fst _ (Kept.of_keep (keep_cSysReset ..)) ?_
  refine Kept.ite_fst _ (Kept.of_keep (keep_cSensors ..)) ?_
  exact Kept.ite_fst _ (kept_cKeyRevoke ..) (kept_cSvnRaise ..)

theorem kept_kFw (c : Nat) (a : List Nat) (ext : List Byte) (s : State) : Kept s (kFw c a ext s).1 := by
  unfold kFw
  refine Kept.ite_fst _ (Kept.of_keep (keep_cFwStatus ..)) ?_
  refine Kept.ite_fst _ (Kept.of_keep (keep_cFwBegin ..)) ?_
  refine Kept.ite_fst _ (Kept.of_keep (keep_cFwData ..)) ?_
  refine Kept.ite_fst _ (Kept.of_keep (keep_cFwWrite ..)) ?_
  refine Kept.ite_fst _ (Kept.of_keep (keep_cFwCopy ..)) ?_
  refine Kept.ite_fst _ (Kept.of_keep (keep_cFwVerify ..)) ?_
  refine Kept.ite_fst _ (Kept.of_keep (keep_cFwActivate ..)) ?_
  refine Kept.ite_fst _ (kept_cFwCommit ..) ?_
  refine Kept.ite_fst _ (Kept.of_keep (keep_cFwRollback ..)) ?_
  refine Kept.ite_fst _ (Kept.of_keep (keep_cPushBegin ..)) ?_
  exact Kept.ite_fst _ (Kept.of_keep (keep_cPushData ..)) (Kept.of_keep (keep_cPushEnd ..))

theorem kept_kCmd (g c : Nat) (a : List Nat) (ext : List Byte) (s : State) : Kept s (kCmd g c a ext s).1 := by
  unfold kCmd
  refine Kept.ite_fst _ (kept_kSys ..) ?_
  refine Kept.ite_fst _ (Kept.of_keep (keep_kCab ..)) ?_
  refine Kept.ite_fst _ (Kept.of_keep (keep_kTickNet ..)) ?_
  refine Kept.ite_fst _ (Kept.of_keep (keep_kPort ..)) ?_
  refine Kept.ite_fst _ (Kept.of_keep (keep_kFlowMem ..)) ?_
  refine Kept.ite_fst _ (Kept.of_keep (keep_kSchFlt ..)) ?_
  exact Kept.ite_fst _ (kept_kFw ..) (Kept.of_keep (keep_kRest ..))

theorem kept_kRun (s : State) (m g c : Nat) (a : List Nat) (ext : List Byte) : Kept s (kRun s m g c a ext) := by
  unfold kRun
  refine Kept.ite _ (Kept.of_keep (keep_finish ..)) (Kept.ite _ (Kept.of_keep ⟨rfl, rfl⟩) ?_)
  exact (kept_kCmd g c a ext s).trans (Kept.of_keep (keep_conclude ..))

theorem kept_kStart (s : State) (m : Nat) (h : Mbx) (p ext : List Byte) : Kept s (kStart s m h p ext) := by
  have k : Kept s (keepReq s m h) := Kept.of_keep (keep_keepReq ..)
  unfold kStart
  cases gate s m h.grp h.code with
  | some st => exact Kept.of_keep (keep_reject ..)
  | none =>
    dsimp only
    cases widths h.grp h.code p with
    | none => exact k.trans (Kept.of_keep (keep_finish ..))
    | some ws =>
      dsimp only
      cases splitFields ws p with
      | none => exact k.trans (Kept.of_keep (keep_finish ..))
      | some a => exact k.trans (kept_kRun ..)

theorem kept_finc (s : State) (f : Fld) (i : Nat) : Kept s (finc s f i) := Kept.of_keep (keep_finc ..)

theorem kept_kHandle (s : State) (m : Nat) (h : Mbx) (len chk : Nat) (ext : List Byte) :
    Kept s (kHandle s m h len chk ext) := by
  unfold kHandle
  refine Kept.ite _ (Kept.of_keep (keep_reject ..)) (Kept.ite _ ?_ (Kept.ite _ (kept_kStart ..) (Kept.ite _ ?_ ?_)))
  · exact (kept_finc ..).trans (Kept.of_keep (keep_reject ..))
  · exact (kept_finc ..).trans (Kept.of_keep (keep_sendRsp ..))
  · exact (kept_finc ..).trans (Kept.of_keep (keep_reject ..))

theorem kept_retry (l : List HeldReq) (s : State) : Kept s (retry l s) := by
  induction l generalizing s with
  | nil => exact Kept.refl s
  | cons h r ih => exact (kept_kRun ..).trans (ih _)

theorem kept_settle (s : State) : Kept s (settle s) := by
  unfold settle
  have k : Kept s (s.svc.waits.foldl settleOne s) := Kept.foldl _ _ s (fun z e => Kept.of_keep (keep_settleOne z e))
  generalize s.svc.waits.foldl settleOne s = z at k ⊢
  exact (k.trans (Kept.of_keep (keep_setSvc z _))).trans (kept_retry _ _)

theorem kept_mbxTake (s : State) (ext : List Byte) : Kept s (mbxTake s ext) := by
  unfold mbxTake
  have k := kept_settle s
  refine Kept.ite _ k ?_
  cases (settle s).svc.order.find? (fun m => !(fget (settle s) MBX_BUSY_BUSY 0).testBit m) with
  | none => exact k
  | some m =>
    refine k.trans ?_
    dsimp only
    refine Kept.trans (Kept.of_keep ?_) (kept_kHandle ..)
    simp

/-- A mailbox command from its take to its answer. -/
theorem kept_mbxCmd (s : State) (m g c : Nat) (a : List Nat) (ext : List Byte) : Kept s (mbxCmd s m g c a ext) := by
  unfold mbxCmd
  refine Kept.ite _ (Kept.refl s) ?_
  dsimp only
  have k : Kept s (fset (clearBits s MBX_RSP_RDY_RDY 0 (2 ^ m)) MBX_BUSY_BUSY 0 (fget s MBX_BUSY_BUSY 0 ||| 2 ^ m)) :=
    Kept.of_keep (by simp)
  refine k.trans ?_
  generalize fset (clearBits s MBX_RSP_RDY_RDY 0 (2 ^ m)) MBX_BUSY_BUSY 0 (fget s MBX_BUSY_BUSY 0 ||| 2 ^ m) = z
  cases gate z m g c with
  | some st => exact Kept.of_keep (keep_reject ..)
  | none => exact Kept.trans (Kept.of_keep (keep_setMbx _ _ _)) (kept_kRun ..)

end Machine
end Sys2Proof
end

