-- ==== Sys2Proof/Laws/Store.lean ====
section
/-!
SUPPORT. The laws of sparse stores and register fields: a read after a write, other keys untouched, and the
canonical form kept.
-/

namespace Sys2Proof
namespace Machine

variable {β : Type}

theorem smGet_nil (d : β) (k : Nat) : smGet d [] k = d := rfl

theorem smGet_cons (d : β) (e : Nat × β) (m : SMap β) (k : Nat) :
    smGet d (e :: m) k = if e.1 = k then e.2 else smGet d m k := rfl

theorem smGet_smPut_same (d : β) (k : Nat) (v : β) (m : SMap β) : smGet d (smPut k v m) k = v := by
  induction m with
  | nil => simp [smPut, smGet]
  | cons e r ih =>
    unfold smPut
    split
    · simp [smGet]
    · split
      · simp [smGet]
      · rename_i h
        simp [smGet, h, ih]

theorem smGet_smPut_other (d : β) (k j : Nat) (v : β) (m : SMap β) (h : j ≠ k) :
    smGet d (smPut k v m) j = smGet d m j := by
  induction m with
  | nil => simp [smPut, smGet, Ne.symm h]
  | cons e r ih =>
    unfold smPut
    split
    · simp [smGet, Ne.symm h]
    · split
      · rename_i hk
        simp [smGet, Ne.symm h, hk]
      · simp [smGet, ih]

theorem smGet_smErase_same (d : β) (k : Nat) (m : SMap β) : smGet d (smErase k m) k = d := by
  induction m with
  | nil => rfl
  | cons e r ih =>
    unfold smErase at ih ⊢
    by_cases h : e.1 = k
    · simpa [List.filter_cons, h] using ih
    · simpa [List.filter_cons, h, smGet] using ih

theorem smGet_smErase_other (d : β) (k j : Nat) (m : SMap β) (h : j ≠ k) :
    smGet d (smErase k m) j = smGet d m j := by
  induction m with
  | nil => rfl
  | cons e r ih =>
    unfold smErase at ih ⊢
    by_cases hk : e.1 = k
    · have : ¬e.1 = j := fun x => h (x.symm.trans hk)
      simpa [List.filter_cons, hk, smGet, Ne.symm h] using ih
    · simp [List.filter_cons, hk, smGet, ih]

/-- A read of the key written gives the value written. -/
@[simp] theorem smGet_smSet_same [DecidableEq β] (d : β) (k : Nat) (v : β) (m : SMap β) :
    smGet d (smSet d k v m) k = v := by
  unfold smSet
  split
  · rename_i h
    rw [smGet_smErase_same, h]
  · exact smGet_smPut_same d k v m

/-- A write leaves every other key alone. -/
theorem smGet_smSet_other [DecidableEq β] (d : β) (k j : Nat) (v : β) (m : SMap β) (h : j ≠ k) :
    smGet d (smSet d k v m) j = smGet d m j := by
  unfold smSet
  split
  · exact smGet_smErase_other d k j m h
  · exact smGet_smPut_other d k j v m h

/-! ### The canonical form -/

theorem smWf_nil [DecidableEq β] (d : β) : smWf d ([] : SMap β) :=
  ⟨.nil, fun _ h => nomatch h⟩

theorem smWf_filter [DecidableEq β] (d : β) (p : Nat × β → Bool) (m : SMap β) (h : smWf d m) : smWf d (m.filter p) :=
  ⟨h.1.filter p, fun e he => h.2 e (List.mem_filter.1 he).1⟩

theorem smErase_wf [DecidableEq β] (d : β) (k : Nat) (m : SMap β) (h : smWf d m) : smWf d (smErase k m) :=
  smWf_filter d _ m h

theorem smClear_wf [DecidableEq β] (d : β) (a b : Nat) (m : SMap β) (h : smWf d m) : smWf d (smClear a b m) :=
  smWf_filter d _ m h

theorem smPut_keys (k : Nat) (v : β) (m : SMap β) : ∀ e ∈ smPut k v m, e = (k, v) ∨ e ∈ m := by
  induction m with
  | nil =>
    intro e h
    simp [smPut] at h
    exact .inl h
  | cons a r ih =>
    intro e h
    unfold smPut at h
    split at h
    · simp only [List.mem_cons] at h ⊢
      exact h
    · split at h
      · simp only [List.mem_cons] at h ⊢
        exact h.imp id .inr
      · simp only [List.mem_cons] at h ⊢
        rcases h with h | h
        · exact .inr (.inl h)
        · exact (ih e h).imp id .inr

theorem smPut_wf [DecidableEq β] (d : β) (k : Nat) (v : β) (m : SMap β) (hv : v ≠ d) (h : smWf d m) :
    smWf d (smPut k v m) := by
  refine ⟨?_, fun e he => (smPut_keys k v m e he).elim (fun x => x ▸ hv) (h.2 e)⟩
  replace h := h.1
  induction m with
  | nil => simp [smPut]
  | cons a r ih =>
    rw [List.pairwise_cons] at h
    unfold smPut
    split
    · rename_i hk
      refine List.pairwise_cons.2 ⟨fun e he => ?_, List.pairwise_cons.2 h⟩
      simp only [List.mem_cons] at he
      rcases he with rfl | he
      · exact hk
      · exact Nat.lt_trans hk (h.1 e he)
    · split
      · rename_i hk
        exact List.pairwise_cons.2 ⟨fun e he => hk ▸ h.1 e he, h.2⟩
      · refine List.pairwise_cons.2 ⟨fun e he => ?_, ih h.2⟩
        rcases smPut_keys k v r e he with rfl | he
        · dsimp only
          omega
        · exact h.1 e he

/-- A write keeps the canonical form. -/
theorem smSet_wf [DecidableEq β] (d : β) (k : Nat) (v : β) (m : SMap β) (h : smWf d m) : smWf d (smSet d k v m) := by
  unfold smSet
  split
  · exact smErase_wf d k m h
  · rename_i hv
    exact smPut_wf d k v m hv h

/-- Mapping the listed values keeps the canonical form. -/
theorem smMap_wf [DecidableEq β] (d : β) (f : Nat → β → β) (m : SMap β) (h : smWf d m) : smWf d (smMap d f m) := by
  refine ⟨List.Pairwise.filter _ ?_, fun e he => ?_⟩
  · rw [List.pairwise_map]
    exact h.1
  · simpa using (List.mem_filter.1 he).2

theorem smMapRange_wf [DecidableEq β] (d : β) (a b : Nat) (f : β → β) (m : SMap β) (h : smWf d m) :
    smWf d (smMapRange d a b f m) := smMap_wf d _ m h

/-! ### Register fields -/

/-- A field reads back what was written, cut to its width. -/
@[simp] theorem fget_fset_same (s : State) (f : Fld) (i v : Nat) : fget (fset s f i v) f i = v % 2 ^ f.width := by
  simp [fget, fset]

/-- A write of one field leaves every field with another key alone. -/
theorem fget_fset_other (s : State) (f g : Fld) (i j v : Nat) (h : fkey g j ≠ fkey f i) :
    fget (fset s f i v) g j = fget s g j := by
  unfold fget fset
  by_cases hd : f.resetAt i = g.resetAt j
  · dsimp only
    rw [hd]
    exact smGet_smSet_other _ _ _ _ _ h
  · dsimp only
    unfold smSet
    split
    · exact smGet_smErase_other _ _ _ _ h
    · exact smGet_smPut_other _ _ _ _ _ h

/-- Different fields have different keys. -/
theorem fkey_ne (f g : Fld) (i j : Nat) (h : f.id ≠ g.id) (hi : i < 1048576) (hj : j < 1048576) : fkey g j ≠ fkey f i := by
  unfold fkey
  omega

/-- Different instances of a field have different keys. -/
theorem fkey_ne_inst (f : Fld) (i j : Nat) (h : i ≠ j) : fkey f j ≠ fkey f i := by
  unfold fkey
  omega

/-- A command whose condition holds answers the state that its effect gives. -/
theorem run_true (t : State) : run true t = .next t := rfl

theorem run_eq {ok : Bool} {t u : State} (h : run ok t = .next u) : ok = true ∧ u = t := by
  unfold run at h
  split at h
  · rename_i k
    cases h
    exact ⟨k, rfl⟩
  · cases h

end Machine
end Sys2Proof
end

