-- ==== Sys2Proof/Laws/State.lean ====
section
/-!
SUPPORT. What each update of the state leaves alone, a lemma a field: later proofs unfold no record update.
-/

namespace Sys2Proof
namespace Machine

/-! ### fset -/

@[simp] theorem fset_pending (s : State) (f : Fld) (i v : Nat) : (fset s f i v).pending = s.pending := rfl
@[simp] theorem fset_time (s : State) (f : Fld) (i v : Nat) : (fset s f i v).time = s.time := rfl
@[simp] theorem fset_array (s : State) (f : Fld) (i v : Nat) : (fset s f i v).array = s.array := rfl
@[simp] theorem fset_fifo (s : State) (f : Fld) (i v : Nat) : (fset s f i v).fifo = s.fifo := rfl
@[simp] theorem fset_jpt (s : State) (f : Fld) (i v : Nat) : (fset s f i v).jpt = s.jpt := rfl
@[simp] theorem fset_noc (s : State) (f : Fld) (i v : Nat) : (fset s f i v).noc = s.noc := rfl
@[simp] theorem fset_pin (s : State) (f : Fld) (i v : Nat) : (fset s f i v).pin = s.pin := rfl
@[simp] theorem fset_bus (s : State) (f : Fld) (i v : Nat) : (fset s f i v).bus = s.bus := rfl
@[simp] theorem fset_flt (s : State) (f : Fld) (i v : Nat) : (fset s f i v).flt = s.flt := rfl
@[simp] theorem fset_evt (s : State) (f : Fld) (i v : Nat) : (fset s f i v).evt = s.evt := rfl
@[simp] theorem fset_ctl (s : State) (f : Fld) (i v : Nat) : (fset s f i v).ctl = s.ctl := rfl
@[simp] theorem fset_bur (s : State) (f : Fld) (i v : Nat) : (fset s f i v).bur = s.bur := rfl
@[simp] theorem fset_cpt (s : State) (f : Fld) (i v : Nat) : (fset s f i v).cpt = s.cpt := rfl
@[simp] theorem fset_lex (s : State) (f : Fld) (i v : Nat) : (fset s f i v).lex = s.lex := rfl
@[simp] theorem fset_qm (s : State) (f : Fld) (i v : Nat) : (fset s f i v).qm = s.qm := rfl
@[simp] theorem fset_gdr (s : State) (f : Fld) (i v : Nat) : (fset s f i v).gdr = s.gdr := rfl
@[simp] theorem fset_dma (s : State) (f : Fld) (i v : Nat) : (fset s f i v).dma = s.dma := rfl
@[simp] theorem fset_flash (s : State) (f : Fld) (i v : Nat) : (fset s f i v).flash = s.flash := rfl
@[simp] theorem fset_spn (s : State) (f : Fld) (i v : Nat) : (fset s f i v).spn = s.spn := rfl
@[simp] theorem fset_cfg (s : State) (f : Fld) (i v : Nat) : (fset s f i v).cfg = s.cfg := rfl
@[simp] theorem fset_otp (s : State) (f : Fld) (i v : Nat) : (fset s f i v).otp = s.otp := rfl
@[simp] theorem fset_boot (s : State) (f : Fld) (i v : Nat) : (fset s f i v).boot = s.boot := rfl
@[simp] theorem fset_fw (s : State) (f : Fld) (i v : Nat) : (fset s f i v).fw = s.fw := rfl
@[simp] theorem fset_scr (s : State) (f : Fld) (i v : Nat) : (fset s f i v).scr = s.scr := rfl
@[simp] theorem fset_bst (s : State) (f : Fld) (i v : Nat) : (fset s f i v).bst = s.bst := rfl
@[simp] theorem fset_svc (s : State) (f : Fld) (i v : Nat) : (fset s f i v).svc = s.svc := rfl
@[simp] theorem fset_env (s : State) (f : Fld) (i v : Nat) : (fset s f i v).env = s.env := rfl
@[simp] theorem fset_free (s : State) (f : Fld) (i v : Nat) : (fset s f i v).free = s.free := rfl

/-! ### setCab -/

@[simp] theorem setCab_pending (s : State) (p : Nat) (c : Cab) : (setCab s p c).pending = s.pending := rfl
@[simp] theorem setCab_regs (s : State) (p : Nat) (c : Cab) : (setCab s p c).regs = s.regs := rfl
@[simp] theorem setCab_time (s : State) (p : Nat) (c : Cab) : (setCab s p c).time = s.time := rfl
@[simp] theorem setCab_fifo (s : State) (p : Nat) (c : Cab) : (setCab s p c).fifo = s.fifo := rfl
@[simp] theorem setCab_jpt (s : State) (p : Nat) (c : Cab) : (setCab s p c).jpt = s.jpt := rfl
@[simp] theorem setCab_noc (s : State) (p : Nat) (c : Cab) : (setCab s p c).noc = s.noc := rfl
@[simp] theorem setCab_pin (s : State) (p : Nat) (c : Cab) : (setCab s p c).pin = s.pin := rfl
@[simp] theorem setCab_bus (s : State) (p : Nat) (c : Cab) : (setCab s p c).bus = s.bus := rfl
@[simp] theorem setCab_flt (s : State) (p : Nat) (c : Cab) : (setCab s p c).flt = s.flt := rfl
@[simp] theorem setCab_evt (s : State) (p : Nat) (c : Cab) : (setCab s p c).evt = s.evt := rfl
@[simp] theorem setCab_ctl (s : State) (p : Nat) (c : Cab) : (setCab s p c).ctl = s.ctl := rfl
@[simp] theorem setCab_bur (s : State) (p : Nat) (c : Cab) : (setCab s p c).bur = s.bur := rfl
@[simp] theorem setCab_cpt (s : State) (p : Nat) (c : Cab) : (setCab s p c).cpt = s.cpt := rfl
@[simp] theorem setCab_lex (s : State) (p : Nat) (c : Cab) : (setCab s p c).lex = s.lex := rfl
@[simp] theorem setCab_qm (s : State) (p : Nat) (c : Cab) : (setCab s p c).qm = s.qm := rfl
@[simp] theorem setCab_gdr (s : State) (p : Nat) (c : Cab) : (setCab s p c).gdr = s.gdr := rfl
@[simp] theorem setCab_dma (s : State) (p : Nat) (c : Cab) : (setCab s p c).dma = s.dma := rfl
@[simp] theorem setCab_flash (s : State) (p : Nat) (c : Cab) : (setCab s p c).flash = s.flash := rfl
@[simp] theorem setCab_spn (s : State) (p : Nat) (c : Cab) : (setCab s p c).spn = s.spn := rfl
@[simp] theorem setCab_cfg (s : State) (p : Nat) (c : Cab) : (setCab s p c).cfg = s.cfg := rfl
@[simp] theorem setCab_otp (s : State) (p : Nat) (c : Cab) : (setCab s p c).otp = s.otp := rfl
@[simp] theorem setCab_boot (s : State) (p : Nat) (c : Cab) : (setCab s p c).boot = s.boot := rfl
@[simp] theorem setCab_fw (s : State) (p : Nat) (c : Cab) : (setCab s p c).fw = s.fw := rfl
@[simp] theorem setCab_scr (s : State) (p : Nat) (c : Cab) : (setCab s p c).scr = s.scr := rfl
@[simp] theorem setCab_bst (s : State) (p : Nat) (c : Cab) : (setCab s p c).bst = s.bst := rfl
@[simp] theorem setCab_svc (s : State) (p : Nat) (c : Cab) : (setCab s p c).svc = s.svc := rfl
@[simp] theorem setCab_env (s : State) (p : Nat) (c : Cab) : (setCab s p c).env = s.env := rfl
@[simp] theorem setCab_free (s : State) (p : Nat) (c : Cab) : (setCab s p c).free = s.free := rfl

/-! ### setCell -/

@[simp] theorem setCell_pending (s : State) (k : Nat) (c : Cell) : (setCell s k c).pending = s.pending := rfl
@[simp] theorem setCell_regs (s : State) (k : Nat) (c : Cell) : (setCell s k c).regs = s.regs := rfl
@[simp] theorem setCell_time (s : State) (k : Nat) (c : Cell) : (setCell s k c).time = s.time := rfl
@[simp] theorem setCell_fifo (s : State) (k : Nat) (c : Cell) : (setCell s k c).fifo = s.fifo := rfl
@[simp] theorem setCell_jpt (s : State) (k : Nat) (c : Cell) : (setCell s k c).jpt = s.jpt := rfl
@[simp] theorem setCell_noc (s : State) (k : Nat) (c : Cell) : (setCell s k c).noc = s.noc := rfl
@[simp] theorem setCell_pin (s : State) (k : Nat) (c : Cell) : (setCell s k c).pin = s.pin := rfl
@[simp] theorem setCell_bus (s : State) (k : Nat) (c : Cell) : (setCell s k c).bus = s.bus := rfl
@[simp] theorem setCell_flt (s : State) (k : Nat) (c : Cell) : (setCell s k c).flt = s.flt := rfl
@[simp] theorem setCell_evt (s : State) (k : Nat) (c : Cell) : (setCell s k c).evt = s.evt := rfl
@[simp] theorem setCell_ctl (s : State) (k : Nat) (c : Cell) : (setCell s k c).ctl = s.ctl := rfl
@[simp] theorem setCell_bur (s : State) (k : Nat) (c : Cell) : (setCell s k c).bur = s.bur := rfl
@[simp] theorem setCell_cpt (s : State) (k : Nat) (c : Cell) : (setCell s k c).cpt = s.cpt := rfl
@[simp] theorem setCell_lex (s : State) (k : Nat) (c : Cell) : (setCell s k c).lex = s.lex := rfl
@[simp] theorem setCell_qm (s : State) (k : Nat) (c : Cell) : (setCell s k c).qm = s.qm := rfl
@[simp] theorem setCell_gdr (s : State) (k : Nat) (c : Cell) : (setCell s k c).gdr = s.gdr := rfl
@[simp] theorem setCell_dma (s : State) (k : Nat) (c : Cell) : (setCell s k c).dma = s.dma := rfl
@[simp] theorem setCell_flash (s : State) (k : Nat) (c : Cell) : (setCell s k c).flash = s.flash := rfl
@[simp] theorem setCell_spn (s : State) (k : Nat) (c : Cell) : (setCell s k c).spn = s.spn := rfl
@[simp] theorem setCell_cfg (s : State) (k : Nat) (c : Cell) : (setCell s k c).cfg = s.cfg := rfl
@[simp] theorem setCell_otp (s : State) (k : Nat) (c : Cell) : (setCell s k c).otp = s.otp := rfl
@[simp] theorem setCell_boot (s : State) (k : Nat) (c : Cell) : (setCell s k c).boot = s.boot := rfl
@[simp] theorem setCell_fw (s : State) (k : Nat) (c : Cell) : (setCell s k c).fw = s.fw := rfl
@[simp] theorem setCell_scr (s : State) (k : Nat) (c : Cell) : (setCell s k c).scr = s.scr := rfl
@[simp] theorem setCell_bst (s : State) (k : Nat) (c : Cell) : (setCell s k c).bst = s.bst := rfl
@[simp] theorem setCell_svc (s : State) (k : Nat) (c : Cell) : (setCell s k c).svc = s.svc := rfl
@[simp] theorem setCell_env (s : State) (k : Nat) (c : Cell) : (setCell s k c).env = s.env := rfl
@[simp] theorem setCell_free (s : State) (k : Nat) (c : Cell) : (setCell s k c).free = s.free := rfl

/-! ### mapCells -/

@[simp] theorem mapCells_pending (s : State) (p : Nat) (g : Cell → Cell) : (mapCells s p g).pending = s.pending := rfl
@[simp] theorem mapCells_regs (s : State) (p : Nat) (g : Cell → Cell) : (mapCells s p g).regs = s.regs := rfl
@[simp] theorem mapCells_time (s : State) (p : Nat) (g : Cell → Cell) : (mapCells s p g).time = s.time := rfl
@[simp] theorem mapCells_fifo (s : State) (p : Nat) (g : Cell → Cell) : (mapCells s p g).fifo = s.fifo := rfl
@[simp] theorem mapCells_jpt (s : State) (p : Nat) (g : Cell → Cell) : (mapCells s p g).jpt = s.jpt := rfl
@[simp] theorem mapCells_noc (s : State) (p : Nat) (g : Cell → Cell) : (mapCells s p g).noc = s.noc := rfl
@[simp] theorem mapCells_pin (s : State) (p : Nat) (g : Cell → Cell) : (mapCells s p g).pin = s.pin := rfl
@[simp] theorem mapCells_bus (s : State) (p : Nat) (g : Cell → Cell) : (mapCells s p g).bus = s.bus := rfl
@[simp] theorem mapCells_flt (s : State) (p : Nat) (g : Cell → Cell) : (mapCells s p g).flt = s.flt := rfl
@[simp] theorem mapCells_evt (s : State) (p : Nat) (g : Cell → Cell) : (mapCells s p g).evt = s.evt := rfl
@[simp] theorem mapCells_ctl (s : State) (p : Nat) (g : Cell → Cell) : (mapCells s p g).ctl = s.ctl := rfl
@[simp] theorem mapCells_bur (s : State) (p : Nat) (g : Cell → Cell) : (mapCells s p g).bur = s.bur := rfl
@[simp] theorem mapCells_cpt (s : State) (p : Nat) (g : Cell → Cell) : (mapCells s p g).cpt = s.cpt := rfl
@[simp] theorem mapCells_lex (s : State) (p : Nat) (g : Cell → Cell) : (mapCells s p g).lex = s.lex := rfl
@[simp] theorem mapCells_qm (s : State) (p : Nat) (g : Cell → Cell) : (mapCells s p g).qm = s.qm := rfl
@[simp] theorem mapCells_gdr (s : State) (p : Nat) (g : Cell → Cell) : (mapCells s p g).gdr = s.gdr := rfl
@[simp] theorem mapCells_dma (s : State) (p : Nat) (g : Cell → Cell) : (mapCells s p g).dma = s.dma := rfl
@[simp] theorem mapCells_flash (s : State) (p : Nat) (g : Cell → Cell) : (mapCells s p g).flash = s.flash := rfl
@[simp] theorem mapCells_spn (s : State) (p : Nat) (g : Cell → Cell) : (mapCells s p g).spn = s.spn := rfl
@[simp] theorem mapCells_cfg (s : State) (p : Nat) (g : Cell → Cell) : (mapCells s p g).cfg = s.cfg := rfl
@[simp] theorem mapCells_otp (s : State) (p : Nat) (g : Cell → Cell) : (mapCells s p g).otp = s.otp := rfl
@[simp] theorem mapCells_boot (s : State) (p : Nat) (g : Cell → Cell) : (mapCells s p g).boot = s.boot := rfl
@[simp] theorem mapCells_fw (s : State) (p : Nat) (g : Cell → Cell) : (mapCells s p g).fw = s.fw := rfl
@[simp] theorem mapCells_scr (s : State) (p : Nat) (g : Cell → Cell) : (mapCells s p g).scr = s.scr := rfl
@[simp] theorem mapCells_bst (s : State) (p : Nat) (g : Cell → Cell) : (mapCells s p g).bst = s.bst := rfl
@[simp] theorem mapCells_svc (s : State) (p : Nat) (g : Cell → Cell) : (mapCells s p g).svc = s.svc := rfl
@[simp] theorem mapCells_env (s : State) (p : Nat) (g : Cell → Cell) : (mapCells s p g).env = s.env := rfl
@[simp] theorem mapCells_free (s : State) (p : Nat) (g : Cell → Cell) : (mapCells s p g).free = s.free := rfl

/-! ### setFifo -/

@[simp] theorem setFifo_pending (s : State) (k : Nat) (x : Fifo) : (setFifo s k x).pending = s.pending := rfl
@[simp] theorem setFifo_regs (s : State) (k : Nat) (x : Fifo) : (setFifo s k x).regs = s.regs := rfl
@[simp] theorem setFifo_time (s : State) (k : Nat) (x : Fifo) : (setFifo s k x).time = s.time := rfl
@[simp] theorem setFifo_array (s : State) (k : Nat) (x : Fifo) : (setFifo s k x).array = s.array := rfl
@[simp] theorem setFifo_jpt (s : State) (k : Nat) (x : Fifo) : (setFifo s k x).jpt = s.jpt := rfl
@[simp] theorem setFifo_noc (s : State) (k : Nat) (x : Fifo) : (setFifo s k x).noc = s.noc := rfl
@[simp] theorem setFifo_pin (s : State) (k : Nat) (x : Fifo) : (setFifo s k x).pin = s.pin := rfl
@[simp] theorem setFifo_bus (s : State) (k : Nat) (x : Fifo) : (setFifo s k x).bus = s.bus := rfl
@[simp] theorem setFifo_flt (s : State) (k : Nat) (x : Fifo) : (setFifo s k x).flt = s.flt := rfl
@[simp] theorem setFifo_evt (s : State) (k : Nat) (x : Fifo) : (setFifo s k x).evt = s.evt := rfl
@[simp] theorem setFifo_ctl (s : State) (k : Nat) (x : Fifo) : (setFifo s k x).ctl = s.ctl := rfl
@[simp] theorem setFifo_bur (s : State) (k : Nat) (x : Fifo) : (setFifo s k x).bur = s.bur := rfl
@[simp] theorem setFifo_cpt (s : State) (k : Nat) (x : Fifo) : (setFifo s k x).cpt = s.cpt := rfl
@[simp] theorem setFifo_lex (s : State) (k : Nat) (x : Fifo) : (setFifo s k x).lex = s.lex := rfl
@[simp] theorem setFifo_qm (s : State) (k : Nat) (x : Fifo) : (setFifo s k x).qm = s.qm := rfl
@[simp] theorem setFifo_gdr (s : State) (k : Nat) (x : Fifo) : (setFifo s k x).gdr = s.gdr := rfl
@[simp] theorem setFifo_dma (s : State) (k : Nat) (x : Fifo) : (setFifo s k x).dma = s.dma := rfl
@[simp] theorem setFifo_flash (s : State) (k : Nat) (x : Fifo) : (setFifo s k x).flash = s.flash := rfl
@[simp] theorem setFifo_spn (s : State) (k : Nat) (x : Fifo) : (setFifo s k x).spn = s.spn := rfl
@[simp] theorem setFifo_cfg (s : State) (k : Nat) (x : Fifo) : (setFifo s k x).cfg = s.cfg := rfl
@[simp] theorem setFifo_otp (s : State) (k : Nat) (x : Fifo) : (setFifo s k x).otp = s.otp := rfl
@[simp] theorem setFifo_boot (s : State) (k : Nat) (x : Fifo) : (setFifo s k x).boot = s.boot := rfl
@[simp] theorem setFifo_fw (s : State) (k : Nat) (x : Fifo) : (setFifo s k x).fw = s.fw := rfl
@[simp] theorem setFifo_scr (s : State) (k : Nat) (x : Fifo) : (setFifo s k x).scr = s.scr := rfl
@[simp] theorem setFifo_bst (s : State) (k : Nat) (x : Fifo) : (setFifo s k x).bst = s.bst := rfl
@[simp] theorem setFifo_svc (s : State) (k : Nat) (x : Fifo) : (setFifo s k x).svc = s.svc := rfl
@[simp] theorem setFifo_env (s : State) (k : Nat) (x : Fifo) : (setFifo s k x).env = s.env := rfl
@[simp] theorem setFifo_free (s : State) (k : Nat) (x : Fifo) : (setFifo s k x).free = s.free := rfl

/-! ### drawFree -/

@[simp] theorem drawFree_pending (s : State) : (drawFree s).pending = s.pending := rfl
@[simp] theorem drawFree_regs (s : State) : (drawFree s).regs = s.regs := rfl
@[simp] theorem drawFree_time (s : State) : (drawFree s).time = s.time := rfl
@[simp] theorem drawFree_array (s : State) : (drawFree s).array = s.array := rfl
@[simp] theorem drawFree_fifo (s : State) : (drawFree s).fifo = s.fifo := rfl
@[simp] theorem drawFree_jpt (s : State) : (drawFree s).jpt = s.jpt := rfl
@[simp] theorem drawFree_noc (s : State) : (drawFree s).noc = s.noc := rfl
@[simp] theorem drawFree_pin (s : State) : (drawFree s).pin = s.pin := rfl
@[simp] theorem drawFree_bus (s : State) : (drawFree s).bus = s.bus := rfl
@[simp] theorem drawFree_flt (s : State) : (drawFree s).flt = s.flt := rfl
@[simp] theorem drawFree_evt (s : State) : (drawFree s).evt = s.evt := rfl
@[simp] theorem drawFree_ctl (s : State) : (drawFree s).ctl = s.ctl := rfl
@[simp] theorem drawFree_bur (s : State) : (drawFree s).bur = s.bur := rfl
@[simp] theorem drawFree_cpt (s : State) : (drawFree s).cpt = s.cpt := rfl
@[simp] theorem drawFree_lex (s : State) : (drawFree s).lex = s.lex := rfl
@[simp] theorem drawFree_qm (s : State) : (drawFree s).qm = s.qm := rfl
@[simp] theorem drawFree_gdr (s : State) : (drawFree s).gdr = s.gdr := rfl
@[simp] theorem drawFree_dma (s : State) : (drawFree s).dma = s.dma := rfl
@[simp] theorem drawFree_flash (s : State) : (drawFree s).flash = s.flash := rfl
@[simp] theorem drawFree_spn (s : State) : (drawFree s).spn = s.spn := rfl
@[simp] theorem drawFree_cfg (s : State) : (drawFree s).cfg = s.cfg := rfl
@[simp] theorem drawFree_otp (s : State) : (drawFree s).otp = s.otp := rfl
@[simp] theorem drawFree_boot (s : State) : (drawFree s).boot = s.boot := rfl
@[simp] theorem drawFree_fw (s : State) : (drawFree s).fw = s.fw := rfl
@[simp] theorem drawFree_scr (s : State) : (drawFree s).scr = s.scr := rfl
@[simp] theorem drawFree_bst (s : State) : (drawFree s).bst = s.bst := rfl
@[simp] theorem drawFree_svc (s : State) : (drawFree s).svc = s.svc := rfl
@[simp] theorem drawFree_env (s : State) : (drawFree s).env = s.env := rfl

/-! ### raise -/

@[simp] theorem raise_pending (s : State) (e : FaultEvt) : (raise s e).pending = s.pending := rfl
@[simp] theorem raise_regs (s : State) (e : FaultEvt) : (raise s e).regs = s.regs := rfl
@[simp] theorem raise_time (s : State) (e : FaultEvt) : (raise s e).time = s.time := rfl
@[simp] theorem raise_array (s : State) (e : FaultEvt) : (raise s e).array = s.array := rfl
@[simp] theorem raise_fifo (s : State) (e : FaultEvt) : (raise s e).fifo = s.fifo := rfl
@[simp] theorem raise_jpt (s : State) (e : FaultEvt) : (raise s e).jpt = s.jpt := rfl
@[simp] theorem raise_noc (s : State) (e : FaultEvt) : (raise s e).noc = s.noc := rfl
@[simp] theorem raise_pin (s : State) (e : FaultEvt) : (raise s e).pin = s.pin := rfl
@[simp] theorem raise_bus (s : State) (e : FaultEvt) : (raise s e).bus = s.bus := rfl
@[simp] theorem raise_evt (s : State) (e : FaultEvt) : (raise s e).evt = s.evt := rfl
@[simp] theorem raise_ctl (s : State) (e : FaultEvt) : (raise s e).ctl = s.ctl := rfl
@[simp] theorem raise_bur (s : State) (e : FaultEvt) : (raise s e).bur = s.bur := rfl
@[simp] theorem raise_cpt (s : State) (e : FaultEvt) : (raise s e).cpt = s.cpt := rfl
@[simp] theorem raise_lex (s : State) (e : FaultEvt) : (raise s e).lex = s.lex := rfl
@[simp] theorem raise_qm (s : State) (e : FaultEvt) : (raise s e).qm = s.qm := rfl
@[simp] theorem raise_gdr (s : State) (e : FaultEvt) : (raise s e).gdr = s.gdr := rfl
@[simp] theorem raise_dma (s : State) (e : FaultEvt) : (raise s e).dma = s.dma := rfl
@[simp] theorem raise_flash (s : State) (e : FaultEvt) : (raise s e).flash = s.flash := rfl
@[simp] theorem raise_spn (s : State) (e : FaultEvt) : (raise s e).spn = s.spn := rfl
@[simp] theorem raise_cfg (s : State) (e : FaultEvt) : (raise s e).cfg = s.cfg := rfl
@[simp] theorem raise_otp (s : State) (e : FaultEvt) : (raise s e).otp = s.otp := rfl
@[simp] theorem raise_boot (s : State) (e : FaultEvt) : (raise s e).boot = s.boot := rfl
@[simp] theorem raise_fw (s : State) (e : FaultEvt) : (raise s e).fw = s.fw := rfl
@[simp] theorem raise_scr (s : State) (e : FaultEvt) : (raise s e).scr = s.scr := rfl
@[simp] theorem raise_bst (s : State) (e : FaultEvt) : (raise s e).bst = s.bst := rfl
@[simp] theorem raise_svc (s : State) (e : FaultEvt) : (raise s e).svc = s.svc := rfl
@[simp] theorem raise_env (s : State) (e : FaultEvt) : (raise s e).env = s.env := rfl
@[simp] theorem raise_free (s : State) (e : FaultEvt) : (raise s e).free = s.free := rfl

@[simp] theorem drawFree_free (s : State) : (drawFree s).free = s.free + 1 := rfl

/-! ### Register fields under the other updates -/

@[simp] theorem fget_setCab (s : State) (p : Nat) (c : Cab) (f : Fld) (i : Nat) : fget (setCab s p c) f i = fget s f i := rfl
@[simp] theorem fget_setCell (s : State) (k : Nat) (c : Cell) (f : Fld) (i : Nat) : fget (setCell s k c) f i = fget s f i := rfl
@[simp] theorem fget_mapCells (s : State) (p : Nat) (h : Cell → Cell) (f : Fld) (i : Nat) : fget (mapCells s p h) f i = fget s f i := rfl
@[simp] theorem fget_setFifo (s : State) (k : Nat) (x : Fifo) (f : Fld) (i : Nat) : fget (setFifo s k x) f i = fget s f i := rfl
@[simp] theorem fget_drawFree (s : State) (f : Fld) (i : Nat) : fget (drawFree s) f i = fget s f i := rfl
@[simp] theorem fget_raise (s : State) (e : FaultEvt) (f : Fld) (i : Nat) : fget (raise s e) f i = fget s f i := rfl
@[simp] theorem fget_msix (s : State) (v : Nat) (f : Fld) (i : Nat) : fget (msix s v) f i = fget s f i := rfl
@[simp] theorem fget_evtLine (s : State) (n : Nat) (f : Fld) (i : Nat) : fget (evtLine s n) f i = fget s f i := by
  unfold evtLine
  split <;> rfl
@[simp] theorem fget_setTime (s : State) (t : TimeSt) (f : Fld) (i : Nat) : fget (setTime s t) f i = fget s f i := rfl
@[simp] theorem fget_setSvc (s : State) (x : SvcSt) (f : Fld) (i : Nat) : fget (setSvc s x) f i = fget s f i := rfl
@[simp] theorem fget_setMbx (s : State) (m : Nat) (x : Mbx) (f : Fld) (i : Nat) : fget (setMbx s m x) f i = fget s f i := rfl
@[simp] theorem fget_setGdr (s : State) (g : GdrSt) (f : Fld) (i : Nat) : fget (setGdr s g) f i = fget s f i := rfl
@[simp] theorem fget_setEnv (s : State) (e : EnvSt) (f : Fld) (i : Nat) : fget (setEnv s e) f i = fget s f i := rfl
@[simp] theorem fget_setBoot (s : State) (b : BootSt) (f : Fld) (i : Nat) : fget (setBoot s b) f i = fget s f i := rfl
@[simp] theorem fget_setBur (s : State) (b : BurSt) (f : Fld) (i : Nat) : fget (setBur s b) f i = fget s f i := rfl
@[simp] theorem fget_setScr (s : State) (x : ScrSt) (f : Fld) (i : Nat) : fget (setScr s x) f i = fget s f i := rfl
@[simp] theorem fget_setStop (s : State) (n : Nat) (x : Stop) (f : Fld) (i : Nat) : fget (setStop s n x) f i = fget s f i := rfl
@[simp] theorem fget_setLane (s : State) (k : Nat) (l : Lane) (f : Fld) (i : Nat) : fget (setLane s k l) f i = fget s f i := rfl
@[simp] theorem fget_setSeqr (s : State) (k : Nat) (x : Seqr) (f : Fld) (i : Nat) : fget (setSeqr s k x) f i = fget s f i := rfl
@[simp] theorem fget_setPin (s : State) (n : Nat) (x : PinSt) (f : Fld) (i : Nat) : fget (setPin s n x) f i = fget s f i := rfl
@[simp] theorem fget_setCptPort (s : State) (n : Nat) (x : CptPort) (f : Fld) (i : Nat) : fget (setCptPort s n x) f i = fget s f i := rfl
@[simp] theorem fget_setFlow (s : State) (k : Nat) (x : Flow) (f : Fld) (i : Nat) : fget (setFlow s k x) f i = fget s f i := rfl
@[simp] theorem fget_setQLink (s : State) (k : Nat) (x : QLink) (f : Fld) (i : Nat) : fget (setQLink s k x) f i = fget s f i := rfl
@[simp] theorem fget_setLex (s : State) (x : LexSt) (f : Fld) (i : Nat) : fget (setLex s x) f i = fget s f i := rfl
@[simp] theorem fget_setThr (s : State) (k : Nat) (x : Thr) (f : Fld) (i : Nat) : fget (setThr s k x) f i = fget s f i := rfl
@[simp] theorem fget_setDmaCh (s : State) (k : Nat) (x : DmaCh) (f : Fld) (i : Nat) : fget (setDmaCh s k x) f i = fget s f i := rfl
@[simp] theorem fget_setSpLane (s : State) (k : Nat) (x : SpnLane) (f : Fld) (i : Nat) : fget (setSpLane s k x) f i = fget s f i := rfl
@[simp] theorem fget_setJptCh (s : State) (k : Nat) (x : JptCh) (f : Fld) (i : Nat) : fget (setJptCh s k x) f i = fget s f i := rfl
@[simp] theorem fget_setBunit (s : State) (k : Nat) (x : BUnit) (f : Fld) (i : Nat) : fget (setBunit s k x) f i = fget s f i := rfl
@[simp] theorem fget_setImg (s : State) (k : Nat) (x : Img) (f : Fld) (i : Nat) : fget (setImg s k x) f i = fget s f i := rfl

/-! ### Reads after writes of the stores -/

@[simp] theorem cab_setCab_same (s : State) (p : Nat) (c : Cab) : cab (setCab s p c) p = c := smGet_smSet_same ..

theorem cab_setCab_other (s : State) (p : Nat) (c : Cab) (j : Nat) (h : j ≠ p) : cab (setCab s p c) j = cab s j :=
  smGet_smSet_other _ _ _ _ _ h

@[simp] theorem cell_setCell_same (s : State) (k : Nat) (c : Cell) : cell (setCell s k c) k = c := smGet_smSet_same ..

theorem cell_setCell_other (s : State) (k : Nat) (c : Cell) (j : Nat) (h : j ≠ k) : cell (setCell s k c) j = cell s j :=
  smGet_smSet_other _ _ _ _ _ h

@[simp] theorem fifo_setFifo_same (s : State) (k : Nat) (x : Fifo) : fifo (setFifo s k x) k = x := smGet_smSet_same ..

theorem fifo_setFifo_other (s : State) (k : Nat) (x : Fifo) (j : Nat) (h : j ≠ k) : fifo (setFifo s k x) j = fifo s j :=
  smGet_smSet_other _ _ _ _ _ h

@[simp] theorem mbx_setMbx_same (s : State) (m : Nat) (x : Mbx) : mbx (setMbx s m x) m = x := smGet_smSet_same ..

theorem mbx_setMbx_other (s : State) (m : Nat) (x : Mbx) (j : Nat) (h : j ≠ m) : mbx (setMbx s m x) j = mbx s j :=
  smGet_smSet_other _ _ _ _ _ h

@[simp] theorem stop_setStop_same (s : State) (n : Nat) (x : Stop) : stop (setStop s n x) n = x := smGet_smSet_same ..

theorem stop_setStop_other (s : State) (n : Nat) (x : Stop) (j : Nat) (h : j ≠ n) : stop (setStop s n x) j = stop s j :=
  smGet_smSet_other _ _ _ _ _ h

@[simp] theorem thr_setThr_same (s : State) (k : Nat) (x : Thr) : thr (setThr s k x) k = x := smGet_smSet_same ..

theorem thr_setThr_other (s : State) (k : Nat) (x : Thr) (j : Nat) (h : j ≠ k) : thr (setThr s k x) j = thr s j :=
  smGet_smSet_other _ _ _ _ _ h

end Machine
end Sys2Proof
end

