-- ==== Sys2Proof/Laws/Cell.lean ====
section
/-!
SUPPORT. What one cycle of a cell does: the frame of its parts, and the whole issue cycle of a service cell away
from the cabinet's outer columns (R34 to R38).
-/

namespace Sys2Proof
namespace Machine

/-! ### Wires read cells, cabinets and registers only -/

theorem outWire_congr {s u : State} (h : ∀ j, cell u j = cell s j) (k d t : Nat) : outWire u k d t = outWire s k d t := by
  simp only [outWire, h]

/-- Two states with the same cells, cabinets and registers carry the same values on every wire. -/
theorem srcWire_congr {s u : State} (h : ∀ j, cell u j = cell s j) (hc : u.array.cabs = s.array.cabs)
    (hr : u.regs = s.regs) (p pcol lcol row b t : Nat) : srcWire u p pcol lcol row b t = srcWire s p pcol lcol row b t := by
  have c : ∀ p, cab u p = cab s p := fun p => by simp only [cab, hc]
  have f : ∀ f i, fget u f i = fget s f i := fun f i => by simp only [fget, hr]
  have g : ∀ p l, pcolOf u p l = pcolOf s p l := fun p l => by
    unfold pcolOf gapPos
    rw [f]
  have e : ∀ p a l r b c, besideCell u p a l r b c = besideCell s p a l r b c := fun p a l r b c => by
    unfold besideCell
    simp only [g]
  have d : ∀ p, doorsOpen u p = doorsOpen s p := fun p => by
    unfold doorsOpen fgetB
    rw [f]
  have b1 : ∀ p i, borderBit u p i = borderBit s p i := fun p i => by
    unfold borderBit
    rw [c]
  have b2 : ∀ p i, borderOn u p i = borderOn s p i := fun p i => by
    unfold borderOn
    simp only [b1]
  simp only [srcWire, e, outWire_congr h, d, b2, c]

theorem advanceTo_parts (s : State) (n : Nat) : (advanceTo s n).regs = s.regs ∧ (advanceTo s n).array = s.array ∧
    (advanceTo s n).fifo = s.fifo ∧ (advanceTo s n).flt = s.flt ∧ (advanceTo s n).pin = s.pin := by
  unfold advanceTo
  split <;> exact ⟨rfl, rfl, rfl, rfl, rfl⟩

theorem cellPins_parts (s : State) (p lcol row : Nat) (y : Word × Bool) : (cellPins s p lcol row y).regs = s.regs ∧
    (cellPins s p lcol row y).array = s.array ∧ (cellPins s p lcol row y).fifo = s.fifo ∧
    (cellPins s p lcol row y).flt = s.flt := by
  unfold cellPins
  split
  · rename_i h
    clear h
    generalize (cab s p).pins = l
    induction l generalizing s with
    | nil => exact ⟨rfl, rfl, rfl, rfl⟩
    | cons n l ih =>
      simp only [List.foldl_cons]
      split
      · exact ih _
      · exact ih _
  · exact ⟨rfl, rfl, rfl, rfl⟩

/-- An inner column has no door on the side where a cell's FIFO-backed port would be. -/
theorem doorOf_inner (lcol row : Nat) (h1 : 1 ≤ lcol) (h2 : lcol ≤ 14) : doorOf lcol row (if lcol = 0 then 3 else 1) = none := by
  have a : lcol ≠ 0 := by omega
  have b : lcol ≠ 15 := by omega
  simp [doorOf, a, b]

theorem cellFifoIn_inner (s : State) (p lcol row : Nat) (h1 : 1 ≤ lcol) (h2 : lcol ≤ 14) : cellFifoIn s p lcol row = none := by
  unfold cellFifoIn
  simp only [doorOf_inner lcol row h1 h2]

theorem cellDoorOut_inner (s : State) (p lcol row k t : Nat) (h1 : 1 ≤ lcol) (h2 : lcol ≤ 14) :
    cellDoorOut s p lcol row k t = s := by
  unfold cellDoorOut
  simp only [doorOf_inner lcol row h1 h2]

/-- Pass outputs change nothing but the output registers. -/
theorem cellPass_parts (c : Cell) (x : Ctx) (t : Nat) (src : Nat → Word × Bool) :
    ∃ o, cellPass c x t src = { c with outs := o } := by
  unfold cellPass
  generalize [0, 1, 2, 3, 4, 5, 6, 7] = l
  induction l generalizing c with
  | nil => exact ⟨c.outs, rfl⟩
  | cons d l ih =>
    simp only [List.foldl_cons]
    split
    · obtain ⟨o, h⟩ := ih { c with outs := smSet {} d ((smGet ({} : OutReg) c.outs d).put t (src (outSel x d)).1 (src (outSel x d)).2) c.outs }
      exact ⟨o, h⟩
    · exact ih c

/-- Nothing in flight, nothing lands. -/
theorem landDue_idle (n : Nat) (c : Cell) (h : c.jobs = []) : landDue n c = (c, 0) := by
  have e : ({ c with jobs := [] } : Cell) = c := by rw [← h]
  unfold landDue
  rw [h]
  simp only [landList, e, h]

/-! ### RAM words -/

/-- Different addresses lie in different words (R78). -/
theorem ramPhys_inj (c : Cell) (a b : Nat) (ha : a < 512) (hb : b < 512) (h : ramPhys c a = ramPhys c b) : a = b := by
  unfold ramPhys at h
  cases ea : c.rep.findIdx? (fun r => r = a / 4) with
  | none =>
    cases eb : c.rep.findIdx? (fun r => r = b / 4) with
    | none => simpa [ea, eb] using h
    | some y => simp only [ea, eb] at h; omega
  | some x =>
    cases eb : c.rep.findIdx? (fun r => r = b / 4) with
    | none => simp only [ea, eb] at h; omega
    | some y =>
      simp only [ea, eb] at h
      have hxy : x = y := by omega
      subst hxy
      obtain ⟨hx, p1, _⟩ := List.findIdx?_eq_some_iff_getElem.1 ea
      obtain ⟨_, p2, _⟩ := List.findIdx?_eq_some_iff_getElem.1 eb
      simp only [decide_eq_true_eq] at p1 p2
      omega

theorem ramCode_ramWrite (c : Cell) (a b : Nat) (w : Word) (ha : a < 512) (hb : b < 512) :
    ramCode (ramWrite c b w) a = if a = b then eccEnc w else ramCode c a := by
  show smGet 0 (smSet 0 (ramPhys c b) (eccEnc w) c.ram) (ramPhys c a) = _
  split
  · rename_i h
    rw [h, smGet_smSet_same]
  · rename_i h
    exact smGet_smSet_other _ _ _ _ _ (fun e => h (ramPhys_inj c a b ha hb e))

/-! ### Registers written at the end of a cycle -/

theorem put_see (r : TReg) (t : Nat) (v : Word) (h : r.vc ≤ t) : (r.put t t v).see (t + 1) = (v, true) := by
  have e : r.put t t v = { val := v, vc := t + 1, iss := t, pval := r.val, pvc := r.vc } := by
    unfold TReg.put
    rw [if_neg (by omega), if_neg (by omega)]
  simp [e, TReg.see]

theorem hold_see (r : TReg) (t : Nat) (h : r.vc ≤ t) : r.see (t + 1) = (r.val, false) := by
  unfold TReg.see
  rw [if_pos (by omega)]
  have : decide (r.vc = t + 1) = false := decide_eq_false (by omega)
  simp [this]

/-! ### Lanes -/

theorem wrapN_lt (w : Nat) (v : Int) : wrapN w v < 2 ^ w := by
  unfold wrapN
  have h : (0 : Int) < 2 ^ w := by exact_mod_cast Nat.two_pow_pos w
  have := Int.emod_lt_of_pos v h
  have k := Int.emod_nonneg v (Int.ne_of_gt h)
  have e : (((v % 2 ^ w).toNat : Nat) : Int) < ((2 ^ w : Nat) : Int) := by
    rw [Int.toNat_of_nonneg k]
    exact_mod_cast this
  exact_mod_cast e

theorem packN_lt (fmt : Nat) (f : Nat → Int) (n : Nat) : packN fmt f n < 2 ^ (laneW fmt * n) := by
  induction n with
  | zero => simp [packN]
  | succ n ih =>
    unfold packN
    have h := wrapN_lt (laneW fmt) (f n)
    calc packN fmt f n + wrapN (laneW fmt) (f n) * 2 ^ (laneW fmt * n)
        < 2 ^ (laneW fmt * n) + wrapN (laneW fmt) (f n) * 2 ^ (laneW fmt * n) := by omega
      _ = (wrapN (laneW fmt) (f n) + 1) * 2 ^ (laneW fmt * n) := by rw [Nat.succ_mul, Nat.add_comm]
      _ ≤ 2 ^ laneW fmt * 2 ^ (laneW fmt * n) := Nat.mul_le_mul_right _ h
      _ = 2 ^ (laneW fmt * (n + 1)) := by rw [← Nat.pow_add, Nat.mul_succ, Nat.add_comm]

theorem packN_lane (fmt : Nat) (f : Nat → Int) (n i : Nat) (h : i < n) :
    packN fmt f n / 2 ^ (laneW fmt * i) % 2 ^ laneW fmt = wrapN (laneW fmt) (f i) := by
  induction n with
  | zero => omega
  | succ n ih =>
    unfold packN
    by_cases e : i = n
    · subst e
      rw [Nat.add_mul_div_right _ _ (Nat.two_pow_pos _), Nat.div_eq_of_lt (packN_lt fmt f i), Nat.zero_add,
        Nat.mod_eq_of_lt (wrapN_lt _ _)]
    · have hi : i < n := by omega
      rw [← ih hi]
      have hp : 2 ^ (laneW fmt * n) = 2 ^ laneW fmt * 2 ^ (laneW fmt * (n - i - 1)) * 2 ^ (laneW fmt * i) := by
        rw [← Nat.pow_add, ← Nat.pow_add]
        congr 1
        have : n = 1 + (n - i - 1) + i := by omega
        conv => lhs; rw [this]
        rw [Nat.mul_add, Nat.mul_add, Nat.mul_one]
      rw [hp, ← Nat.mul_assoc, Nat.add_mul_div_right _ _ (Nat.two_pow_pos _), Nat.mul_comm (2 ^ laneW fmt), ← Nat.mul_assoc,
        Nat.add_mul_mod_self_right]

/-- The lanes of a packed word are what was packed, kept to the lane width. -/
theorem laneU_pack (fmt : Nat) (f : Nat → Int) (i : Nat) (h : i < laneN fmt) : laneU fmt (pack fmt f) i = wrapN (laneW fmt) (f i) := by
  unfold laneU pack wbits
  have hw : laneW fmt * laneN fmt = 64 := by
    unfold laneN laneW
    repeat' split
    all_goals rfl
  have : packN fmt f (laneN fmt) < 2 ^ 64 := hw ▸ packN_lt fmt f (laneN fmt)
  rw [BitVec.toNat_ofNat, Nat.mod_eq_of_lt this]
  exact packN_lane fmt f _ i h

theorem laneU_lanewise (ins : Word) (f : Nat → Int) (i : Nat) (h : i < laneN (insFMT ins)) : LaneIs ins (lanewise ins f) i (f i) :=
  laneU_pack _ _ i h

/-! ### The issue cycle -/

/-- What the executed part of a cycle leaves, for an operation that reads no RAM word (R38, R66). -/
theorem cellExec_plain (s : State) (r : CellRef) (lcol : Nat) (t : Nat) (pin : Nat → Word)
    (h1 : insAG0RD (insAt s r) = false) (h2 : insOP (insAt s r) ≠ 0x37) (h3 : (cab s r.p).gapPh = 0) :
    let c := cellAt s r
    let q (sel : Nat) : Word := operand c t pin 0 sel
    let o := opExec c.cur.w0 (wbits c.cur.w2 32 32) (q (insSA c.cur.w0)) (q (insSB c.cur.w0)) (q (insSC c.cur.w0)) 0 t c
    let v := o.res.getD 0
    let dst := if o.res.isSome then insDST c.cur.w0 else 0
    let c2 := { o.c with
      y := if dst.testBit 0 then o.c.y.put t t v else o.c.y
      f := if dst.testBit 1 then o.c.f.put t t v else o.c.f
      ag0 := c.ag0 }
    cellExec s r lcol true t pin = setCell s (cid r.p r.pcol r.row)
      (if dst.testBit 2 then
        { ramWrite c2 c.ag1 v with ag1 := if insAG1PM c.cur.w0 then agNext (ag1Cfg c) c.ag1 (insAG1OS c.cur.w0) else c.ag1 }
      else c2) := by
  have hm : ∀ c l rw a w, mirrorWrite (setCell s (cid r.p r.pcol r.row) c) r.p l rw a w = setCell s (cid r.p r.pcol r.row) c := by
    intro c l rw a w
    have hz : (cab (setCell s (cid r.p r.pcol r.row) c) r.p).gapPh = 0 := h3
    unfold mirrorWrite
    simp [hz]
  unfold cellExec
  simp only [h1, h2, decide_false, Bool.false_or, Bool.false_and, Bool.false_eq_true, if_false, if_true, hm]
  exact (apply_ite _ _ _ _).symm

/-- A cell whose accumulators, CM, BX, CI and results in flight alone differ from `x`. -/
def RunsOf (x y : Cell) : Prop := ∃ acc cm bx ci jobs, y = { x with acc := acc, cm := cm, bx := bx, ci := ci, jobs := jobs }

theorem RunsOf.ite {x : Cell} {c : Prop} [Decidable c] {a b : OpOut} (ha : RunsOf x a.c) (hb : RunsOf x b.c) :
    RunsOf x (if c then a else b).c := by
  split
  · exact ha
  · exact hb

theorem RunsOf.foldl {x y : Cell} (f : Cell → Nat → Cell) (l : List Nat) (hf : ∀ y n, RunsOf y (f y n)) (h : RunsOf x y) :
    RunsOf x (l.foldl f y) := by
  induction l generalizing y with
  | nil => exact h
  | cons n l ih =>
    refine ih ?_
    obtain ⟨a1, b1, c1, d1, e1, h1⟩ := h
    obtain ⟨a2, b2, c2, d2, e2, h2⟩ := hf y n
    exact ⟨a2, b2, c2, d2, e2, by rw [h2, h1]⟩

/-- The operation itself leaves registers, RAM, pointers, drawer and phase to the cycle. -/
theorem opExec_frame (ins k a b c m : Word) (t : Nat) (x : Cell) : RunsOf x (opExec ins k a b c m t x).c := by
  have r : RunsOf x x := ⟨_, _, _, _, _, rfl⟩
  have hk : ∀ (f : Cell → Nat → Cell) (q : Nat), (∀ y n, RunsOf y (f y n)) → RunsOf x (accMask f q x) := by
    intro f q hf
    refine RunsOf.foldl _ _ (fun y n => ?_) r
    split
    · exact hf y n
    · exact ⟨_, _, _, _, _, rfl⟩
  have c1 : ∀ y n, RunsOf y (clearAcc y n) := fun y n => ⟨_, _, _, _, _, rfl⟩
  have c2 : ∀ y n, RunsOf y (clearFlags y n) := fun y n => ⟨_, _, _, _, _, rfl⟩
  unfold opExec
  iterate 16 refine RunsOf.ite r ?_
  refine RunsOf.ite ⟨_, _, _, _, _, rfl⟩ (RunsOf.ite ⟨_, _, _, _, _, rfl⟩ ?_)
  refine RunsOf.ite ⟨_, _, _, _, _, rfl⟩ (RunsOf.ite ⟨_, _, _, _, _, rfl⟩ ?_)
  refine RunsOf.ite (hk _ _ c1) (RunsOf.ite (hk _ _ c2) (RunsOf.ite ?_ ?_))
  · dsimp only
    split
    · exact RunsOf.foldl _ _ c1 r
    · exact r
  · refine RunsOf.ite r (RunsOf.ite r (RunsOf.ite ⟨_, _, _, _, _, rfl⟩ ?_))
    exact RunsOf.ite r (RunsOf.ite r (RunsOf.ite r (RunsOf.ite ⟨_, _, _, _, _, rfl⟩ r)))

/-- What the operation of the cell's next cycle computes. -/
abbrev opOut (s : State) (r : CellRef) : OpOut :=
  opExec (insAt s r) (wbits (cellAt s r).cur.w2 32 32) (opA s r) (opB s r) (opC s r) 0 (cellAt s r).t (cellAt s r)

/-- The cycle that `cellCycle` runs is the cell's own next one, in a state whose cells, cabinets and registers are as
before. -/
theorem cellCycle_run {op : Nat} {s : State} {r : CellRef} (h : InSlot op s r) :
    ∃ lcol z, lcolOf s r.p r.pcol = some lcol ∧ 1 ≤ lcol ∧ lcol ≤ 14 ∧ cellCycle op r s = cellRun z r lcol true (cellAt s r).t ∧
      (∀ j, cell z j = cell s j) ∧ z.array.cabs = s.array.cabs ∧ z.regs = s.regs ∧ z.fifo = s.fifo ∧ z.flt = s.flt := by
  obtain ⟨lcol, hl, h1, h2⟩ := h.place
  have a := advanceTo_parts s (cellAt s r).t
  refine ⟨lcol, setCell (advanceTo s (cellAt s r).t) (cid r.p r.pcol r.row) (cellAt s r), hl, h1, h2, ?_, ?_, ?_, a.1, a.2.2.1, a.2.2.2.1⟩
  · unfold cellCycle
    have m : max (cellAt s r).t (cab s r.p).slotStart = (cellAt s r).t := Nat.max_eq_left h.first
    have e1 : ((cab s r.p).slot.isNone) = false := by
      cases x : (cab s r.p).slot with
      | none => exact absurd x h.slot
      | some _ => rfl
    have e2 := h.last
    have e3 := h.opcode
    have e4 := h.drawer
    have e5 : (r.pcol != gapPos s r.p) = true := by simpa using h.service
    simp only [hl]
    rw [m, landDue_idle _ _ h.idle]
    simp only [h.runs, e1, e4, e3, e5, Bool.not_true, Bool.false_or, bne_self_eq_false, Bool.or_false, decide_eq_true_eq]
    rw [if_neg (by omega)]
    rfl
  · intro j
    by_cases hj : j = cid r.p r.pcol r.row
    · rw [hj]
      exact cell_setCell_same ..
    · rw [cell_setCell_other _ _ _ _ hj]
      unfold cell
      rw [a.2.1]
  · show (advanceTo s (cellAt s r).t).array.cabs = _
    rw [a.2.1]

/-- The wires that feed a cell's input ports in its cycle `t`. -/
def pinsOf (s : State) (r : CellRef) (lcol t : Nat) (n : Nat) : Word :=
  (srcWire s r.p r.pcol lcol r.row (inSel (cellAt s r).cur n) t).1

/-- An issue cycle away from the doors: pins follow Y, the operation runs, then outputs, PH and the cycle count. -/
theorem cellRun_issue (z : State) (r : CellRef) (lcol t : Nat) (h1 : 1 ≤ lcol) (h2 : lcol ≤ 14)
    (hg : insVGATE (insAt z r) = false) (hc : condTrue (insAt z r) (cellAt z r) = true) :
    ∃ x o, x = cellExec (cellPins z r.p lcol r.row ((cellAt z r).y.see t)) r lcol true t (pinsOf z r lcol t) ∧
      cellRun z r lcol true t = setCell x (cid r.p r.pcol r.row) { cellAt x r with
        outs := o
        ph := if (cellAt z r).ph = insPLEN (insAt z r) then 0 else ((cellAt z r).ph + 1) % 512
        t := t + 1 } := by
  have hs : ∀ n, ((if (inSel (cellAt z r).cur n != 0 && decide (inSel (cellAt z r).cur n = 0)) = true then ((0 : Word), false)
      else srcWire z r.p r.pcol lcol r.row (inSel (cellAt z r).cur n) t).1) = pinsOf z r lcol t n := by
    intro n
    rw [if_neg (by simp)]
    rfl
  unfold cellRun
  simp only [cellFifoIn_inner z r.p lcol r.row h1 h2, Option.elim_none, hg, hc, Bool.not_false, Bool.true_or,
    Bool.and_true, bne_self_eq_false, Bool.and_false, cellDoorOut_inner z r.p lcol r.row _ _ h1 h2, if_true, hs]
  obtain ⟨o, ho⟩ := cellPass_parts (cellAt (cellExec (cellPins z r.p lcol r.row ((cellAt z r).y.see t)) r lcol true t (pinsOf z r lcol t)) r)
    (cellAt z r).cur t (fun b => if (b != 0 && decide (b = 0)) = true then ((0 : Word), false) else srcWire z r.p r.pcol lcol r.row b t)
  refine ⟨_, o, rfl, ?_⟩
  simp only [ho]

/-- Registers, FIFOs, faults and every other cell as one cell is replaced. -/
theorem CellAlone.of_setCell {s u t : State} {r : CellRef} {c : Cell} (h : t = setCell u (cid r.p r.pcol r.row) c)
    (hu : ∀ j, cell u j = cell s j) (h1 : u.array.cabs = s.array.cabs) (h2 : u.regs = s.regs) (h3 : u.fifo = s.fifo)
    (h4 : u.flt = s.flt) : CellAlone s t r where
  others j hj := by rw [h, cell_setCell_other _ _ _ _ hj, hu]
  cabs := by rw [h]; exact h1
  regs := by rw [h]; exact h2
  fifo := by rw [h]; exact h3
  flt := by rw [h]; exact h4

theorem setCell_setCell_cell (s : State) (k : Nat) (c d : Cell) (j : Nat) :
    cell (setCell (setCell s k c) k d) j = cell (setCell s k d) j := by
  by_cases h : j = k
  · rw [h, cell_setCell_same, cell_setCell_same]
  · rw [cell_setCell_other _ _ _ _ h, cell_setCell_other _ _ _ _ h, cell_setCell_other _ _ _ _ h]

/-- A whole issue cycle of an operation that reads no RAM word. -/
theorem issue_cycle {op : Nat} {s : State} {r : CellRef} (h : Issues op s r) (hop : op ≠ 0x37) :
    CellDid s (cellCycle op r s) r (opOut s r).res (opOut s r).c := by
  obtain ⟨lcol, z, hl, h1, h2, e, hc, hcab, hreg, hfifo, hflt⟩ := cellCycle_run h.toInSlot
  have hk : cellAt z r = cellAt s r := hc _
  have hki : insAt z r = insAt s r := by rw [insAt, hk]
  obtain ⟨x, o, hx, hr⟩ := cellRun_issue z r lcol (cellAt s r).t h1 h2 (by rw [hki]; exact h.gate) (by rw [hki, hk]; exact h.cond)
  have hp := cellPins_parts z r.p lcol r.row ((cellAt z r).y.see (cellAt s r).t)
  generalize cellPins z r.p lcol r.row ((cellAt z r).y.see (cellAt s r).t) = u at hx hp
  have hu : ∀ j, cell u j = cell s j := fun j => by
    rw [← hc j]
    unfold cell
    rw [hp.2.1]
  have hux : cellAt u r = cellAt s r := hu _
  have hui : insAt u r = insAt s r := by rw [insAt, hux]
  have hpin : pinsOf z r lcol (cellAt s r).t =
      fun n => (srcWire s r.p r.pcol lcol r.row (inSel (cellAt s r).cur n) (cellAt s r).t).1 := by
    funext n
    unfold pinsOf
    rw [srcWire_congr hc hcab hreg, hk]
  have hq : ∀ sel, operand (cellAt s r) (cellAt s r).t
      (fun n => (srcWire s r.p r.pcol lcol r.row (inSel (cellAt s r).cur n) (cellAt s r).t).1) 0 sel = operandAt s r sel := by
    intro sel
    unfold operandAt
    rw [hl]
    rfl
  rw [hpin] at hx
  have hplain := cellExec_plain u r lcol (cellAt s r).t
    (fun n => (srcWire s r.p r.pcol lcol r.row (inSel (cellAt s r).cur n) (cellAt s r).t).1)
    (by rw [hui]; exact h.mem) (by rw [hui, h.opcode]; exact hop)
    (by
      have : cab u r.p = cab s r.p := by simp only [cab, hp.2.1, hcab]
      rw [this]
      exact h.gap)
  simp only [hux, hq] at hplain
  obtain ⟨acc, cm, bx, ci, jobs, ho⟩ := opExec_frame (insAt s r) (wbits (cellAt s r).cur.w2 32 32) (opA s r) (opB s r) (opC s r)
    0 (cellAt s r).t (cellAt s r)
  rw [← hx] at hplain
  -- the cell as the operation leaves it
  obtain ⟨C, hC⟩ : ∃ C, x = setCell u (cid r.p r.pcol r.row) C := ⟨_, hplain⟩
  have hxC : cellAt x r = C := by rw [hC]; exact cell_setCell_same ..
  have hCe : C = cellAt x r := hxC.symm
  rw [hplain] at hCe
  rw [show cellAt (setCell u (cid r.p r.pcol r.row) _) r = _ from cell_setCell_same ..] at hCe
  change C = if (if (opOut s r).res.isSome = true then insDST (insAt s r) else 0).testBit 2 = true then _ else _ at hCe
  generalize hdst : (if (opOut s r).res.isSome = true then insDST (insAt s r) else 0) = dst at hCe
  have hD : cellAt (cellCycle op r s) r = { C with
      outs := o
      ph := if (cellAt s r).ph = insPLEN (insAt s r) then 0 else ((cellAt s r).ph + 1) % 512
      t := (cellAt s r).t + 1 } := by
    rw [e, hr, hxC, hki, hk]
    exact cell_setCell_same ..
  have hy : C.y = if dst.testBit 0 = true then (cellAt s r).y.put (cellAt s r).t (cellAt s r).t ((opOut s r).res.getD 0)
      else (cellAt s r).y := by
    rw [hCe]
    split <;> (dsimp only [ramWrite, ramPutCode]; rw [ho])
  have hf : C.f = if dst.testBit 1 = true then (cellAt s r).f.put (cellAt s r).t (cellAt s r).t ((opOut s r).res.getD 0)
      else (cellAt s r).f := by
    rw [hCe]
    split <;> (dsimp only [ramWrite, ramPutCode]; rw [ho])
  have hrest : C.acc = (opOut s r).c.acc ∧ C.cm = (opOut s r).c.cm ∧ C.bx = (opOut s r).c.bx ∧ C.ci = (opOut s r).c.ci ∧
      C.jobs = (opOut s r).c.jobs ∧ C.ag0 = (cellAt s r).ag0 ∧ C.cfg = (cellAt s r).cfg ∧ C.cur = (cellAt s r).cur := by
    rw [hCe]
    split <;> (dsimp only [ramWrite, ramPutCode]; rw [ho]; exact ⟨rfl, rfl, rfl, rfl, rfl, rfl, rfl, rfl⟩)
  have hram : ∀ a, a < 512 → ramCode C a = if dst.testBit 2 = true ∧ a = (cellAt s r).ag1 then
      eccEnc ((opOut s r).res.getD 0) else ramCode (cellAt s r) a := by
    intro a ha
    rw [hCe]
    by_cases h2 : dst.testBit 2 = true
    · have := ramCode_ramWrite (cellAt s r) a (cellAt s r).ag1 ((opOut s r).res.getD 0) ha h.ag1
      rw [if_pos h2]
      simp only [h2, true_and]
      rw [← this]
      dsimp only [ramCode, ramPhys, ramWrite, ramPutCode]
      rw [ho]
    · have h3 : ¬(dst.testBit 2 = true ∧ a = (cellAt s r).ag1) := fun x => h2 x.1
      rw [if_neg h2, if_neg h3]
      dsimp only [ramCode, ramPhys]
      rw [ho]
  have hb : ∀ k, dst.testBit k = (if (opOut s r).res.isSome = true then insDST (insAt s r) else 0).testBit k := fun k => by rw [hdst]
  refine ⟨⟨?_, ?_⟩, ?_, ?_, ?_, ?_, ?_, ?_, ?_, ?_, ?_, ?_, ?_, ?_⟩
  · rw [hD, hdst]
    dsimp only
    rw [hy]
    split
    · exact put_see _ _ _ h.yDone
    · exact hold_see _ _ h.yDone
  · rw [hD, hdst]
    dsimp only
    rw [hf]
    split
    · exact put_see _ _ _ h.fDone
    · exact hold_see _ _ h.fDone
  · intro a ha
    rw [hD]
    refine (hram a ha).trans ?_
    rw [hb]
    cases (opOut s r).res <;> simp
  · rw [hD]; exact hrest.1
  · rw [hD]; exact hrest.2.1
  · rw [hD]; exact hrest.2.2.1
  · rw [hD]; exact hrest.2.2.2.1
  · rw [hD]; exact hrest.2.2.2.2.1
  · rw [hD]; exact hrest.2.2.2.2.2.1
  · rw [hD]; exact hrest.2.2.2.2.2.2.1
  · rw [hD]; exact hrest.2.2.2.2.2.2.2
  · rw [hD]
  · rw [hD]
  · have ht : ∃ D, cellCycle op r s = setCell x (cid r.p r.pcol r.row) D := ⟨_, e.trans hr⟩
    obtain ⟨D, hD2⟩ := ht
    exact
      { others := fun j hj => by rw [hD2, cell_setCell_other _ _ _ _ hj, hC, cell_setCell_other _ _ _ _ hj, hu]
        cabs := by
          rw [hD2, hC]
          show u.array.cabs = _
          rw [hp.2.1, hcab]
        regs := by
          rw [hD2, hC]
          exact hp.1.trans hreg
        fifo := by
          rw [hD2, hC]
          exact hp.2.2.1.trans hfifo
        flt := by
          rw [hD2, hC]
          exact hp.2.2.2.trans hflt }

end Machine
end Sys2Proof
end

