-- ==== Sys2Proof/Laws/Mailbox.lean ====
section
/-!
SUPPORT. What a mailbox command does once nothing keeps it from running.
-/

namespace Sys2Proof
namespace Machine

/-- A command that nothing keeps from running is answered with what Kaluno's work on it gives. -/
theorem mbxCmd_runs {s : State} {m g c : Nat} {a : List Nat} {ext : List Byte} (h : MbxRuns s m g c a ext) :
    mbxCmd s m g c a ext = conclude (kCmd g c a ext (taken s m g c)).1 m (kCmd g c a ext (taken s m g c)).2 := by
  have hs := h.served
  have hi := h.idle
  have hp := h.permitted
  have ha := h.allowed
  have hf := h.free
  unfold mbxCmd
  rw [if_neg (by simp [hs, hi])]
  dsimp only
  have e : gate (fset (clearBits s MBX_RSP_RDY_RDY 0 (2 ^ m)) MBX_BUSY_BUSY 0 (fget s MBX_BUSY_BUSY 0 ||| 2 ^ m)) m g c =
      gate (taken s m g c) m g c := rfl
  rw [e, hp]
  dsimp only
  unfold kRun
  rw [show setMbx (fset (clearBits s MBX_RSP_RDY_RDY 0 (2 ^ m)) MBX_BUSY_BUSY 0 (fget s MBX_BUSY_BUSY 0 ||| 2 ^ m)) m _ =
    taken s m g c from rfl, ha, hf]
  rfl

end Machine
end Sys2Proof
end

