-- ==== Sys2Proof/Tests/Slice0.lean ====
section
/-!
SUPPORT. The author's own tests: ill-formed commands that the check refuses, a few values that the spec or a standard
gives, and for every clause of every statement in Certificates/Slice0/Obligations.lean that has hypotheses a state and
operands that meet all of them (theorem `witness_<statement>`, or `witness_<statement>_<part>` where a statement has
parts; the clauses stand in the statement's order).
-/

open Sys2Proof Sys2Proof.Machine
namespace Sys2Proof
namespace Tests

set_option maxRecDepth 100000
set_option linter.unusedVariables false
set_option exponentiation.threshold 500
set_option Elab.async false

/-- One bounded quantifier. -/
theorem all1 {P : Nat → Prop} {m : Nat} (h : ∀ q, q < m → P q) : ∀ q, q < m → P q := h

/-- Two bounded quantifiers in one. -/
theorem all2 {P : Nat → Nat → Prop} {m n : Nat} (h : ∀ q, q < m → ∀ r, r < n → P q r) : ∀ q r, q < m → r < n → P q r :=
  fun q r a b => h q a r b

/-- The state after reset with register fields set. -/
def rg (l : List (Fld × Nat × Nat)) : State := l.foldl (fun s e => fset s e.1 e.2.1 e.2.2) State.reset

/-- The ACLK frequency is some frequency, and at most 1.5 GHz (R10). -/
theorem khz_pos : 0 < Config.aclkKHz := Nat.succ_pos _

theorem khz_lt : 0 + Config.aclkKHz < 1500001 := by
  have h := Nat.mod_lt Config.aclkChoice (show 0 < 1500000 by decide)
  simp only [Config.aclkKHz]; omega

theorem not_passed {s : State} {n : Nat} (h : s.time.now = 0) : passedMs s 1 n = false :=
  decide_eq_false (by rw [h]; omega)

/-! ### Small tests -/

/-- CRC-32C of the nine digits: the check value of the polynomial's standard. -/
theorem test_crc32c : crc32cR (strBytes "123456789") = 0xE3069283 := by decide +kernel

/-- CRC-16 with polynomial 0x1021 from all ones of the nine digits: the standard's check value. -/
theorem test_crc16 : crc16Bits 0x313233343536373839 72 0xFFFF = 0x29B1 := by decide +kernel

/-- SHAKE256 of no bytes begins 46 B9 DD 2B (FIPS 202's example). -/
theorem test_shake256 : shake256 [] 4 = [0x46, 0xB9, 0xDD, 0x2B] := by decide +kernel

/-- One flipped bit of a codeword is found and set right, two are found (R467). -/
theorem test_ecc : eccJudge (eccEnc 5 ^^^ 0x80) = .fixed 5 ∧ eccJudge (eccEnc 5 ^^^ 0x81) = .bad ∧ eccJudge (eccPoison 5) = .poison := by decide +kernel

/-- The table gives no row bits. -/
theorem test_no_words : decodeTableWord 0 0 = none ∧ State.reset.withFetchWord 64 1 = State.reset := ⟨rfl, rfl⟩

/-- A command to a unit that does not exist faults. -/
theorem test_no_unit : exec (.slotStart 100) State.reset = .fault .noSuchUnit := rfl

/-- Out of reset TICK_LEN is 1,500 and every mailbox is idle. -/
theorem test_reset : tickLen State.reset = 1500 ∧ fget State.reset MBX_BUSY_BUSY 0 = 0 ∧ State.reset.pending = [] := by decide +kernel

/-- A tick of 300 cycles is taken at the next edge, one of 299 is not (R13). -/
theorem test_tick_len : tickLenOk State.reset 300 = true ∧ tickLenOk State.reset 299 = false := by decide +kernel

/-- The queue gives its first command (the model's queue). -/
theorem test_first_in_first_out : (match step { State.reset with pending := [.tickCountRead, .refresh] } with
    | .next t => t.pending | _ => []) = [.refresh] := by decide +kernel

/-! ### Ill-formed commands -/

/-- An event at a place that the device does not have (1). -/
theorem test_ill_formed_1 :
    wellFormed (.genericRegisterWrite 10 0 0 0) = false ∧
    wellFormed (.rcFieldRead 10 0 0) = false ∧
    wellFormed (.pllLossOfLock 3) = false ∧
    wellFormed (.pllRelock 3) = false ∧
    wellFormed (.slotStart 100) = false ∧
    wellFormed (.drawerFetch 0 0 8 0 0 0) = false ∧
    wellFormed (.nop ⟨99, 16, 8, 0, 0⟩) = false ∧
    wellFormed (.mov ⟨99, 16, 8, 0, 0⟩) = false ∧
    wellFormed (.and ⟨99, 16, 8, 0, 0⟩) = false ∧
    wellFormed (.or ⟨99, 16, 8, 0, 0⟩) = false ∧
    wellFormed (.xor ⟨99, 16, 8, 0, 0⟩) = false ∧
    wellFormed (.andn ⟨99, 16, 8, 0, 0⟩) = false ∧
    wellFormed (.shl ⟨99, 16, 8, 0, 0⟩) = false ∧
    wellFormed (.shr ⟨99, 16, 8, 0, 0⟩) = false ∧
    wellFormed (.shuf ⟨99, 16, 8, 0, 0⟩) = false ∧
    wellFormed (.sel ⟨99, 16, 8, 0, 0⟩) = false ∧
    wellFormed (.add ⟨99, 16, 8, 0, 0⟩) = false ∧
    wellFormed (.sub ⟨99, 16, 8, 0, 0⟩) = false ∧
    wellFormed (.neg ⟨99, 16, 8, 0, 0⟩) = false ∧
    wellFormed (.abs ⟨99, 16, 8, 0, 0⟩) = false ∧
    wellFormed (.max ⟨99, 16, 8, 0, 0⟩) = false ∧
    wellFormed (.min ⟨99, 16, 8, 0, 0⟩) = false ∧
    wellFormed (.cmpgt ⟨99, 16, 8, 0, 0⟩) = false ∧
    wellFormed (.cmpeq ⟨99, 16, 8, 0, 0⟩) = false := by
  decide

/-- An event at a place that the device does not have (2). -/
theorem test_ill_formed_2 :
    wellFormed (.mul ⟨99, 16, 8, 0, 0⟩) = false ∧
    wellFormed (.mulResultLanding 0 0 8) = false ∧
    wellFormed (.mac4 ⟨99, 16, 8, 0, 0⟩) = false ∧
    wellFormed (.msu4 ⟨99, 16, 8, 0, 0⟩) = false ∧
    wellFormed (.dot4 ⟨99, 16, 8, 0, 0⟩) = false ∧
    wellFormed (.mac32 ⟨99, 16, 8, 0, 0⟩) = false ∧
    wellFormed (.cmac ⟨99, 16, 8, 0, 0⟩) = false ∧
    wellFormed (.cmacj ⟨99, 16, 8, 0, 0⟩) = false ∧
    wellFormed (.macAddStage 0 0 8) = false ∧
    wellFormed (.xlExtraction 0 0 8) = false ∧
    wellFormed (.clra ⟨99, 16, 8, 0, 0⟩) = false ∧
    wellFormed (.clrf ⟨99, 16, 8, 0, 0⟩) = false ∧
    wellFormed (.extract ⟨99, 16, 8, 0, 0⟩) = false ∧
    wellFormed (.norm ⟨99, 16, 8, 0, 0⟩) = false ∧
    wellFormed (.exp ⟨99, 16, 8, 0, 0⟩) = false ∧
    wellFormed (.bexp ⟨99, 16, 8, 0, 0⟩) = false ∧
    wellFormed (.bnorm ⟨99, 16, 8, 0, 0⟩) = false ∧
    wellFormed (.min2 ⟨99, 16, 8, 0, 0⟩) = false ∧
    wellFormed (.msel ⟨99, 16, 8, 0, 0⟩) = false ∧
    wellFormed (.crot ⟨99, 16, 8, 0, 0⟩) = false ∧
    wellFormed (.lut ⟨99, 16, 8, 0, 0⟩) = false ∧
    wellFormed (.ramWriteBack 0 0 8) = false ∧
    wellFormed (.ramPatrolRead 0 0 8 0) = false ∧
    wellFormed (.configPortRamAccess 0 0 8 0 false 0 0) = false := by
  decide

/-- An event at a place that the device does not have (3). -/
theorem test_ill_formed_3 :
    wellFormed (.doorBufferDrain 100 0) = false ∧
    wellFormed (.borderWordArrival 100 0) = false ∧
    wellFormed (.drainWindowEnd 100) = false ∧
    wellFormed (.captureSnapshot 100) = false ∧
    wellFormed (.fifoWrite 12800 0 false false 0 0 false) = false ∧
    wellFormed (.fifoRead 12800 0) = false ∧
    wellFormed (.fifoFreeSwap 12800) = false ∧
    wellFormed (.fifoFlush 12800) = false ∧
    wellFormed (.packetInject 133 .rsp []) = false ∧
    wellFormed (.flitForward 2 0 0 [] 0) = false ∧
    wellFormed (.escapeEntry 2 0 0) = false ∧
    wellFormed (.packetEject 0 133 0 0) = false ∧
    wellFormed (.streamReorderWrite 196608) = false ∧
    wellFormed (.seqGapTimeout 196608) = false ∧
    wellFormed (.requestTimeout 133) = false ∧
    wellFormed (.bypassSwitchClose 100) = false ∧
    wellFormed (.routerInternalFault 100) = false ∧
    wellFormed (.testAbortByPacket 100) = false ∧
    wellFormed (.jesdCdrLock 0 4) = false ∧
    wellFormed (.jesdBlockLock 0 4) = false ∧
    wellFormed (.jesdFrameLock 0 4 none 0) = false ∧
    wellFormed (.jesdRelease 0 4 0) = false ∧
    wellFormed (.jesdBringupTimeout 0 4) = false ∧
    wellFormed (.jesdLockLoss 0 4 0) = false := by
  decide

/-- An event at a place that the device does not have (4). -/
theorem test_ill_formed_4 :
    wellFormed (.sysrefEdge 8 (0, 0)) = false ∧
    wellFormed (.rxSampleWord 8 0 [] 0 0) = false ∧
    wellFormed (.txSampleRead 8 0 0 0) = false ∧
    wellFormed (.ethLinkDown 8 false) = false ∧
    wellFormed (.rxFrame 8 [] false 0) = false ∧
    wellFormed (.txFrame 8) = false ∧
    wellFormed (.segmentArrival 4 0) = false ∧
    wellFormed (.budgetWord 4) = false ∧
    wellFormed (.clientSelection false 1024 []) = false ∧
    wellFormed (.gddrLineWrite 0 [] []) = false ∧
    wellFormed (.gddrPartialWrite 0 129 [] false [] []) = false ∧
    wellFormed (.dmaDescFetch 16 []) = false ∧
    wellFormed (.dmaDescComplete 16 0 0 [] false) = false ∧
    wellFormed (.spanFecLock 8) = false ∧
    wellFormed (.spanIdentReceived 8 0 0 0) = false ∧
    wellFormed (.spanTrainTimeout 8) = false ∧
    wellFormed (.spanLaneLockLoss 8) = false ∧
    wellFormed (.spanFrameReceived 8 0 0) = false ∧
    wellFormed (.spanNakReceived 8 0) = false ∧
    wellFormed (.spanResendTimeout 8) = false ∧
    wellFormed (.spanSwitchRoute 2 0) = false ∧
    wellFormed (.markerSend 8 0) = false ∧
    wellFormed (.markerReceived 8 0 0 0 0 0 0 0 false 0) = false ∧
    wellFormed (.spanCalibration 8) = false := by
  decide

/-- An event at a place that the device does not have (5). -/
theorem test_ill_formed_5 :
    wellFormed (.echoReceived 8 0 0) = false ∧
    wellFormed (.startupStep 100) = false ∧
    wellFormed (.lockstepMismatch 5) = false ∧
    wellFormed (.eventLinePost 64) = false ∧
    wellFormed (.schTake 4 0) = false ∧
    wellFormed (.schComplete 4 0 0) = false ∧
    wellFormed (.schYield 4 0 0) = false ∧
    wellFormed (.schSleep 4 0 0 0) = false ∧
    wellFormed (.schStop 4 0 0) = false ∧
    wellFormed (.deadlineMiss 4096) = false ∧
    wellFormed (.budgetOverrun 4 0) = false ∧
    wellFormed (.sysIdentify 16) = false ∧
    wellFormed (.sysStatus 16) = false ∧
    wellFormed (.sysAttest 16 []) = false ∧
    wellFormed (.sysReset 16 0) = false ∧
    wellFormed (.sysSensors 16) = false ∧
    wellFormed (.sysKeyRevoke 16 0 0 [] []) = false ∧
    wellFormed (.sysSvnRaise 16 0 0 0 [] []) = false ∧
    wellFormed (.cabLoad 16 0 0 0 0 0 []) = false ∧
    wellFormed (.cabUnload 16 0) = false ∧
    wellFormed (.cabHold 16 0) = false ∧
    wellFormed (.cabRun 16 0 0) = false ∧
    wellFormed (.cabDrain 16 0) = false ∧
    wellFormed (.cabPower 16 0 0) = false := by
  decide

/-- An event at a place that the device does not have (6). -/
theorem test_ill_formed_6 :
    wellFormed (.cabRelocate 16 0 0) = false ∧
    wellFormed (.cabPlan 16 0 0) = false ∧
    wellFormed (.cabCapture 16 0 0 0 0) = false ∧
    wellFormed (.cabReadback 16 0 0 0 0) = false ∧
    wellFormed (.cabStatus 16 0) = false ∧
    wellFormed (.tickGet 16) = false ∧
    wellFormed (.tickSetLen 16 0) = false ∧
    wellFormed (.tickSetSource 16 0 0) = false ∧
    wellFormed (.tickAlign 16) = false ∧
    wellFormed (.tickOutput 16 0) = false ∧
    wellFormed (.netRingStatus 16 0) = false ∧
    wellFormed (.netRouter 16 0 0) = false ∧
    wellFormed (.netLoad 16 0) = false ∧
    wellFormed (.netBookings 16 0) = false ∧
    wellFormed (.netCounters 16 0) = false ∧
    wellFormed (.netTimers 16 0 0 0) = false ∧
    wellFormed (.portJesdCfg 16 0 0 0 0 0 0) = false ∧
    wellFormed (.portJesdEnable 16 0 0 0) = false ∧
    wellFormed (.portJesdSysref 16 0) = false ∧
    wellFormed (.portJesdStatus 16 0) = false ∧
    wellFormed (.portEthCfg 16 0 0) = false ∧
    wellFormed (.portEthStatus 16 0) = false ∧
    wellFormed (.portTod 16 0 0) = false ∧
    wellFormed (.portTxts 16 0 0) = false := by
  decide

/-- An event at a place that the device does not have (7). -/
theorem test_ill_formed_7 :
    wellFormed (.portSynce 16 0 0) = false ∧
    wellFormed (.portSpanCfg 16 0 0) = false ∧
    wellFormed (.portSpanStatus 16 0) = false ∧
    wellFormed (.portSpanRoute 16 0 0) = false ∧
    wellFormed (.portSpanSys 16 0 0 0) = false ∧
    wellFormed (.flowLex 16 0 0 0) = false ∧
    wellFormed (.flowLexPort 16 0 0) = false ∧
    wellFormed (.flowSet 16 0 0) = false ∧
    wellFormed (.flowGet 16 0) = false ∧
    wellFormed (.flowLink 16 0 0) = false ∧
    wellFormed (.flowQmCfg 16 0 0 0) = false ∧
    wellFormed (.memStatus 16) = false ∧
    wellFormed (.memFail 16 0) = false ∧
    wellFormed (.memRetrain 16) = false ∧
    wellFormed (.memRebuild 16) = false ∧
    wellFormed (.memSpareGet 16 0 0) = false ∧
    wellFormed (.memSpareSet 16 0 []) = false ∧
    wellFormed (.memDmaStatus 16 0) = false ∧
    wellFormed (.schThreadSet 16 0 0) = false ∧
    wellFormed (.schThreadGet 16 0) = false ∧
    wellFormed (.schThreadDel 16 0) = false ∧
    wellFormed (.schAdmitTest 16 []) = false ∧
    wellFormed (.schPost 16 0) = false ∧
    wellFormed (.schStatus 16) = false := by
  decide

/-- An event at a place that the device does not have (8). -/
theorem test_ill_formed_8 :
    wellFormed (.fltRecords 16 0) = false ∧
    wellFormed (.fltAck 16 0) = false ∧
    wellFormed (.fltInject 16 0 0 0) = false ∧
    wellFormed (.fltRecover 16 0 0) = false ∧
    wellFormed (.fltConfig 16 0 0) = false ∧
    wellFormed (.testCalendarGet 16) = false ∧
    wellFormed (.testCalendarSet 16 0 0 0 0) = false ∧
    wellFormed (.testResults 16 0 0) = false ∧
    wellFormed (.testRun 16 0 0 0) = false ∧
    wellFormed (.logRead 16 0 0) = false ∧
    wellFormed (.logInfo 16) = false ∧
    wellFormed (.burIdentify 16) = false ∧
    wellFormed (.burTotals 16 0 0) = false ∧
    wellFormed (.burStatement 16 0) = false ∧
    wellFormed (.burAudit 16 0 0) = false ∧
    wellFormed (.burStatus 16) = false ∧
    wellFormed (.fwStatus 16) = false ∧
    wellFormed (.fwBegin 16) = false ∧
    wellFormed (.fwData 16 0 0 []) = false ∧
    wellFormed (.fwWrite 16 0 0 0 0 0 []) = false ∧
    wellFormed (.fwCopy 16 0) = false ∧
    wellFormed (.fwVerify 16 0 0) = false ∧
    wellFormed (.fwActivate 16 0 0) = false ∧
    wellFormed (.fwCommit 16 0) = false := by
  decide

/-- An event at a place that the device does not have (9). -/
theorem test_ill_formed_9 :
    wellFormed (.fwRollback 16) = false ∧
    wellFormed (.fwPushBegin 16 0) = false ∧
    wellFormed (.fwPushData 16 0 []) = false ∧
    wellFormed (.fwPushEnd 16) = false ∧
    wellFormed (.bureauTapEvent 3) = false ∧
    wellFormed (.bureauFault 3) = false ∧
    wellFormed (.fltRaiseGo 4 0 false) = false ∧
    wellFormed (.voteDisagreement 3 0) = false ∧
    wellFormed (.gapStepStart 100) = false ∧
    wellFormed (.shadowCopyDone 100) = false ∧
    wellFormed (.shadowMismatch 100) = false ∧
    wellFormed (.bistSliceEnd 321 false false [] []) = false ∧
    wellFormed (.bistSliceAbort 321) = false ∧
    wellFormed (.ethLinkUp 8) = false ∧
    wellFormed (.leavingDone 100) = false ∧
    wellFormed (.telemetryMsg 133 0 0 0 []) = false ∧
    wellFormed (.coefficientUpdate 146) = false := by
  decide

/-- A write at a place of register space that is not listed is no ill-formed command, and nothing happens (R448). -/
theorem test_unlisted_write : wellFormed (.planSelectWrite 100 0) = true ∧ exec (.planSelectWrite 100 0) State.reset = .next State.reset :=
  ⟨rfl, rfl⟩

/-! ### Hypotheses that something meets -/

theorem witness_EmptyQueueIdles :
    (∃ (s : State), s.pending = []) :=
  ⟨State.reset, by decide +kernel⟩

theorem witness_WellFormednessDecides_IllFormedCommandFaults :
    (∃ (c : Instr) (s : State), wellFormed c = false) :=
  ⟨.slotStart 100, State.reset, by decide +kernel⟩

theorem witness_WellFormednessDecides_WellFormedCommandRuns :
    (∃ (c : Instr) (s : State), wellFormed c = true) :=
  ⟨.slotStart 99, State.reset, by decide +kernel⟩

theorem witness_StepTakesOneCommand :
    (∃ (s t : State), step s = .next t) :=
  ⟨{ State.reset with pending := [.tickSourceWrite 0] }, _, rfl⟩

theorem witness_FusesMoveOneWay :
    (∃ (s t : State), step s = .next t) :=
  ⟨{ State.reset with pending := [.tickSourceWrite 0] }, _, rfl⟩

theorem witness_KeySlotIsAlwaysLeft :
    (∃ (s t : State), keyLeft s.otp = true ∧ step s = .next t) :=
  ⟨{ State.reset with pending := [.tickSourceWrite 0] }, _, ⟨by decide, rfl⟩⟩

theorem witness_ResetState :
    (∃ (k : _), k < 4) :=
  ⟨3, by decide +kernel⟩

theorem witness_SecDedCorrectsOneFindsTwo :
    (∃ (w : Word) (i : _), i < 72) ∧
    (∃ (w : Word) (i : _) (j : _), i < j ∧ j < 72) := by
  refine ⟨⟨0x8000000000000001#64, 71, by decide +kernel⟩,
    ⟨0#64, 0, 71, by decide +kernel, by decide +kernel⟩⟩

theorem witness_TimeStampOffset :
    (∃ (len : _) (k : _), 300 ≤ len ∧ len ≤ 750000 ∧ k < ofsShift len) ∧
    (∃ (s : State), 300 ≤ tickLen s ∧ tickLen s ≤ 750000 ∧ s.time.tickStart ≤ s.time.now ∧ s.time.now < s.time.tickStart + 2 * tickLen s) := by
  refine ⟨⟨750000, 4, by decide +kernel, by decide +kernel, by decide +kernel⟩,
    ⟨{ State.reset with time := { State.reset.time with now := 2999 } }, by decide +kernel, by decide +kernel, by decide +kernel, by decide +kernel⟩⟩

theorem witness_TicksAndPlls_TickLengthAndRealignment :
    (∃ (s : State) (v : Nat), 300 ≤ v ∧ v ≤ 750000 ∧ (∀ p, p < 100 → cabState s p ≠ stRUNNING ∧ cabState s p ≠ stDRAINING) ∧ ((∀ l, l < 16 → fget s QMG_LINK_CFG_EN l = 0) ∨ fget s QMG_CFG_BUDGET_DL 0 + 600 ≤ v)) ∧
    (∃ (s : State) (v : Nat), v < 2 ^ 20 ∧ (v < 300 ∨ 750000 < v ∨ (∃ p, p < 100 ∧ (cabState s p = stRUNNING ∨ cabState s p = stDRAINING)) ∨ ((∃ l, l < 16 ∧ fget s QMG_LINK_CFG_EN l ≠ 0) ∧ v < fget s QMG_CFG_BUDGET_DL 0 + 600))) ∧
    (∃ (s : State) (v : Nat), v < 3 ∧ v ≠ fget s SYS_TICK_CFG_SRC 0 ∧ fget s SYS_TICK_STAT_ALIGN_PENDING 0 = 0) ∧
    (∃ (s : State) (v : Nat), v < 3 ∧ v = fget s SYS_TICK_CFG_SRC 0) ∧
    (∃ (s : State) (n a b : Nat), fget s SYS_TICK_STAT_ALIGN_PENDING 0 = 1 ∧ s.time.guarded = false ∧ s.time.now < guardAt s ∧ s.time.inserting = false ∧ (∀ p : Nat, p < 100 → (cab s p).slot = none) ∧ fget s SYS_TICK_CFG_SRC 0 < 2 ∧ (n = (if fget s SYS_TICK_CFG_SRC 0 = 0 then a else b)) ∧ n < tickLen s ∧ s.time.lenNow = none) ∧
    (∃ (s : State) (a b : Nat), (s.time.guarded = true ∨ guardAt s ≤ s.time.now ∨ fget s SYS_TICK_STAT_ALIGN_PENDING 0 = 0 ∨ s.time.inserting = true)) ∧
    (∃ (s : State), s.time.running = true ∧ s.time.tickStart ≤ s.time.now) := by
  refine ⟨⟨State.reset, 750000, by decide +kernel, by decide +kernel, by decide +kernel, by decide +kernel⟩,
    ⟨State.reset, 299, ⟨by decide, Or.inl (by decide)⟩⟩,
    ⟨State.reset, 2, by decide +kernel, by decide +kernel, by decide +kernel⟩,
    ⟨State.reset, 0, by decide +kernel, by decide +kernel⟩,
    ⟨rg [(SYS_TICK_STAT_ALIGN_PENDING, 0, 1)], 1499, 1499, 1500, by decide +kernel, by decide +kernel, by decide +kernel, by decide +kernel, by decide +kernel, by decide +kernel, by decide +kernel, by decide +kernel, by decide +kernel⟩,
    ⟨State.reset, 0, 0, by decide +kernel⟩,
    ⟨{ State.reset with time := { State.reset.time with running := true } }, by decide +kernel, by decide +kernel⟩⟩

theorem witness_TicksAndPlls_TickSourceAndCount :
    (∃ (s : State) (err : Int), fget s SYS_TICK_CFG_SRC 0 ≠ 0) ∧
    (∃ (s : State), fget s SYS_TICK_CFG_SRC 0 ≠ 0) := by
  refine ⟨⟨rg [(SYS_TICK_CFG_SRC, 0, 1)], -129, by decide +kernel⟩,
    ⟨rg [(SYS_TICK_CFG_SRC, 0, 2)], by decide +kernel⟩⟩

theorem witness_TicksAndPlls_PllPairs :
    (∃ (s : State) (k : Nat), k < 3 ∧ s.time.pllB.testBit k = true) ∧
    (∃ (s : State) (k : Nat), k < 3 ∧ s.time.pllB.testBit k = false) ∧
    (∃ (s : State) (k : Nat), k < 3 ∧ s.time.pllA.testBit k = true) ∧
    (∃ (s : State), s.boot.fw = true ∧ s.time.running = false) := by
  refine ⟨⟨{ State.reset with time := { State.reset.time with pllB := 4 } }, 2, by decide +kernel, by decide +kernel⟩,
    ⟨State.reset, 2, by decide +kernel, by decide +kernel⟩,
    ⟨{ State.reset with time := { State.reset.time with pllA := 1 } }, 0, by decide +kernel, by decide +kernel⟩,
    ⟨{ State.reset with boot := { State.reset.boot with fw := true } }, by decide +kernel, by decide +kernel⟩⟩

theorem witness_Resets :
    (∃ (s : State) (vsel : Nat), vsel < 256) ∧
    (∃ (s : State), s.boot.held = false) := by
  refine ⟨⟨State.reset, 255, by decide +kernel⟩,
    ⟨{ State.reset with boot := { State.reset.boot with held := false } }, by decide +kernel⟩⟩

theorem witness_BootPhases_StrapsAtRelease :
    (∃ (s : State) (sel : Nat) (pull : Bool), s.boot.held = true ∧ sel < 8) :=
  ⟨State.reset, 7, true, by decide +kernel, by decide +kernel⟩

theorem witness_BootPhases_BootAttempts :
    (∃ (s : State) (n : Nat) (r : List Nat), s.boot.rom = true ∧ fget s SYS_BOOT_STAT_PHASE 0 = 0 ∧ s.boot.left = n :: r ∧ slotKofs s n = none ∧ fget s SYS_BOOT_STAT_BOOTSEL 0 ≤ 1 ∧ fget s SYS_BOOT_STAT_WAIT_MS 0 ≤ 10000) ∧
    (∃ (s : State) (v : Nat), v < 2 ^ 32 ∧ s.boot.fw = true ∧ s.boot.done = false) ∧
    (∃ (s : State), s.boot.fw = true ∧ s.boot.done = false ∧ s.boot.startAt + msCycles 5000 ≤ s.time.now) := by
  refine ⟨⟨{ State.reset with boot := { State.reset.boot with rom := true, left := [0, 1] } }, 0, [1], by decide +kernel, by decide +kernel, by decide +kernel, by decide +kernel, by decide +kernel, by decide +kernel⟩,
    ⟨{ State.reset with boot := { State.reset.boot with fw := true } }, 0xFFFFFFFF, by decide +kernel, by decide +kernel, by decide +kernel⟩,
    ⟨{ State.reset with boot := { State.reset.boot with fw := true }, time := { State.reset.time with now := msCycles 5000 } }, by decide +kernel, by decide +kernel, Nat.le_of_eq (Nat.zero_add _)⟩⟩

theorem witness_BootPhases_BootReportAndStartup :
    (∃ (s : State), (s.boot.fw = false ∨ s.boot.done = true ∨ s.time.now < s.boot.startAt + msCycles 5000)) ∧
    (∃ (s : State), s.boot.rom = true ∧ fget s SYS_BOOT_STAT_PHASE 0 = 4 ∧ s.boot.waitAt + msCycles (fget s SYS_BOOT_STAT_WAIT_MS 0) ≤ s.time.now) ∧
    (∃ (s : State), s.time.now < s.boot.waitAt + msCycles (fget s SYS_BOOT_STAT_WAIT_MS 0)) ∧
    (∃ (s : State) (n : Nat), n < 2 ^ 32 ∧ fget s SYS_LOAD_FAILS_COUNT 0 < 2 ^ 32) ∧
    (∃ (s : State) (p : Nat), p < 100 ∧ cabState s p = stRUNNING ∧ fget s CAB_STARTUP_ACTIVE p = 1 ∧ cycOfs s = 0 ∧ fget s CAB_STARTUP_WAIT p = 0 ∧ fget s CAB_STARTUP_NEXT p = 0 ∧ stepCode s p 0 = stepLOCK ∧ stepLocked s = true ∧ fget s CAB_STARTUP_DONE p = 0) ∧
    (∃ (s : State) (p : Nat), p < 100 ∧ cabState s p = stRUNNING ∧ fget s CAB_STARTUP_ACTIVE p = 1 ∧ cycOfs s = 0 ∧ fget s CAB_STARTUP_WAIT p = 0 ∧ stepCode s p (fget s CAB_STARTUP_NEXT p) = stepLOCK ∧ stepLocked s = false) := by
  refine ⟨⟨State.reset, by decide +kernel⟩,
    ⟨{ rg [(SYS_BOOT_STAT_PHASE, 0, 4)] with boot := { State.reset.boot with rom := true }, time := { State.reset.time with now := msCycles (fget (rg [(SYS_BOOT_STAT_PHASE, 0, 4)]) SYS_BOOT_STAT_WAIT_MS 0) } }, by decide +kernel, by decide +kernel, Nat.le_of_eq (Nat.zero_add _)⟩,
    ⟨{ State.reset with boot := { State.reset.boot with waitAt := 1 } }, Nat.lt_of_lt_of_le Nat.zero_lt_one (Nat.le_add_right _ _)⟩,
    ⟨State.reset, 0, by decide +kernel, by decide +kernel⟩,
    ⟨{ rg [(CAB_STATE_STATE, 99, stRUNNING), (CAB_STARTUP_ACTIVE, 99, 1)] with time := { State.reset.time with pllA := 7 } }, 99, by decide +kernel, by decide +kernel, by decide +kernel, by decide +kernel, by decide +kernel, by decide +kernel, by decide +kernel, by decide +kernel, by decide +kernel⟩,
    ⟨rg [(CAB_STATE_STATE, 99, stRUNNING), (CAB_STARTUP_ACTIVE, 99, 1)], 99, by decide +kernel, by decide +kernel, by decide +kernel, by decide +kernel, by decide +kernel, by decide +kernel, by decide +kernel⟩⟩

theorem witness_PinsOfTheControlComplex :
    (∃ (s : State) (n v : Nat), n < 96 ∧ fget s PIN_CFG_CAB_OWNED n ≠ 0) ∧
    (∃ (s : State) (n v : Nat), n < 96 ∧ fget s PIN_CFG_CAB_OWNED n = 0) ∧
    (∃ (s : State) (n v : Nat), 96 ≤ n) ∧
    (∃ (s : State) (d : List (Nat × Nat)), (∀ e ∈ d, e.1 < 96 ∧ e.2 < 3)) ∧
    (∃ (s : State) (ms : Nat), fget s PIN_LOADSTAT_MODE 0 ≠ 0) ∧
    (∃ (s : State) (ms : Nat), fget s PIN_LOADSTAT_MODE 0 = 0 ∧ (s.boot.held = true ∨ s.boot.noPair = true ∨ fget s SYS_BOOT_STAT_PHASE 0 = 6)) ∧
    (∃ (s : State) (ms : Nat), fget s PIN_LOADSTAT_MODE 0 = 0 ∧ s.boot.held = false ∧ s.boot.noPair = false ∧ fget s SYS_BOOT_STAT_PHASE 0 ≠ 6 ∧ s.cfg.due ≠ []) ∧
    (∃ (s : State) (ms : Nat), fget s PIN_LOADSTAT_MODE 0 = 0 ∧ s.boot.held = false ∧ s.boot.noPair = false ∧ fget s SYS_BOOT_STAT_PHASE 0 ≠ 6 ∧ s.cfg.due = [] ∧ s.boot.done = true) ∧
    (∃ (s : State) (ms : Nat), fget s PIN_LOADSTAT_MODE 0 = 0 ∧ s.boot.held = false ∧ s.boot.noPair = false ∧ fget s SYS_BOOT_STAT_PHASE 0 ≠ 6 ∧ s.cfg.due = [] ∧ s.boot.done = false ∧ fget s SYS_BOOT_STAT_PHASE 0 = 5) ∧
    (∃ (s : State) (ms : Nat), fget s PIN_LOADSTAT_MODE 0 = 0 ∧ s.boot.held = false ∧ s.boot.noPair = false ∧ fget s SYS_BOOT_STAT_PHASE 0 ≠ 6 ∧ s.cfg.due = [] ∧ s.boot.done = false ∧ fget s SYS_BOOT_STAT_PHASE 0 = 4) := by
  refine ⟨⟨rg [(PIN_CFG_CAB_OWNED, 95, 1)], 95, 0, by decide +kernel, by decide +kernel⟩,
    ⟨State.reset, 95, 0xFFFFFFFF, by decide +kernel, by decide +kernel⟩,
    ⟨State.reset, 96, 0, by decide +kernel⟩,
    ⟨State.reset, [(95, 2), (0, 0)], by decide +kernel⟩,
    ⟨rg [(PIN_LOADSTAT_MODE, 0, 1)], 0, by decide +kernel⟩,
    ⟨{ State.reset with boot := { State.reset.boot with held := true } }, 0, by decide +kernel, by decide +kernel⟩,
    ⟨{ State.reset with boot := { State.reset.boot with held := false }, cfg := { due := [95] } }, 999, by decide +kernel, by decide +kernel, by decide +kernel, by decide +kernel, by decide +kernel⟩,
    ⟨{ State.reset with boot := { State.reset.boot with held := false, done := true } }, 0, by decide +kernel, by decide +kernel, by decide +kernel, by decide +kernel, by decide +kernel, by decide +kernel⟩,
    ⟨{ rg [(SYS_BOOT_STAT_PHASE, 0, 5)] with boot := { State.reset.boot with held := false } }, 100, by decide +kernel, by decide +kernel, by decide +kernel, by decide +kernel, by decide +kernel, by decide +kernel, by decide +kernel⟩,
    ⟨{ rg [(SYS_BOOT_STAT_PHASE, 0, 4)] with boot := { State.reset.boot with held := false } }, 500, by decide +kernel, by decide +kernel, by decide +kernel, by decide +kernel, by decide +kernel, by decide +kernel, by decide +kernel⟩⟩

theorem witness_AccessCodes :
    (∃ (s : State) (m a n v r i : Nat), m < 10 ∧ (n = 4 ∨ n = 8) ∧ a % n = 0 ∧ regAt a = some (some ⟨r, i, 0⟩) ∧ regBits r = 8 * n ∧ plainWrites r = true) ∧
    (∃ (s : State) (m a n r i : Nat), m < 10 ∧ (n = 4 ∨ n = 8) ∧ a % n = 0 ∧ regAt a = some (some ⟨r, i, 0⟩) ∧ regBits r = 8 * n ∧ plainReads r = true) ∧
    (∃ (s : State) (m a n v : Nat), m < 10 ∧ regBase ≤ a ∧ a < regBase + 0x30000000 ∧ (n ≠ 4 ∧ n ≠ 8 ∨ a % n ≠ 0)) ∧
    (∃ (s : State) (m a n v : Nat), m < 10 ∧ regBase ≤ a ∧ a < regBase + 0x30000000 ∧ (n = 4 ∨ n = 8) ∧ a % n = 0 ∧ regAt a = none) ∧
    (∃ (s : State) (m : Nat), m < 10 ∧ fget s SYS_TICK_STAT_MISSED 0 < 2 ^ 16) := by
  refine ⟨⟨State.reset, 9, 4294967568, 4, 0xFFFFFFFF, 2, 0, by decide +kernel, by decide +kernel, by decide +kernel, by decide +kernel, by decide +kernel, by decide +kernel⟩,
    ⟨State.reset, 9, 4294967568, 4, 2, 0, by decide +kernel, by decide +kernel, by decide +kernel, by decide +kernel, by decide +kernel, by decide +kernel⟩,
    ⟨State.reset, 0, 0x12FFFFFFF, 2, 0, by decide +kernel, by decide +kernel, by decide +kernel, by decide +kernel⟩,
    ⟨State.reset, 0, 0x12FFFFFFC, 4, 0, by decide +kernel, by decide +kernel, by decide +kernel, by decide +kernel, by decide +kernel, by decide +kernel⟩,
    ⟨State.reset, 9, by decide +kernel, by decide +kernel⟩⟩

/-- An instruction with opcode `op` in a format it has. -/
def insFor (op : Nat) : Word := BitVec.ofNat 64 (op * 2 ^ 57 + ((opInfo op).elim 0 (fun i => i.fmts.headD 0)) * 2 ^ 54)

/-- Cabinet 0 runs a slot, and the cell in column 1, row 0 has the instruction `ins`. -/
def cellSt (ins : Word) (c : Cell) : State :=
  { rg [(CAB_STATE_STATE, 0, stRUNNING), (CAB_STARTUP_DONE, 0, 15)] with
    array := { cells := [(cid 0 1 0, { c with cur := { no := 1, w0 := ins, runs := true } })], cabs := [(0, { slot := some 0, slotLen := 10 })] } }

/-- That cell. -/
def ref0 : CellRef := ⟨0, 1, 0, 0, 0⟩

theorem inSlot_of {op : Nat} {s : State} {r : CellRef}
    (h : cellRefOk r = true ∧ lcolOf s r.p r.pcol = some 1 ∧ r.pcol ≠ gapPos s r.p ∧ (cab s r.p).gapPh = 0 ∧ cabRuns s r.p = true ∧
      (cab s r.p).slot ≠ none ∧ (cab s r.p).slotStart ≤ (cellAt s r).t ∧ (cellAt s r).t < (cab s r.p).slotStart + (cab s r.p).slotLen ∧
      (cellAt s r).cur.runs = true ∧ insOP (insAt s r) = op ∧ insReserved (insAt s r) = false ∧ (cellAt s r).jobs = [] ∧
      (cellAt s r).y.vc ≤ (cellAt s r).t ∧ (cellAt s r).f.vc ≤ (cellAt s r).t ∧ (cellAt s r).ag1 < 512) : InSlot op s r := by
  obtain ⟨a, b, c, d, e, f, g, h, i, j, k, l, m, n, o⟩ := h
  exact ⟨a, ⟨1, b, by decide, by decide⟩, c, d, e, f, g, h, i, j, k, l, m, n, o⟩

/-- The opcodes of R38 to R50 that statements name. -/
def opcodes : List Nat :=
  List.range 10 ++ [0x10, 0x11, 0x12, 0x13, 0x14, 0x15, 0x16, 0x17, 0x18, 0x20, 0x21, 0x22, 0x23, 0x24, 0x25, 0x26, 0x27, 0x28] ++
    [0x30, 0x31, 0x32, 0x33, 0x34, 0x35, 0x36, 0x37]

theorem opcode_slots : ∀ op ∈ opcodes, cellRefOk ref0 = true ∧ lcolOf (cellSt (insFor op) {}) 0 1 = some 1 ∧
    1 ≠ gapPos (cellSt (insFor op) {}) 0 ∧ (cab (cellSt (insFor op) {}) 0).gapPh = 0 ∧ cabRuns (cellSt (insFor op) {}) 0 = true ∧
    (cab (cellSt (insFor op) {}) 0).slot ≠ none ∧ (cab (cellSt (insFor op) {}) 0).slotStart ≤ (cellAt (cellSt (insFor op) {}) ref0).t ∧
    (cellAt (cellSt (insFor op) {}) ref0).t < (cab (cellSt (insFor op) {}) 0).slotStart + (cab (cellSt (insFor op) {}) 0).slotLen ∧
    (cellAt (cellSt (insFor op) {}) ref0).cur.runs = true ∧ insOP (insAt (cellSt (insFor op) {}) ref0) = op ∧
    insReserved (insAt (cellSt (insFor op) {}) ref0) = false ∧ (cellAt (cellSt (insFor op) {}) ref0).jobs = [] ∧
    (cellAt (cellSt (insFor op) {}) ref0).y.vc ≤ (cellAt (cellSt (insFor op) {}) ref0).t ∧
    (cellAt (cellSt (insFor op) {}) ref0).f.vc ≤ (cellAt (cellSt (insFor op) {}) ref0).t ∧
    (cellAt (cellSt (insFor op) {}) ref0).ag1 < 512 := by decide

theorem opcode_issues : ∀ op ∈ opcodes, insVGATE (insAt (cellSt (insFor op) {}) ref0) = false ∧
    condTrue (insAt (cellSt (insFor op) {}) ref0) (cellAt (cellSt (insFor op) {}) ref0) = true ∧
    insAG0RD (insAt (cellSt (insFor op) {}) ref0) = false := by decide

/-- Every opcode that a statement names issues somewhere. -/
theorem witness_Issues (op : Nat) (h : op ∈ opcodes) : Issues op (cellSt (insFor op) {}) ref0 :=
  ⟨inSlot_of (opcode_slots op h), (opcode_issues op h).1, (opcode_issues op h).2.1, (opcode_issues op h).2.2⟩

theorem witness_CellMovesAndLogic :
    (∃ (s : _) (r : _), InSlot 0x01 s r ∧ insVGATE (insAt s r) = false ∧ condTrue (insAt s r) (cellAt s r) = false) ∧
    (∃ (s : _) (r : _), InSlot 0x01 s r ∧ insVGATE (insAt s r) = true ∧ insSA (insAt s r) = 1 ∧ (srcWire s r.p r.pcol ((lcolOf s r.p r.pcol).getD 0) r.row (inSel (cellAt s r).cur 0) (cellAt s r).t).2 = false) := by
  refine ⟨⟨cellSt (insFor 0x01 ||| 3 <<< 20) {}, ref0, ⟨inSlot_of (by decide), by decide⟩⟩,
    ⟨cellSt (insFor 0x01 ||| 1 <<< 14 ||| 1 <<< 49) {}, ref0, ⟨inSlot_of (by decide), by decide⟩⟩⟩

theorem witness_CellMultipliesAndLateResults_LateResultsLand :
    (∃ (s : State) (r : CellRef) (i dst : Nat) (v : Word) (l : List Job), cellRefOk r = true ∧ (cellAt s r).jobs = .mul i dst v :: l ∧ i + 3 < cellClock s (cid r.p r.pcol r.row) ∧ (cellAt s r).y.vc ≤ i + 3 ∧ (cellAt s r).f.vc ≤ i + 3) ∧
    (∃ (s : State) (r : CellRef) (i dst : Nat) (v : Word) (l : List Job), cellRefOk r = true ∧ (cellAt s r).jobs = .xl i dst v :: l ∧ i + 4 < cellClock s (cid r.p r.pcol r.row) ∧ (cellAt s r).y.vc ≤ i + 4 ∧ (cellAt s r).f.vc ≤ i + 4) ∧
    (∃ (s : State) (r : CellRef) (i n : Nat) (ins : Word) (p : Int) (ph0 phl : Bool) (l : List Job), let zp := opx ins 3 && ph0; let old := cellAcc (cellAt s r) n; let a : Int := if zp then 0 else old.a.toInt; let e := if zp then 0 else old.e; let sh (e : Nat) : Int := if insOP ins = 0x23 then (e : Int) + 24 else (e : Int) - 8; let x : Int := a + shrR (insRND ins) p (sh e); cellRefOk r = true ∧ (cellAt s r).jobs = .mac i ins [(n, p)] ph0 phl :: l ∧ i + 3 < cellClock s (cid r.p r.pcol r.row) ∧ opx ins 2 = false) ∧
    (∃ (s : State) (r : CellRef) (i n : Nat) (ins : Word) (p : Int) (ph0 : Bool) (l : List Job), cellRefOk r = true ∧ (cellAt s r).jobs = .mac i ins [(n, p)] ph0 true :: l ∧ i + 3 < cellClock s (cid r.p r.pcol r.row) ∧ opx ins 2 = true) ∧
    (∃ (s : State) (r : CellRef), cellRefOk r = true ∧ (∀ j ∈ (cellAt s r).jobs, cellClock s (cid r.p r.pcol r.row) ≤ j.due)) := by
  refine ⟨⟨cellSt 0 { t := 10, jobs := [.mul 6 1 5] }, ref0, 6, 1, 5, [], by decide +kernel, by decide +kernel, by decide +kernel, by decide +kernel, by decide +kernel⟩,
    ⟨cellSt 0 { t := 10, jobs := [.xl 0 2 7] }, ref0, 0, 2, 7, [], by decide +kernel, by decide +kernel, by decide +kernel, by decide +kernel, by decide +kernel⟩,
    ⟨cellSt 0 { t := 10, jobs := [.mac 0 0 [(3, -1)] false false] }, ref0, 0, 3, 0, -1, false, false, [], by decide +kernel, by decide +kernel, by decide +kernel, by decide +kernel⟩,
    ⟨cellSt 0 { t := 10, jobs := [.mac 6 8 [(0, 1)] false true] }, ref0, 6, 0, 8, 1, false, [], by decide +kernel, by decide +kernel, by decide +kernel, by decide +kernel⟩,
    ⟨cellSt 0 { t := 3, jobs := [.mul 0 1 5] }, ref0, by decide +kernel, by decide +kernel⟩⟩

theorem witness_CellSpecialOperations :
    (∃ (s : _) (r : _) (w : _), Issues 0x37 s r ∧ r.ramErr = 0 ∧ fget s FLT_INJ_ACTIVE (cabSrc r.p) = 0 ∧ ramCode (cellAt s r) ((agBASE (ag0Cfg (cellAt s r)) + laneU (insFMT (insAt s r)) (opA s r) (insOPX (insAt s r) % 4) / 2 ^ insSHIFT (insAt s r) % agLEN (ag0Cfg (cellAt s r))) % 512) = eccEnc w) :=
  ⟨cellSt (insFor 0x37) {}, ref0, 0, ⟨witness_Issues 0x37 (by decide), by decide⟩⟩

theorem witness_RegisterWrites_SubtractingWrites :
    (∃ (s : State) (p n : Nat), p < 100) ∧
    (∃ (s : State) (k id n : Nat), unitOk k id = true) := by
  refine ⟨⟨State.reset, 99, 0, by decide +kernel⟩,
    ⟨State.reset, 8, 4095, 65536, by decide +kernel⟩⟩

theorem witness_RegisterWrites_ClearingWrites :
    (∃ (s : State) (p : Nat), p < 100) ∧
    (∃ (s : State) (src : Nat), src < 64) ∧
    (∃ (s : State) (c : Nat), c < 16) := by
  refine ⟨⟨State.reset, 99, by decide +kernel⟩,
    ⟨State.reset, 63, by decide +kernel⟩,
    ⟨State.reset, 15, by decide +kernel⟩⟩

theorem witness_RegisterWrites_PlainRegisterWrites :
    (∃ (s : State) (c v : Nat), c < 16) ∧
    (∃ (s : State) (q : Nat) (on : Bool), q < 5) ∧
    (∃ (s : State) (n v : Nat), 100 ≤ n) := by
  refine ⟨⟨State.reset, 15, 65536, by decide +kernel⟩,
    ⟨State.reset, 4, true, by decide +kernel⟩,
    ⟨State.reset, 100, 5, by decide +kernel⟩⟩

theorem witness_CellRam :
    (∃ (s : State) (p q r a : Nat) (w : Word) (l : List (Nat × Word)), cellOk p q r = true ∧ a < 512 ∧ (cell s (cid p q r)).wb = (a, w) :: l) ∧
    (∃ (s : State) (p q r : Nat), cellOk p q r = true ∧ (cell s (cid p q r)).wb = []) ∧
    (∃ (s : State) (p q r a c : Nat) (w : Word) (err : Code), cellOk p q r = true ∧ a < 512 ∧ q ≠ gapPos s p ∧ lcolOf s p q = some c ∧ (cab s p).gapCol = c ∧ ((cab s p).gapPh = 1 ∨ (cab s p).gapPh = 2 ∨ (cab s p).gapPh = 3)) ∧
    (∃ (s : State) (p q r a : Nat) (w : Word) (err : Code), cellOk p q r = true ∧ a < 512 ∧ (cab s p).gapPh = 0) ∧
    (∃ (s : State) (p q r a : Nat) (w d : Word), cellOk p q r = true ∧ a < 512 ∧ fgetB s FLT_INJ_ACTIVE (cabSrc p) = false ∧ eccJudge (ramCode (cell s (cid p q r)) a) = .clean d) ∧
    (∃ (s : State) (p q r : Nat) (d : Word), cellOk p q r = true ∧ patrolRuns s p q = true ∧ (cell s (cid p q r)).patTick ≠ s.time.edges + 1 ∧ fgetB s FLT_INJ_ACTIVE (cabSrc p) = false ∧ eccJudge (ramCode (cell s (cid p q r)) (cell s (cid p q r)).pat) = .clean d) ∧
    (∃ (s : State) (p q r : Nat) (err : Code), cellOk p q r = true ∧ ((cell s (cid p q r)).patTick = s.time.edges + 1 ∨ patrolRuns s p q = false)) := by
  refine ⟨⟨{ State.reset with array := { cells := [(cid 99 16 7, { wb := [(511, 3)] })] } }, 99, 16, 7, 511, 3, [], by decide +kernel, by decide +kernel, by decide +kernel⟩,
    ⟨State.reset, 99, 16, 7, by decide +kernel, by decide +kernel⟩,
    ⟨{ State.reset with array := { cabs := [(0, { gapPh := 1, gapCol := 1 })] } }, 0, 1, 0, 511, 1, 5, 1, by decide +kernel, by decide +kernel, by decide +kernel, by decide +kernel, by decide +kernel, by decide +kernel⟩,
    ⟨State.reset, 99, 16, 7, 511, 5, 1, by decide +kernel, by decide +kernel, by decide +kernel⟩,
    ⟨State.reset, 99, 16, 7, 0, 0, 0, by decide +kernel, by decide +kernel, by decide +kernel, by decide +kernel⟩,
    ⟨rg [(CAB_STATE_STATE, 99, stFAULTED)], 99, 0, 7, 0, by decide +kernel, by decide +kernel, by decide +kernel, by decide +kernel, by decide +kernel⟩,
    ⟨{ State.reset with array := { cells := [(cid 0 0 0, { patTick := 1 })] } }, 0, 0, 0, 0, by decide +kernel, by decide +kernel⟩⟩

/-- Cabinet 99 runs the last of its slots. -/
def slotSt (slots : Nat) (slot : Option Nat) : State :=
  { rg [(CAB_STATE_STATE, 99, stRUNNING), (CAB_STARTUP_DONE, 99, 15), (CAB_PLAN_STAT_A_SLOTS, 99, slots)] with
    array := { cabs := [(99, { slot := slot, slotLen := 10 })] } }

/-- A stored item of one word. -/
def item1 : FItem := { prio := 0, poison := false, tag := 0, decl := 1, words := [eccEnc 7] }

/-- A stored item of `n` words. -/
def longItem (n : Nat) : FItem := { item1 with decl := n, words := List.replicate n 0 }

/-- Cabinet 0 is to fetch drawer 15, and the first of its words in the cell in column 15, row 7 fails its check. -/
def badFetchSt : State :=
  { rg [(CAB_STATE_STATE, 0, stRUNNING), (CAB_STARTUP_DONE, 0, 15), (CAB_PLAN_STAT_A_SLOTS, 0, 1), (CAB_PLAN_A_DRAWER, 0, 15)] with
    array := { cells := [(cid 0 15 7, { cfg := [(54, 1)] })], cabs := [(0, { ran := true })] },
    time := { State.reset.time with guarded := true } }

theorem badFetch_class (w : Nat) : invClass badFetchSt 0 15 7 w < 2 := by
  have h : planAdm badFetchSt 0 (fget badFetchSt CAB_PLAN_SEL_CUR 0) = false := by decide +kernel
  simp [invClass, h]

theorem witness_SlotsDrawersAndPlans_SlotsFollowEachOther :
    (∃ (s : State) (p n : Nat), p < 100 ∧ (cab s p).slot = some n ∧ (∀ k : Nat, k / 136 = p → (cell s k).jobs = []) ∧ (cabRuns s p = false ∨ planSlots s p (fget s CAB_PLAN_SEL_CUR p) ≤ n + 1 ∨ guardAt s ≤ (cab s p).slotStart + (cab s p).slotLen)) ∧
    (∃ (s : State) (p n : Nat), p < 100 ∧ cabRuns s p = true ∧ (cab s p).slot = some n ∧ n + 1 < planSlots s p (fget s CAB_PLAN_SEL_CUR p) ∧ (cab s p).slotStart + (cab s p).slotLen < guardAt s ∧ (∀ k : Nat, k / 136 = p → (cell s k).jobs = []) ∧ (∀ q r : Nat, q < 17 → r < 8 → lcolOf s p q ≠ none → (cell s (cid p q r)).nxt.no = slotDrawer s p (n + 1))) ∧
    (∃ (s : State) (p : Nat), p < 100 ∧ (cab s p).slot = none) := by
  refine ⟨⟨slotSt 1 (some 0), 99, 0, by decide +kernel, by decide +kernel, fun _ _ => rfl, by decide +kernel⟩,
    ⟨slotSt 2 (some 0), 99, 0, by decide +kernel, by decide +kernel, by decide +kernel, by decide +kernel, by decide +kernel, fun _ _ => rfl, fun q r hq hr _ => all2 (P := fun q r => (cell (slotSt 2 (some 0)) (cid 99 q r)).nxt.no = slotDrawer (slotSt 2 (some 0)) 99 1) (by decide) q r hq hr⟩,
    ⟨State.reset, 99, by decide +kernel, by decide +kernel⟩⟩

theorem witness_SlotsDrawersAndPlans_DrawerFetchOfGoodWords :
    (∃ (s : State) (p q r n : Nat), cellOk p q r = true ∧ lcolOf s p q ≠ none ∧ nextSlot s p = some n ∧ cabRuns s p = true ∧ slotDrawer s p n ≠ 0 ∧ fgetB s FLT_INJ_ACTIVE (cabSrc p) = false ∧ (∀ i, i < 3 → parity (smGet 0 (cell s (cid p q r)).cfg (12 + 3 * (slotDrawer s p n - 1) + i)) = false ∧ drawerReserved i (eccData (smGet 0 (cell s (cid p q r)).cfg (12 + 3 * (slotDrawer s p n - 1) + i))) = false)) :=
  ⟨{ rg [(CAB_STATE_STATE, 0, stRUNNING), (CAB_STARTUP_DONE, 0, 15), (CAB_PLAN_STAT_A_SLOTS, 0, 1), (CAB_PLAN_A_DRAWER, 0, 15)] with array := { cabs := [(0, { ran := true })] }, time := { State.reset.time with guarded := true } }, 0, 15, 7, 0, by decide +kernel, by decide +kernel, by decide +kernel, by decide +kernel, by decide +kernel, by decide +kernel, by decide +kernel⟩

theorem witness_SlotsDrawersAndPlans_PlanSelection :
    (∃ (s : State) (p q r n c i : Nat), cellOk p q r = true ∧ lcolOf s p q = some c ∧ nextSlot s p = some n ∧ cabRuns s p = true ∧ slotDrawer s p n ≠ 0 ∧ fgetB s FLT_INJ_ACTIVE (cabSrc p) = false ∧ i < 3 ∧ parity (smGet 0 (cell s (cid p q r)).cfg (12 + 3 * (slotDrawer s p n - 1) + i)) = true ∧ (∀ w : Nat, invClass s p c r w < 2) ∧ fget s CAB_CFG_FAULT_VALID p = 0 ∧ s.scr.queue.length < 14) ∧
    (∃ (s : State) (p q r : Nat) (a b c : Code), cellOk p q r = true ∧ (lcolOf s p q = none ∨ nextSlot s p = none ∨ cabRuns s p = false)) ∧
    (∃ (s : State) (p v : Nat), p < 100 ∧ v.testBit 31 = false ∧ cabState s p = stRUNNING ∧ planAdm s p (v / 2 % 2) = true) ∧
    (∃ (s : State) (p v : Nat), p < 100 ∧ v.testBit 31 = false ∧ (cabState s p ≠ stRUNNING ∨ (planAdm s p (v / 2 % 2) = false ∧ fget s CAB_PLAN_SEL_CUR p ≠ v / 2 % 2))) ∧
    (∃ (s : State) (p v : Nat), p < 100 ∧ v.testBit 31 = true) ∧
    (∃ (s : State) (p v : Nat), 100 ≤ p) := by
  refine ⟨⟨badFetchSt, 0, 15, 7, 0, 15, 0, by decide +kernel, by decide +kernel, by decide +kernel, by decide +kernel, by decide +kernel, by decide +kernel, by decide +kernel, by decide +kernel, badFetch_class, by decide +kernel, by decide +kernel⟩,
    ⟨State.reset, 99, 16, 7, 0, 0, 0, by decide +kernel, by decide +kernel⟩,
    ⟨rg [(CAB_STATE_STATE, 99, stRUNNING), (CAB_PLAN_STAT_B_ADM, 99, 1)], 99, 3, by decide +kernel, by decide +kernel, by decide +kernel, by decide +kernel⟩,
    ⟨State.reset, 0, 0x7FFFFFFF, by decide +kernel, by decide +kernel, by decide +kernel⟩,
    ⟨State.reset, 0, 0x80000000, by decide +kernel, by decide +kernel⟩,
    ⟨State.reset, 100, 0, by decide +kernel⟩⟩

theorem witness_DoorsAndBorders :
    (∃ (s : State) (p port k : Nat) (d : DWord) (l : List DWord), p < 100 ∧ port < 12 ∧ portFifo p port = some k ∧ smGet [] (cab s p).dbuf port = d :: l ∧ (fifo s k).wopen = none ∧ (fifo s k).skip = false ∧ (fifo s k).disc = false ∧ (fifo s k).ovr = false ∧ swapDue s k = false ∧ fifoWBank (fifo s k) + fget s FIFO_WFRAME_ILENM1 k + 1 ≤ 512 ∧ d.en = false ∧ 0 < fget s FIFO_WFRAME_ILENM1 k) ∧
    (∃ (s : State) (p port k : Nat), p < 100 ∧ port < 12 ∧ portFifo p port = some k ∧ fifoWReady (fifo s k) (decide ((fifo s k).wopen = none)) (fget s FIFO_WFRAME_ILENM1 k) = false ∧ (∀ i : FItem, (fifo s k).wopen = some i → smGet 0 (cab s p).dfrm port ≠ 0)) ∧
    (∃ (s : State) (p port : Nat), p < 100 ∧ port < 12 ∧ (portFifo p port = none ∨ smGet [] (cab s p).dbuf port = [])) ∧
    (∃ (s : State) (p i q n : Nat), p < 100 ∧ i < 16 ∧ borderPeer p i = some (q, n) ∧ convChan p i = none ∧ borderOn s p i = true ∧ doorsOpen s q = true ∧ doorsOpen s p = false ∧ (outWire s (cid q (pcolOf s q (borderCell n).1) (borderCell n).2.1) (borderCell n).2.2 (cell s (cid q (pcolOf s q (borderCell n).1) (borderCell n).2.1)).t).2 = true) ∧
    (∃ (s : State) (p i q n : Nat), let k := cid q (pcolOf s q (borderCell n).1) (borderCell n).2.1; let o := outWire s k (borderCell n).2.2 (cell s k).t; p < 100 ∧ i < 16 ∧ borderPeer p i = some (q, n) ∧ convChan p i = none ∧ borderOn s p i = true ∧ doorsOpen s q = true ∧ doorsOpen s p = true) ∧
    (∃ (s : State) (p i : Nat), p < 100 ∧ i < 16 ∧ borderOn s p i = false) := by
  refine ⟨⟨{ rg [(FIFO_WFRAME_ILENM1, 8, 63)] with array := { cabs := [(0, { dbuf := [(0, [⟨1, false, false, 0⟩])] })] } }, 0, 0, 8, ⟨1, false, false, 0⟩, [], by decide +kernel, by decide +kernel, by decide +kernel, by decide +kernel, by decide +kernel, by decide +kernel, by decide +kernel, by decide +kernel, by decide +kernel, by decide +kernel, by decide +kernel, by decide +kernel⟩,
    ⟨{ State.reset with fifo := [(8, { w := [longItem 512] })] }, 0, 0, 8, by decide +kernel, by decide +kernel, by decide +kernel, by decide +kernel, fun i h => by have h : (none : Option FItem) = some i := h; cases h⟩,
    ⟨State.reset, 99, 11, by decide +kernel, by decide +kernel, by decide +kernel⟩,
    ⟨{ rg [(CAB_DOOR_STAT_OPEN, 12, 1)] with array := { cells := [(cid 12 0 0, { t := 1, y := { vc := 1 }, cur := { runs := true, w1 := 9 <<< 56 } })], cabs := [(11, { bcen := 16 }), (12, { bcen := 1 })] } }, 11, 4, 12, 0, by decide +kernel, by decide +kernel, by decide +kernel, by decide +kernel, by decide +kernel, by decide +kernel, by decide +kernel, by decide +kernel⟩,
    ⟨{ rg [(CAB_DOOR_STAT_OPEN, 12, 1), (CAB_DOOR_STAT_OPEN, 11, 1)] with array := { cabs := [(11, { bcen := 16 }), (12, { bcen := 1 })] } }, 11, 4, 12, 0, by decide +kernel, by decide +kernel, by decide +kernel, by decide +kernel, by decide +kernel, by decide +kernel, by decide +kernel⟩,
    ⟨State.reset, 99, 15, by decide +kernel, by decide +kernel, by decide +kernel⟩⟩

theorem witness_CaptureAndDrain :
    (∃ (s : State) (p v : Nat), p < 100 ∧ v.testBit 26 = true ∧ fgetB s CAB_STATE_CAP_GRANT p = true ∧ (setInstances s CAB_CAPTURE_CTL_ARMED).length < 8 ∧ s.time.tick < fget s CAB_CAPTURE_TICK_TICK p ∧ (v / 2 ^ 20 % 2 = 0 ∨ v % 2 ^ 20 < tickLen s)) ∧
    (∃ (s : State) (p v : Nat), p < 100 ∧ v.testBit 26 = true ∧ (fgetB s CAB_STATE_CAP_GRANT p = false ∨ 8 ≤ (setInstances s CAB_CAPTURE_CTL_ARMED).length ∨ fget s CAB_CAPTURE_TICK_TICK p ≤ s.time.tick ∨ (v / 2 ^ 20 % 2 = 1 ∧ tickLen s ≤ v % 2 ^ 20))) ∧
    (∃ (s : State) (p : Nat), p < 100 ∧ fgetB s CAB_CAPTURE_CTL_ARMED p = true ∧ fget s CAB_CAPTURE_TICK_TICK p = s.time.tick ∧ fgetB s CAB_CAPTURE_CTL_MODE p = true ∧ s.time.tickStart + fget s CAB_CAPTURE_CTL_OFFSET p < guardAt s) ∧
    (∃ (s : State) (p : Nat), p < 100 ∧ (fgetB s CAB_CAPTURE_CTL_ARMED p = false ∨ fget s CAB_CAPTURE_TICK_TICK p ≠ s.time.tick)) ∧
    (∃ (s : State) (p : Nat), p < 100 ∧ cabState s p = stDRAINING ∧ (cab s p).drainEnd ≤ s.time.edges ∧ s.time.running = true ∧ s.time.guarded = false ∧ fget s CAB_STATE_DRAIN_TO p ≠ 1 ∧ (cab s p).reloc = none) ∧
    (∃ (s : State) (p : Nat), p < 100 ∧ (cabState s p ≠ stDRAINING ∨ s.time.edges < (cab s p).drainEnd)) := by
  refine ⟨⟨rg [(CAB_STATE_CAP_GRANT, 99, 1), (CAB_CAPTURE_TICK_TICK, 99, 1)], 99, 0x4000000, by decide +kernel, by decide +kernel, by decide +kernel, by decide +kernel, by decide +kernel, by decide +kernel⟩,
    ⟨State.reset, 99, 0x4000000, by decide +kernel, by decide +kernel, by decide +kernel⟩,
    ⟨rg [(CAB_CAPTURE_CTL_ARMED, 99, 1), (CAB_CAPTURE_CTL_MODE, 99, 1)], 99, by decide +kernel, by decide +kernel, by decide +kernel, by decide +kernel, by decide +kernel⟩,
    ⟨State.reset, 99, by decide +kernel, by decide +kernel⟩,
    ⟨{ rg [(CAB_STATE_STATE, 99, stDRAINING)] with time := { State.reset.time with running := true } }, 99, by decide +kernel, by decide +kernel, by decide +kernel, by decide +kernel, by decide +kernel, by decide +kernel, by decide +kernel⟩,
    ⟨State.reset, 99, by decide +kernel, by decide +kernel⟩⟩

theorem witness_StreamFifos_FifoWrites :
    (∃ (s : State) (k : Nat) (w : Word) (len prio : Nat) (pois : Bool), fifoExists k = true ∧ len % 64 ≠ 0 ∧ swapDue s k = false ∧ (fifo s k).wopen = none ∧ (fifo s k).skip = false ∧ (fifo s k).disc = false ∧ (fifo s k).ovr = false ∧ fifoWBank (fifo s k) + len % 64 + 1 ≤ 512) ∧
    (∃ (s : State) (k : Nat) (w : Word) (len prio : Nat) (pois : Bool), fifoExists k = true ∧ swapDue s k = false ∧ (fifo s k).wopen = none ∧ (fifo s k).skip = false ∧ (fifo s k).disc = false ∧ (fifo s k).ovr = false ∧ fifoWBank (fifo s k) + len % 64 + 1 ≤ 512) ∧
    (∃ (s : State) (k : Nat) (w : Word) (len prio : Nat) (pois : Bool) (i : FItem), fifoExists k = true ∧ (fifo s k).wopen = some i ∧ i.ovr = false ∧ (fifo s k).skip = false ∧ (fifo s k).disc = false ∧ fifoWBank (fifo s k) < 512) ∧
    (∃ (s : State) (k : Nat) (w : Word) (en : Bool) (len prio : Nat) (pois : Bool), fifoExists k = true ∧ swapDue s k = false ∧ 512 < fifoWBank (fifo s k) + len % 64 + 1) ∧
    (∃ (s : State) (k : Nat) (w : Word) (en : Bool) (len prio : Nat) (pois : Bool), fifoExists k = true ∧ swapDue s k = false ∧ (fifo s k).skip = false ∧ 512 ≤ fifoWBank (fifo s k)) ∧
    (∃ (s : State) (k : Nat) (w : Word) (len prio : Nat) (pois : Bool) (i : FItem), fifoExists k = true ∧ len % 64 ≠ 0 ∧ (fifo s k).wopen = some i ∧ (fifo s k).ovr = false ∧ (fifo s k).skip = false ∧ (fifo s k).disc = false ∧ fifoWBank (fifo s k) + len % 64 + 1 ≤ 512) ∧
    (∃ (s : State) (k : Nat) (w : Word) (en : Bool) (len prio : Nat) (pois : Bool) (i : FItem) (l : List FItem), fifoExists k = true ∧ swapDue s k = false ∧ (fifo s k).wopen = none ∧ (fifo s k).ovr = true ∧ (fifo s k).skip = false ∧ (fifo s k).disc = false ∧ fifoWBank (fifo s k) < 512 ∧ (fifo s k).w = l ++ [i] ∧ i.ovr = true ∧ (∀ x ∈ l, x.ovr = false)) := by
  refine ⟨⟨State.reset, 32783, 5, 127, 15, false, by decide +kernel, by decide +kernel, by decide +kernel, by decide +kernel, by decide +kernel, by decide +kernel, by decide +kernel, by decide +kernel⟩,
    ⟨State.reset, 32783, 5, 64, 15, false, by decide +kernel, by decide +kernel, by decide +kernel, by decide +kernel, by decide +kernel, by decide +kernel, by decide +kernel⟩,
    ⟨{ State.reset with fifo := [(0, { wopen := some item1 })] }, 0, 9, 0, 0, true, item1, by decide +kernel, by decide +kernel, by decide +kernel, by decide +kernel, by decide +kernel, by decide +kernel⟩,
    ⟨{ State.reset with fifo := [(0, { wopen := some (longItem 460) })] }, 0, 9, true, 63, 0, false, by decide +kernel, by decide +kernel, by decide +kernel⟩,
    ⟨{ State.reset with fifo := [(0, { wopen := some (longItem 512) })] }, 0, 9, true, 0, 0, false, by decide +kernel, by decide +kernel, by decide +kernel, by decide +kernel⟩,
    ⟨{ State.reset with fifo := [(0, { wopen := some item1 })] }, 0, 9, 1, 0, true, item1, by decide +kernel, by decide +kernel, by decide +kernel, by decide +kernel, by decide +kernel, by decide +kernel, by decide +kernel⟩,
    ⟨{ State.reset with fifo := [(0, { ovr := true, w := [{ item1 with ovr := true }], r := [item1] })] }, 0, 9, true, 0, 0, false, { item1 with ovr := true }, [], by decide +kernel, by decide +kernel, by decide +kernel, by decide +kernel, by decide +kernel, by decide +kernel, by decide +kernel, by decide +kernel, by decide +kernel, by decide +kernel⟩⟩

theorem witness_StreamFifos_FifoReadsAndSwaps :
    (∃ (s : State) (k : Nat) (d : Word) (i : FItem) (r : List FItem) (c : Code) (l : List Code), fifoExists k = true ∧ (fifo s k).cur = none ∧ (fifo s k).r = i :: r ∧ i.words = c :: l ∧ i.poison = false ∧ fget s FIFO_MODE_ORDER k = 0 ∧ eccJudge c = .clean d ∧ fgetB s FLT_INJ_ACTIVE (fifoSrc k) = false) ∧
    (∃ (s : State) (k : Nat) (err : Code), fifoExists k = true ∧ (fifo s k).cur = none ∧ (fifo s k).r = []) ∧
    (∃ (s : State) (k : Nat), fifoExists k = true ∧ swapDue s k = true) ∧
    (∃ (s : State) (k : Nat), fifoExists k = true ∧ swapDue s k = false) ∧
    (∃ (s : State) (k swap : Nat), fifoExists k = true) ∧
    (∃ (s : State) (k swap prio ilen : Nat), fifoExists k = true) ∧
    (∃ (s : State) (k : Nat) (v : Nat × Option (Nat × Nat)), fifoExists k = false) := by
  refine ⟨⟨{ State.reset with fifo := [(16503, { r := [item1] })] }, 16503, 7, item1, [], eccEnc 7, [], by decide +kernel, by decide +kernel, by decide +kernel, by decide +kernel, by decide +kernel, by decide +kernel, by decide +kernel, by decide +kernel⟩,
    ⟨State.reset, 0, 0, by decide +kernel, by decide +kernel, by decide +kernel⟩,
    ⟨{ rg [(FIFO_MODE_SWAP, 0, 0)] with fifo := [(0, { w := [item1] })] }, 0, by decide +kernel, by decide +kernel⟩,
    ⟨rg [(FIFO_MODE_SWAP, 0, 1)], 0, by decide +kernel, by decide +kernel⟩,
    ⟨State.reset, 0, 1, by decide +kernel⟩,
    ⟨State.reset, 0, 1, 7, 63, by decide +kernel⟩,
    ⟨State.reset, 12800, (1, none), by decide +kernel⟩⟩

theorem clean0 : eccJudge (0 : Code) = .clean 0 := by decide

/-- A whole packet in one flit for stop `d`. -/
def flitTo (d : Nat) (w : List Code) : Flit := { sb := { kind := 3, ddev := ownDev State.reset, dstop := d }, data := w }

/-- A state with one flit in a lane. -/
def laneSt (l : List (Fld × Nat × Nat)) (k : Nat) (f : Flit) : State := { rg l with noc := { lanes := [(k, { q := [f] })] } }

/-- A response without data. -/
def rspPkt : Pkt := { ty := 8, dstop := 5 }

/-- A message packet. -/
def msgPkt : Pkt := { ty := 4, dstop := 5 }

/-- A stream packet of one word with START and END. -/
def strPkt (q : Nat) : Pkt := { ty := 3, seq := q, xhdr := 0xC0000000, data := [1] }

theorem witness_HeaderReadsBack :
    (∃ (p : Pkt), p.ty < 16 ∧ p.data.length ≤ 60 ∧ p.sdev < 1024 ∧ p.sstop < 256 ∧ p.ddev < 1024 ∧ p.dstop < 256 ∧ p.tag < 4096 ∧ p.seq < 65536 ∧ p.status < 256 ∧ p.size < 512 ∧ p.xhdr < 2 ^ 32 ∧ p.addr < 2 ^ 64 ∧ p.hx < 65536) :=
  ⟨{ ty := 15, sdev := 1023, sstop := 255, ddev := 1023, dstop := 255, tag := 4095, seq := 65535, status := 255, size := 511, xhdr := 0xFFFFFFFF, addr := 0xFFFFFFFFFFFFFFFF, hx := 65535 }, by decide +kernel, by decide +kernel, by decide +kernel, by decide +kernel, by decide +kernel, by decide +kernel, by decide +kernel, by decide +kernel, by decide +kernel, by decide +kernel, by decide +kernel, by decide +kernel, by decide +kernel⟩

theorem witness_RingPackets_InjectionOfARequest :
    (∃ (s : State) (st ty ddev d dstop tag size xhdr addr : Nat) (data : List Word), 100 ≤ st ∧ ty ≤ 2 ∧ injOk st (.agent ty ddev d tag size xhdr addr data) = true ∧ accessDest s (addr % 2 ^ 64) d = (ownDev s, dstop, addr % 2 ^ 64) ∧ dstop < 256 ∧ ownDev s < 1024 ∧ laneFree (lane s (laneKey 0 st 0 lnA)) = true ∧ (∀ q ∈ (stop s st).reqs, q.tag ≠ tag % 4096)) :=
  ⟨State.reset, 138, 0, 0, 138, 100, 4095, 8, 0, sramBase, [], by decide +kernel, by decide +kernel, by decide +kernel, by decide +kernel, by decide +kernel, by decide +kernel, by decide +kernel, by decide +kernel⟩

theorem witness_RingPackets_FlitsMoveOn :
    (∃ (s : State) (st dstop tag size xhdr addr : Nat) (data : List Word), 100 ≤ st ∧ hasAgent st = true ∧ hasAgent dstop = true ∧ ownDev s < 1024 ∧ laneFree (lane s (laneKey 0 st 0 lnA)) = true) ∧
    (∃ (s : State) (st : Nat) (e : List Code), hasAgent st = true ∧ (stop s st).rspQ = []) ∧
    (∃ (s : State) (net st out : Nat) (r : Rq) (f : Flit) (q : List Flit), net < 2 ∧ st < 140 ∧ 1 ≤ out ∧ out ≤ 4 ∧ ((if out ≤ 2 then onH st else onV st) = true) ∧ pickRq (smGet 0 (stop s st).deny (5 * net + out)) (smGet 0 (stop s st).ptr (5 * net + out)) (requesters s net st out) = some r ∧ r.dn < 6 ∧ (lane s (laneKey net st r.port r.ln)).q = f :: q ∧ (lane s (laneKey net (nextStop st out) out r.dn)).drop = false ∧ (f.sb.kind = 0 ∨ f.sb.kind = 3) ∧ rtrState s (nextStop st out) ≠ rtFAILED ∧ f.data.length = 4 ∧ (∀ c ∈ f.data, ∃ d : BitVec 64, eccJudge c = .clean d) ∧ fgetB s FLT_INJ_ACTIVE (rtrSrc (nextStop st out)) = false) ∧
    (∃ (s : State) (net st out sb : Nat) (e : List Code), net < 2 ∧ st < 140 ∧ 1 ≤ out ∧ out ≤ 4 ∧ ((if out ≤ 2 then onH st else onV st) = true) ∧ requesters s net st out = []) ∧
    (∃ (s : State) (net st port : Nat) (f : Flit) (q : List Flit), net < 2 ∧ st < 140 ∧ port < 5 ∧ (lane s (laneKey net st port lnA)).q = f :: q ∧ (lane s (laneKey net st port lnA)).out = none ∧ (f.sb.kind = 0 ∨ f.sb.kind = 3) ∧ f.sb.dstop ≠ st) := by
  refine ⟨⟨State.reset, 100, 138, 4095, 255, 7, 0, [], by decide +kernel, by decide +kernel, by decide +kernel, by decide +kernel, by decide +kernel⟩,
    ⟨State.reset, 100, [], by decide +kernel, by decide +kernel⟩,
    ⟨laneSt [] (laneKey 0 0 0 lnA) (flitTo 1 [0, 0, 0, 0]), 0, 0, 1, ⟨0, 0, 0, false, true, 0⟩, flitTo 1 [0, 0, 0, 0], [], by decide +kernel, by decide +kernel, by decide +kernel, by decide +kernel, by decide +kernel, by decide +kernel, by decide +kernel, by decide +kernel, by decide +kernel, by decide +kernel, by decide +kernel, by decide +kernel, by intro c hc; simp [flitTo] at hc; subst hc; exact ⟨0, clean0⟩, by decide +kernel⟩,
    ⟨State.reset, 1, 139, 4, 0, [], by decide +kernel, by decide +kernel, by decide +kernel, by decide +kernel, by decide +kernel, by decide +kernel⟩,
    ⟨laneSt [] (laneKey 1 99 4 lnA) (flitTo 1 []), 1, 99, 4, flitTo 1 [], [], by decide +kernel, by decide +kernel, by decide +kernel, by decide +kernel, by decide +kernel, by decide +kernel, by decide +kernel⟩⟩

theorem witness_RingPackets_Ejection :
    (∃ (s : State) (st port ln : Nat) (f : Flit) (p : Pkt), hasAgent st = true ∧ st ≠ 125 ∧ st ≠ 127 ∧ port < 5 ∧ ln < 6 ∧ (lane s (laneKey 0 st port ln)).q = [f] ∧ (lane s (laneKey 0 st port ln)).out = none ∧ f.sb.kind = 3 ∧ f.sb.dstop = st ∧ smGet [] s.noc.ej (laneKey 0 st port ln) = [] ∧ rtrState s st = rtNORMAL ∧ stopFenced s st = false ∧ hdrParse (f.data.map eccData) = (true, p) ∧ p.ty = 4) ∧
    (∃ (s : State) (st port ln : Nat) (f : Flit) (b : Bool) (p : Pkt), hasAgent st = true ∧ port < 5 ∧ ln < 6 ∧ (lane s (laneKey 0 st port ln)).q = [f] ∧ (lane s (laneKey 0 st port ln)).out = none ∧ f.sb.kind = 3 ∧ f.sb.dstop = st ∧ smGet [] s.noc.ej (laneKey 0 st port ln) = [] ∧ rtrState s st ≠ rtTEST ∧ hdrParse (f.data.map eccData) = (b, p) ∧ (b = false ∨ tyOk p.ty = false)) ∧
    (∃ (s : State) (st port ln : Nat) (f : Flit) (p : Pkt), st < 100 ∧ port < 5 ∧ ln < 6 ∧ (lane s (laneKey 1 st port ln)).q = [f] ∧ (lane s (laneKey 1 st port ln)).out = none ∧ f.sb.kind = 3 ∧ f.sb.dstop = st ∧ smGet [] s.noc.ej (laneKey 1 st port ln) = [] ∧ rtrState s st = rtNORMAL ∧ stopFenced s st = true ∧ hdrParse (f.data.map eccData) = (true, p) ∧ (p.ty = 8 ∨ p.ty = 9 ∨ p.ty = 10)) ∧
    (∃ (s : State) (net st port ln : Nat), net < 2 ∧ hasAgent st = true ∧ port < 5 ∧ ln < 6 ∧ (lane s (laneKey net st port ln)).q = []) := by
  refine ⟨⟨laneSt [(CAB_STATE_FENCED, 5, 0)] (laneKey 0 5 4 5) (flitTo 5 ((hdrWords msgPkt).map eccEnc)), 5, 4, 5, flitTo 5 ((hdrWords msgPkt).map eccEnc), msgPkt, by decide +kernel, by decide +kernel, by decide +kernel, by decide +kernel, by decide +kernel, by decide +kernel, by decide +kernel, by decide +kernel, by decide +kernel, by decide +kernel, by decide +kernel, by decide +kernel, by decide +kernel, by decide +kernel⟩,
    ⟨laneSt [] (laneKey 0 5 0 0) (flitTo 5 ((hdrWords { msgPkt with hx := 1 }).map eccEnc)), 5, 0, 0, flitTo 5 ((hdrWords { msgPkt with hx := 1 }).map eccEnc), false, { msgPkt with hx := 1 }, by decide +kernel, by decide +kernel, by decide +kernel, by decide +kernel, by decide +kernel, by decide +kernel, by decide +kernel, by decide +kernel, by decide +kernel, by decide +kernel, by decide +kernel⟩,
    ⟨laneSt [(CAB_STATE_FENCED, 5, 1)] (laneKey 1 5 0 0) (flitTo 5 ((hdrWords rspPkt).map eccEnc)), 5, 0, 0, flitTo 5 ((hdrWords rspPkt).map eccEnc), rspPkt, by decide +kernel, by decide +kernel, by decide +kernel, by decide +kernel, by decide +kernel, by decide +kernel, by decide +kernel, by decide +kernel, by decide +kernel, by decide +kernel, by decide +kernel, by decide +kernel⟩,
    ⟨State.reset, 1, 138, 4, 5, by decide +kernel, by decide +kernel, by decide +kernel, by decide +kernel, by decide +kernel⟩⟩

theorem witness_StreamsAndRouters_StreamsAndTimers :
    (∃ (s : State) (k e : Nat) (p : Pkt) (w : Word), k < 65536 ∧ fifoExists k = true ∧ (seqr s k).exp = some e ∧ (seqr s k).early = [p] ∧ p.seq = e ∧ (seqr s k).skipTo = false ∧ xSTART p = true ∧ xEND p = true ∧ xWORDS p = 1 ∧ p.data = [w] ∧ (fifo s k).wopen = none ∧ (fifo s k).skip = false ∧ (fifo s k).disc = false ∧ fifoWBank (fifo s k) + xILEN p + 1 ≤ 512) ∧
    (∃ (s : State) (k e : Nat), keyOk k = true ∧ (seqr s k).exp = some e ∧ (∀ p ∈ (seqr s k).early, p.seq ≠ e)) ∧
    (∃ (s : State) (k e : Nat) (p : Pkt), keyOk k = true ∧ (seqr s k).exp = some e ∧ (seqr s k).early = [p] ∧ p.seq ≠ e ∧ 0 < seqAhead e p.seq ∧ seqAhead e p.seq < 32768 ∧ seqWaiting s k = [] ∧ (seqr s k).gap ≠ 0 ∧ (seqr s k).gap + fget s NOC_CFG_REORDER_TO 0 ≤ s.time.edges + 1 ∧ itemOpen s k = false) ∧
    (∃ (s : State) (st : Nat) (q : Req), hasAgent st = true ∧ (stop s st).reqs = [q] ∧ q.timedOut = false ∧ q.tick + fget s NOC_CFG_REQ_TO 0 ≤ s.time.edges) ∧
    (∃ (s : State) (st ddev dstop code : Nat) (l : List Word), hasAgent st = true ∧ hasAgent dstop = true ∧ (smGet 0 s.env.tele st = 0 ∨ smGet 0 s.env.tele st + 1024 ≤ s.time.edges + 1) ∧ bypassed s st = false ∧ stopFenced s st = false) ∧
    (∃ (s : State) (st ddev dstop code : Nat) (l : List Word), hasAgent st = true ∧ hasAgent dstop = true ∧ 0 < smGet 0 s.env.tele st ∧ s.time.edges + 1 < smGet 0 s.env.tele st + 1024) := by
  refine ⟨⟨{ State.reset with noc := { seqr := [(0, { exp := some 65535, early := [strPkt 65535] })] } }, 0, 65535, strPkt 65535, 1, by decide +kernel, by decide +kernel, by decide +kernel, by decide +kernel, by decide +kernel, by decide +kernel, by decide +kernel, by decide +kernel, by decide +kernel, by decide +kernel, by decide +kernel, by decide +kernel, by decide +kernel, by decide +kernel⟩,
    ⟨{ State.reset with noc := { seqr := [(0, { exp := some 3, early := [strPkt 4] })] } }, 0, 3, by decide +kernel, by decide +kernel, by decide +kernel⟩,
    ⟨{ State.reset with time := { State.reset.time with edges := 255 }, noc := { seqr := [(0, { exp := some 65535, early := [strPkt 1], gap := 1 })] } }, 0, 65535, strPkt 1, by decide +kernel, by decide +kernel, by decide +kernel, by decide +kernel, by decide +kernel, by decide +kernel, by decide +kernel, by decide +kernel, by decide +kernel, by decide +kernel⟩,
    ⟨{ State.reset with time := { State.reset.time with edges := 65535 }, noc := { stops := [(138, { reqs := [⟨4095, 0, false⟩] })] } }, 138, ⟨4095, 0, false⟩, by decide +kernel, by decide +kernel, by decide +kernel, by decide +kernel⟩,
    ⟨State.reset, 138, 1023, 0, 65535, [1, 2, 3, 4], by decide +kernel, by decide +kernel, by decide +kernel, by decide +kernel, by decide +kernel⟩,
    ⟨{ State.reset with time := { State.reset.time with edges := 1023 }, env := { tele := [(138, 1)] } }, 138, 0, 0, 0, [], by decide +kernel, by decide +kernel, by decide +kernel, by decide +kernel⟩⟩

theorem witness_StreamsAndRouters_RouterModes :
    (∃ (s : State) (st m : Nat), st < 100 ∧ (m = 1 ∨ m = 2) ∧ rtrState s st = rtNORMAL ∧ ringBusy s st = false ∧ (∀ b, b < 100 → (bunit s (200 + b)).run = false)) ∧
    (∃ (s : State) (st : Nat), st < 100 ∧ rtrState s st = rtNORMAL ∧ ringBusy s st = true ∧ (∀ b, b < 100 → (bunit s (200 + b)).run = false)) ∧
    (∃ (s : State) (st : Nat), st < 100 ∧ rtrState s st = rtBYPASS ∧ (∀ b, b < 100 → (bunit s (200 + b)).run = false)) ∧
    (∃ (s : State) (st : Nat), st < 100 ∧ rtrState s st = rtENTERING ∧ lanesEmpty s st = true) ∧
    (∃ (s : State) (st : Nat), st < 100 ∧ lanesEmpty s st = false) ∧
    (∃ (s : State) (st : Nat), st < 100 ∧ rtrState s st = rtLEAVING) ∧
    (∃ (s : State) (st : Nat), st < 100 ∧ ringBusy s st = true) ∧
    (∃ (s : State) (st : Nat), st < 100 ∧ ringBusy s st = false ∧ cabState s st = stEMPTY) ∧
    (∃ (s : State) (st : Nat), st < 100 ∧ rtrState s st = rtTEST ∧ needsRouter s st = true ∧ (bunit s (200 + st)).run = false) ∧
    (∃ (s : State) (st : Nat), st < 100 ∧ needsRouter s st = false) := by
  refine ⟨⟨State.reset, 99, 2, by decide +kernel, by decide +kernel, by decide +kernel, by decide +kernel, by decide +kernel⟩,
    ⟨rg [(NOC_RING_STAT_BYPASS_STOP, 0, 5)], 0, by decide +kernel, by decide +kernel, by decide +kernel, by decide +kernel⟩,
    ⟨rg [(NOC_RTR_CTL_STATE, 99, rtBYPASS)], 99, by decide +kernel, by decide +kernel, by decide +kernel⟩,
    ⟨rg [(NOC_RTR_CTL_STATE, 99, rtENTERING)], 99, by decide +kernel, by decide +kernel, by decide +kernel⟩,
    ⟨laneSt [] (laneKey 0 99 1 5) (flitTo 1 []), 99, by decide +kernel, by decide +kernel⟩,
    ⟨rg [(NOC_RTR_CTL_STATE, 99, rtLEAVING)], 99, by decide +kernel, by decide +kernel⟩,
    ⟨rg [(NOC_RING_STAT_BYPASS_STOP, 0, 5)], 0, by decide +kernel, by decide +kernel⟩,
    ⟨State.reset, 99, by decide +kernel, by decide +kernel, by decide +kernel⟩,
    ⟨laneSt [(NOC_RTR_CTL_STATE, 99, rtTEST)] (laneKey 0 99 1 0) (flitTo 99 []), 99, by decide +kernel, by decide +kernel, by decide +kernel, by decide +kernel⟩,
    ⟨State.reset, 99, by decide +kernel, by decide +kernel⟩⟩

/-- A converter link of block 7 in a state. -/
def linkSt (st : Nat) : State := rg [(JPT_LINK_STAT_STATE, 31, st)]

/-- A written JPT_LINK_CFG with one lane, one channel, 16 bits a sample and frames of two bytes. -/
def linkCfg : Nat :=
  2 ^ JPT_LINK_CFG_L.lo + 2 ^ JPT_LINK_CFG_M.lo + 15 * 2 ^ JPT_LINK_CFG_NP.lo + 16 * 2 ^ JPT_LINK_CFG_N.lo + 2 ^ JPT_LINK_CFG_FM1.lo +
    31 * 2 ^ JPT_LINK_CFG_KEM1.lo

/-- Receive path 1 of block 7 is on, with links in DATA. -/
def rxSt : State :=
  { rg [(JPT_PATH_CFG_EN, 29, 1), (JPT_PATH_CFG_QEN, 29, 1), (JPT_LINK_STAT_STATE, 28, jDATA), (JPT_LINK_STAT_STATE, 29, jDATA),
      (JPT_LINK_CFG_NP, 28, 15), (JPT_LINK_CFG_N, 28, 16), (JPT_LINK_CFG_NP, 29, 15), (JPT_LINK_CFG_N, 29, 16),
      (JPT_PATH_CFG_ILENM1, 29, 63), (JPT_PATH_CFG_SPT, 29, 400)] with
    jpt := { ch := [(30, { wr := true }), (31, { wr := true })] } }

/-- An item of one word with a tick. -/
def txItem : FItem := { item1 with tag := 255 }

/-- Transmit path 1 of block 7 is on, with a word in each of its two FIFOs. -/
def txSt : State :=
  { rg [(JPT_PATH_CFG_EN, 31, 1), (JPT_PATH_CFG_QEN, 31, 1), (JPT_LINK_STAT_STATE, 30, jDATA), (JPT_LINK_STAT_STATE, 31, jDATA),
      (JPT_PATH_CFG_DEST, 31, 1), (SYS_BOOT_STAT_PHASE, 0, 3), (JPT_LINK_CFG_NP, 30, 15), (JPT_LINK_CFG_N, 30, 16), (JPT_LINK_CFG_NP, 31, 15), (JPT_LINK_CFG_N, 31, 16)] with
    fifo := [(convFifo 7 6, { r := [txItem] }), (convFifo 7 7, { r := [txItem] })] }

/-- Four samples of eight converters, all 5, with what the words of the path hold then. -/
def rxSmp : List (List Nat) := List.replicate 4 (List.replicate 8 5)
def rxX (_ : Nat) : Nat × Nat := (5, 5)
def rxP (v : Nat) : Nat :=
  v % 2 ^ (fget rxSt JPT_LINK_CFG_NP (pathLink rxSt 7 1) + 1) /
    2 ^ (fget rxSt JPT_LINK_CFG_NP (pathLink rxSt 7 1) + 1 - fget rxSt JPT_LINK_CFG_N (pathLink rxSt 7 1)) * 2 ^ (16 - fget rxSt JPT_LINK_CFG_N (pathLink rxSt 7 1))
def rxW (n : Nat) : Word :=
  BitVec.ofNat 64 (rxP (rxX n).1 + (if fgetB rxSt JPT_PATH_CFG_QEN (4 * 7 + 1) then rxP (rxX n).2 else 0) * 2 ^ 16 +
    rxP (rxX (n + 1)).1 * 2 ^ 32 + (if fgetB rxSt JPT_PATH_CFG_QEN (4 * 7 + 1) then rxP (rxX (n + 1)).2 else 0) * 2 ^ 48)

theorem rxC : (List.replicate 8 5)[fget rxSt JPT_PATH_CFG_CI (4 * 7 + 1)]? = some 5 ∧
    (List.replicate 8 5)[fget rxSt JPT_PATH_CFG_CQ (4 * 7 + 1)]? = some 5 := by decide +kernel

theorem witness_ConverterLinks_ConverterLinkStates :
    (∃ (s : State) (j n : Nat), j < 8 ∧ n < 4 ∧ jState s (4 * j + n) = jCDR) ∧
    (∃ (s : State) (j n : Nat), j < 8 ∧ n < 4 ∧ jState s (4 * j + n) ≠ jCDR) ∧
    (∃ (s : State) (j n : Nat), j < 8 ∧ n < 4 ∧ jState s (4 * j + n) = jBLOCK) ∧
    (∃ (s : State) (j n : Nat), j < 8 ∧ n < 4 ∧ jState s (4 * j + n) ≠ jBLOCK) ∧
    (∃ (s : State) (j n : Nat) (a : Option Nat) (skew : Nat), j < 8 ∧ n < 4 ∧ jState s (4 * j + n) = jFRAME) ∧
    (∃ (s : State) (j n : Nat) (a : Option Nat) (skew : Nat), j < 8 ∧ n < 4 ∧ jState s (4 * j + n) ≠ jFRAME) ∧
    (∃ (s : State) (j n : Nat) (lat : Nat), j < 8 ∧ n < 4 ∧ jState s (4 * j + n) = jWAIT ∧ fget s JPT_LINK_CFG_SUB1 (4 * j + n) = 0 ∧ lat < 2 ^ 20) ∧
    (∃ (s : State) (j n : Nat) (lat : Nat), j < 8 ∧ n < 4 ∧ jState s (4 * j + n) = jWAIT ∧ fget s JPT_LINK_CFG_SUB1 (4 * j + n) = 1 ∧ fgetB s JPT_SYSREF_ALIGNED j = false) ∧
    (∃ (s : State) (j n : Nat), j < 8 ∧ n < 4 ∧ bringOut s (4 * j + n) = true ∧ 1 ≤ jState s (4 * j + n) ∧ jState s (4 * j + n) ≤ 4) ∧
    (∃ (s : State) (j n : Nat), j < 8 ∧ n < 4 ∧ bringOut s (4 * j + n) = false) ∧
    (∃ (s : State) (j n : Nat), j < 8 ∧ n < 4 ∧ jState s (4 * j + n) = jFAILED) ∧
    (∃ (s : State) (j n : Nat), j < 8 ∧ n < 4 ∧ jState s (4 * j + n) ≠ jFAILED) ∧
    (∃ (s : State) (j n : Nat) (l a : Nat), j < 8 ∧ n < 4 ∧ l < 8 ∧ (linkLanes s j n).idxOf? l = some a ∧ jState s (4 * j + n) = jDATA) ∧
    (∃ (s : State) (j n : Nat) (l : Nat), j < 8 ∧ n < 4 ∧ l < 8 ∧ l ∉ linkLanes s j n) ∧
    (∃ (s : State) (j n : Nat) (v : Nat), j < 8 ∧ n < 4 ∧ jState s (4 * j + n) ≠ jOFF ∧ fsame s jptCfgFlds (4 * j + n) v = true ∧ fldOf JPT_LINK_CFG_REFUSED v = 0) := by
  refine ⟨⟨linkSt jCDR, 7, 3, by decide +kernel, by decide +kernel, by decide +kernel⟩,
    ⟨State.reset, 7, 3, by decide +kernel, by decide +kernel, by decide +kernel⟩,
    ⟨linkSt jBLOCK, 7, 3, by decide +kernel, by decide +kernel, by decide +kernel⟩,
    ⟨State.reset, 7, 3, by decide +kernel, by decide +kernel, by decide +kernel⟩,
    ⟨linkSt jFRAME, 7, 3, none, 128, by decide +kernel, by decide +kernel, by decide +kernel⟩,
    ⟨State.reset, 7, 3, none, 0, by decide +kernel, by decide +kernel, by decide +kernel⟩,
    ⟨rg [(JPT_LINK_STAT_STATE, 31, jWAIT), (JPT_LINK_CFG_SUB1, 31, 0)], 7, 3, 0xFFFFF, by decide +kernel, by decide +kernel, by decide +kernel, by decide +kernel, by decide +kernel⟩,
    ⟨rg [(JPT_LINK_STAT_STATE, 31, jWAIT), (JPT_LINK_CFG_SUB1, 31, 1)], 7, 3, 0, by decide +kernel, by decide +kernel, by decide +kernel, by decide +kernel, by decide +kernel⟩,
    ⟨{ linkSt 4 with time := { State.reset.time with now := msCycles (fget (linkSt 4) JPT_LINK_REL_BRINGUP_TO 31) } }, 7, 3, by decide +kernel, by decide +kernel, decide_eq_true (Nat.le_of_eq (Nat.zero_add _)), by decide +kernel, by decide +kernel⟩,
    ⟨{ State.reset with jpt := { bringAt := [(31, 1)] } }, 7, 3, by decide +kernel, by decide +kernel, not_passed rfl⟩,
    ⟨linkSt jFAILED, 7, 3, by decide +kernel, by decide +kernel, by decide +kernel⟩,
    ⟨linkSt jDATA, 7, 3, by decide +kernel, by decide +kernel, by decide +kernel⟩,
    ⟨linkSt jDATA, 7, 3, 7, 3, by decide +kernel, by decide +kernel, by decide +kernel, by decide +kernel, by decide +kernel⟩,
    ⟨linkSt jDATA, 7, 3, 3, by decide +kernel, by decide +kernel, by decide +kernel, by decide +kernel⟩,
    ⟨linkSt jDATA, 7, 3, jptCfgFlds.foldl (fun v f => v + fget State.reset f 31 * 2 ^ f.lo) 0, by decide +kernel, by decide +kernel, by decide +kernel, by decide +kernel, by decide +kernel⟩⟩

theorem witness_ConverterLinks_ConverterLinkEnable :
    (∃ (s : State) (j n v : Nat), j < 8 ∧ n < 4 ∧ jState s (4 * j + n) = jOFF ∧ fldOf JPT_LINK_CFG_REFUSED v = 0 ∧ jptOptionsOk (fstore s jptCfgFlds (4 * j + n) v) j n = true ∧ jptFifoModeOk (fstore s jptCfgFlds (4 * j + n) v) j n = true) ∧
    (∃ (s : State) (j n v : Nat), j < 8 ∧ n < 4 ∧ jState s (4 * j + n) = jOFF ∧ fldOf JPT_LINK_CFG_NP v ≠ 11 ∧ fldOf JPT_LINK_CFG_NP v ≠ 15 ∧ fldOf JPT_LINK_CFG_REFUSED v = 0) ∧
    (∃ (s : State) (j n v : Nat), j < 8 ∧ n < 4 ∧ jState s (4 * j + n) ≠ jOFF ∧ fsame s jptCfgFlds (4 * j + n) v = false ∧ fldOf JPT_LINK_CFG_REFUSED v = 0) := by
  refine ⟨⟨State.reset, 7, 3, linkCfg, by decide +kernel, by decide +kernel, by decide +kernel, by decide +kernel, by decide +kernel, by decide +kernel⟩,
    ⟨State.reset, 7, 3, 0, by decide +kernel, by decide +kernel, by decide +kernel, by decide +kernel, by decide +kernel, by decide +kernel⟩,
    ⟨linkSt jDATA, 7, 3, linkCfg, by decide +kernel, by decide +kernel, by decide +kernel, by decide +kernel, by decide +kernel⟩⟩

theorem witness_ConverterLinks_SysrefEdges :
    (∃ (s : State) (j : Nat), j < 8) ∧
    (∃ (s : State) (j cyc per : Nat), j < 8 ∧ smGet false s.jpt.armed j = true) ∧
    (∃ (s : State) (j cyc per b : Nat) (err : Int), j < 8 ∧ smGet false s.jpt.armed j = false ∧ fgetB s JPT_SYSREF_ALIGNED j = true ∧ 0 < (smGet (0, 0) s.jpt.lmfc j).2 ∧ (∃ k : Int, (cyc : Int) = (smGet (0, 0) s.jpt.lmfc j).1 + k * (smGet (0, 0) s.jpt.lmfc j).2 + err) ∧ 2 * err.natAbs < (smGet (0, 0) s.jpt.lmfc j).2 ∧ b = fget s JPT_SYSREF_TOL j) ∧
    (∃ (s : State) (j n : Nat), (jState s (4 * j + n) = jOFF ∨ jState s (4 * j + n) = jFAILED)) ∧
    (∃ (s : State) (j n : Nat), jState s (4 * j + n) = jDATA) := by
  refine ⟨⟨State.reset, 7, by decide +kernel⟩,
    ⟨{ State.reset with jpt := { armed := [(7, true)] } }, 7, 5, 3, by decide +kernel, by decide +kernel⟩,
    ⟨{ rg [(JPT_SYSREF_ALIGNED, 7, 1), (JPT_SYSREF_TOL, 7, 3)] with jpt := { lmfc := [(7, 100, 16)] } }, 7, 136, 16, 3, 4, by decide +kernel, by decide +kernel, by decide +kernel, by decide +kernel, ⟨2, by decide +kernel⟩, by decide +kernel, by decide +kernel⟩,
    ⟨State.reset, 7, 3, by decide +kernel⟩,
    ⟨linkSt jDATA, 7, 3, by decide +kernel⟩⟩

theorem witness_ConverterSamples_ReceiveSamples :
    (∃ (s : State) (j p : Nat) (smp : List (List Nat)) (x : Nat → Nat × Nat) (w : Nat → Word) (part : Nat → Nat), j < 8 ∧ p < 2 ∧ fgetB s JPT_PATH_CFG_EN (4 * j + p) = true ∧ jState s (pathLink s j p) = jDATA ∧ smp.length = 4 ∧ (∀ n : Nat, n < 4 → ∃ v ∈ smp[n]?, v[fget s JPT_PATH_CFG_CI (4 * j + p)]? = some (x n).1 ∧ (fgetB s JPT_PATH_CFG_QEN (4 * j + p) = true → v[fget s JPT_PATH_CFG_CQ (4 * j + p)]? = some (x n).2)) ∧ fget s JPT_LINK_CFG_N (pathLink s j p) ≤ fget s JPT_LINK_CFG_NP (pathLink s j p) + 1 ∧ fget s JPT_LINK_CFG_NP (pathLink s j p) ≤ 15 ∧ (∀ v : Nat, part v = v % 2 ^ (fget s JPT_LINK_CFG_NP (pathLink s j p) + 1) / 2 ^ (fget s JPT_LINK_CFG_NP (pathLink s j p) + 1 - fget s JPT_LINK_CFG_N (pathLink s j p)) * 2 ^ (16 - fget s JPT_LINK_CFG_N (pathLink s j p))) ∧ (∀ n : Nat, w n = BitVec.ofNat 64 (part (x n).1 + (if fgetB s JPT_PATH_CFG_QEN (4 * j + p) then part (x n).2 else 0) * 2 ^ 16 + part (x (n + 1)).1 * 2 ^ 32 + (if fgetB s JPT_PATH_CFG_QEN (4 * j + p) then part (x (n + 1)).2 else 0) * 2 ^ 48)) ∧ 0 < fget s JPT_PATH_CFG_ILENM1 (4 * j + p) ∧ (jptPath s (4 * j + p)).cnt + 4 ≠ fget s JPT_PATH_CFG_SPT (4 * j + p) ∧ (∀ k : Nat, k = 2 * p ∨ k = 2 * p + 1 → (jptCh s (4 * j + k)).wr = true ∧ (jptCh s (4 * j + k)).buf = [] ∧ (jptCh s (4 * j + k)).ovr = false ∧ (jptCh s (4 * j + k)).pos = 0 ∧ (fifo s (convFifo j k)).wopen = none ∧ (fifo s (convFifo j k)).skip = false ∧ (fifo s (convFifo j k)).disc = false ∧ fifoWReady (fifo s (convFifo j k)) true (fget s JPT_PATH_CFG_ILENM1 (4 * j + p)) = true)) ∧
    (∃ (s : State) (j p : Nat) (smp : List (List Nat)), j < 8 ∧ p < 2 ∧ jState s (pathLink s j p) ≠ jDATA) := by
  refine ⟨⟨rxSt, 7, 1, rxSmp, rxX, rxW, rxP, by decide +kernel, by decide +kernel, by decide +kernel, by decide +kernel, by decide +kernel, fun n hn => ⟨List.replicate 8 5, (all1 (P := fun n => rxSmp[n]? = some (List.replicate 8 5)) (by decide) n hn), rxC.1, fun _ => rxC.2⟩, by decide +kernel, by decide +kernel, fun _ => rfl, fun _ => rfl, by decide +kernel, by decide +kernel, by rintro k (rfl | rfl) <;> decide +kernel⟩,
    ⟨State.reset, 7, 1, [], by decide +kernel, by decide +kernel, by decide +kernel⟩⟩

theorem witness_ConverterSamples_TransmitSamples :
    (∃ (s : State) (j p l h c : Nat) (smp : List (List Nat)), j < 8 ∧ p < 2 ∧ jState s (pathLink s j p) ≠ jDATA ∧ l < 8 ∧ jState s (4 * j) ≠ jOFF ∧ jState s (4 * j + 1) = jOFF ∧ linkLanes s j 0 = [l]) ∧
    (∃ (s : State) (j p : Nat) (e0 e1 : Code), j < 8 ∧ p < 2 ∧ fgetB s JPT_PATH_CFG_EN (4 * j + (2 + p)) = true ∧ jState s (pathLink s j (2 + p)) = jDATA ∧ txSquelched s j (2 + p) = true) ∧
    (∃ (s : State) (j p : Nat) (e0 e1 : Code), j < 8 ∧ p < 2 ∧ fgetB s JPT_PATH_CFG_EN (4 * j + (2 + p)) = true ∧ jState s (pathLink s j (2 + p)) = jFAULTED) ∧
    (∃ (s : State) (j p tg : Nat) (i : Nat → FItem) (r : Nat → List FItem) (c : Nat → Code) (l : Nat → List Code) (d : Nat → Word), j < 8 ∧ p < 2 ∧ fgetB s JPT_PATH_CFG_EN (4 * j + (2 + p)) = true ∧ jState s (pathLink s j (2 + p)) = jDATA ∧ txSquelched s j (2 + p) = false ∧ fgetB s JPT_PATH_CFG_QEN (4 * j + (2 + p)) = true ∧ fget s JPT_LINK_CFG_NP (pathLink s j (2 + p)) = 15 ∧ fget s JPT_LINK_CFG_N (pathLink s j (2 + p)) = 16 ∧ txDue s (4 * j + (2 + p)) = (tg, 0) ∧ fgetB s FLT_INJ_ACTIVE (36 + j / 2) = false ∧ (∀ k : Nat, k = 2 * p ∨ k = 2 * p + 1 → (fifo s (convFifo j (4 + k))).cur = none ∧ (fifo s (convFifo j (4 + k))).r = i k :: r k ∧ (i k).words = c k :: l k ∧ (i k).poison = false ∧ (i k).tag = tg ∧ fget s FIFO_MODE_ORDER (convFifo j (4 + k)) = 0 ∧ eccJudge (c k) = .clean (d k) ∧ (txCh s j k).pos = 0)) ∧
    (∃ (s : State) (j p : Nat) (e0 e1 : Code), j < 8 ∧ p < 2 ∧ jState s (pathLink s j (2 + p)) ≠ jDATA ∧ jState s (pathLink s j (2 + p)) ≠ jFAULTED) := by
  refine ⟨⟨rg [(JPT_LINK_STAT_STATE, 28, jCDR), (JPT_LINK_CFG_L, 28, 1)], 7, 1, 0, 1, 1, [], by decide +kernel, by decide +kernel, by decide +kernel, by decide +kernel, by decide +kernel, by decide +kernel, by decide +kernel⟩,
    ⟨{ txSt with regs := (fset txSt FLT_STATE_STATE 0 1).regs }, 7, 1, 0, 0, by decide +kernel, by decide +kernel, by decide +kernel, by decide +kernel, by decide +kernel⟩,
    ⟨rg [(JPT_PATH_CFG_EN, 31, 1), (JPT_LINK_STAT_STATE, 30, jFAULTED), (JPT_LINK_STAT_STATE, 31, jFAULTED)], 7, 1, 0, 0, by decide +kernel, by decide +kernel, by decide +kernel, by decide +kernel⟩,
    ⟨txSt, 7, 1, 255, fun _ => txItem, fun _ => [], fun _ => eccEnc 7, fun _ => [], fun _ => 7, by decide +kernel, by decide +kernel, by decide +kernel, by decide +kernel, by decide +kernel, by decide +kernel, by decide +kernel, by decide +kernel, by decide +kernel, by decide +kernel, by rintro k (rfl | rfl) <;> decide +kernel⟩,
    ⟨State.reset, 7, 1, 0, 0, by decide +kernel, by decide +kernel, by decide +kernel, by decide +kernel⟩⟩

theorem witness_ClientPorts_ClientPortLinks :
    (∃ (s : State) (n v : Nat), n < 8 ∧ nbits v 62 1 = 0 ∧ modeLanes (nbits v 59 3) ≠ 0 ∧ n % modeLanes (nbits v 59 3) = 0 ∧ (∀ o, o < 8 → o ≠ n → fgetB s CPT_PORT_CFG_EN o = false)) ∧
    (∃ (s : State) (n v : Nat), n < 8 ∧ nbits v 62 1 = 0 ∧ 6 ≤ nbits v 59 3) ∧
    (∃ (s : State) (n : Nat), n < 8 ∧ fgetB s CPT_PORT_CFG_EN n = true ∧ fgetB s CPT_PORT_CFG_UP n = false) ∧
    (∃ (s : State) (n : Nat), n < 8 ∧ fgetB s CPT_PORT_CFG_EN n = false) := by
  refine ⟨⟨State.reset, 7, 4 * 2 ^ 59, by decide +kernel, by decide +kernel, by decide +kernel, by decide +kernel, by decide +kernel⟩,
    ⟨State.reset, 7, 6 * 2 ^ 59, by decide +kernel, by decide +kernel, by decide +kernel⟩,
    ⟨rg [(CPT_PORT_CFG_EN, 7, 1)], 7, by decide +kernel, by decide +kernel, by decide +kernel⟩,
    ⟨State.reset, 7, by decide +kernel, by decide +kernel⟩⟩

theorem witness_ClientPorts_ClientFrames :
    (∃ (s : State) (n : Nat) (f : TxFrame) (r : List TxFrame), n < 8 ∧ (cptPort s n).tx = f :: r) ∧
    (∃ (s : State) (n fec : Nat) (l : List Byte) (e : Bool), n < 8 ∧ fgetB s CPT_PORT_CFG_UP n = true) ∧
    (∃ (s : State) (n : Nat) (f : TxFrame) (r : List TxFrame), n < 8 ∧ portSends s n = true ∧ (cptPort s n).ctl = f :: r ∧ ptpOf f.data = none) ∧
    (∃ (s : State) (n : Nat) (f : TxFrame) (r : List TxFrame), n < 8 ∧ portSends s n = true ∧ (cptPort s n).ctl = [] ∧ (cptPort s n).tx = f :: r ∧ ptpOf f.data = none ∧ (f.counted = true → tapFull s 1 = false)) ∧
    (∃ (s : State) (n fec : Nat) (l : List Byte) (e : Bool), n < 8 ∧ fgetB s CPT_PORT_CFG_UP n = false) ∧
    (∃ (s : State) (n : Nat), n < 8 ∧ fget s FLT_STATE_STATE 0 ≠ 0) ∧
    (∃ (s : State) (k : Nat), (fgetB s CPT_SYNCE_EN k = false ∨ fgetB s CPT_PORT_CFG_UP (fget s CPT_SYNCE_PORT k) = false)) ∧
    (∃ (s : State) (k : Nat), fgetB s CPT_SYNCE_EN k = true ∧ fgetB s CPT_PORT_CFG_UP (fget s CPT_SYNCE_PORT k) = true) := by
  refine ⟨⟨{ State.reset with cpt := [(7, { tx := [{ data := List.replicate 60 0 }] })] }, 7, { data := List.replicate 60 0 }, [], by decide +kernel, by decide +kernel⟩,
    ⟨rg [(CPT_PORT_CFG_UP, 7, 1)], 7, 0, [], true, by decide +kernel, by decide +kernel⟩,
    ⟨{ rg [(CPT_PORT_CFG_UP, 7, 1)] with cpt := [(7, { ctl := [{ data := List.replicate 60 0 }] })] }, 7, { data := List.replicate 60 0 }, [], by decide +kernel, by decide +kernel, by decide +kernel, by decide +kernel⟩,
    ⟨{ rg [(CPT_PORT_CFG_UP, 7, 1)] with cpt := [(7, { tx := [{ data := List.replicate 60 0 }] })] }, 7, { data := List.replicate 60 0 }, [], by decide +kernel, by decide +kernel, by decide +kernel, by decide +kernel, by decide +kernel, by decide +kernel⟩,
    ⟨State.reset, 7, 0, [], false, by decide +kernel, by decide +kernel⟩,
    ⟨rg [(FLT_STATE_STATE, 0, 1)], 7, by decide +kernel, by decide +kernel⟩,
    ⟨State.reset, 1, by decide +kernel⟩,
    ⟨rg [(CPT_SYNCE_EN, 1, 1), (CPT_SYNCE_PORT, 1, 7), (CPT_PORT_CFG_UP, 7, 1)], 1, by decide +kernel, by decide +kernel⟩⟩

theorem witness_ClientPorts_TimeOfDay :
    (∃ (s : State) (v : Nat), v < 2 ^ 64) ∧
    (∃ (s : State) (n a q : Nat) (r : List (Nat × Nat)), n < 8 ∧ (cptPort s n).stamps = (a, q) :: r) ∧
    (∃ (s : State) (n : Nat), n < 8 ∧ (cptPort s n).stamps = []) := by
  refine ⟨⟨State.reset, 0xFFFFFFFFFFFFFFFF, by decide +kernel⟩,
    ⟨{ State.reset with cpt := [(7, { stamps := [(5, 65535)] })] }, 7, 5, 65535, [], by decide +kernel, by decide +kernel⟩,
    ⟨State.reset, 7, by decide +kernel, by decide +kernel⟩⟩

/-- A valid entry for frames of port 7 without tags: action 0, flow 3, tenant 0. -/
def entP7 : Nat := 2 ^ 125 + 7 * 2 ^ 43 * 2 ^ 76 + 3 * 2 ^ 62

/-- The first of its slots. -/
def slotP7 : Nat := (lexSlots (entTK entP7)).headD 0

/-- A state whose lexicon holds that entry only, with `mir` waiting. -/
def lexSt (mir : List Mirror) : State :=
  { rg [(LEX_DATA_HI_DATA, 0, entP7 / 2 ^ 64), (LEX_DATA_LO_DATA, 0, entP7 % 2 ^ 64), (LEX_PORT_CFG_KTYPE, 7, 0)] with
    lex := { mem := [(2 * slotP7, eccEnc (BitVec.ofNat 64 entP7)), (2 * slotP7 + 1, eccEnc (BitVec.ofNat 64 (entP7 / 2 ^ 64)))],
             mir := mir }
    cpt := [(7, { rx := [⟨List.replicate 64 0, 0, none⟩] })] }

theorem clean00 : eccJudge (0 : Code) = .clean 0 := by decide

theorem slot_empty {s : State} {m : Nat} (h : lexCodes s.lex m = (0, 0)) : SlotHolds s m 0 :=
  ⟨0, 0, by rw [h]; exact clean00, by rw [h]; exact clean00, by decide⟩

theorem codesP7 : ∀ mir, lexCodes (lexSt mir).lex slotP7 =
    (eccEnc (BitVec.ofNat 64 entP7), eccEnc (BitVec.ofNat 64 (entP7 / 2 ^ 64))) := by
  intro mir; rfl

theorem cleanP7 : eccJudge (eccEnc (BitVec.ofNat 64 entP7)) = .clean (BitVec.ofNat 64 entP7) ∧
    eccJudge (eccEnc (BitVec.ofNat 64 (entP7 / 2 ^ 64))) = .clean (BitVec.ofNat 64 (entP7 / 2 ^ 64)) := by
  constructor <;> decide +kernel

theorem holdsP7 (mir : List Mirror) : SlotHolds (lexSt mir) slotP7 entP7 :=
  ⟨_, _, by rw [codesP7]; exact cleanP7.1, by rw [codesP7]; exact cleanP7.2, by decide +kernel⟩

theorem keyP7 (mir : List Mirror) : KeyAt (lexSt mir) (entTK entP7) slotP7 entP7 := by
  refine ⟨by decide +kernel, holdsP7 mir, ⟨by decide +kernel, rfl⟩, fun m hm hne => ⟨0, slot_empty ?_, by simp [EntryFor, entV, nbits]⟩⟩
  have h : ∀ m ∈ lexSlots (entTK entP7), m ≠ slotP7 → lexCodes (lexSt []).lex m = (0, 0) := by decide +kernel
  exact h m hm hne

theorem nowhereP7 : KeyNowhere (rg [(LEX_DATA_HI_DATA, 0, entP7 / 2 ^ 64), (LEX_DATA_LO_DATA, 0, entP7 % 2 ^ 64)]) (entTK entP7) :=
  fun m _ => ⟨0, slot_empty rfl, by simp [EntryFor, entV, nbits]⟩

theorem witness_Lexicon_LexiconCommands :
    (∃ (s : State) (loc : Nat) (l : Nat) (x : Nat), loc < 524288 ∧ fgetB s LEX_CMD_BUSY 0 = false ∧ fgetB s FLT_INJ_ACTIVE 41 = false ∧ KeyAt s (entTK (lexStaged s)) l x ∧ lexEntOk (lexStaged s) = true ∧ entTen (lexStaged s) = entTen x) ∧
    (∃ (s : State) (loc : Nat), loc < 524288 ∧ fgetB s LEX_CMD_BUSY 0 = false ∧ fgetB s FLT_INJ_ACTIVE 41 = false ∧ KeyNowhere s (entTK (lexStaged s)) ∧ lexEntOk (lexStaged s) = true ∧ (∃ m ∈ lexSlots (entTK (lexStaged s)), ∃ x, SlotHolds s m x ∧ entV x = false)) ∧
    (∃ (s : State) (loc : Nat) (e : Nat), loc < 524288 ∧ fgetB s LEX_CMD_BUSY 0 = false ∧ fgetB s FLT_INJ_ACTIVE 41 = false ∧ SlotHolds s loc e ∧ entV e = true) := by
  refine ⟨⟨lexSt [], 524287, slotP7, entP7, by decide +kernel, by decide +kernel, by decide +kernel, keyP7 [], by decide +kernel, by decide +kernel⟩,
    ⟨rg [(LEX_DATA_HI_DATA, 0, entP7 / 2 ^ 64), (LEX_DATA_LO_DATA, 0, entP7 % 2 ^ 64)], 0, by decide +kernel, by decide +kernel, by decide +kernel, nowhereP7, by decide +kernel, ⟨slotP7, by decide +kernel, 0, slot_empty rfl, by decide +kernel⟩⟩,
    ⟨lexSt [], slotP7, entP7, by decide +kernel, by decide +kernel, by decide +kernel, holdsP7 [], by decide +kernel⟩⟩

theorem witness_Lexicon_LexiconMirrors :
    (∃ (s : State) (i v : Nat), i < 24 ∧ nbits v 34 12 = fget s LEX_PORT_CFG_DTENANT i) ∧
    (∃ (s : State) (i v : Nat), i < 25 ∧ nbits v 34 12 ≠ fget s LEX_PORT_CFG_DTENANT i) ∧
    (∃ (s : State) (m : Mirror) (r : List Mirror) (l x : Nat), s.lex.mir = m :: r ∧ m.st = 1 ∧ m.kind = 0 ∧ m.op = 3 ∧ KeyAt s (entTK m.val) l x ∧ fgetB s FLT_INJ_ACTIVE 41 = false) ∧
    (∃ (s : State) (m : Mirror) (r : List Mirror) (c : Instr), s.lex.mir = m :: r ∧ m.kind = 0 ∧ m.since + Config.aclkKHz < s.time.now ∧ (c = .mirrorTimeout ∨ c = .mirrorConfirm ∧ m.st = 1)) ∧
    (∃ (s : State) (m : Mirror) (r : List Mirror), s.lex.mir = m :: r ∧ m.kind = 0) ∧
    (∃ (s : State), s.lex.mir = []) ∧
    (∃ (s : State) (m : Mirror) (r : List Mirror), s.lex.mir = m :: r ∧ m.st = 0 ∧ m.kind = 0 ∧ audUsed s < 58000) ∧
    (∃ (s : State) (m : Mirror) (r : List Mirror), s.lex.mir = m :: r ∧ m.st = 0 ∧ m.kind = 0 ∧ 65472 ≤ audUsed s) := by
  refine ⟨⟨State.reset, 23, 0, by decide +kernel, by decide +kernel⟩,
    ⟨State.reset, 24, 2 ^ 34, by decide +kernel, by decide +kernel⟩,
    ⟨lexSt [{ kind := 0, op := 3, val := entP7, st := 1 }], { kind := 0, op := 3, val := entP7, st := 1 }, [], slotP7, entP7, by decide +kernel, by decide +kernel, by decide +kernel, by decide +kernel, keyP7 _, by decide +kernel⟩,
    ⟨{ lexSt [{ kind := 0, op := 1 }] with time := { State.reset.time with now := 1500001 } }, { kind := 0, op := 1 }, [], .mirrorTimeout, by decide +kernel, by decide +kernel, khz_lt, Or.inl rfl⟩,
    ⟨lexSt [{ kind := 0, op := 1 }], { kind := 0, op := 1 }, [], by decide +kernel, by decide +kernel⟩,
    ⟨State.reset, by decide +kernel⟩,
    ⟨lexSt [{ kind := 0, op := 1 }], { kind := 0, op := 1 }, [], by decide +kernel, by decide +kernel, by decide +kernel, by decide +kernel⟩,
    ⟨{ lexSt [{ kind := 0, op := 1 }] with bur := { trail := List.replicate 65472 ⟨0, 0, 0, 0, [], []⟩ } }, { kind := 0, op := 1 }, [], by decide +kernel, by decide +kernel, by decide +kernel, Nat.le_of_eq List.length_replicate.symm⟩⟩

theorem witness_Lexicon_LexiconLookups :
    (∃ (s : State) (i tk l e : Nat) (f : RxFrame) (r : List RxFrame), srcPick s = some i ∧ i < 8 ∧ qmCan s = true ∧ (cptPort s i).rx = f :: r ∧ lexKey (portType s i) i f.data 0 0 = some tk ∧ KeyAt s tk l e ∧ entAct e = 0 ∧ fgetB s FLT_INJ_ACTIVE 41 = false) ∧
    (∃ (s : State), qmCan s = false) ∧
    (∃ (s : State) (e : Nat), s.lex.pat < 524288 ∧ s.lex.pat % 64 ≠ 63 ∧ SlotHolds s s.lex.pat e ∧ fgetB s FLT_INJ_ACTIVE 41 = false) ∧
    (∃ (s : State) (row : Nat) (r : List Nat) (e : Nat → Nat), s.lex.want = row :: r ∧ row ∉ r ∧ smGet 0 s.lex.used (row / 4096) < 41 ∧ fgetB s FLT_INJ_ACTIVE 41 = false ∧ (∀ i : Nat, i < 64 → SlotHolds s (row * 64 + i) (e i))) ∧
    (∃ (s : State) (row : Nat) (r : List Nat), s.lex.want = row :: r ∧ 41 ≤ smGet 0 s.lex.used (row / 4096)) ∧
    (∃ (s : State), s.lex.want = []) := by
  refine ⟨⟨lexSt [], 7, entTK entP7, slotP7, entP7, ⟨List.replicate 64 0, 0, none⟩, [], by decide +kernel, by decide +kernel, by decide +kernel, by decide +kernel, by decide +kernel, keyP7 [], by decide +kernel, by decide +kernel⟩,
    ⟨{ State.reset with bur := { taps := [(0, List.replicate 256 ⟨0, 0, 0⟩)] } }, by decide +kernel⟩,
    ⟨State.reset, 0, by decide +kernel, by decide +kernel, slot_empty rfl, by decide +kernel⟩,
    ⟨{ State.reset with lex := { want := [8191], used := [(1, 40)] } }, 8191, [], fun _ => 0, by decide +kernel, by decide +kernel, by decide +kernel, by decide +kernel, fun _ _ => slot_empty rfl⟩,
    ⟨{ State.reset with lex := { want := [4095], used := [(0, 41)] } }, 4095, [], by decide +kernel, by decide +kernel⟩,
    ⟨State.reset, by decide +kernel⟩⟩

/-- The first word of a segment that is a whole frame of 8 bytes for flow 0. -/
def segHead : InWord := ⟨BitVec.ofNat 64 (8 * 2 ^ 50 + 8 * 2 ^ 22 + 2 ^ 21), true, false, 0⟩

/-- A budget word for link 15 and the next tick. -/
def budget15 : InWord := ⟨BitVec.ofNat 64 (2 ^ 56 + 15 * 2 ^ 52), true, false, 0⟩

/-- A frame of 64 bytes, all zero, in the pool's first cell. -/
def frame7 : QFrame := { data := List.replicate 64 0, tenant := 0, port := 0, tick := 0, counted := true, cells := [0] }

/-- A flow to client port 7 with that frame, credit and deficit. -/
def flow7 : Flow := { en := true, dtype := 1, did := 7, cls := 7, q := [frame7], cB := 256 * 64, deficit := 64 }

/-- Client port 7 is up, memory is there, and the flow's turn has come; `n` ticks have passed. -/
def sendSt (n : Nat) : State :=
  { rg [(CPT_PORT_CFG_UP, 7, 1), (GDM_STAT_USABLE, 0, 7168), (QMG_POOL_BASE_BASE, 0, 0x10000)] with
    qm := { flows := [(16383, flow7)], turn := [(turnKey ⟨1, 7⟩ 7 0, 16384)] },
    time := { State.reset.time with edges := n } }

theorem witness_QueuesAndSegments_SegmentsAndBudgets :
    (∃ (s : State) (k d : Nat) (h : InWord) (ws r : List InWord), k < 4 ∧ d < 4 ∧ qmCan s = true ∧ inlet s (8 * k + d) = h :: (ws ++ r) ∧ h.st = true ∧ h.pois = false ∧ (∀ x ∈ ws, x.pois = false ∧ x.dev = h.dev) ∧ nbits h.w.toNat 36 14 = 0 ∧ nbits h.w.toNat 21 1 = 1 ∧ nbits h.w.toNat 20 1 = 0 ∧ nbits h.w.toNat 50 14 = nbits h.w.toNat 22 14 ∧ ws.length = (nbits h.w.toNat 22 14 + 7) / 8 ∧ (qLink s (4 * k + d)).build = []) ∧
    (∃ (s : State) (k d : Nat), k < 4 ∧ d < 4 ∧ qmCan s = false) ∧
    (∃ (s : State) (k : Nat) (x : InWord) (r : List InWord), k < 4 ∧ inlet s (8 * k + 7) = x :: r ∧ x.pois = false ∧ nbits x.w.toNat 56 8 = (s.time.tick + 1) % 256 ∧ cycOfs s < fget s QMG_CFG_BUDGET_DL 0 ∧ (qLink s (nbits x.w.toNat 52 4)).fixed = false ∧ nbits x.w.toNat 52 4 / 4 = k) ∧
    (∃ (s : State) (k : Nat) (x : InWord) (r : List InWord), k < 4 ∧ inlet s (8 * k + 7) = x :: r ∧ (x.pois = true ∨ nbits x.w.toNat 56 8 ≠ (s.time.tick + 1) % 256 ∨ fget s QMG_CFG_BUDGET_DL 0 ≤ cycOfs s ∨ (qLink s (nbits x.w.toNat 52 4)).fixed = true ∨ nbits x.w.toNat 52 4 / 4 ≠ k)) ∧
    (∃ (s : State) (ue : List Nat), (s.qm.flows = [] ∨ ∀ l : Nat, l < 16 → (qLink s l).cand = none)) := by
  refine ⟨⟨{ State.reset with qm := { inlet := [(27, [segHead, ⟨5, false, false, 0⟩])] } }, 3, 3, segHead, [⟨5, false, false, 0⟩], [], by decide +kernel, by decide +kernel, by decide +kernel, by decide +kernel, by decide +kernel, by decide +kernel, by decide +kernel, by decide +kernel, by decide +kernel, by decide +kernel, by decide +kernel, by decide +kernel, by decide +kernel⟩,
    ⟨{ State.reset with bur := { taps := [(2, List.replicate 256 ⟨0, 0, 0⟩)] } }, 3, 3, by decide +kernel, by decide +kernel, by decide +kernel⟩,
    ⟨{ State.reset with qm := { inlet := [(31, [budget15])] } }, 3, budget15, [], by decide +kernel, by decide +kernel, by decide +kernel, by decide +kernel, by decide +kernel, by decide +kernel, by decide +kernel⟩,
    ⟨{ State.reset with time := { State.reset.time with tick := 1 }, qm := { inlet := [(7, [budget15])] } }, 0, budget15, [], by decide +kernel, by decide +kernel, by decide +kernel⟩,
    ⟨State.reset, [], Or.inl (by decide +kernel)⟩⟩

theorem witness_QueuesAndSegments_QueueManager :
    (∃ (s : State) (n f : Nat) (x : Flow) (h : QFrame) (r : List QFrame), n < 8 ∧ portSends s n = true ∧ s.qm.flows = [(f, x)] ∧ x.en = true ∧ x.faulted = false ∧ x.dtype = 1 ∧ x.did = n ∧ x.cls < 8 ∧ x.q = h :: r ∧ 256 * h.data.length ≤ x.cB ∧ h.data.length ≤ x.deficit ∧ smGet 0 s.qm.turn (turnKey ⟨1, n⟩ x.cls 0) = f + 1 ∧ x.maxage = 0 ∧ tapFull s 2 = false ∧ frameRead s h.cells 16 h.data.length = (s, ⟨h.data, false⟩)) ∧
    (∃ (s : State) (n : Nat) (ue : List Nat), n < 8 ∧ portSends s n = false ∧ (∀ f : Nat, aged s (flow s f) = false)) ∧
    (∃ (s : State) (n f : Nat) (x : Flow) (h : QFrame) (ue : List Nat), n < 8 ∧ portSends s n = false ∧ s.qm.flows = [(f, x)] ∧ flowFor ⟨1, n⟩ x = true ∧ x.q = [h] ∧ aged s x = true ∧ tapFull s 2 = false) ∧
    (∃ (s : State) (n : Nat) (ue : List Nat), n < 1024 ∧ s.qm.flows = []) ∧
    (∃ (s : State) (v : Nat), anyFlow s = false ∧ poolOk s (fget s QMG_POOL_BASE_BASE 0 * 2 ^ 20) (v % 2 ^ 26) = true) ∧
    (∃ (s : State) (v : Nat), anyFlow s = false ∧ poolOk s (v % 2 ^ 44 * 2 ^ 20) (fget s QMG_POOL_CELLS 0) = true) ∧
    (∃ (s : State) (b : Bool) (v : Nat), (anyFlow s = true ∨ poolOk s ((if b then v % 2 ^ 44 else fget s QMG_POOL_BASE_BASE 0) * 2 ^ 20) (if b then fget s QMG_POOL_CELLS 0 else v % 2 ^ 26) = false)) ∧
    (∃ (s : State) (l m : Nat) (en : Bool), l < 16 ∧ (en = false ∨ fget s QMG_CFG_BUDGET_DL 0 + 600 ≤ tickLen s)) ∧
    (∃ (s : State) (l m : Nat), l < 16 ∧ tickLen s < fget s QMG_CFG_BUDGET_DL 0 + 600) := by
  refine ⟨⟨sendSt 0, 7, 16383, flow7, frame7, [], by decide +kernel, by decide +kernel, by decide +kernel, by decide +kernel, by decide +kernel, by decide +kernel, by decide +kernel, by decide +kernel, by decide +kernel, by decide +kernel, by decide +kernel, by decide +kernel, by decide +kernel, by decide +kernel, rfl⟩,
    ⟨State.reset, 7, [], by decide +kernel, by decide +kernel, fun _ => rfl⟩,
    ⟨{ State.reset with time := { State.reset.time with edges := 2 }, qm := { flows := [(16383, { flow7 with maxage := 1 })] } }, 7, 16383, { flow7 with maxage := 1 }, frame7, [], by decide +kernel, by decide +kernel, by decide +kernel, by decide +kernel, by decide +kernel, by decide +kernel, by decide +kernel⟩,
    ⟨State.reset, 1023, [], by decide +kernel, by decide +kernel⟩,
    ⟨State.reset, 0, by decide +kernel, by decide +kernel⟩,
    ⟨State.reset, 0, by decide +kernel, by decide +kernel⟩,
    ⟨{ State.reset with qm := { flows := [(0, flow7)] } }, true, 0, by decide +kernel⟩,
    ⟨State.reset, 15, 0xFFFFFF, true, by decide +kernel, by decide +kernel⟩,
    ⟨rg [(QMG_CFG_BUDGET_DL, 0, 901)], 15, 0, by decide +kernel, by decide +kernel⟩⟩

theorem clean000 : eccJudge (0 : Code) = .clean 0 := by decide

/-- Line 0 with the piece on device 3 uncorrectable. -/
def badPiece : State :=
  { rg [(GDM_STAT_USABLE, 0, 1)] with
    gdr := { mem := [(gKey 0 3 0, 3), (gKey 0 3 1, 3), (gKey 0 3 2, 3), (gKey 0 3 3, 3)] } }

theorem bad3 : eccJudge (3 : Code) = .bad := by decide

theorem notPoison0 : eccJudge (0 : Code) ≠ .poison := by decide

/-- A partial write of a whole line leaves nothing of what stood there. -/
theorem whole_part {l b : List Byte} (h : l.length = b.length) (i : Nat) :
    b[i]? = if i < 0 ∨ 0 + b.length ≤ i then l[i]? else b[i - 0]? := by
  split
  · rename_i x
    have y : b.length ≤ i := by omega
    rw [List.getElem?_eq_none y, List.getElem?_eq_none (h ▸ y)]
  · rfl

/-- A descriptor from host memory to the last word of control SRAM. -/
def descHost : Nat := 2 ^ 255 + 2 * 2 ^ 245 + 2 ^ 242 + 8 * 2 ^ 192 + (sramBase + 0x3FFFF8) * 2 ^ 64

theorem witness_Memory_MemoryLines :
    (∃ (s : State) (line : Nat) (ws : List (Word × Bool)), line < usableLines s ∧ ws.length = 16 ∧ gFailed s = none ∧ fgetB s GDM_STAT_REBUILD 0 = false) ∧
    (∃ (s : State) (line : Nat) (x : Nat → Nat → Word), line < usableLines s ∧ gFailed s = none ∧ fgetB s FLT_INJ_ACTIVE 44 = false ∧ (∀ d w : Nat, d < 4 → w < 4 → eccJudge (gCode s line d w) = .clean (x d w))) ∧
    (∃ (s : State) (line b : Nat) (x : Nat → Nat → Word), line < usableLines s ∧ b < 4 ∧ gFailed s = none ∧ fgetB s FLT_INJ_ACTIVE 44 = false ∧ (∀ w : Nat, w < 4 → eccJudge (gCode s line b w) = .bad) ∧ (∀ d w : Nat, d < 5 → w < 4 → d ≠ b → eccJudge (gCode s line d w) = .clean (x d w))) ∧
    (∃ (s : State) (line b : Nat) (x : Nat → Nat → Word), line < usableLines s ∧ b < 4 ∧ gFailed s = some b ∧ fgetB s FLT_INJ_ACTIVE 44 = false ∧ (∀ w : Nat, w < 4 → eccJudge (gCode s line b w) ≠ .poison) ∧ (∀ d w : Nat, d < 5 → w < 4 → d ≠ b → eccJudge (gCode s line d w) = .clean (x d w))) ∧
    (∃ (s : State) (line off : Nat) (b : List Byte) (x : Nat → Nat → Word) (n : List Byte), line < usableLines s ∧ off + b.length ≤ 128 ∧ gFailed s = none ∧ fgetB s GDM_STAT_REBUILD 0 = false ∧ fgetB s FLT_INJ_ACTIVE 44 = false ∧ (∀ d w : Nat, d < 4 → w < 4 → eccJudge (gCode s line d w) = .clean (x d w)) ∧ (∀ i : Nat, n[i]? = if i < off ∨ off + b.length ≤ i then ([0, 1, 2, 3].flatMap (fun d => [0, 1, 2, 3].flatMap (fun w => leBytes 8 (x d w).toNat)))[i]? else b[i - off]?)) ∧
    (∃ (s : State) (line off : Nat) (ws : List (Word × Bool)) (b : List Byte) (p : Bool) (c : _), usableLines s ≤ line ∧ ws.length = 16 ∧ off + b.length ≤ 128 ∧ c ∈ [Instr.gddrLineRead line [] [], .gddrLineWrite line ws [], .gddrPartialWrite line off b p [] []]) := by
  refine ⟨⟨rg [(GDM_STAT_USABLE, 0, 7168)], 58720255, List.replicate 16 (5, true), by decide +kernel, by decide +kernel, by decide +kernel, by decide +kernel⟩,
    ⟨rg [(GDM_STAT_USABLE, 0, 7168)], 58720255, fun _ _ => 0, by decide +kernel, by decide +kernel, by decide +kernel, fun _ _ _ _ => clean000⟩,
    ⟨badPiece, 0, 3, fun _ _ => 0, by decide +kernel, by decide +kernel, by decide +kernel, by decide +kernel, fun w hw => (all1 (P := fun w => gCode badPiece 0 3 w = 3) (by decide +kernel) w hw).symm ▸ bad3, fun d w hd hw h => (all2 (P := fun d w => d ≠ 3 → gCode badPiece 0 d w = 0) (by decide +kernel) d w hd hw h).symm ▸ clean000⟩,
    ⟨rg [(GDM_STAT_USABLE, 0, 7168), (GDM_STAT_DEGRADED, 0, 1), (GDM_STAT_FAILED_DEV, 0, 3)], 58720255, 3, fun _ _ => 0, by decide +kernel, by decide +kernel, by decide +kernel, by decide +kernel, fun _ _ => notPoison0, fun _ _ _ _ _ => clean000⟩,
    ⟨rg [(GDM_STAT_USABLE, 0, 7168)], 58720255, 0, List.replicate 128 255, fun _ _ => 0, List.replicate 128 255, by decide +kernel, by decide +kernel, by decide +kernel, by decide +kernel, by decide +kernel, fun _ _ _ _ => clean000, whole_part (by decide +kernel)⟩,
    ⟨State.reset, 134217727, 0, List.replicate 16 (0, false), [], false, .gddrLineRead 134217727 [] [], by decide +kernel, by decide +kernel, by decide +kernel, by decide +kernel⟩⟩

theorem witness_Memory_MemoryDevices :
    (∃ (s : State) (x : Nat → Nat → Word), usableLines s ≠ 0 ∧ gFailed s = none ∧ fgetB s FLT_INJ_ACTIVE 44 = false ∧ (∀ d w : Nat, d < 5 → w < 4 → eccJudge (gCode s (s.gdr.pat % usableLines s) d w) = .clean (x d w))) ∧
    (∃ (s : State) (d : Nat), d % 8 < 5 ∧ gFailed s = none) ∧
    (∃ (s : State) (d f : Nat), d % 8 < 5 ∧ gFailed s = some f ∧ f ≠ d % 8) ∧
    (∃ (s : State) (d : Nat), 5 ≤ d % 8) ∧
    (∃ (s : State), fgetB s GDM_STAT_DEGRADED 0 = true ∧ s.gdr.retrained = true ∧ fgetB s GDM_STAT_LOST 0 = false ∧ fgetB s GDM_STAT_REBUILD 0 = false) ∧
    (∃ (s : State), (s.gdr.retrained = false ∨ fgetB s GDM_STAT_DEGRADED 0 = false ∨ fgetB s GDM_STAT_LOST 0 = true)) ∧
    (∃ (s : State) (d : Nat), gFailed s = some d ∧ fgetB s GDM_STAT_REBUILD 0 = true ∧ fgetB s GDM_STAT_LOST 0 = false) ∧
    (∃ (s : State) (d b r k : Nat) (l : List (Nat × Nat × Nat)), s.gdr.want = (d, b, r) :: l ∧ gNextSpare s d b = some k) ∧
    (∃ (s : State) (d b r : Nat) (l : List (Nat × Nat × Nat)), s.gdr.want = (d, b, r) :: l ∧ gNextSpare s d b = none) ∧
    (∃ (s : State), s.gdr.want = []) ∧
    (∃ (s : State), s.boot.fw = true) ∧
    (∃ (s : State) (l : List Nat), s.boot.fw = false) := by
  refine ⟨⟨rg [(GDM_STAT_USABLE, 0, 7168)], fun _ _ => 0, by decide +kernel, by decide +kernel, by decide +kernel, fun _ _ _ _ => clean000⟩,
    ⟨State.reset, 4, by decide +kernel, by decide +kernel⟩,
    ⟨rg [(GDM_STAT_DEGRADED, 0, 1), (GDM_STAT_FAILED_DEV, 0, 4)], 0, 4, by decide +kernel, by decide +kernel, by decide +kernel⟩,
    ⟨State.reset, 7, by decide +kernel⟩,
    ⟨{ rg [(GDM_STAT_DEGRADED, 0, 1)] with gdr := { retrained := true } }, by decide +kernel, by decide +kernel, by decide +kernel, by decide +kernel⟩,
    ⟨State.reset, by decide +kernel⟩,
    ⟨rg [(GDM_STAT_DEGRADED, 0, 1), (GDM_STAT_FAILED_DEV, 0, 4), (GDM_STAT_REBUILD, 0, 1)], 4, by decide +kernel, by decide +kernel, by decide +kernel⟩,
    ⟨{ State.reset with gdr := { want := [(4, 1, 2)] } }, 4, 1, 2, 0, [], by decide +kernel, by decide +kernel⟩,
    ⟨{ State.reset with gdr := { want := [(4, 1, 2)], spare := [(4, (List.range 64).map (fun k => (1, 0, k)))] } }, 4, 1, 2, [], by decide +kernel, by decide +kernel⟩,
    ⟨State.reset, by decide +kernel⟩,
    ⟨{ State.reset with boot := { State.reset.boot with fw := true } }, by decide +kernel⟩,
    ⟨State.reset, [], by decide +kernel⟩⟩

theorem witness_DmaChannels :
    (∃ (s : State) (c : Nat) (h : List Word) (a b d e : Word), c < 16 ∧ fgetB s DMA_CH_CFG_EN c = true ∧ fgetB s DMA_CH_STAT_HALT c = false ∧ (dmaCh s c).ahead = [] ∧ fget s DMA_IDX_CI c < 65536 ∧ fget s DMA_IDX_PI c < 65536 ∧ fget s DMA_IDX_PI c ≠ fget s DMA_IDX_CI c ∧ fgetB s DMA_CH_CFG_RLOC c = true ∧ h = [a, b, d, e]) ∧
    (∃ (s : State) (c : Nat) (h : List Word), c < 16 ∧ fgetB s DMA_CH_CFG_EN c = true ∧ fgetB s DMA_CH_STAT_HALT c = false ∧ (dmaCh s c).ahead = [] ∧ fget s DMA_IDX_CI c < 65536 ∧ fget s DMA_IDX_PI c < 65536 ∧ fget s DMA_IDX_PI c ≠ fget s DMA_IDX_CI c ∧ fgetB s DMA_CH_CFG_RLOC c = false ∧ inSram (ringAddr s c (fget s DMA_IDX_CI c)) 32 = true ∧ spanSecret s (ringAddr s c (fget s DMA_IDX_CI c)) 32 = false) ∧
    (∃ (s : State) (c : Nat) (h : List Word), c < 16 ∧ (fgetB s DMA_CH_STAT_HALT c = true ∨ fgetB s DMA_CH_CFG_EN c = false ∨ fget s DMA_IDX_PI c = fget s DMA_IDX_CI c)) ∧
    (∃ (s : State) (c i d m : Nat) (l : List (Nat × Nat)) (b : List Byte), c < 16 ∧ (dmaCh s c).ahead = (i, d) :: l ∧ dOk d = true ∧ dSK d = 2 ∧ dDK d = 1 ∧ dLen d = 8 ∧ b.length = 8 ∧ sramBase ≤ dDA d ∧ dDA d + 8 ≤ sramBase + 0x400000 ∧ dDA d % 8 = 0 ∧ spanSecret s (dDA d) 8 = false ∧ fgetB s DMA_CH_CFG_RLOC c = true ∧ dIrq d = false ∧ dmaIdle s c = true ∧ fgetB s FLT_INJ_ACTIVE (fifoSrc (dmaFifo c)) = false ∧ fget s FIFO_MODE_ORDER (dmaFifo c) = 0) ∧
    (∃ (s : State) (c i d m st : Nat) (l : List (Nat × Nat)) (b : List Byte) (p : Bool), c < 16 ∧ (dmaCh s c).ahead = (i, d) :: l ∧ dOk d = false) ∧
    (∃ (s : State) (c i d m st : Nat) (l : List (Nat × Nat)) (b : List Byte) (p : Bool), c < 16 ∧ (dmaCh s c).ahead = (i, d) :: l ∧ dOk d = true ∧ dSK d ≠ 4 ∧ dmaIdle s c = false) ∧
    (∃ (s : State) (c m st : Nat) (b : List Byte) (p : Bool), c < 16 ∧ (dmaCh s c).ahead = []) ∧
    (∃ (s : State) (c i d m : Nat) (l : List (Nat × Nat)) (b : List Byte) (p : Bool), c < 16 ∧ (dmaCh s c).ahead = (i, d) :: l) := by
  refine ⟨⟨rg [(DMA_CH_CFG_EN, 15, 1), (DMA_CH_CFG_RLOC, 15, 1), (DMA_IDX_CI, 15, 65535)], 15, [1, 2, 3, 4], 1, 2, 3, 4, by decide +kernel, by decide +kernel, by decide +kernel, by decide +kernel, by decide +kernel, by decide +kernel, by decide +kernel, by decide +kernel, by decide +kernel⟩,
    ⟨rg [(DMA_CH_CFG_EN, 15, 1), (DMA_CH_CFG_RLOC, 15, 0), (DMA_RING_BASE_BASE, 15, sramBase / 32), (DMA_IDX_CI, 15, 65535)], 15, [], by decide +kernel, by decide +kernel, by decide +kernel, by decide +kernel, by decide +kernel, by decide +kernel, by decide +kernel, by decide +kernel, by decide +kernel, by decide +kernel⟩,
    ⟨rg [(DMA_CH_STAT_HALT, 15, 1)], 15, [], by decide +kernel, by decide +kernel⟩,
    ⟨{ rg [(DMA_CH_CFG_RLOC, 15, 1)] with dma := [(15, { ahead := [(65535, descHost)] })] }, 15, 65535, descHost, 0, [], List.replicate 8 1, by decide +kernel, by decide +kernel, by decide +kernel, by decide +kernel, by decide +kernel, by decide +kernel, by decide +kernel, by decide +kernel, by decide +kernel, by decide +kernel, by decide +kernel, by decide +kernel, by decide +kernel, by decide +kernel, by decide +kernel, by decide +kernel⟩,
    ⟨{ State.reset with dma := [(0, { ahead := [(0, 0)] })] }, 0, 0, 0, 0, 0, [], [], true, by decide +kernel, by decide +kernel, by decide +kernel⟩,
    ⟨{ State.reset with dma := [(15, { ahead := [(65535, descHost)] })], fifo := [(dmaFifo 15, { r := [item1] })] }, 15, 65535, descHost, 0, 0, [], [], true, by decide +kernel, by decide +kernel, by decide +kernel, by decide +kernel, by decide +kernel⟩,
    ⟨State.reset, 15, 0, 0, [], true, by decide +kernel, by decide +kernel⟩,
    ⟨{ State.reset with dma := [(0, { ahead := [(0, 0)] })] }, 0, 0, 0, 4, [], [], true, by decide +kernel, by decide +kernel⟩⟩

theorem witness_SupplyAndSensors :
    (∃ (s : State) (mv : Nat) (t : _), mv < 65536 ∧ t ∈ s.env.vat) ∧
    (∃ (s : State) (mv : Nat), mv % 65536 + 30 < s.env.vreq) ∧
    (∃ (s : State) (mv : Nat), s.env.vreq ≤ mv % 65536 + 30) ∧
    (∃ (s : State) (a hot : Int) (l : List Int), s.env.temps = a :: l ∧ hot = l.foldl max a) ∧
    (∃ (s : State) (n : Nat), n < 146) := by
  refine ⟨⟨{ State.reset with env := { vat := some 5 } }, 775, 5, by decide +kernel, by decide +kernel⟩,
    ⟨State.reset, 719, by decide +kernel⟩,
    ⟨State.reset, 720, by decide +kernel⟩,
    ⟨{ State.reset with env := { temps := [1080, -449] } }, 1080, 1080, [-449], by decide +kernel, by decide +kernel⟩,
    ⟨State.reset, 145, by decide +kernel⟩⟩

/-- Link 3 of one lane is UP, and its lane too. -/
def spanSt (lanes : Nat) (l : SpnLane) : State :=
  { rg [(SPN_LINK_STAT_STATE, 3, 3), (SPN_LINK_STAT_LANES, 3, lanes)] with spn := { lane := [(3, { l with up := true })] } }

/-- A frame in a replay buffer. -/
def replay1 (seq : Nat) : SFrame := ⟨seq, 0, 0, 0, 0, 1, ⟨3, false, 0⟩⟩

/-- A received frame of a kind with its sequence number and its CRC. -/
def rxKind (kind seq : Nat) : Nat :=
  (kind * 2 ^ 90 + seq * 2 ^ 63) / 65536 * 65536 + crc16Bits ((kind * 2 ^ 90 + seq * 2 ^ 63) / 65536) 336 0xFFFF

/-- One of kind 3. -/
def rxFrame (seq : Nat) : Nat := rxKind 3 seq

theorem rto_over {s : State} {k n : Nat} (h1 : fget s SPN_LINK_CFG_RTO k ≤ 30) (h2 : smGet 0 s.spn.ackAt n = 0)
    (h3 : s.time.now = 4500) : rtoOver s k n = true := by
  have := Nat.mul_le_mul h1 (Nat.le_of_lt_succ khz_lt)
  simp only [rtoOver, h2, h3]
  rw [Nat.zero_add] at this
  exact decide_eq_true (Nat.le_trans this (show 30 * 1500000 ≤ (4500 - 0) * 10000 by decide))

theorem rto_not {s : State} {k n : Nat} (h1 : fget s SPN_LINK_CFG_RTO k ≠ 0) (h3 : s.time.now = 0) : rtoOver s k n = false := by
  have := Nat.mul_pos (Nat.pos_of_ne_zero h1) khz_pos
  simp only [rtoOver, h3]
  exact decide_eq_false (by rw [Nat.zero_sub, Nat.zero_mul]; exact Nat.not_le_of_lt this)

/-- A packet of one frame for a device. -/
def spkt (dev : Nat) : SPkt := { net := 0, ddev := dev, flits := [⟨3, false, 0⟩] }

theorem witness_GuardAndEdge :
    (∃ (s : State), s.time.running = true ∧ s.time.guarded = false) ∧
    (∃ (s : State), (s.time.running = false ∨ s.time.guarded = true)) ∧
    (∃ (s : State), s.time.running = true ∧ s.time.guarded = true ∧ s.svc.waits = [] ∧ s.svc.held = []) ∧
    (∃ (s : State), s.time.running = false ∧ s.svc.waits = [] ∧ s.svc.held = []) := by
  refine ⟨⟨{ State.reset with time := { State.reset.time with running := true } }, by decide +kernel, by decide +kernel⟩,
    ⟨State.reset, by decide +kernel⟩,
    ⟨{ State.reset with time := { State.reset.time with running := true, guarded := true } }, by decide +kernel, by decide +kernel, by decide +kernel, by decide +kernel⟩,
    ⟨State.reset, by decide +kernel, by decide +kernel, by decide +kernel⟩⟩

theorem witness_SpanLinkStates :
    (∃ (s : State) (k v : Nat), k < 8 ∧ fldOf SPN_LINK_CFG_REFUSED v = 0 ∧ spState s k = 0 ∧ fldOf SPN_LINK_CFG_WIDTH v ≠ 3 ∧ spValid (fstore s spCfgFlds k v) k = true) ∧
    (∃ (s : State) (k v : Nat), k < 8 ∧ fldOf SPN_LINK_CFG_REFUSED v = 0 ∧ spState s k = 0 ∧ k % spWidth (fldOf SPN_LINK_CFG_WIDTH v) = 0 ∧ fldOf SPN_LINK_CFG_WIDTH v ≠ 3 ∧ fldOf SPN_LINK_CFG_RTO v ≠ 0 ∧ (∀ o : Nat, o < 8 → o ≠ k → spState s o = 0)) ∧
    (∃ (s : State) (k v : Nat), k < 8 ∧ fldOf SPN_LINK_CFG_REFUSED v = 0 ∧ spState s k = 0 ∧ (fldOf SPN_LINK_CFG_WIDTH v = 3 ∨ fldOf SPN_LINK_CFG_RTO v = 0 ∨ k % spWidth (fldOf SPN_LINK_CFG_WIDTH v) ≠ 0 ∨ spValid (fstore s spCfgFlds k v) k = false)) ∧
    (∃ (s : State) (k v : Nat), k < 8 ∧ fldOf SPN_LINK_CFG_REFUSED v = 0 ∧ spState s k ≠ 0 ∧ fsame s spCfgFlds k v = false) ∧
    (∃ (s : State) (k : Nat), k < 8 ∧ spState s k ≠ 0) ∧
    (∃ (s : State) (k : Nat), k < 8 ∧ spState s k = 0) ∧
    (∃ (s : State) (k : Nat), k < 8 ∧ spState s k = 5) ∧
    (∃ (s : State) (k : Nat), k < 8 ∧ spState s k ≠ 5) ∧
    (∃ (s : State) (k : Nat), k < 8 ∧ spState s k = 1) ∧
    (∃ (s : State) (k : Nat), k < 8 ∧ (spState s k = 1 ∨ spState s k = 2) ∧ passedMs s (smGet 0 s.spn.trainAt k) 100 = true) ∧
    (∃ (s : State) (k : Nat), k < 8 ∧ spState s k ≠ 1 ∧ spState s k ≠ 2) ∧
    (∃ (s : State) (k : Nat), k < 8 ∧ passedMs s (smGet 0 s.spn.trainAt k) 100 = false) ∧
    (∃ (s : State) (k dev port width : Nat), k < 8 ∧ spState s k ≠ 2) ∧
    (∃ (s : State) (k dev port width : Nat), k < 8 ∧ spState s k = 2) ∧
    (∃ (s : State) (n k : Nat), n < 8 ∧ spLinkAt s n = some k ∧ spState s k = 3 ∧ (spLane s n).up = true ∧ fget s SPN_LINK_STAT_LANES k ≤ 1) ∧
    (∃ (s : State) (n k : Nat), n < 8 ∧ spLinkAt s n = some k ∧ spState s k = 3 ∧ (spLane s n).up = true ∧ 1 < fget s SPN_LINK_STAT_LANES k) ∧
    (∃ (s : State) (n : Nat), n < 8 ∧ (spLinkAt s n = none ∨ (spLane s n).up = false)) := by
  refine ⟨⟨State.reset, 7, 2 ^ 63 + 30 * 2 ^ 32, by decide +kernel, by decide +kernel, by decide +kernel, by decide +kernel, by decide +kernel⟩,
    ⟨State.reset, 7, 2 ^ 63 + 30 * 2 ^ 32, by decide +kernel, by decide +kernel, by decide +kernel, by decide +kernel, by decide +kernel, by decide +kernel, by decide +kernel⟩,
    ⟨State.reset, 7, 3 * 2 ^ 59, by decide +kernel, by decide +kernel, by decide +kernel, by decide +kernel⟩,
    ⟨rg [(SPN_LINK_STAT_STATE, 7, 3)], 7, 2 ^ 32, by decide +kernel, by decide +kernel, by decide +kernel, by decide +kernel⟩,
    ⟨rg [(SPN_LINK_STAT_STATE, 7, 3)], 7, by decide +kernel, by decide +kernel⟩,
    ⟨State.reset, 7, by decide +kernel, by decide +kernel⟩,
    ⟨rg [(SPN_LINK_STAT_STATE, 7, 5)], 7, by decide +kernel, by decide +kernel⟩,
    ⟨State.reset, 7, by decide +kernel, by decide +kernel⟩,
    ⟨rg [(SPN_LINK_STAT_STATE, 7, 1)], 7, by decide +kernel, by decide +kernel⟩,
    ⟨{ rg [(SPN_LINK_STAT_STATE, 7, 1)] with time := { State.reset.time with now := msCycles 100 } }, 7, by decide +kernel, by decide +kernel, decide_eq_true (Nat.le_of_eq (Nat.zero_add _))⟩,
    ⟨State.reset, 7, by decide +kernel, by decide +kernel, by decide +kernel⟩,
    ⟨{ State.reset with spn := { trainAt := [(7, 1)] } }, 7, by decide +kernel, not_passed rfl⟩,
    ⟨State.reset, 7, 1023, 7, 0, by decide +kernel, by decide +kernel⟩,
    ⟨rg [(SPN_LINK_STAT_STATE, 7, 2)], 7, 1023, 7, 1, by decide +kernel, by decide +kernel⟩,
    ⟨spanSt 1 {}, 3, 3, by decide +kernel, by decide +kernel, by decide +kernel, by decide +kernel, by decide +kernel⟩,
    ⟨spanSt 2 {}, 3, 3, by decide +kernel, by decide +kernel, by decide +kernel, by decide +kernel, by decide +kernel⟩,
    ⟨State.reset, 7, by decide +kernel, by decide +kernel⟩⟩

theorem witness_SpanTraffic_SpanFrames :
    (∃ (s : State) (n fty kind pois net slane ddev seq dir dring data crl x : Nat), fty < 16 ∧ kind < 4 ∧ pois < 2 ∧ x = frameBits s n fty kind pois net slane ddev seq dir dring data crl) ∧
    (∃ (s : State) (n k x : Nat), n < 8 ∧ x < 2 ^ 352 ∧ spLinkAt s n = some k ∧ spState s k = 3 ∧ (spLane s n).up = true ∧ frameOk x = true ∧ frBits x 92 4 = 0 ∧ frBits x 63 12 = (spLane s n).exp ∧ frBits x 90 2 = 3) ∧
    (∃ (s : State) (n k x : Nat) (p : SPkt), n < 8 ∧ x < 2 ^ 352 ∧ spLinkAt s n = some k ∧ spState s k = 3 ∧ (spLane s n).up = true ∧ frameOk x = true ∧ frBits x 92 4 = 0 ∧ frBits x 63 12 = (spLane s n).exp ∧ frBits x 90 2 = 2 ∧ (spLane s n).part = some p) ∧
    (∃ (s : State) (n k x : Nat) (fec : Nat), n < 8 ∧ x < 2 ^ 352 ∧ spLinkAt s n = some k ∧ spState s k = 3 ∧ (spLane s n).up = true ∧ frameOk x = true ∧ frBits x 92 4 = 0 ∧ frBits x 63 12 ≠ (spLane s n).exp) ∧
    (∃ (s : State) (n k x : Nat) (fec : Nat), n < 8 ∧ x < 2 ^ 352 ∧ spLinkAt s n = some k ∧ spState s k = 3 ∧ (spLane s n).up = true ∧ frameOk x = false) ∧
    (∃ (s : State) (n k seq : Nat), n < 8 ∧ seq < 4096 ∧ spLinkAt s n = some k ∧ spState s k = 3 ∧ (spLane s n).up = true ∧ (spLane s n).replay ≠ [] ∧ rtoOver s k n = true ∧ (spLane s n).tries < 8) ∧
    (∃ (s : State) (n k seq : Nat), n < 8 ∧ seq < 4096 ∧ spLinkAt s n = some k ∧ spState s k = 3 ∧ (spLane s n).up = true ∧ (spLane s n).replay ≠ [] ∧ rtoOver s k n = true ∧ 8 ≤ (spLane s n).tries) ∧
    (∃ (s : State) (n k seq : Nat), n < 8 ∧ seq < 4096 ∧ spLinkAt s n = some k ∧ spState s k = 3 ∧ (spLane s n).up = true ∧ (spLane s n).replay ≠ [] ∧ rtoOver s k n = false) ∧
    (∃ (s : State) (n k seq : Nat) (r : _), n < 8 ∧ seq < 4096 ∧ spLinkAt s n = some k ∧ spState s k = 3 ∧ (spLane s n).up = true ∧ (spLane s n).replay ≠ [] ∧ ackTo ((seq + 4095) % 4096) (spLane s n).replay = some r ∧ r ≠ []) ∧
    (∃ (s : State) (n k seq : Nat), n < 8 ∧ seq < 4096 ∧ spLinkAt s n = some k ∧ spState s k = 3 ∧ (spLane s n).up = true ∧ (spLane s n).replay ≠ [] ∧ ackTo ((seq + 4095) % 4096) (spLane s n).replay = none ∧ (spLane s n).tries < 8) ∧
    (∃ (s : State) (n x fec seq : Nat), n < 8 ∧ (spLinkAt s n = none ∨ ∃ k : Nat, spLinkAt s n = some k ∧ (spState s k ≠ 3 ∨ (spLane s n).up = false))) := by
  refine ⟨⟨State.reset, 7, 15, 3, 1, 1, 7, 1023, 4095, 1, 31, 9, 15, frameBits State.reset 7 15 3 1 1 7 1023 4095 1 31 9 15, by decide +kernel, by decide +kernel, by decide +kernel, rfl⟩,
    ⟨spanSt 1 { exp := 4095 }, 3, 3, rxFrame 4095, by decide +kernel, by decide +kernel, by decide +kernel, by decide +kernel, by decide +kernel, by decide +kernel, by decide +kernel, by decide +kernel, by decide +kernel⟩,
    ⟨spanSt 1 { exp := 4095, part := some (spkt 5) }, 3, 3, rxKind 2 4095, spkt 5, by decide +kernel, by decide +kernel, by decide +kernel, by decide +kernel, by decide +kernel, by decide +kernel, by decide +kernel, by decide +kernel, by decide +kernel, by decide +kernel⟩,
    ⟨spanSt 1 { exp := 4095 }, 3, 3, rxFrame 0, 1, by decide +kernel, by decide +kernel, by decide +kernel, by decide +kernel, by decide +kernel, by decide +kernel, by decide +kernel, by decide +kernel⟩,
    ⟨spanSt 1 {}, 3, 3, 2 ^ 352 - 1, 0, by decide +kernel, by decide +kernel, by decide +kernel, by decide +kernel, by decide +kernel, by decide +kernel⟩,
    ⟨{ spanSt 1 { replay := [replay1 7], tries := 7 } with time := { State.reset.time with now := 4500 } }, 3, 3, 0, by decide +kernel, by decide +kernel, by decide +kernel, by decide +kernel, by decide +kernel, by decide +kernel, rto_over (by decide +kernel) (by decide +kernel) rfl, by decide +kernel⟩,
    ⟨{ spanSt 1 { replay := [replay1 7], tries := 8 } with time := { State.reset.time with now := 4500 } }, 3, 3, 0, by decide +kernel, by decide +kernel, by decide +kernel, by decide +kernel, by decide +kernel, by decide +kernel, rto_over (by decide +kernel) (by decide +kernel) rfl, by decide +kernel⟩,
    ⟨spanSt 1 { replay := [replay1 7] }, 3, 3, 0, by decide +kernel, by decide +kernel, by decide +kernel, by decide +kernel, by decide +kernel, by decide +kernel, rto_not (by decide +kernel) rfl⟩,
    ⟨spanSt 1 { replay := [replay1 4095, replay1 0] }, 3, 3, 0, [replay1 0], by decide +kernel, by decide +kernel, by decide +kernel, by decide +kernel, by decide +kernel, by decide +kernel, by decide +kernel, by decide +kernel⟩,
    ⟨spanSt 1 { replay := [replay1 7] }, 3, 3, 0, by decide +kernel, by decide +kernel, by decide +kernel, by decide +kernel, by decide +kernel, by decide +kernel, by decide +kernel, by decide +kernel⟩,
    ⟨State.reset, 7, 2 ^ 352 - 1, 0, 0, by decide +kernel, Or.inl (by decide +kernel)⟩⟩

theorem witness_SpanTraffic_SpanSwitch :
    (∃ (s : State) (net o : Nat), net < 2 ∧ o < 10 ∧ spReqs s net = []) ∧
    (∃ (s : State) (net o src sl lsl dir dring n : Nat) (p : SPkt), net < 2 ∧ o < 8 ∧ src < 8 ∧ spReqs s net = [⟨src, sl, p, .send o lsl dir dring⟩] ∧ spPick s o = some n ∧ spRoom (spLane s n) p.net lsl p.flits.length = true) ∧
    (∃ (s : State) (src sl : Nat) (p : SPkt), src < 8 ∧ p.net = 0 ∧ spReqs s 0 = [⟨src, sl, p, .eject 125⟩]) ∧
    (∃ (s : State) (net o src sl k : Nat) (p : SPkt), net < 2 ∧ o < 10 ∧ src < 8 ∧ spReqs s net = [⟨src, sl, p, .drop⟩] ∧ spLinkAt s src = some k) := by
  refine ⟨⟨State.reset, 1, 9, by decide +kernel, by decide +kernel, by decide +kernel⟩,
    ⟨{ rg [(SPN_LINK_STAT_STATE, 3, 3), (SPN_ROUTE_VALID, 5, 1), (SPN_ROUTE_PRI, 5, 3)] with spn := { lane := [(3, { up := true }), (4, { rx := [spkt 5] })] } }, 0, 3, 4, 0, 4, 0, 0, 3, spkt 5, by decide +kernel, by decide +kernel, by decide +kernel, by decide +kernel, by decide +kernel, by decide +kernel⟩,
    ⟨{ State.reset with spn := { lane := [(3, { rx := [spkt (ownDev State.reset)] })] } }, 3, 0, spkt (ownDev State.reset), by decide +kernel, by decide +kernel, by decide +kernel⟩,
    ⟨spanSt 1 { rx := [spkt 5] }, 0, 9, 3, 0, 3, spkt 5, by decide +kernel, by decide +kernel, by decide +kernel, by decide +kernel, by decide +kernel⟩⟩

theorem witness_SharedTick :
    (∃ (s : State) (k dep : Nat), k < 8 ∧ spState s k = 3 ∧ smGet 0 s.spn.sent k ≠ s.time.edges + 1) ∧
    (∃ (s : State) (k dep : Nat), k < 8 ∧ (spState s k ≠ 3 ∨ smGet 0 s.spn.sent k = s.time.edges + 1)) ∧
    (∃ (s : State) (k prio dev hops n len tod : Nat) (bad : Bool) (depart arr : Int), k < 8 ∧ prio < 256 ∧ dev < 1024 ∧ n < 2 ^ 64 ∧ spState s k ≠ 3) ∧
    (∃ (s : State) (k prio dev hops n len tod : Nat) (bad : Bool) (depart arr : Int), k < 8 ∧ prio < 256 ∧ dev < 1024 ∧ n < 2 ^ 64 ∧ spState s k = 3 ∧ 63 ≤ hops) ∧
    (∃ (s : State) (k prio dev hops n len tod : Nat) (bad : Bool) (depart arr : Int), k < 8 ∧ prio < 256 ∧ dev < 1024 ∧ n < 2 ^ 64 ∧ spState s k = 3 ∧ hops < 63 ∧ len ≠ tickLen s) ∧
    (∃ (s : State) (k prio dev hops n len tod : Nat) (bad : Bool) (depart arr : Int), k < 8 ∧ prio < 256 ∧ dev < 1024 ∧ n < 2 ^ 64 ∧ spState s k = 3 ∧ hops < 63 ∧ len = tickLen s ∧ prio * 1024 + dev < fget s SPN_TICK_PRIO 0 * 1024 + ownDev s ∧ fget s SYS_TICK_CFG_SRC 0 ≠ 2) ∧
    (∃ (s : State) (k prio dev hops n len tod : Nat) (bad : Bool) (depart arr : Int), k < 8 ∧ prio < 256 ∧ dev < 1024 ∧ n < 2 ^ 64 ∧ spState s k = 3 ∧ (∀ o : Nat, o < 8 → o ≠ k → spState s o ≠ 3) ∧ hops < 63 ∧ len = tickLen s ∧ fget s SYS_TICK_CFG_SRC 0 = 2 ∧ fget s SPN_TICK_IS_MASTER 0 = 0 ∧ fget s SPN_CAL_VALID k = 1 ∧ 0 < fget s SPN_TICK_LOSS 0 ∧ -524288 ≤ arr - (fget s SPN_CAL_DELAY k : Nat) - depart ∧ arr - (fget s SPN_CAL_DELAY k : Nat) - depart < 524288) ∧
    (∃ (s : State) (k a b : Nat), k < 8 ∧ spState s k ≠ 3) ∧
    (∃ (s : State) (k a b : Nat), k < 8 ∧ spState s k = 3 ∧ smGet false s.spn.cal k = true ∧ (a - b) / 2 < 2 ^ 24) ∧
    (∃ (s : State) (k a b : Nat), k < 8 ∧ (spState s k ≠ 3 ∨ smGet false s.spn.cal k = false)) ∧
    (∃ (s : State), fget s SPN_TICK_MASTER_EN 0 ≠ 0 ∧ fget s SPN_TICK_IS_MASTER 0 = 0 ∧ fget s SPN_TICK_LOSS 0 ≤ s.time.edges - s.spn.better) ∧
    (∃ (s : State), (fget s SPN_TICK_MASTER_EN 0 = 0 ∨ fget s SPN_TICK_IS_MASTER 0 ≠ 0 ∨ s.time.edges - s.spn.better < fget s SPN_TICK_LOSS 0)) ∧
    (∃ (s : State), fget s SPN_RCLK_EN 0 = 0) ∧
    (∃ (s : State), fget s SPN_RCLK_EN 0 ≠ 0) := by
  refine ⟨⟨rg [(SPN_LINK_STAT_STATE, 7, 3)], 7, 5, by decide +kernel, by decide +kernel, by decide +kernel⟩,
    ⟨State.reset, 7, 0, by decide +kernel, by decide +kernel⟩,
    ⟨State.reset, 7, 255, 1023, 0, 0, 0, 0, false, 0, 0, by decide +kernel, by decide +kernel, by decide +kernel, by decide +kernel, by decide +kernel⟩,
    ⟨rg [(SPN_LINK_STAT_STATE, 7, 3)], 7, 255, 1023, 63, 0, 0, 0, false, 0, 0, by decide +kernel, by decide +kernel, by decide +kernel, by decide +kernel, by decide +kernel, by decide +kernel⟩,
    ⟨rg [(SPN_LINK_STAT_STATE, 7, 3)], 7, 255, 1023, 62, 0, 0, 0, false, 0, 0, by decide +kernel, by decide +kernel, by decide +kernel, by decide +kernel, by decide +kernel, by decide +kernel, by decide +kernel⟩,
    ⟨rg [(SPN_LINK_STAT_STATE, 7, 3), (SPN_TICK_PRIO, 0, 1)], 7, 0, 1023, 62, 0, tickLen State.reset, 0, false, 0, 0, by decide +kernel, by decide +kernel, by decide +kernel, by decide +kernel, by decide +kernel, by decide +kernel, by decide +kernel, by decide +kernel, by decide +kernel⟩,
    ⟨rg [(SPN_LINK_STAT_STATE, 7, 3), (SYS_TICK_CFG_SRC, 0, 2), (SPN_CAL_VALID, 7, 1), (SPN_TICK_LOSS, 0, 5)], 7, 0, 1023, 62, 0, tickLen State.reset, 0, false, 0, -524288, by decide +kernel, by decide +kernel, by decide +kernel, by decide +kernel, by decide +kernel, by decide +kernel, by decide +kernel, by decide +kernel, by decide +kernel, by decide +kernel, by decide +kernel, by decide +kernel, by decide +kernel, by decide +kernel⟩,
    ⟨State.reset, 7, 0, 0, by decide +kernel, by decide +kernel⟩,
    ⟨{ rg [(SPN_LINK_STAT_STATE, 7, 3)] with spn := { cal := [(7, true)] } }, 7, 2 ^ 25 - 1, 0, by decide +kernel, by decide +kernel, by decide +kernel, by decide +kernel⟩,
    ⟨State.reset, 7, 0, 0, by decide +kernel, by decide +kernel⟩,
    ⟨{ rg [(SPN_TICK_MASTER_EN, 0, 1)] with time := { State.reset.time with edges := 2 ^ 40 } }, by decide +kernel, by decide +kernel, by decide +kernel⟩,
    ⟨State.reset, by decide +kernel⟩,
    ⟨State.reset, by decide +kernel⟩,
    ⟨rg [(SPN_RCLK_EN, 0, 1)], by decide +kernel⟩⟩

/-- The point at the curve's unit, in some projective form. -/
def IsUnit0 (a : EdPt) : Prop := a.x = 0 ∧ a.y = a.z

theorem unit_add {a b : EdPt} (ha : IsUnit0 a) (hb : IsUnit0 b) : IsUnit0 (edAdd a b) := by
  obtain ⟨ax, ay⟩ := ha
  obtain ⟨bx, bY⟩ := hb
  have hp : 0 < edP := by decide
  constructor
  · simp only [edAdd, ax, ay, bx, bY, Nat.zero_mul, Nat.zero_add, Nat.zero_mod, Nat.sub_zero]
    have : (a.z * b.z % edP + 2 * edP - 0 - a.z * b.z % edP) % edP = 0 := by
      rw [Nat.sub_zero, Nat.add_sub_cancel_left]; exact Nat.mul_mod_left 2 edP
    simp_all
  · simp only [edAdd, ax, ay, bx, bY, Nat.zero_mul, Nat.mul_zero, Nat.zero_add, Nat.add_zero, Nat.zero_mod, Nat.sub_zero, Nat.add_mod_right, Nat.mod_mod]
    generalize a.z * b.z % edP = u
    generalize edP = p
    have h : ∀ x y : Nat, (x % p) * (y % p) % p = x * y % p := fun x y => (Nat.mul_mod x y p).symm
    have h1 : ∀ x y : Nat, (x % p) * y % p = x * y % p := fun x y => by rw [Nat.mul_mod, Nat.mod_mod, ← Nat.mul_mod]
    have h2 : ∀ x y : Nat, x * (y % p) % p = x * y % p := fun x y => by rw [Nat.mul_mod, Nat.mod_mod, ← Nat.mul_mod]
    simp only [h1, h2]
    congr 1
    simp only [Nat.mul_assoc]

theorem unit_mulBits {q : EdPt} (hq : IsUnit0 q) (k : Nat) : ∀ (n : Nat) (acc : EdPt), IsUnit0 acc → IsUnit0 (edMulBits q k n acc)
  | 0, _, h => h
  | n + 1, acc, h => by
    simp only [edMulBits]
    refine unit_mulBits hq k n _ ?_
    split
    · exact unit_add (unit_add h h) hq
    · exact unit_add h h

theorem unit_mul {q : EdPt} (hq : IsUnit0 q) (k : Nat) : IsUnit0 (edMul k q) := unit_mulBits hq k 448 _ ⟨rfl, rfl⟩

theorem unit_eq {a b : EdPt} (ha : IsUnit0 a) (hb : IsUnit0 b) : edEq a b = true := by
  simp [edEq, ha.1, hb.1, ha.2, hb.2, Nat.mul_comm]

/-- The least point of the curve, as a key. -/
def zpk : List Byte := leBytes 57 1

/-- `R` = that point and `S` = 0. -/
def zsig : List Byte := leBytes 57 1 ++ List.replicate 57 0

theorem zpk_decode : edDecode zpk = some ⟨0, 1, 1⟩ := by decide +kernel
theorem zsig_parts : zsig.take 57 = zpk ∧ leNat (zsig.drop 57) = 0 ∧ zsig.length = 114 := by decide +kernel
theorem zmul0 : edMul 0 edB = edMul 0 ⟨0, 1, 1⟩ := by decide +kernel

/-- That signature is good for every message under that key. -/
theorem zverify (ph : Bool) (ctx msg : List Byte) : edVerify ph ctx zpk msg zsig = true := by
  have hu : IsUnit0 ⟨0, 1, 1⟩ := ⟨rfl, rfl⟩
  simp only [edVerify, zsig_parts, zpk_decode, zmul0, unit_eq (unit_mul (unit_mul hu 0) 4) (unit_mul (unit_add hu (unit_mul hu _)) 4)]
  decide

/-- Its digest. -/
def zdig : List Byte := [45, 1, 173, 90, 67, 33, 116, 220, 77, 45, 66, 76, 230, 145, 1, 4, 73, 144, 197, 182, 160, 208, 111, 173, 241, 31,
  57, 76, 159, 152, 122, 189]

theorem zdigest : pkDigest zpk = zdig := by decide +kernel
theorem zpk_bytes : leBytes 57 (leNat zpk) = zpk ∧ leBytes 114 (leNat zsig) = zsig ∧ zdig.isEmpty = false := by decide +kernel

/-- Key 0 signs. -/
theorem zotp {s : State} {code auth : Nat} {f : List Byte} (h1 : s.otp.revoked.testBit auth = false) (h2 : smGet [] s.otp.digest auth = zdig) :
    otpSigned s code auth f (leBytes 57 (leNat zpk)) (leBytes 114 (leNat zsig)) = true := by
  simp [otpSigned, h1, h2, zpk_bytes, zdigest, zverify, zdig]

/-- A seal with that key and signature (R292). -/
def ztail : List Byte := leBytes 8 0x7F00001700000000 ++ zpk ++ List.replicate 7 0 ++ zsig ++ List.replicate 6 0

theorem ztail_parts : ztail.length = 192 ∧ leNat (ztail.take 8) = 0x7F00001700000000 ∧ (ztail.drop 8).take 57 = zpk ∧
    (ztail.drop 72).take 114 = zsig ∧ ((ztail.drop 65).take 7).all (fun x => x = 0) = true ∧
    (ztail.drop 186).all (fun x => x = 0) = true := by decide +kernel

/-- It seals everything. -/
theorem seal_ok {s : State} {slot : Nat} (ctx : String) (m : List Byte) (h : smGet [] s.otp.digest slot = zdig) :
    sealCheck s slot ctx (m ++ ztail) = 0 := by
  obtain ⟨h0, h1, h2, h3, h4, h5⟩ := ztail_parts
  have e : (m ++ ztail).length - 192 = m.length := by rw [List.length_append, h0]; omega
  simp only [sealCheck, e, List.drop_left, h1, h2, h3, h4, h5, h, zdigest, zverify, zpk_bytes]
  decide

/-- A byte list as a store from address `a` on. -/
def bytesAt : Nat → List Byte → SMap Byte
  | _, [] => []
  | a, b :: r => (a, b) :: bytesAt (a + 1) r

theorem range_bytes (d : Byte) (m : SMap Byte) : ∀ (l : List Byte) (a : Nat),
    (List.range l.length).map (fun i => smGet d (bytesAt a l ++ m) (a + i)) = l
  | [], _ => rfl
  | b :: r, a => by
    rw [List.length_cons, List.range_succ_eq_map, List.map_cons, List.map_map]
    have h := range_bytes d m r (a + 1)
    congr 1
    · simp [bytesAt, smGet]
    · refine Eq.trans (List.map_congr_left fun i _ => ?_) h
      have e : a ≠ a + (i + 1) := by omega
      simp only [Function.comp, Nat.succ_eq_add_one, bytesAt, List.cons_append, smGet, if_neg e]
      congr 1
      omega

theorem skip_bytes (d : Byte) (m : SMap Byte) : ∀ (l : List Byte) (a k : Nat), a + l.length ≤ k →
    smGet d (bytesAt a l ++ m) k = smGet d m k
  | [], _, _, _ => rfl
  | b :: r, a, k, h => by
    simp only [List.length_cons] at h
    have e : a ≠ k := by omega
    simp only [bytesAt, List.cons_append, smGet, if_neg e]
    exact skip_bytes d m r (a + 1) k (by omega)

/-- The header of an image of 256 bytes, wherever it states them. -/
def zhdr : List Byte :=
  List.replicate Config.fwLengthAt (Config.fwPartOther + 1) ++ leBytes 4 256 ++ List.replicate (60 - Config.fwLengthAt) (Config.fwPartOther + 1)

/-- A sealed image without code (R315). -/
def zimg : List Byte := zhdr ++ ztail

theorem zhdr_length : zhdr.length = 64 := by
  have := Config.fwLengthAt.isLt
  simp only [zhdr, List.length_append, List.length_replicate, leBytes, List.length_cons, List.length_nil]
  omega

theorem zimg_length : zimg.length = 256 := by rw [zimg, List.length_append, zhdr_length, ztail_parts.1]

theorem zhdr_states : Config.fwLength zhdr = 256 := by
  have e : ((zhdr.drop Config.fwLengthAt).take 4) = leBytes 4 256 := by
    rw [zhdr, List.append_assoc, List.drop_left' (by simp)]
    rfl
  rw [Config.fwLength, e]
  decide

theorem byte_next : ∀ b : Byte, b + 1 ≠ b := by decide

theorem zhdr_part : Config.fwOther zhdr = false := by
  have e1 : zhdr.take Config.fwLengthAt = List.replicate Config.fwLengthAt (Config.fwPartOther + 1) := by
    rw [zhdr, List.append_assoc]; exact List.take_left' (by simp)
  have e2 : zhdr.drop (Config.fwLengthAt + 4) = List.replicate (60 - Config.fwLengthAt) (Config.fwPartOther + 1) := by
    rw [zhdr]; exact List.drop_left' (by simp [leBytes])
  rw [Config.fwOther, e1, e2, List.replicate_append_replicate]
  refine decide_eq_false fun h => byte_next Config.fwPartOther ?_
  exact (List.eq_of_mem_replicate (List.mem_of_getElem? h)).symm

/-- Every key slot holds the digest. -/
def zotps : OtpSt := { digest := [(0, zdig), (1, zdig), (2, zdig), (3, zdig)] }

theorem zslot (n : Nat) : smGet [] zotps.digest (n % 4) = zdig := by
  have h : n % 4 = 0 ∨ n % 4 = 1 ∨ n % 4 = 2 ∨ n % 4 = 3 := by omega
  rcases h with h | h | h | h <;> rw [h] <;> rfl

theorem zimg_ok {s : State} (h : s.otp = zotps) : imageOk s zimg = true := by
  have e : zimg.take 64 = zhdr := List.take_left' zhdr_length
  have hs : smGet [] s.otp.digest (Config.fwSlot zhdr % 4) = zdig := by rw [h]; exact zslot _
  have hk := seal_ok "AXRID-FW" zhdr hs
  rw [← zimg] at hk
  have h1 : s.otp.revoked = 0 := by rw [h]; rfl
  have h2 : s.otp.fwSvn = 0 := by rw [h]; rfl
  simp [imageOk, zimg_length, e, zhdr_states, zhdr_part, h1, h2, hk]

/-- A signed DRAWERS stream for cabinet 0 that writes nothing: header, check word, END and signature (R270 to R274). -/
def stream0 : List Byte :=
  (leBytes 8 (0x41585244 * 2 ^ 32 + 2 ^ 16 + 16) ++ leBytes 8 (idcode * 2 ^ 32 + 0xFFFFFFFF) ++
   leBytes 8 (2 * 2 ^ 60 + 4096) ++ leBytes 8 336 ++ leBytes 8 1 ++ List.replicate 88 0) ++
  List.replicate 8 0 ++ leBytes 8 (0x7E * 2 ^ 56) ++
  ztail

/-- Its words staged, the key's digest in slot 0 and cabinet 0 HELD. -/
def signedSt : State :=
  { fset State.reset CAB_STATE_STATE 0 stHELD with
    otp := { State.reset.otp with digest := [(0, zdig)] }
    bst := { bring := false }
    gdr := { State.reset.gdr with mem :=
      ((bytesToWords 42 stream0).zipIdx.filter (fun e => e.1 != 0)).map (fun e =>
        (gKey (e.2 / 16) (e.2 % 16 / 4) (e.2 % 4), eccEnc e.1)) } }
def signedX : State := fset signedSt CFG_LOAD_CTL_STAGED 0 336

theorem signed_read : stageRead (fset signedSt CFG_LOAD_CTL_STAGED 0 336) 336 = (signedX, stream0) := by decide +kernel
theorem signed_hdr : hdrCheck signedX stream0.length ((bytesToWords (stream0.length / 8 + 1) stream0).take 16) = 0 := by decide +kernel
theorem signed_seal : sealCheck signedX 0 "AXRID-CFG" stream0 = 0 := seal_ok "AXRID-CFG" _ (by decide +kernel)
theorem signed_body : bodyRead signedX ((bytesToWords (stream0.length / 8 + 1) stream0).take 16) ((bytesToWords (stream0.length / 8 + 1) stream0).take (336 / 8)) = (⟨0, 0, 0xFFFFFFFF⟩, [(136, .fin)]) := by decide +kernel
theorem signed_state : stateCheck signedX ⟨2, 1, 0, [(136, .fin)]⟩ = ⟨0, 0, 0xFFFFFFFF⟩ := by decide +kernel
theorem signed_inc : incomplete 2 1 [(136, .fin)] = none := by decide +kernel
def jobX := jobState signedX ⟨2, 1, 0, [(136, .fin)]⟩
theorem signed_job : jobPlans ⟨2, 1, 0, [(136, .fin)]⟩ = [] ∧ overbooked jobX (activeBooks jobX) = false ∧ admittedDemand jobX = [] ∧ jobX.ctl.thr = [] := by decide +kernel
theorem sch_nil (s : State) : schAdmits s [] [] = true := by
  simp [schAdmits, schCount, schPairs, pairOk, bandOk]
theorem signed_adm : jobAdmission signedX ⟨2, 1, 0, [(136, .fin)]⟩ = 0 := by
  have h := signed_job
  rw [show jobX = jobState signedX ⟨2, 1, 0, [(136, .fin)]⟩ from rfl] at h
  simp [jobAdmission, h, sch_nil, edgeCertsOk]
theorem signed_len : stream0.length = 336 := by decide
theorem signed_fields : let h := (bytesToWords (stream0.length / 8 + 1) stream0).take 16
    hSlot h = 0 ∧ hLen h = 336 ∧ hKind h = 2 ∧ hRegion h = 1 ∧ hSid h = 0 := by decide +kernel
theorem signed_ok : (loadVerify signedX stream0).1.code = 0 := by
  obtain ⟨f1, f2, f3, f4, f5⟩ := signed_fields
  have e : stream0.take 336 = stream0 := List.take_of_length_le (Nat.le_of_eq signed_len)
  simp only [loadVerify, signed_hdr, f1, f2, f3, f4, f5, e, signed_seal, signed_body, signed_inc, signed_state, signed_adm]
  rfl

/-- A load of cabinet 0 that has passed its staging pass. -/
def jobP : LoadJob := ⟨1, 1, 7, []⟩

/-- A state with codewords `l` in GDDR7. -/
def stageSt (s : State) (l : List (Nat × Nat)) : State :=
  { s with gdr := { s.gdr with mem := l.map (fun e => (e.1, BitVec.ofNat 72 e.2)) }, bst := { bring := false } }

/-- The header of an AXR-24 stream of 40 bytes for its region 0 (R304). -/
def hdr24 : List Word := [0x4158323400010000, 1, 40, 0x2BA5E9C6]

/-- The same in GDDR7. -/
def hdrSt : State := stageSt (rg [(CFG_COMPAT_EN, 0, 1), (CFG_COMPAT_OFFSET, 0, 72)])
  [(0, 3730950871498665033728), (1, 2416523473655951261697), (2, 2600990914393046777896), (3, 2453416961804102658502)]

/-- The state in which GO reads it. -/
def hdrX : State := fset (fset (fset hdrSt CFG_LOAD_CTL_STAGED 0 40) CFG_LOAD_STAT_KIND 0 0xF) CFG_LOAD_ID_SID 0 0

theorem hdr_bring : bringOver hdrSt = hdrSt := by decide +kernel

theorem hdr_read : stageRead (fset (fset (fset hdrSt CFG_LOAD_CTL_STAGED 0 40) CFG_LOAD_STAT_KIND 0 0xF) CFG_LOAD_ID_SID 0 0) 32 =
    (hdrX, wordBytes hdr24) := by decide +kernel

/-- A state whose compatibility load of cabinet 95 next reads the record of `n` words that GDDR7 holds. -/
def nextSt (n : Nat) (l : List (Nat × Nat)) : State :=
  { stageSt State.reset l with cfg := { compat := some { ofs := 72, regions := 2 ^ 23, len := 32 + 8 * (n + 1), pos := 32 } } }
def job24 (n : Nat) : CompatJob := { ofs := 72, regions := 2 ^ 23, len := 32 + 8 * (n + 1), pos := 32 }

/-- A frame record for drawer 15 of the last cell, its first word `w` (R304). -/
def frame24 (w : Word) : List Word := [BitVec.ofNat 64 (2 ^ 56 + 3 * 2 ^ 32 + 23 * 2 ^ 12 + 15 * 2 ^ 8 + 7 * 2 ^ 5 + 15), w, 0, 0]

/-- Such records in GDDR7: with drawer word 0, and with opcode 0x25. -/
def frameSt : State := nextSt 4 [(4, 664154844260466786287), (8, 55340232221509626738)]
def frameNewSt : State := nextSt 4 [(4, 664154844260466786287), (5, 3620894100405878784000), (8, 1088357900352688202961)]

/-- A record of type 2, which does not exist, and END. -/
def type2St : State := nextSt 1 [(4, 3560365721414019317760), (5, 36893488149249114749)]
def endSt : State := nextSt 1 [(4, 2499389706799568388096), (5, 2877692075500062136736)]

theorem signed_pass : (loadVerify (stageRead (fset signedSt CFG_LOAD_CTL_STAGED 0 336) 336).1
    (stageRead (fset signedSt CFG_LOAD_CTL_STAGED 0 336) 336).2).1.code = 0 := by
  simp only [signed_read, signed_ok]

theorem witness_LoadsOfBothKinds_Loads :
    (∃ (s : State) (n : Nat), n < 2 ^ 27 ∧ loadBusy s = true) ∧
    (∃ (s : State) (n : Nat), n < 128 ∧ loadBusy s = false) ∧
    (∃ (s : State) (n : Nat), let q := stageRead (fset (bringOver s) CFG_LOAD_CTL_STAGED 0 n) n; let v := loadVerify q.1 q.2; n ≤ 67108864 ∧ loadBusy s = false ∧ v.1.code = 0) ∧
    (∃ (s : State) (n : Nat), let q := stageRead (fset (bringOver s) CFG_LOAD_CTL_STAGED 0 n) n; let v := loadVerify q.1 q.2; n ≤ 67108864 ∧ loadBusy s = false ∧ v.1.code ≠ 0) ∧
    (∃ (s : State) (bad : List Nat), s.cfg.job = none) ∧
    (∃ (s : State) (j : LoadJob) (bad : List Nat), s.cfg.job = some j ∧ (stateCheck s j).code ≠ 0) ∧
    (∃ (s : State) (j : LoadJob) (l : Nat), s.cfg.job = some j ∧ j.kind = 1 ∧ j.region = 2 ^ l ∧ l < 96 ∧ Placed s ∧ (∀ e ∈ (imgWhole l j.sid j.cls).doors.pins, e.1 < 96) ∧ (stateCheck s j).code = 0 ∧ overbooked (jobState s j) (activeBooks (jobState s j)) = false) ∧
    (∃ (s : State) (j : LoadJob) (l : Nat), s.cfg.job = some j ∧ j.kind = 2 ∧ j.region = 2 ^ l ∧ l < 96 ∧ Placed s ∧ (stateCheck s j).code = 0 ∧ overbooked (jobState s j) (activeBooks (jobState s j)) = false) ∧
    (∃ (s : State) (j : LoadJob), s.cfg.compat = none ∧ s.cfg.job = some j) ∧
    (∃ (s : State), s.cfg.compat = none ∧ s.cfg.job = none) ∧
    (∃ (s : State) (c : CompatJob), s.cfg.compat = some c ∧ c.ofs ≤ 72 ∧ Placed s) := by
  refine ⟨⟨{ State.reset with cfg := { job := some jobP } }, 0, by decide +kernel, by decide +kernel⟩,
    ⟨State.reset, 127, by decide +kernel, by decide +kernel⟩,
    ⟨signedSt, 336, by decide +kernel, by decide +kernel, (by have e : bringOver signedSt = signedSt := (by decide +kernel); simp only [e]; exact signed_pass)⟩,
    ⟨State.reset, 0, by decide +kernel, by decide +kernel, by decide +kernel⟩,
    ⟨State.reset, [95], by decide +kernel⟩,
    ⟨{ rg [(CAB_STATE_STATE, 0, stRUNNING)] with cfg := { job := some jobP } }, jobP, [95], by decide +kernel, by decide +kernel⟩,
    ⟨{ State.reset with cfg := { job := some jobP } }, jobP, 0, by decide +kernel, by decide +kernel, by decide +kernel, by decide +kernel, ⟨by decide +kernel, by decide +kernel, by decide +kernel⟩, by decide +kernel, by decide +kernel, by decide +kernel⟩,
    ⟨{ rg [(CAB_STATE_STATE, 0, stHELD)] with cfg := { job := some ⟨2, 1, 7, []⟩ } }, ⟨2, 1, 7, []⟩, 0, by decide +kernel, by decide +kernel, by decide +kernel, by decide +kernel, ⟨by decide +kernel, by decide +kernel, by decide +kernel⟩, by decide +kernel, by decide +kernel⟩,
    ⟨{ State.reset with cfg := { job := some jobP } }, jobP, by decide +kernel, by decide +kernel⟩,
    ⟨State.reset, by decide +kernel, by decide +kernel⟩,
    ⟨nextSt 1 [], job24 1, by decide +kernel, by decide +kernel, ⟨by decide +kernel, by decide +kernel, by decide +kernel⟩⟩⟩

theorem witness_LoadsOfBothKinds_CompatibilityLoads :
    (∃ (s : State) (v : Nat), v < 2 ^ 64) ∧
    (∃ (s : State) (n : Nat), n < 2 ^ 27 ∧ loadBusy s = false ∧ fget s CFG_COMPAT_EN 0 = 0) ∧
    (∃ (s : State) (n : Nat), n < 2 ^ 27 ∧ loadBusy s = false ∧ fget s CFG_COMPAT_EN 0 = 1 ∧ n < 32) ∧
    (∃ (s : State) (n : Nat), let q := stageRead (fset (fset (fset (bringOver s) CFG_LOAD_CTL_STAGED 0 n) CFG_LOAD_STAT_KIND 0 0xF) CFG_LOAD_ID_SID 0 0) 32; let w := bytesToWords 5 q.2; let cabs := compatCabs (fget q.1 CFG_COMPAT_OFFSET 0) (wf (wAt w 1) 0 24); 32 ≤ n ∧ n ≤ 67108864 ∧ loadBusy s = false ∧ fget s CFG_COMPAT_EN 0 = 1 ∧ fget s CFG_COMPAT_OFFSET 0 ≤ 72 ∧ fget q.1 CFG_COMPAT_OFFSET 0 = fget s CFG_COMPAT_OFFSET 0 ∧ crc32cR (q.2.take 24) = wf (wAt w 3) 0 32 ∧ compatHdrOk w = true ∧ (wAt w 2).toNat ≤ n ∧ Placed q.1 ∧ (∀ l ∈ cabs, cabState q.1 (physOf q.1 l) = stEMPTY ∨ cabState q.1 (physOf q.1 l) = stHELD)) ∧
    (∃ (s u : State) (c : CompatJob) (w : List Word) (fr col row sec : Nat), NextRecord s c u w ∧ c.ofs ≤ 72 ∧ Placed u ∧ fr < 24 ∧ c.regions.testBit fr = true ∧ col < 16 ∧ row < 8 ∧ sec < 16 ∧ (wAt w 0).toNat = 2 ^ 56 + secWords sec * 2 ^ 32 + fr * 2 ^ 12 + col * 2 ^ 8 + row * 2 ^ 5 + sec ∧ (1 ≤ sec → newOp (wAt w 1) = false) ∧ gapPos u (physOf u (c.ofs + fr)) ≤ 16) ∧
    (∃ (s u : State) (c : CompatJob) (w : List Word) (fr col row sec : Nat), NextRecord s c u w ∧ c.ofs ≤ 72 ∧ Placed u ∧ fr < 24 ∧ c.regions.testBit fr = true ∧ col < 16 ∧ row < 8 ∧ 1 ≤ sec ∧ sec < 16 ∧ (wAt w 0).toNat = 2 ^ 56 + secWords sec * 2 ^ 32 + fr * 2 ^ 12 + col * 2 ^ 8 + row * 2 ^ 5 + sec ∧ newOp (wAt w 1) = true) ∧
    (∃ (s u : State) (c : CompatJob) (w : List Word), NextRecord s c u w ∧ c.ofs ≤ 72 ∧ Placed u ∧ wf (wAt w 0) 56 8 ∉ [0x01, 0x10, 0x11, 0x7E]) ∧
    (∃ (s u : State) (c : CompatJob) (w : List Word), NextRecord s c u w ∧ c.ofs ≤ 72 ∧ Placed u ∧ (wAt w 0).toNat = 0x7E * 2 ^ 56) := by
  refine ⟨⟨State.reset, 2 ^ 63 + 72, by decide +kernel⟩,
    ⟨State.reset, 32, by decide +kernel, by decide +kernel, by decide +kernel⟩,
    ⟨rg [(CFG_COMPAT_EN, 0, 1)], 31, by decide +kernel, by decide +kernel, by decide +kernel, by decide +kernel⟩,
    ⟨hdrSt, 40, by decide, by decide, by decide +kernel, by decide +kernel, by decide +kernel, (by simp only [hdr_bring, hdr_read]; decide +kernel), (by simp only [hdr_bring, hdr_read]; decide +kernel), (by simp only [hdr_bring, hdr_read]; decide +kernel), (by simp only [hdr_bring, hdr_read]; decide +kernel), ⟨(by simp only [hdr_bring, hdr_read]; decide +kernel), (by simp only [hdr_bring, hdr_read]; decide +kernel), (by simp only [hdr_bring, hdr_read]; decide +kernel)⟩, (by simp only [hdr_bring, hdr_read]; decide +kernel)⟩,
    ⟨frameSt, frameSt, job24 4, frame24 0, 23, 15, 7, 15, (by unfold NextRecord; decide +kernel), by decide +kernel, ⟨by decide +kernel, by decide +kernel, by decide +kernel⟩, by decide +kernel, by decide +kernel, by decide +kernel, by decide +kernel, by decide +kernel, by decide +kernel, by decide +kernel, by decide +kernel⟩,
    ⟨frameNewSt, frameNewSt, job24 4, frame24 (BitVec.ofNat 64 (0x25 * 2 ^ 57)), 23, 15, 7, 15, (by unfold NextRecord; decide +kernel), by decide +kernel, ⟨by decide +kernel, by decide +kernel, by decide +kernel⟩, by decide +kernel, by decide +kernel, by decide +kernel, by decide +kernel, by decide +kernel, by decide +kernel, by decide +kernel, by decide +kernel⟩,
    ⟨type2St, type2St, job24 1, [BitVec.ofNat 64 (2 ^ 57)], (by unfold NextRecord; decide +kernel), by decide +kernel, ⟨by decide +kernel, by decide +kernel, by decide +kernel⟩, by decide +kernel⟩,
    ⟨endSt, endSt, job24 1, [BitVec.ofNat 64 (0x7E * 2 ^ 56)], (by unfold NextRecord; decide +kernel), by decide +kernel, ⟨by decide +kernel, by decide +kernel, by decide +kernel⟩, by decide +kernel⟩⟩

theorem witness_RecoveryReloads :
    (∃ (s : State) (bad : Bool), (s.cfg.due = [] ∨ s.cfg.job ≠ none ∨ s.cfg.compat ≠ none)) ∧
    (∃ (s : State) (l : Nat) (r : List Nat), s.cfg.job = none ∧ s.cfg.compat = none ∧ s.cfg.due = l :: r ∧ l < 96 ∧ Placed s ∧ cabState s (physOf s l) = stFAULTED) ∧
    (∃ (s : State) (l : Nat) (r : List Nat) (bad : Bool), s.cfg.job = none ∧ s.cfg.compat = none ∧ s.cfg.due = l :: r ∧ l < 96 ∧ Placed s ∧ cabState s (physOf s l) ≠ stFAULTED) ∧
    (∃ (s : State) (q k : Nat), q < 5 ∧ fget s SYS_PAIR_STAT_RUN q = 1 ∧ fget s SYS_PAIR_STAT_STATE q ≠ 3 ∧ logicalPair s q = some k) ∧
    (∃ (s : State) (q : Nat), q < 5 ∧ (fget s SYS_PAIR_STAT_RUN q = 0 ∨ fget s SYS_PAIR_STAT_STATE q = 3)) ∧
    (∃ (s : State) (k q : Nat), k < 4 ∧ q < 5 ∧ (fget s SYS_PAIR_STAT_STATE q = 3 ∨ (∃ j, j < 4 ∧ j ≠ k ∧ fget s SYS_PAIR_MAP_VALID j = 1 ∧ fget s SYS_PAIR_MAP_PHYS j = q))) ∧
    (∃ (s : State) (k q : Nat), k < 4 ∧ q < 5 ∧ fget s SYS_PAIR_STAT_STATE q = 1 ∧ fget s SYS_PAIR_MAP_VALID k = 0 ∧ (∀ j, j < 4 → j ≠ k → fget s SYS_PAIR_MAP_VALID j = 0 ∨ fget s SYS_PAIR_MAP_PHYS j ≠ q)) ∧
    (∃ (s : State) (e : Code) (d : Word), fgetB s FLT_INJ_ACTIVE 49 = false ∧ eccJudge (sramCode s s.ctl.sramPat ^^^ e) = .clean d) ∧
    (∃ (s : State) (e : Code) (d : Word), fgetB s FLT_INJ_ACTIVE 49 = false ∧ eccJudge (sramCode s s.ctl.sramPat ^^^ e) = .fixed d) ∧
    (∃ (s : State) (e : Code), fgetB s FLT_INJ_ACTIVE 49 = false ∧ eccJudge (sramCode s s.ctl.sramPat ^^^ e) = .bad) := by
  refine ⟨⟨State.reset, true, by decide +kernel⟩,
    ⟨{ rg [(CAB_STATE_STATE, 5, stFAULTED)] with cfg := { due := [5, 6] } }, 5, [6], by decide +kernel, by decide +kernel, by decide +kernel, by decide +kernel, ⟨by decide +kernel, by decide +kernel, by decide +kernel⟩, by decide +kernel⟩,
    ⟨{ State.reset with cfg := { due := [5] } }, 5, [], true, by decide +kernel, by decide +kernel, by decide +kernel, by decide +kernel, ⟨by decide +kernel, by decide +kernel, by decide +kernel⟩, by decide +kernel⟩,
    ⟨rg [(SYS_PAIR_STAT_RUN, 4, 1), (SYS_PAIR_STAT_STATE, 4, 1), (SYS_PAIR_MAP_VALID, 3, 1), (SYS_PAIR_MAP_PHYS, 3, 4)], 4, 3, by decide +kernel, by decide +kernel, by decide +kernel, by decide +kernel⟩,
    ⟨State.reset, 4, by decide +kernel, by decide +kernel⟩,
    ⟨rg [(SYS_PAIR_STAT_STATE, 4, 3)], 3, 4, by decide +kernel, by decide +kernel, Or.inl (by decide +kernel)⟩,
    ⟨rg [(SYS_PAIR_STAT_STATE, 4, 1), (SYS_PAIR_MAP_VALID, 3, 0)], 3, 4, by decide +kernel, by decide +kernel, by decide +kernel, by decide +kernel, by decide +kernel⟩,
    ⟨State.reset, 0, 0, by decide +kernel, by decide +kernel⟩,
    ⟨State.reset, 1, 0, by decide +kernel, by decide +kernel⟩,
    ⟨State.reset, 3, by decide +kernel, by decide +kernel⟩⟩

/-- The state after reset with a scheduler state at tick `t`. -/
def ctlSt (t : Nat) (c : CtlSt) : State := { State.reset with ctl := c, time := { State.reset.time with tick := t } }

/-- Thread 4095 alone. -/
def thrSt (t : Nat) (x : Thr) : State := ctlSt t { thr := [(4095, x)] }

/-- Thread 4095 in service on pair 3. -/
def svcSt (t : Nat) (x : Thr) : State := ctlSt t { thr := [(4095, { x with st := thRUNNING, valid := true, job := true })], svc := [(3, 4096)] }

theorem witness_Scheduler_SchedulerReleases :
    (∃ (s : State) (k : Nat) (w : Word), k < 4096 ∧ (thr s k).valid = true ∧ (thr s k).st ≠ thIDLE) ∧
    (∃ (s : State) (k : Nat) (w : Word) (d : Nat), k < 4096 ∧ d = (smGet 0 s.ctl.desc (4 * k)).toNat + (smGet 0 s.ctl.desc (4 * k + 1)).toNat * 2 ^ 64 + (smGet 0 s.ctl.desc (4 * k + 2)).toNat * 2 ^ 128 + w.toNat * 2 ^ 192 ∧ ((thr s k).valid = false ∨ (thr s k).st = thIDLE) ∧ thrOk (thrOf d) = true) ∧
    (∃ (s : State) (k : Nat), k < 4096 ∧ (thr s k).valid = false) ∧
    (∃ (s : State) (k : Nat), k < 4096 ∧ (thr s k).valid = true ∧ (thr s k).periodic = false ∧ (thr s k).st = thIDLE ∧ ((thr s k).rel = 0 ∨ (thr s k).rel - 1 + (thr s k).period ≤ s.time.tick)) ∧
    (∃ (s : State) (k : Nat), k < 4096 ∧ (thr s k).valid = true ∧ (thr s k).periodic = false ∧ (thr s k).st = thIDLE ∧ (thr s k).rel ≠ 0 ∧ s.time.tick < (thr s k).rel - 1 + (thr s k).period ∧ s.ctl.tickList.length < 2048) ∧
    (∃ (s : State) (k : Nat), k < 4096 ∧ (thr s k).valid = true ∧ (thr s k).periodic = false ∧ (thr s k).st ≠ thIDLE ∧ (thr s k).posts < 255) ∧
    (∃ (s : State) (k : Nat), k < 4096 ∧ (thr s k).valid = true ∧ (thr s k).periodic = false ∧ (thr s k).st ≠ thIDLE ∧ (thr s k).posts = 255) ∧
    (∃ (s : State) (k : Nat), k < 4096 ∧ (thr s k).valid = true ∧ (thr s k).periodic = true ∧ (thr s k).st = thIDLE ∧ s.ctl.tickList.length < 2048) ∧
    (∃ (s : State) (k : Nat), k < 4096 ∧ (thr s k).valid = true ∧ (thr s k).periodic = true ∧ (thr s k).st ≠ thIDLE) ∧
    (∃ (s : State) (e : Nat), e < 64 ∧ e ∉ s.evt.lines) ∧
    (∃ (s : State) (e : Nat), e < 64 ∧ e ∈ s.evt.lines ∧ fget s SCH_EVT_BIND_EN e = 0) ∧
    (∃ (s : State) (e : Nat), e < 64 ∧ e ∈ s.evt.lines ∧ fget s SCH_EVT_BIND_EN e = 1 ∧ fget s SCH_EVT_BIND_THREAD e < 4096) ∧
    (∃ (s : State), s.ctl.tickList = []) ∧
    (∃ (s : State) (due k : Nat) (r : List (Nat × Nat)), s.ctl.tickList = (due, k) :: r ∧ s.time.tick < due) ∧
    (∃ (s : State) (due k : Nat) (r : List (Nat × Nat)), s.ctl.tickList = (due, k) :: r ∧ due ≤ s.time.tick ∧ (thr s k).st = thDELAYED) ∧
    (∃ (s : State) (due k : Nat) (r : List (Nat × Nat)), s.ctl.tickList = (due, k) :: r ∧ due ≤ s.time.tick ∧ (thr s k).st ≠ thDELAYED) ∧
    (∃ (s : State), s.ctl.cycList = []) ∧
    (∃ (s : State) (due c k : Nat) (r : List (Nat × Nat × Nat)), s.ctl.cycList = (due, c, k) :: r ∧ s.time.tick < due) ∧
    (∃ (s : State) (due c k : Nat) (r : List (Nat × Nat × Nat)), s.ctl.cycList = (due, c, k) :: r ∧ due < s.time.tick ∧ (thr s k).st = thDELAYED) ∧
    (∃ (s : State) (due c k : Nat) (r : List (Nat × Nat × Nat)), s.ctl.cycList = (due, c, k) :: r ∧ due < s.time.tick ∧ (thr s k).st ≠ thDELAYED) ∧
    (∃ (s : State) (k : Nat), k < 4096 ∧ (thr s k).valid = true ∧ (thr s k).job = true ∧ (thr s k).missed = false ∧ (thr s k).dlTick < s.time.tick ∧ s.time.tick < 2 ^ 47) ∧
    (∃ (s : State) (k : Nat), k < 4096 ∧ ((thr s k).job = false ∨ (thr s k).missed = true)) := by
  refine ⟨⟨thrSt 0 { valid := true, st := thREADY }, 4095, 0, by decide +kernel, by decide +kernel, by decide +kernel⟩,
    ⟨ctlSt 0 { desc := [(16380, 1), (16381, 2)] }, 4095, BitVec.ofNat 64 (2 ^ 63 + 2 ^ 56), 1 + 2 * 2 ^ 64 + (2 ^ 63 + 2 ^ 56) * 2 ^ 192, by decide +kernel, by decide +kernel, Or.inl (by decide +kernel), by decide +kernel⟩,
    ⟨State.reset, 4095, by decide +kernel, by decide +kernel⟩,
    ⟨thrSt 9 { valid := true, rel := 8, period := 2 }, 4095, by decide +kernel, by decide +kernel, by decide +kernel, by decide +kernel, Or.inr (by decide +kernel)⟩,
    ⟨thrSt 9 { valid := true, rel := 9, period := 2 }, 4095, by decide +kernel, by decide +kernel, by decide +kernel, by decide +kernel, by decide +kernel, by decide +kernel, by decide +kernel⟩,
    ⟨thrSt 9 { valid := true, st := thREADY, posts := 254 }, 4095, by decide +kernel, by decide +kernel, by decide +kernel, by decide +kernel, by decide +kernel⟩,
    ⟨thrSt 9 { valid := true, st := thREADY, posts := 255 }, 4095, by decide +kernel, by decide +kernel, by decide +kernel, by decide +kernel, by decide +kernel⟩,
    ⟨thrSt 9 { valid := true, periodic := true, period := 1 }, 4095, by decide +kernel, by decide +kernel, by decide +kernel, by decide +kernel, by decide +kernel⟩,
    ⟨thrSt 9 { valid := true, periodic := true, period := 1, st := thDELAYED }, 4095, by decide +kernel, by decide +kernel, by decide +kernel, by decide +kernel⟩,
    ⟨State.reset, 63, by decide +kernel, by decide +kernel⟩,
    ⟨{ State.reset with evt := { State.reset.evt with lines := [63] } }, 63, by decide +kernel, by decide +kernel, by decide +kernel⟩,
    ⟨{ rg [(SCH_EVT_BIND_EN, 63, 1), (SCH_EVT_BIND_THREAD, 63, 4095)] with evt := { State.reset.evt with lines := [63] } }, 63, by decide +kernel, by decide +kernel, by decide +kernel, by decide +kernel⟩,
    ⟨State.reset, by decide +kernel⟩,
    ⟨ctlSt 4 { tickList := [(5, 4095)] }, 5, 4095, [], by decide +kernel, by decide +kernel⟩,
    ⟨ctlSt 5 { tickList := [(5, 4095)], thr := [(4095, { st := thDELAYED })] }, 5, 4095, [], by decide +kernel, by decide +kernel, by decide +kernel⟩,
    ⟨ctlSt 5 { tickList := [(5, 4095)] }, 5, 4095, [], by decide +kernel, by decide +kernel, by decide +kernel⟩,
    ⟨State.reset, by decide +kernel⟩,
    ⟨ctlSt 4 { cycList := [(5, 0, 4095)] }, 5, 0, 4095, [], by decide +kernel, by decide +kernel⟩,
    ⟨ctlSt 6 { cycList := [(5, 0, 4095)], thr := [(4095, { st := thDELAYED })] }, 5, 0, 4095, [], by decide +kernel, by decide +kernel, by decide +kernel⟩,
    ⟨ctlSt 6 { cycList := [(5, 0, 4095)] }, 5, 0, 4095, [], by decide +kernel, by decide +kernel, by decide +kernel⟩,
    ⟨thrSt 6 { valid := true, st := thRUNNING, job := true, dlTick := 5 }, 4095, by decide +kernel, by decide +kernel, by decide +kernel, by decide +kernel, by decide +kernel, by decide +kernel⟩,
    ⟨State.reset, 4095, by decide +kernel, Or.inl (by decide +kernel)⟩⟩

theorem witness_Scheduler_SchedulerDispatch :
    (∃ (s : State), s.ctl.waiting = []) ∧
    (∃ (s : State) (k w x : Nat), s.ctl.waiting = [(k, w)] ∧ k < 4 ∧ x < 4096 ∧ (thr s x).flow < 16384 ∧ x ∈ eligibles s k ∧ (∀ u ∈ eligibles s k, u ≠ x → thrBefore s x u = true ∧ thrBefore s u x = false)) ∧
    (∃ (s : State) (k cc : Nat), k < 4 ∧ fget s SYS_PAIR_MAP_VALID k = 0) ∧
    (∃ (s : State) (k cc : Nat), k < 4 ∧ fget s SYS_PAIR_MAP_VALID k = 1 ∧ inService s k = none ∧ (∀ w ∈ s.ctl.waiting, w.1 ≠ k)) ∧
    (∃ (s : State) (k x cc : Nat), Serves s k x cc ∧ fget s SYS_PAIR_MAP_VALID k = 1 ∧ (∀ w ∈ s.ctl.waiting, w.1 ≠ k)) ∧
    (∃ (s : State) (k x cc : Nat) (d : Nat), Serves s k x cc ∧ d < 2 ^ 32 ∧ s.ctl.cycList.length < 2048) ∧
    (∃ (s : State) (k x cc : Nat), Serves s k x cc ∧ (thr s x).periodic = false ∧ (thr s x).posts = 0) ∧
    (∃ (s : State) (k x cc : Nat), Serves s k x cc ∧ (thr s x).periodic = true ∧ s.time.tick < (thr s x).rel - 1 + (thr s x).period ∧ s.ctl.tickList.length < 2048) ∧
    (∃ (s : State) (k x cc : Nat), Serves s k x cc ∧ (thr s x).periodic = true ∧ (thr s x).rel - 1 + (thr s x).period ≤ s.time.tick) ∧
    (∃ (s : State) (k x cc : Nat), k < 4 ∧ x < 4096 ∧ inService s k = some x ∧ (thr s x).ovr = false ∧ (thr s x).budget ≠ 0 ∧ (thr s x).budget < (thr s x).svc + cc ∧ (thr s x).flow < 16384) ∧
    (∃ (s : State) (k cc : Nat), k < 4 ∧ inService s k = none) ∧
    (∃ (s : State) (k x cc : Nat), k < 4 ∧ x < 4096 ∧ inService s k ≠ some x) := by
  refine ⟨⟨State.reset, by decide +kernel⟩,
    ⟨ctlSt 0 { waiting := [(3, 7)], thr := [(1, { valid := true, st := thREADY, aff := 8, band := 3 }), (4095, { valid := true, st := thREADY, aff := 8, band := 2 })] }, 3, 7, 4095, by decide +kernel, by decide +kernel, by decide +kernel, by decide +kernel, by decide +kernel, by decide +kernel⟩,
    ⟨rg [(SYS_PAIR_MAP_VALID, 3, 0)], 3, 0, by decide +kernel, by decide +kernel⟩,
    ⟨State.reset, 3, 0, by decide +kernel, by decide +kernel, by decide +kernel, by decide +kernel⟩,
    ⟨svcSt 0 { budget := 9, svc := 8 }, 3, 4095, 1, ⟨by decide +kernel, by decide +kernel, by decide +kernel, by decide +kernel, by decide +kernel, by decide +kernel⟩, by decide +kernel, by decide +kernel⟩,
    ⟨svcSt 0 { budget := 9, svc := 8 }, 3, 4095, 1, 1, ⟨by decide +kernel, by decide +kernel, by decide +kernel, by decide +kernel, by decide +kernel, by decide +kernel⟩, by decide +kernel, by decide +kernel⟩,
    ⟨svcSt 0 { }, 3, 4095, 1, ⟨by decide +kernel, by decide +kernel, by decide +kernel, by decide +kernel, by decide +kernel, by decide +kernel⟩, by decide +kernel, by decide +kernel⟩,
    ⟨svcSt 5 { rel := 6, period := 1, periodic := true }, 3, 4095, 1, ⟨by decide +kernel, by decide +kernel, by decide +kernel, by decide +kernel, by decide +kernel, by decide +kernel⟩, by decide +kernel, by decide +kernel, by decide +kernel⟩,
    ⟨svcSt 6 { rel := 6, period := 1, periodic := true }, 3, 4095, 1, ⟨by decide +kernel, by decide +kernel, by decide +kernel, by decide +kernel, by decide +kernel, by decide +kernel⟩, by decide +kernel, by decide +kernel⟩,
    ⟨svcSt 0 { budget := 9, svc := 9 }, 3, 4095, 1, by decide +kernel, by decide +kernel, by decide +kernel, by decide +kernel, by decide +kernel, by decide +kernel, by decide +kernel⟩,
    ⟨State.reset, 3, 0, by decide +kernel, by decide +kernel⟩,
    ⟨State.reset, 3, 4095, 0, by decide +kernel, by decide +kernel, by decide +kernel⟩⟩

/-- Kaluno runs and serves every group; mailbox 15 is `x`. -/
def fwSt (l : List (Fld × Nat × Nat)) (x : Mbx) : State :=
  { rg ((MBX_CFG_GMASK, 15, 0x1FFF) :: l) with boot := { held := false, fw := true }, svc := { box := [(15, x)] } }

/-- Mailbox 15 has rung. -/
def rungSt (x : Mbx) : State := { fwSt [] x with svc := { box := [(15, x)], order := [15] } }

/-- A request window (R358). -/
def reqWin (tag seq code grp flags chk : Nat) (pay : List Byte) : SMap Byte :=
  winPut [] 0 (leBytes 4 tag ++ leBytes 2 seq ++ leBytes 1 code ++ leBytes 1 grp ++ List.replicate 5 0 ++ leBytes 1 flags ++
    leBytes 2 pay.length ++ List.replicate 4 0 ++ leBytes 4 chk ++ pay)

theorem rung15_idle : (fget (rungSt {}) MBX_BUSY_BUSY 0).testBit 15 = false := by decide +kernel

theorem rung15 {x : Mbx} : Rung (rungSt x) 15 where
  box := by decide
  fw := ⟨rfl, rfl⟩
  order := rfl
  idle := (congrArg (fun n => Nat.testBit n 15) (rfl : fget (rungSt x) MBX_BUSY_BUSY 0 = fget (rungSt {}) MBX_BUSY_BUSY 0)).trans rung15_idle
  waits := rfl
  held := rfl
  phase := fun h => absurd ((rfl : fget (rungSt {}) SYS_BOOT_STAT_PHASE 0 = fget (rungSt x) SYS_BOOT_STAT_PHASE 0).trans h) (by decide +kernel)

theorem witness_MailboxExchange :
    (∃ (s : State) (m a : Nat) (b : List Byte), m < 16 ∧ a + b.length ≤ 4096 ∧ ((fget s MBX_DOORBELL_DB 0).testBit m = true ∨ (fget s MBX_BUSY_BUSY 0).testBit m = true)) ∧
    (∃ (s : State) (m a : Nat) (b : List Byte), m < 16 ∧ a + b.length ≤ 4096 ∧ (fget s MBX_DOORBELL_DB 0).testBit m = false ∧ (fget s MBX_BUSY_BUSY 0).testBit m = false) ∧
    (∃ (s : State) (m : Nat), m < 16 ∧ (fget s MBX_DOORBELL_DB 0).testBit m = false) ∧
    (∃ (s : State) (m : Nat), m < 16 ∧ (fget s MBX_DOORBELL_DB 0).testBit m = true) ∧
    (∃ (s : State) (ext : List Byte), s.svc.waits = [] ∧ s.svc.held = [] ∧ (mbxServed s = false ∨ s.svc.order = [])) ∧
    (∃ (s : State) (m tag seq code grp flags chk : Nat) (pay ext : List Byte), Rung s m ∧ Requested s m tag seq code grp flags chk pay ∧ flags.testBit 0 = true ∧ chk ≠ crc32cR (winGet (mbx s m).req 0 20 ++ leBytes 4 0 ++ pay)) ∧
    (∃ (s : State) (m tag seq code grp flags chk : Nat) (pay ext : List Byte), Rung s m ∧ Requested s m tag seq code grp flags chk pay ∧ flags.testBit 0 = false ∧ flags.testBit 1 = false ∧ ((mbx s m).sync = false ∨ (seq ≠ (mbx s m).seq ∧ seq ≠ ((mbx s m).seq + 1) % 65536))) ∧
    (∃ (s : State) (m tag seq code grp flags chk : Nat) (pay ext : List Byte), Rung s m ∧ Requested s m tag seq code grp flags chk pay ∧ flags.testBit 0 = false ∧ flags.testBit 1 = false ∧ (mbx s m).sync = true ∧ seq = (mbx s m).seq ∧ grp = (mbx s m).grp ∧ code = (mbx s m).code ∧ tag = (mbx s m).tag ∧ (mbx s m).st < 256 ∧ (mbx s m).sub < 256 ∧ (mbx s m).pay.length ≤ 4072) ∧
    (∃ (s : State) (m tag seq code grp flags chk : Nat) (pay ext : List Byte), Rung s m ∧ Requested s m tag seq code grp flags chk pay ∧ flags.testBit 0 = false ∧ (flags.testBit 1 = true ∨ ((mbx s m).sync = true ∧ seq = ((mbx s m).seq + 1) % 65536)) ∧ 1 ≤ grp ∧ grp ≤ 10 ∧ (fget s MBX_CFG_GMASK m).testBit (grp - 1) = true ∧ widths grp code pay = none) ∧
    (∃ (s : State) (m tag seq code grp flags chk : Nat) (pay ext : List Byte) (l : _), Rung s m ∧ Requested s m tag seq code grp flags chk pay ∧ flags.testBit 0 = false ∧ (flags.testBit 1 = true ∨ ((mbx s m).sync = true ∧ seq = ((mbx s m).seq + 1) % 65536)) ∧ 1 ≤ grp ∧ grp ≤ 10 ∧ (fget s MBX_CFG_GMASK m).testBit (grp - 1) = true ∧ widths grp code pay = some l ∧ splitFields l pay = none) ∧
    (∃ (s : State) (m tag seq code grp flags chk : Nat) (pay ext : List Byte) (b : _), Rung s m ∧ Requested s m tag seq code grp flags chk pay ∧ flags.testBit 0 = false ∧ (flags.testBit 1 = true ∨ ((mbx s m).sync = true ∧ seq = ((mbx s m).seq + 1) % 65536)) ∧ 1 ≤ grp ∧ grp ≤ 10 ∧ (fget s MBX_CFG_GMASK m).testBit (grp - 1) = true ∧ grp = 3 ∧ code = 5 ∧ b < 2 ∧ pay = [BitVec.ofNat 8 b]) ∧
    (∃ (s : State) (v : Nat), (v % 65536 + 65536 - fget s MBX_EVT_IDX_CI 0) % 65536 ≤ ringUsed s ∧ s.evt.lost = 0) ∧
    (∃ (s : State) (v : Nat), (v % 65536 + 65536 - fget s MBX_EVT_IDX_CI 0) % 65536 ≤ ringUsed s ∧ s.evt.lost ≠ 0 ∧ (fget s MBX_EVT_IDX_PI 0 + 65536 - v % 65536) % 65536 < 2047) ∧
    (∃ (s : State) (v : Nat), ringUsed s < (v % 65536 + 65536 - fget s MBX_EVT_IDX_CI 0) % 65536) ∧
    (∃ (s : State) (a n : Nat) (b : List Byte), s.boot.held = true) ∧
    (∃ (s : State) (a n : Nat) (b : List Byte), a < 2 ^ 24 ∧ n ≤ 2 ^ 20 ∧ 0x50000 ≤ a ∧ a % 4 = 0 ∧ s.boot.held = false) ∧
    (∃ (s : State) (a : Nat) (b : List Byte), a % 4 ≠ 0) ∧
    (∃ (s : State), s.boot.held = false) ∧
    (∃ (s : State) (a b c d : Byte), s.boot.held = false) := by
  refine ⟨⟨rg [(MBX_DOORBELL_DB, 0, 2 ^ 15)], 15, 4095, [0xFF], by decide +kernel, by decide +kernel, Or.inl (by decide +kernel)⟩,
    ⟨State.reset, 15, 4095, [0xFF], by decide +kernel, by decide +kernel, by decide +kernel, by decide +kernel⟩,
    ⟨State.reset, 15, by decide +kernel, by decide +kernel⟩,
    ⟨rg [(MBX_DOORBELL_DB, 0, 2 ^ 15)], 15, by decide +kernel, by decide +kernel⟩,
    ⟨State.reset, [], by decide +kernel, by decide +kernel, Or.inl (by decide +kernel)⟩,
    ⟨rungSt { req := reqWin 7 1 1 3 1 0 [] }, 15, 7, 1, 1, 3, 1, 0, [], [], rung15, ⟨by decide +kernel, by decide +kernel, by decide +kernel, by decide +kernel, by decide +kernel, by decide +kernel⟩, by decide +kernel, by decide +kernel⟩,
    ⟨rungSt { req := reqWin 7 9 1 3 0 0 [] }, 15, 7, 9, 1, 3, 0, 0, [], [], rung15, ⟨by decide +kernel, by decide +kernel, by decide +kernel, by decide +kernel, by decide +kernel, by decide +kernel⟩, by decide +kernel, by decide +kernel, Or.inl (by decide +kernel)⟩,
    ⟨rungSt { req := reqWin 7 9 1 3 0 0 [], sync := true, seq := 9, grp := 3, code := 1, tag := 7, st := 255, sub := 255, pay := [1] }, 15, 7, 9, 1, 3, 0, 0, [], [], rung15, ⟨by decide +kernel, by decide +kernel, by decide +kernel, by decide +kernel, by decide +kernel, by decide +kernel⟩, by decide +kernel, by decide +kernel, by decide +kernel, by decide +kernel, by decide +kernel, by decide +kernel, by decide +kernel, by decide +kernel, by decide +kernel, by decide +kernel⟩,
    ⟨rungSt { req := reqWin 7 0 255 3 0 0 [], sync := true, seq := 65535 }, 15, 7, 0, 255, 3, 0, 0, [], [], rung15, ⟨by decide +kernel, by decide +kernel, by decide +kernel, by decide +kernel, by decide +kernel, by decide +kernel⟩, by decide +kernel, Or.inr (by decide +kernel), by decide +kernel, by decide +kernel, by decide +kernel, by decide +kernel⟩,
    ⟨rungSt { req := reqWin 7 0 5 3 2 0 [] }, 15, 7, 0, 5, 3, 2, 0, [], [], [1], rung15, ⟨by decide +kernel, by decide +kernel, by decide +kernel, by decide +kernel, by decide +kernel, by decide +kernel⟩, by decide +kernel, Or.inl (by decide +kernel), by decide +kernel, by decide +kernel, by decide +kernel, by decide +kernel, by decide +kernel⟩,
    ⟨rungSt { req := reqWin 7 0 5 3 2 0 [1] }, 15, 7, 0, 5, 3, 2, 0, [1], [], 1, rung15, ⟨by decide +kernel, by decide +kernel, by decide +kernel, by decide +kernel, by decide +kernel, by decide +kernel⟩, by decide +kernel, Or.inl (by decide +kernel), by decide +kernel, by decide +kernel, by decide +kernel, by decide +kernel, by decide +kernel, by decide +kernel, by decide +kernel⟩,
    ⟨rg [(MBX_EVT_IDX_PI, 0, 3), (MBX_EVT_IDX_CI, 0, 65535)], 3, by decide +kernel, by decide +kernel⟩,
    ⟨{ rg [(MBX_EVT_IDX_PI, 0, 3), (MBX_EVT_IDX_CI, 0, 65535)] with evt := { lost := 5 } }, 3, by decide +kernel, by decide +kernel, by decide +kernel⟩,
    ⟨rg [(MBX_EVT_IDX_PI, 0, 3), (MBX_EVT_IDX_CI, 0, 65535)], 4, by decide +kernel⟩,
    ⟨{ State.reset with boot := { held := true } }, 0xFFFFFC, 2 ^ 20, [1], by decide +kernel⟩,
    ⟨{ State.reset with boot := { held := false } }, 0xFFFFFC, 2 ^ 20, [1], by decide +kernel, by decide +kernel, by decide +kernel, by decide +kernel, by decide +kernel⟩,
    ⟨State.reset, 0x50001, [1], by decide +kernel⟩,
    ⟨{ State.reset with boot := { held := false } }, by decide +kernel⟩,
    ⟨{ State.reset with boot := { held := false } }, 1, 2, 3, 4, by decide +kernel⟩⟩

theorem witness_AnswerOfACommand :
    (∃ (w : State) (m st sub : Nat) (more : Bool) (pay : List Byte) (n : _), m < 16 ∧ st < 256 ∧ sub < 256 ∧ pay.length ≤ 4072 ∧ n ≠ m) ∧
    (∃ (s : State) (m n : Nat), m < 16 ∧ n < 2 ^ 32 ∧ (fget s MBX_BUSY_BUSY 0).testBit m = false ∧ s.boot.rom = false ∧ s.boot.fw = true ∧ fget s SYS_BOOT_STAT_PHASE 0 ≠ 6 ∧ (fget s MBX_CFG_GMASK m).testBit 2 = false) ∧
    (∃ (s : State) (m n : Nat), m < 16 ∧ n < 2 ^ 32 ∧ (fget s MBX_BUSY_BUSY 0).testBit m = false ∧ s.boot.rom = true) ∧
    (∃ (s : State) (m n : Nat), m < 16 ∧ n < 2 ^ 32 ∧ ((fget s MBX_BUSY_BUSY 0).testBit m = true ∨ mbxServed s = false)) ∧
    (∃ (s : State) (m l q : Nat), m < 16 ∧ l < 96 ∧ q < 2 ∧ s.boot.rom = false ∧ s.boot.fw = true ∧ fget s SYS_BOOT_STAT_PHASE 0 ≠ 6 ∧ (fget s MBX_BUSY_BUSY 0).testBit m = false ∧ (fget s MBX_CFG_GMASK m).testBit 1 = true ∧ fget s FLT_STATE_STATE 0 ≠ 0) ∧
    (∃ (s : State) (m l : Nat) (x : Nat), m < 16 ∧ l < 96 ∧ s.boot.rom = false ∧ s.boot.fw = true ∧ fget s SYS_BOOT_STAT_PHASE 0 ≠ 6 ∧ (fget s MBX_BUSY_BUSY 0).testBit m = false ∧ (fget s MBX_CFG_GMASK m).testBit 1 = true ∧ (x, .hold l) ∈ s.svc.waits) := by
  refine ⟨⟨State.reset, 15, 255, 255, true, [1], 16, by decide +kernel, by decide +kernel, by decide +kernel, by decide +kernel, by decide +kernel⟩,
    ⟨{ fwSt [] {} with regs := (rg [(MBX_CFG_GMASK, 15, 0x3FB)]).regs }, 15, 2 ^ 32 - 1, by decide +kernel, by decide +kernel, by decide +kernel, by decide +kernel, by decide +kernel, by decide +kernel, by decide +kernel⟩,
    ⟨{ State.reset with boot := { rom := true } }, 15, 2 ^ 32 - 1, by decide +kernel, by decide +kernel, by decide +kernel, by decide +kernel⟩,
    ⟨State.reset, 15, 2 ^ 32 - 1, by decide +kernel, by decide +kernel, Or.inr (by decide +kernel)⟩,
    ⟨fwSt [(FLT_STATE_STATE, 0, 1)] {}, 15, 95, 1, by decide +kernel, by decide +kernel, by decide +kernel, by decide +kernel, by decide +kernel, by decide +kernel, by decide +kernel, by decide +kernel, by decide +kernel⟩,
    ⟨{ fwSt [] {} with svc := { waits := [(3, .hold 95)] } }, 15, 95, 3, by decide +kernel, by decide +kernel, by decide +kernel, by decide +kernel, by decide +kernel, by decide +kernel, by decide +kernel, by decide +kernel⟩⟩

/-- The same with key 0's digest programmed. -/
def otpSt : State := { fwSt [] {} with otp := { State.reset.otp with digest := [(0, zdig)] } }

/-- Kaluno runs, and `a` are cabinets' states. -/
def arrSt (l : List (Fld × Nat × Nat)) (a : SMap Cab) : State :=
  { fwSt l {} with array := { State.reset.array with cabs := a } }

theorem witness_SysAndCabCommands_SysCommands :
    (∃ (s : State) (m : Nat), MbxRuns s m 1 1 []) ∧
    (∃ (s : State) (m : Nat), MbxRuns s m 1 2 []) ∧
    (∃ (s : State) (m : Nat) (nonce : List Byte), MbxRuns s m 1 3 [leNat nonce] ∧ nonce.length = 32) ∧
    (∃ (s : State) (m d : Nat), MbxRuns s m 1 4 [d] ∧ d < 65536) ∧
    (∃ (s : State) (m : Nat), MbxRuns s m 1 5 []) ∧
    (∃ (s : State) (m slot auth : Nat) (pk sig : List Byte), slot < 256 ∧ auth < 256 ∧ pk.length = 57 ∧ sig.length = 114 ∧ MbxRuns s m 1 6 [slot, auth, leNat pk, leNat sig] ∧ (4 ≤ slot ∨ 4 ≤ auth)) ∧
    (∃ (s : State) (m slot auth : Nat) (pk sig : List Byte), slot < 256 ∧ auth < 256 ∧ pk.length = 57 ∧ sig.length = 114 ∧ MbxRuns s m 1 6 [slot, auth, leNat pk, leNat sig] ∧ slot < 4 ∧ auth < 4 ∧ (auth = slot ∨ s.otp.revoked.testBit auth = true ∨ (s.otp.revoked ||| 2 ^ slot) % 16 = 15)) ∧
    (∃ (s : State) (m slot auth : Nat) (pk sig : List Byte), slot < 256 ∧ auth < 256 ∧ pk.length = 57 ∧ sig.length = 114 ∧ MbxRuns s m 1 6 [slot, auth, leNat pk, leNat sig] ∧ slot < 4 ∧ auth < 4 ∧ auth ≠ slot ∧ s.otp.revoked.testBit auth = false ∧ (s.otp.revoked ||| 2 ^ slot) % 16 ≠ 15 ∧ otpSigned (taken s m 1 6) 6 auth (leBytes 1 slot ++ leBytes 1 auth) (leBytes 57 (leNat pk)) (leBytes 114 (leNat sig)) = false) ∧
    (∃ (s : State) (m slot auth : Nat) (pk sig : List Byte), slot < 256 ∧ auth < 256 ∧ pk.length = 57 ∧ sig.length = 114 ∧ MbxRuns s m 1 6 [slot, auth, leNat pk, leNat sig] ∧ slot < 4 ∧ auth < 4 ∧ auth ≠ slot ∧ s.otp.revoked.testBit auth = false ∧ (s.otp.revoked ||| 2 ^ slot) % 16 ≠ 15 ∧ otpSigned (taken s m 1 6) 6 auth (leBytes 1 slot ++ leBytes 1 auth) (leBytes 57 (leNat pk)) (leBytes 114 (leNat sig)) = true) ∧
    (∃ (s : State) (m which n auth : Nat) (pk sig : List Byte), which < 256 ∧ n < 2 ^ 32 ∧ auth < 256 ∧ pk.length = 57 ∧ sig.length = 114 ∧ MbxRuns s m 1 7 [which, n, auth, leNat pk, leNat sig] ∧ (1 < which ∨ 4 ≤ auth ∨ n < (if which = 0 then s.otp.svn else s.otp.fwSvn))) ∧
    (∃ (s : State) (m which n auth : Nat) (pk sig : List Byte), which < 256 ∧ n < 2 ^ 32 ∧ auth < 256 ∧ pk.length = 57 ∧ sig.length = 114 ∧ MbxRuns s m 1 7 [which, n, auth, leNat pk, leNat sig] ∧ auth < 4 ∧ otpSigned (taken s m 1 7) 7 auth (leBytes 1 which ++ leBytes 4 n ++ leBytes 1 auth) (leBytes 57 (leNat pk)) (leBytes 114 (leNat sig)) = true ∧ which = 0 ∧ s.otp.svn ≤ n) ∧
    (∃ (s : State) (m which n auth : Nat) (pk sig : List Byte), which < 256 ∧ n < 2 ^ 32 ∧ auth < 256 ∧ pk.length = 57 ∧ sig.length = 114 ∧ MbxRuns s m 1 7 [which, n, auth, leNat pk, leNat sig] ∧ auth < 4 ∧ otpSigned (taken s m 1 7) 7 auth (leBytes 1 which ++ leBytes 4 n ++ leBytes 1 auth) (leBytes 57 (leNat pk)) (leBytes 114 (leNat sig)) = true ∧ which = 1 ∧ s.otp.fwSvn ≤ n) := by
  refine ⟨⟨fwSt [] {}, 15, ⟨by decide +kernel, by decide +kernel, by decide +kernel, by decide +kernel, by decide +kernel, by decide +kernel⟩⟩,
    ⟨fwSt [] {}, 15, ⟨by decide +kernel, by decide +kernel, by decide +kernel, by decide +kernel, by decide +kernel, by decide +kernel⟩⟩,
    ⟨fwSt [] {}, 15, List.replicate 32 0xFF, ⟨by decide +kernel, by decide +kernel, by decide +kernel, by decide +kernel, by decide +kernel, by decide +kernel⟩, by decide +kernel⟩,
    ⟨fwSt [] {}, 15, 65535, ⟨by decide +kernel, by decide +kernel, by decide +kernel, by decide +kernel, by decide +kernel, by decide +kernel⟩, by decide +kernel⟩,
    ⟨fwSt [] {}, 15, ⟨by decide +kernel, by decide +kernel, by decide +kernel, by decide +kernel, by decide +kernel, by decide +kernel⟩⟩,
    ⟨fwSt [] {}, 15, 4, 0, zpk, zsig, by decide +kernel, by decide +kernel, by decide +kernel, by decide +kernel, ⟨by decide +kernel, by decide +kernel, by decide +kernel, by decide +kernel, by decide +kernel, by decide +kernel⟩, by decide +kernel⟩,
    ⟨fwSt [] {}, 15, 3, 3, zpk, zsig, by decide +kernel, by decide +kernel, by decide +kernel, by decide +kernel, ⟨by decide +kernel, by decide +kernel, by decide +kernel, by decide +kernel, by decide +kernel, by decide +kernel⟩, by decide +kernel, by decide +kernel, by decide +kernel⟩,
    ⟨fwSt [] {}, 15, 3, 0, zpk, zsig, by decide +kernel, by decide +kernel, by decide +kernel, by decide +kernel, ⟨by decide +kernel, by decide +kernel, by decide +kernel, by decide +kernel, by decide +kernel, by decide +kernel⟩, by decide +kernel, by decide +kernel, by decide +kernel, by decide +kernel, by decide +kernel, by decide +kernel⟩,
    ⟨otpSt, 15, 3, 0, zpk, zsig, by decide +kernel, by decide +kernel, by decide +kernel, by decide +kernel, ⟨by decide +kernel, by decide +kernel, by decide +kernel, by decide +kernel, by decide +kernel, by decide +kernel⟩, by decide +kernel, by decide +kernel, by decide +kernel, by decide +kernel, by decide +kernel, zotp (by decide +kernel) (by decide +kernel)⟩,
    ⟨fwSt [] {}, 15, 2, 0, 0, zpk, zsig, by decide +kernel, by decide +kernel, by decide +kernel, by decide +kernel, by decide +kernel, ⟨by decide +kernel, by decide +kernel, by decide +kernel, by decide +kernel, by decide +kernel, by decide +kernel⟩, by decide +kernel⟩,
    ⟨otpSt, 15, 0, 2 ^ 32 - 1, 0, zpk, zsig, by decide +kernel, by decide +kernel, by decide +kernel, by decide +kernel, by decide +kernel, ⟨by decide +kernel, by decide +kernel, by decide +kernel, by decide +kernel, by decide +kernel, by decide +kernel⟩, by decide +kernel, zotp (by decide +kernel) (by decide +kernel), by decide +kernel, by decide +kernel⟩,
    ⟨otpSt, 15, 1, 2 ^ 32 - 1, 0, zpk, zsig, by decide +kernel, by decide +kernel, by decide +kernel, by decide +kernel, by decide +kernel, ⟨by decide +kernel, by decide +kernel, by decide +kernel, by decide +kernel, by decide +kernel, by decide +kernel⟩, by decide +kernel, zotp (by decide +kernel) (by decide +kernel), by decide +kernel, by decide +kernel⟩⟩

theorem witness_SysAndCabCommands_CabCommands :
    (∃ (s : State) (m cofs addr n : Nat) (c : _), cofs < 256 ∧ addr < 2 ^ 64 ∧ n ≤ 67108864 ∧ MbxRuns s m 2 1 [0, c, cofs, addr, n] ∧ loadBusy (taken s m 2 1) = true ∧ c < 256) ∧
    (∃ (s : State) (m cofs addr n : Nat), cofs < 256 ∧ addr < 2 ^ 64 ∧ n ≤ 67108864 ∧ MbxRuns s m 2 1 [0, 0, cofs, addr, n] ∧ loadBusy (taken s m 2 1) = false) ∧
    (∃ (s : State) (m l p : Nat), physOf (taken s m 2 2) l = p ∧ l < 96 ∧ MbxRuns s m 2 2 [l] ∧ cabState (taken s m 2 2) p = stEMPTY) ∧
    (∃ (s : State) (m l p : Nat), physOf (taken s m 2 2) l = p ∧ l < 96 ∧ MbxRuns s m 2 2 [l] ∧ cabState (taken s m 2 2) p = stLOADING) ∧
    (∃ (s : State) (m l p : Nat), physOf (taken s m 2 2) l = p ∧ l < 96 ∧ MbxRuns s m 2 2 [l] ∧ (cabState (taken s m 2 2) p = stFAULTED ∨ cabState (taken s m 2 2) p = stINCONSISTENT)) ∧
    (∃ (s : State) (m l p : Nat), physOf (taken s m 2 2) l = p ∧ l < 96 ∧ MbxRuns s m 2 2 [l] ∧ (cabState (taken s m 2 2) p = stRUNNING ∨ cabState (taken s m 2 2) p = stHELD)) ∧
    (∃ (s : State) (m l p : Nat), physOf (taken s m 2 3) l = p ∧ l < 96 ∧ MbxRuns s m 2 3 [l] ∧ cabState (taken s m 2 3) p = stRUNNING) ∧
    (∃ (s : State) (m l p : Nat), physOf (taken s m 2 3) l = p ∧ l < 96 ∧ MbxRuns s m 2 3 [l] ∧ cabState (taken s m 2 3) p ≠ stRUNNING) ∧
    (∃ (s : State) (m l q p : Nat), physOf (taken s m 2 4) l = p ∧ l < 96 ∧ q < 2 ∧ MbxRuns s m 2 4 [l, q] ∧ fgetB (taken s m 2 4) FLT_UNIT_LATCHED (unitIx 0 l) = true) ∧
    (∃ (s : State) (m l q p : Nat), physOf (taken s m 2 4) l = p ∧ l < 96 ∧ q < 2 ∧ MbxRuns s m 2 4 [l, q] ∧ fgetB (taken s m 2 4) FLT_UNIT_LATCHED (unitIx 0 l) = false ∧ cabState (taken s m 2 4) p ≠ stHELD) ∧
    (∃ (s : State) (m l q p : Nat), physOf (taken s m 2 4) l = p ∧ l < 96 ∧ q < 2 ∧ MbxRuns s m 2 4 [l, q] ∧ fgetB (taken s m 2 4) FLT_UNIT_LATCHED (unitIx 0 l) = false ∧ cabState (taken s m 2 4) p = stHELD ∧ planAdm (taken s m 2 4) p q = true) ∧
    (∃ (s : State) (m l p : Nat), physOf (taken s m 2 5) l = p ∧ l < 96 ∧ MbxRuns s m 2 5 [l] ∧ (cabState (taken s m 2 5) p = stRUNNING ∨ cabState (taken s m 2 5) p = stHELD)) ∧
    (∃ (s : State) (m l p : Nat), physOf (taken s m 2 5) l = p ∧ l < 96 ∧ MbxRuns s m 2 5 [l] ∧ cabState (taken s m 2 5) p = stEMPTY) ∧
    (∃ (s : State) (m l p : Nat), physOf (taken s m 2 6) l = p ∧ l < 96 ∧ MbxRuns s m 2 6 [l, 1] ∧ cabState (taken s m 2 6) p = stOFF) ∧
    (∃ (s : State) (m l p : Nat), physOf (taken s m 2 6) l = p ∧ l < 96 ∧ MbxRuns s m 2 6 [l, 0] ∧ cabState (taken s m 2 6) p = stEMPTY) ∧
    (∃ (s : State) (m l p : Nat), physOf (taken s m 2 6) l = p ∧ l < 96 ∧ MbxRuns s m 2 6 [l, 0] ∧ cabState (taken s m 2 6) p = stRUNNING) ∧
    (∃ (s : State) (m l r p : Nat), physOf (taken s m 2 7) l = p ∧ l < 96 ∧ isReserve r = true ∧ MbxRuns s m 2 7 [l, r] ∧ loadBusy (taken s m 2 7) = false ∧ fgetB (taken s m 2 7) CAB_STATE_RELOC p = false) ∧
    (∃ (s : State) (m l r p : Nat), physOf (taken s m 2 7) l = p ∧ l < 96 ∧ isReserve r = true ∧ MbxRuns s m 2 7 [l, r] ∧ loadBusy (taken s m 2 7) = false ∧ fgetB (taken s m 2 7) CAB_STATE_RELOC p = true ∧ cabState (taken s m 2 7) r ≠ stEMPTY) ∧
    (∃ (s : State) (m l r p : Nat), physOf (taken s m 2 7) l = p ∧ l < 96 ∧ isReserve r = true ∧ MbxRuns s m 2 7 [l, r] ∧ loadBusy (taken s m 2 7) = false ∧ fgetB (taken s m 2 7) CAB_STATE_RELOC p = true ∧ cabState (taken s m 2 7) r = stEMPTY ∧ cabState (taken s m 2 7) p = stRUNNING ∧ Placed s ∧ overbooked (relocTrial (taken s m 2 7) l p r) (activeBooks (relocTrial (taken s m 2 7) l p r)) = false) ∧
    (∃ (s : State) (m l q p : Nat), physOf (taken s m 2 8) l = p ∧ l < 96 ∧ q < 2 ∧ MbxRuns s m 2 8 [l, q] ∧ cabState (taken s m 2 8) p ≠ stRUNNING) ∧
    (∃ (s : State) (m l q p : Nat), physOf (taken s m 2 8) l = p ∧ l < 96 ∧ q < 2 ∧ MbxRuns s m 2 8 [l, q] ∧ cabState (taken s m 2 8) p = stRUNNING ∧ planAdm (taken s m 2 8) p q = true) ∧
    (∃ (s : State) (m l mode ofs tick p : Nat), physOf (taken s m 2 9) l = p ∧ l < 96 ∧ mode < 2 ∧ ofs < 2 ^ 20 ∧ tick < 2 ^ 64 ∧ MbxRuns s m 2 9 [l, mode, ofs, tick] ∧ fgetB (taken s m 2 9) CAB_STATE_CAP_GRANT p = false) ∧
    (∃ (s : State) (m l mode ofs tick p : Nat), physOf (taken s m 2 9) l = p ∧ l < 96 ∧ mode < 2 ∧ ofs < 2 ^ 20 ∧ tick < 2 ^ 64 ∧ MbxRuns s m 2 9 [l, mode, ofs, tick] ∧ fgetB (taken s m 2 9) CAB_STATE_CAP_GRANT p = true ∧ setInstances (taken s m 2 9) CAB_CAPTURE_CTL_ARMED = [] ∧ s.time.tick < tick ∧ (mode = 0 ∨ ofs < tickLen (taken s m 2 9))) ∧
    (∃ (s : State) (m l col row sec p : Nat), physOf (taken s m 2 10) l = p ∧ l < 96 ∧ col < 16 ∧ row < 8 ∧ MbxRuns s m 2 10 [l, col, row, sec] ∧ cabState (taken s m 2 10) p = stOFF ∧ sec < 26) ∧
    (∃ (s : State) (m l col row sec p : Nat), physOf (taken s m 2 10) l = p ∧ l < 96 ∧ col < 16 ∧ row < 8 ∧ MbxRuns s m 2 10 [l, col, row, sec] ∧ cabState (taken s m 2 10) p ≠ stOFF ∧ sec = 0) ∧
    (∃ (s : State) (m l col row sec p : Nat), physOf (taken s m 2 10) l = p ∧ l < 96 ∧ col < 16 ∧ row < 8 ∧ MbxRuns s m 2 10 [l, col, row, sec] ∧ cabState (taken s m 2 10) p ≠ stOFF ∧ 1 ≤ sec ∧ sec ≤ 15) ∧
    (∃ (s : State) (m l col row sec p : Nat), physOf (taken s m 2 10) l = p ∧ l < 96 ∧ col < 16 ∧ row < 8 ∧ MbxRuns s m 2 10 [l, col, row, sec] ∧ cabState (taken s m 2 10) p ≠ stOFF ∧ sec = 25) ∧
    (∃ (s : State) (m l p : Nat), let q := readRegs [(R_CAB_STATE, p), (R_CAB_PLAN_STAT, p), (R_CAB_DRAWER_VALID, p), (R_CAB_GAP, p), (R_CAB_STARTUP, p)] (taken s m 2 11); physOf (taken s m 2 11) l = p ∧ l < 96 ∧ MbxRuns s m 2 11 [l]) ∧
    (∃ (s : State) (m l : Nat), 96 ≤ l ∧ l < 256 ∧ MbxRuns s m 2 3 [l]) ∧
    (∃ (s : State) (m l : Nat), 96 ≤ l ∧ l < 256 ∧ MbxRuns s m 2 11 [l]) := by
  refine ⟨⟨{ fwSt [] {} with cfg := { job := some ⟨1, 1, 7, []⟩ } }, 15, 72, 0, 0, 255, by decide +kernel, by decide +kernel, by decide +kernel, ⟨by decide +kernel, by decide +kernel, by decide +kernel, by decide +kernel, by decide +kernel, by decide +kernel⟩, by decide +kernel, by decide +kernel⟩,
    ⟨fwSt [] {}, 15, 0, 0, 67108864, by decide +kernel, by decide +kernel, by decide +kernel, ⟨by decide +kernel, by decide +kernel, by decide +kernel, by decide +kernel, by decide +kernel, by decide +kernel⟩, by decide +kernel⟩,
    ⟨fwSt [] {}, 15, 95, 99, by decide +kernel, by decide +kernel, ⟨by decide +kernel, by decide +kernel, by decide +kernel, by decide +kernel, by decide +kernel, by decide +kernel⟩, by decide +kernel⟩,
    ⟨fwSt [(CAB_STATE_STATE, 99, stLOADING)] {}, 15, 95, 99, by decide +kernel, by decide +kernel, ⟨by decide +kernel, by decide +kernel, by decide +kernel, by decide +kernel, by decide +kernel, by decide +kernel⟩, by decide +kernel⟩,
    ⟨fwSt [(CAB_STATE_STATE, 99, stFAULTED)] {}, 15, 95, 99, by decide +kernel, by decide +kernel, ⟨by decide +kernel, by decide +kernel, by decide +kernel, by decide +kernel, by decide +kernel, by decide +kernel⟩, by decide +kernel⟩,
    ⟨fwSt [(CAB_STATE_STATE, 99, stHELD)] {}, 15, 95, 99, by decide +kernel, by decide +kernel, ⟨by decide +kernel, by decide +kernel, by decide +kernel, by decide +kernel, by decide +kernel, by decide +kernel⟩, by decide +kernel⟩,
    ⟨fwSt [(CAB_STATE_STATE, 99, stRUNNING)] {}, 15, 95, 99, by decide +kernel, by decide +kernel, ⟨by decide +kernel, by decide +kernel, by decide +kernel, by decide +kernel, by decide +kernel, by decide +kernel⟩, by decide +kernel⟩,
    ⟨fwSt [] {}, 15, 95, 99, by decide +kernel, by decide +kernel, ⟨by decide +kernel, by decide +kernel, by decide +kernel, by decide +kernel, by decide +kernel, by decide +kernel⟩, by decide +kernel⟩,
    ⟨fwSt [(FLT_UNIT_LATCHED, unitIx 0 95, 1)] {}, 15, 95, 1, 99, by decide +kernel, by decide +kernel, by decide +kernel, ⟨by decide +kernel, by decide +kernel, by decide +kernel, by decide +kernel, by decide +kernel, by decide +kernel⟩, by decide +kernel⟩,
    ⟨fwSt [] {}, 15, 95, 1, 99, by decide +kernel, by decide +kernel, by decide +kernel, ⟨by decide +kernel, by decide +kernel, by decide +kernel, by decide +kernel, by decide +kernel, by decide +kernel⟩, by decide +kernel, by decide +kernel⟩,
    ⟨fwSt [(CAB_STATE_STATE, 99, stHELD), (CAB_PLAN_STAT_B_ADM, 99, 1)] {}, 15, 95, 1, 99, by decide +kernel, by decide +kernel, by decide +kernel, ⟨by decide +kernel, by decide +kernel, by decide +kernel, by decide +kernel, by decide +kernel, by decide +kernel⟩, by decide +kernel, by decide +kernel, by decide +kernel⟩,
    ⟨fwSt [(CAB_STATE_STATE, 99, stHELD)] {}, 15, 95, 99, by decide +kernel, by decide +kernel, ⟨by decide +kernel, by decide +kernel, by decide +kernel, by decide +kernel, by decide +kernel, by decide +kernel⟩, by decide +kernel⟩,
    ⟨fwSt [] {}, 15, 95, 99, by decide +kernel, by decide +kernel, ⟨by decide +kernel, by decide +kernel, by decide +kernel, by decide +kernel, by decide +kernel, by decide +kernel⟩, by decide +kernel⟩,
    ⟨fwSt [(CAB_STATE_STATE, 99, stOFF)] {}, 15, 95, 99, by decide +kernel, by decide +kernel, ⟨by decide +kernel, by decide +kernel, by decide +kernel, by decide +kernel, by decide +kernel, by decide +kernel⟩, by decide +kernel⟩,
    ⟨fwSt [] {}, 15, 95, 99, by decide +kernel, by decide +kernel, ⟨by decide +kernel, by decide +kernel, by decide +kernel, by decide +kernel, by decide +kernel, by decide +kernel⟩, by decide +kernel⟩,
    ⟨fwSt [(CAB_STATE_STATE, 99, stRUNNING)] {}, 15, 95, 99, by decide +kernel, by decide +kernel, ⟨by decide +kernel, by decide +kernel, by decide +kernel, by decide +kernel, by decide +kernel, by decide +kernel⟩, by decide +kernel⟩,
    ⟨fwSt [] {}, 15, 95, 55, 99, by decide +kernel, by decide +kernel, by decide +kernel, ⟨by decide +kernel, by decide +kernel, by decide +kernel, by decide +kernel, by decide +kernel, by decide +kernel⟩, by decide +kernel, by decide +kernel⟩,
    ⟨fwSt [(CAB_STATE_RELOC, 99, 1), (CAB_STATE_STATE, 55, stHELD)] {}, 15, 95, 55, 99, by decide +kernel, by decide +kernel, by decide +kernel, ⟨by decide +kernel, by decide +kernel, by decide +kernel, by decide +kernel, by decide +kernel, by decide +kernel⟩, by decide +kernel, by decide +kernel, by decide +kernel⟩,
    ⟨fwSt [(CAB_STATE_RELOC, 99, 1), (CAB_STATE_STATE, 99, stRUNNING)] {}, 15, 95, 55, 99, by decide +kernel, by decide +kernel, by decide +kernel, ⟨by decide +kernel, by decide +kernel, by decide +kernel, by decide +kernel, by decide +kernel, by decide +kernel⟩, by decide +kernel, by decide +kernel, by decide +kernel, by decide +kernel, ⟨by decide +kernel, by decide +kernel, by decide +kernel⟩, by decide +kernel⟩,
    ⟨fwSt [] {}, 15, 95, 1, 99, by decide +kernel, by decide +kernel, by decide +kernel, ⟨by decide +kernel, by decide +kernel, by decide +kernel, by decide +kernel, by decide +kernel, by decide +kernel⟩, by decide +kernel⟩,
    ⟨fwSt [(CAB_STATE_STATE, 99, stRUNNING), (CAB_PLAN_STAT_B_ADM, 99, 1)] {}, 15, 95, 1, 99, by decide +kernel, by decide +kernel, by decide +kernel, ⟨by decide +kernel, by decide +kernel, by decide +kernel, by decide +kernel, by decide +kernel, by decide +kernel⟩, by decide +kernel, by decide +kernel⟩,
    ⟨fwSt [] {}, 15, 95, 1, 5, 1, 99, by decide +kernel, by decide +kernel, by decide +kernel, by decide +kernel, by decide +kernel, ⟨by decide +kernel, by decide +kernel, by decide +kernel, by decide +kernel, by decide +kernel, by decide +kernel⟩, by decide +kernel⟩,
    ⟨fwSt [(CAB_STATE_CAP_GRANT, 99, 1)] {}, 15, 95, 1, 5, 1, 99, by decide +kernel, by decide +kernel, by decide +kernel, by decide +kernel, by decide +kernel, ⟨by decide +kernel, by decide +kernel, by decide +kernel, by decide +kernel, by decide +kernel, by decide +kernel⟩, by decide +kernel, by decide +kernel, by decide +kernel, by decide +kernel⟩,
    ⟨fwSt [(CAB_STATE_STATE, 99, stOFF)] {}, 15, 95, 15, 7, 25, 99, by decide +kernel, by decide +kernel, by decide +kernel, by decide +kernel, ⟨by decide +kernel, by decide +kernel, by decide +kernel, by decide +kernel, by decide +kernel, by decide +kernel⟩, by decide +kernel, by decide +kernel⟩,
    ⟨fwSt [] {}, 15, 95, 15, 7, 0, 99, by decide +kernel, by decide +kernel, by decide +kernel, by decide +kernel, ⟨by decide +kernel, by decide +kernel, by decide +kernel, by decide +kernel, by decide +kernel, by decide +kernel⟩, by decide +kernel, by decide +kernel⟩,
    ⟨fwSt [] {}, 15, 95, 15, 7, 15, 99, by decide +kernel, by decide +kernel, by decide +kernel, by decide +kernel, ⟨by decide +kernel, by decide +kernel, by decide +kernel, by decide +kernel, by decide +kernel, by decide +kernel⟩, by decide +kernel, by decide +kernel, by decide +kernel⟩,
    ⟨fwSt [] {}, 15, 95, 15, 7, 25, 99, by decide +kernel, by decide +kernel, by decide +kernel, by decide +kernel, ⟨by decide +kernel, by decide +kernel, by decide +kernel, by decide +kernel, by decide +kernel, by decide +kernel⟩, by decide +kernel, by decide +kernel⟩,
    ⟨fwSt [] {}, 15, 95, 99, by decide +kernel, by decide +kernel, ⟨by decide +kernel, by decide +kernel, by decide +kernel, by decide +kernel, by decide +kernel, by decide +kernel⟩⟩,
    ⟨fwSt [] {}, 15, 96, by decide +kernel, by decide +kernel, ⟨by decide +kernel, by decide +kernel, by decide +kernel, by decide +kernel, by decide +kernel, by decide +kernel⟩⟩,
    ⟨fwSt [] {}, 15, 255, by decide +kernel, by decide +kernel, ⟨by decide +kernel, by decide +kernel, by decide +kernel, by decide +kernel, by decide +kernel, by decide +kernel⟩⟩⟩

theorem witness_TickAndNetCommands :
    (∃ (s : State) (m : Nat), let q := readRegs [(R_SYS_TICK_CFG, 0), (R_SYS_TICK_CNT, 0), (R_SYS_TICK_OFS, 0), (R_SYS_TICK_STAT, 0)] (taken s m 3 1); MbxRuns s m 3 1 []) ∧
    (∃ (s : State) (m n : Nat), n < 2 ^ 32 ∧ MbxRuns s m 3 2 [n] ∧ (n < 300 ∨ 750000 < n)) ∧
    (∃ (s : State) (m n : Nat), n < 2 ^ 32 ∧ MbxRuns s m 3 2 [n] ∧ 300 ≤ n ∧ n ≤ 750000 ∧ tickLenOk (taken s m 3 2) n = true) ∧
    (∃ (s : State) (m n : Nat), n < 2 ^ 32 ∧ MbxRuns s m 3 2 [n] ∧ 300 ≤ n ∧ n ≤ 750000 ∧ tickLenOk (taken s m 3 2) n = false) ∧
    (∃ (s : State) (m src tol : Nat), src < 256 ∧ tol < 256 ∧ MbxRuns s m 3 3 [src, tol] ∧ (3 ≤ src ∨ 16 ≤ tol)) ∧
    (∃ (s : State) (m src tol : Nat), src < 256 ∧ tol < 256 ∧ MbxRuns s m 3 3 [src, tol] ∧ src < 3 ∧ tol < 16) ∧
    (∃ (s : State) (m : Nat), MbxRuns s m 3 4 [] ∧ fget s SYS_TICK_STAT_ALIGN_PENDING 0 = 0) ∧
    (∃ (s : State) (m en : Nat), en < 256 ∧ MbxRuns s m 3 5 [en] ∧ 1 < en) ∧
    (∃ (s : State) (m en : Nat), en < 256 ∧ MbxRuns s m 3 5 [en] ∧ en ≤ 1) ∧
    (∃ (s : State) (m r : Nat), let q := readRegs [(R_NOC_RING_STAT, r)] (taken s m 4 1); r < 256 ∧ r < 20 ∧ MbxRuns s m 4 1 [r]) ∧
    (∃ (s : State) (m r : Nat), r < 256 ∧ 20 ≤ r ∧ MbxRuns s m 4 1 [r]) ∧
    (∃ (s : State) (m r : Nat), let q := readRegs [(R_NOC_LINK_LOAD, r)] (taken s m 4 3); r < 256 ∧ r < 140 ∧ MbxRuns s m 4 3 [r]) ∧
    (∃ (s : State) (m r : Nat), r < 256 ∧ 140 ≤ r ∧ MbxRuns s m 4 3 [r]) ∧
    (∃ (s : State) (m r : Nat), let q := readRegs ((List.range (if r < 100 then 8 else 16)).map (fun k => (R_NOC_BOOK, bookIx r k))) (taken s m 4 4); r < 256 ∧ r < 140 ∧ MbxRuns s m 4 4 [r]) ∧
    (∃ (s : State) (m r : Nat), let q := readRegs [(R_NOC_RTR_ERR, r), (R_NOC_STOP_STAT, r), (R_NOC_STOP_EVT, r)] (taken s m 4 5); r < 256 ∧ r < 140 ∧ MbxRuns s m 4 5 [r]) ∧
    (∃ (s : State) (m st : Nat), st < 100 ∧ MbxRuns s m 4 2 [st, 1] ∧ (∀ b, b < 100 → (bunit s (200 + b)).run = false) ∧ fget s NOC_RTR_CTL_REFUSED st = 0 ∧ rtrState s st = rtNORMAL ∧ ringBusy s st = false) ∧
    (∃ (s : State) (m st : Nat), st < 100 ∧ MbxRuns s m 4 2 [st, 1] ∧ (∀ b : Nat, b < 100 → (bunit s (200 + b)).run = false) ∧ fget s NOC_RTR_CTL_REFUSED st = 0 ∧ rtrState s st = rtNORMAL ∧ ringBusy s st = true ∧ (ringOthers s st).all (inTest s) = false) ∧
    (∃ (s : State) (m st : Nat), st < 100 ∧ MbxRuns s m 4 2 [st, 1] ∧ (∀ b : Nat, b < 100 → (bunit s (200 + b)).run = false) ∧ fget s NOC_RTR_CTL_REFUSED st = 0 ∧ rtrState s st = rtNORMAL ∧ ringBusy s st = true ∧ (ringOthers s st).all (inTest s) = true) ∧
    (∃ (s : State) (m st mode : Nat), st < 256 ∧ mode < 256 ∧ (100 ≤ st ∨ 1 < mode) ∧ MbxRuns s m 4 2 [st, mode]) ∧
    (∃ (s : State) (m req drain reorder : Nat), req < 65536 ∧ drain < 256 ∧ reorder < 256 ∧ MbxRuns s m 4 6 [req, drain, reorder] ∧ (∀ f ∈ [NOC_CFG_REORDER_TO, NOC_CFG_DRAIN, NOC_CFG_REQ_TO], 0 < fget s f 0 ∧ fget s f 0 < 2 ^ f.width)) := by
  refine ⟨⟨fwSt [] {}, 15, ⟨by decide +kernel, by decide +kernel, by decide +kernel, by decide +kernel, by decide +kernel, by decide +kernel⟩⟩,
    ⟨fwSt [] {}, 15, 299, by decide +kernel, ⟨by decide +kernel, by decide +kernel, by decide +kernel, by decide +kernel, by decide +kernel, by decide +kernel⟩, by decide +kernel⟩,
    ⟨fwSt [] {}, 15, 750000, by decide +kernel, ⟨by decide +kernel, by decide +kernel, by decide +kernel, by decide +kernel, by decide +kernel, by decide +kernel⟩, by decide +kernel, by decide +kernel, by decide +kernel⟩,
    ⟨fwSt [(QMG_LINK_CFG_EN, 15, 1), (QMG_CFG_BUDGET_DL, 0, 100)] {}, 15, 699, by decide +kernel, ⟨by decide +kernel, by decide +kernel, by decide +kernel, by decide +kernel, by decide +kernel, by decide +kernel⟩, by decide +kernel, by decide +kernel, by decide +kernel⟩,
    ⟨fwSt [] {}, 15, 3, 0, by decide +kernel, by decide +kernel, ⟨by decide +kernel, by decide +kernel, by decide +kernel, by decide +kernel, by decide +kernel, by decide +kernel⟩, by decide +kernel⟩,
    ⟨fwSt [] {}, 15, 2, 15, by decide +kernel, by decide +kernel, ⟨by decide +kernel, by decide +kernel, by decide +kernel, by decide +kernel, by decide +kernel, by decide +kernel⟩, by decide +kernel, by decide +kernel⟩,
    ⟨fwSt [] {}, 15, ⟨by decide +kernel, by decide +kernel, by decide +kernel, by decide +kernel, by decide +kernel, by decide +kernel⟩, by decide +kernel⟩,
    ⟨fwSt [] {}, 15, 2, by decide +kernel, ⟨by decide +kernel, by decide +kernel, by decide +kernel, by decide +kernel, by decide +kernel, by decide +kernel⟩, by decide +kernel⟩,
    ⟨fwSt [] {}, 15, 1, by decide +kernel, ⟨by decide +kernel, by decide +kernel, by decide +kernel, by decide +kernel, by decide +kernel, by decide +kernel⟩, by decide +kernel⟩,
    ⟨fwSt [] {}, 15, 19, by decide +kernel, by decide +kernel, ⟨by decide +kernel, by decide +kernel, by decide +kernel, by decide +kernel, by decide +kernel, by decide +kernel⟩⟩,
    ⟨fwSt [] {}, 15, 20, by decide +kernel, by decide +kernel, ⟨by decide +kernel, by decide +kernel, by decide +kernel, by decide +kernel, by decide +kernel, by decide +kernel⟩⟩,
    ⟨fwSt [] {}, 15, 139, by decide +kernel, by decide +kernel, ⟨by decide +kernel, by decide +kernel, by decide +kernel, by decide +kernel, by decide +kernel, by decide +kernel⟩⟩,
    ⟨fwSt [] {}, 15, 140, by decide +kernel, by decide +kernel, ⟨by decide +kernel, by decide +kernel, by decide +kernel, by decide +kernel, by decide +kernel, by decide +kernel⟩⟩,
    ⟨fwSt [] {}, 15, 139, by decide +kernel, by decide +kernel, ⟨by decide +kernel, by decide +kernel, by decide +kernel, by decide +kernel, by decide +kernel, by decide +kernel⟩⟩,
    ⟨fwSt [] {}, 15, 139, by decide +kernel, by decide +kernel, ⟨by decide +kernel, by decide +kernel, by decide +kernel, by decide +kernel, by decide +kernel, by decide +kernel⟩⟩,
    ⟨fwSt [] {}, 15, 99, by decide +kernel, ⟨by decide +kernel, by decide +kernel, by decide +kernel, by decide +kernel, by decide +kernel, by decide +kernel⟩, by decide +kernel, by decide +kernel, by decide +kernel, by decide +kernel⟩,
    ⟨fwSt [(NOC_RING_STAT_BYPASS_STOP, 9, 7), (NOC_RING_STAT_BYPASS_STOP, 10, 7), (NOC_RING_STAT_BYPASS_STOP, 19, 7)] {}, 15, 99, by decide +kernel, ⟨by decide +kernel, by decide +kernel, by decide +kernel, by decide +kernel, by decide +kernel, by decide +kernel⟩, by decide +kernel, by decide +kernel, by decide +kernel, by decide +kernel, by decide +kernel⟩,
    ⟨fwSt [(NOC_RTR_CTL_STATE, 98, rtTEST), (NOC_RING_STAT_BYPASS_STOP, 9, 98)] {}, 15, 99, by decide +kernel, ⟨by decide +kernel, by decide +kernel, by decide +kernel, by decide +kernel, by decide +kernel, by decide +kernel⟩, by decide +kernel, by decide +kernel, by decide +kernel, by decide +kernel, by decide +kernel⟩,
    ⟨fwSt [] {}, 15, 100, 0, by decide +kernel, by decide +kernel, by decide +kernel, ⟨by decide +kernel, by decide +kernel, by decide +kernel, by decide +kernel, by decide +kernel, by decide +kernel⟩⟩,
    ⟨fwSt [] {}, 15, 65535, 255, 255, by decide +kernel, by decide +kernel, by decide +kernel, ⟨by decide +kernel, by decide +kernel, by decide +kernel, by decide +kernel, by decide +kernel, by decide +kernel⟩, by decide +kernel⟩⟩

theorem witness_PortCommands :
    (∃ (s : State) (m j n cfg rel q path : Nat), j < 8 ∧ n < 4 ∧ q < 4 ∧ cfg < 2 ^ 64 ∧ rel < 2 ^ 64 ∧ path < 2 ^ 64 ∧ fldOf JPT_LINK_CFG_EN cfg = 0 ∧ fldOf JPT_LINK_CFG_REFUSED cfg = 0 ∧ fget s JPT_PATH_CFG_LINK (4 * j + q) < 2 ∧ MbxRuns s m 5 1 [j, n, cfg, rel, q, path] ∧ jState s (4 * j + n) ≠ jOFF) ∧
    (∃ (s : State) (m j n cfg rel q path : Nat), j < 8 ∧ n < 4 ∧ q < 4 ∧ cfg < 2 ^ 64 ∧ rel < 2 ^ 64 ∧ path < 2 ^ 64 ∧ fldOf JPT_LINK_CFG_EN cfg = 0 ∧ fldOf JPT_LINK_CFG_REFUSED cfg = 0 ∧ fget s JPT_PATH_CFG_LINK (4 * j + q) < 2 ∧ MbxRuns s m 5 1 [j, n, cfg, rel, q, path] ∧ jState s (4 * j + n) = jOFF ∧ jState s (4 * j + 0) = jOFF ∧ jState s (4 * j + 1) = jOFF ∧ jState s (4 * j + 2) = jOFF ∧ jState s (4 * j + 3) = jOFF) ∧
    (∃ (s : State) (m j n : Nat), j < 8 ∧ n < 4 ∧ MbxRuns s m 5 2 [j, n, 1] ∧ jState s (4 * j + n) = jOFF ∧ fget s JPT_LINK_CFG_REFUSED (4 * j + n) = 0 ∧ (∀ f ∈ jptCfgFlds, fget s f (4 * j + n) < 2 ^ f.width) ∧ jptOptionsOk s j n = true ∧ jptFifoModeOk s j n = true) ∧
    (∃ (s : State) (m j n en : Nat), j < 256 ∧ n < 256 ∧ en < 256 ∧ (8 ≤ j ∨ 4 ≤ n ∨ 1 < en) ∧ MbxRuns s m 5 2 [j, n, en]) ∧
    (∃ (s : State) (m j : Nat), j < 8 ∧ MbxRuns s m 5 3 [j]) ∧
    (∃ (s : State) (m j : Nat), let q := readRegs ((List.range 4).map (fun n => (R_JPT_LINK_STAT, 4 * j + n)) ++ (List.range 8).map (fun l => (R_JPT_LANE_ERR, 8 * j + l)) ++ (List.range 4).map (fun k => (R_JPT_PATH_ERR, 4 * j + k)) ++ [(R_JPT_SYSREF, j)]) (taken s m 5 4); j < 8 ∧ MbxRuns s m 5 4 [j]) ∧
    (∃ (s : State) (m n v : Nat), n < 8 ∧ v < 2 ^ 64 ∧ MbxRuns s m 5 5 [n, v] ∧ fldOf CPT_PORT_CFG_EN v = 0 ∧ fget s CPT_PORT_CFG_REFUSED n = 0) ∧
    (∃ (s : State) (m n v : Nat), n < 8 ∧ v < 2 ^ 64 ∧ MbxRuns s m 5 5 [n, v] ∧ fgetB (cptCfgWrite (fset (taken s m 5 5) CPT_PORT_CFG_REFUSED n 0) n v) CPT_PORT_CFG_REFUSED n = true) ∧
    (∃ (s : State) (m n : Nat), let q := readRegs [(R_CPT_PORT_CFG, n), (R_CPT_PORT_CNT, n)] (taken s m 5 6); n < 8 ∧ MbxRuns s m 5 6 [n]) ∧
    (∃ (s : State) (m v : Nat), v < 2 ^ 40 ∧ MbxRuns s m 5 7 [2, v]) ∧
    (∃ (s : State) (m v : Nat), v < 2 ^ 64 ∧ MbxRuns s m 5 7 [1, v]) ∧
    (∃ (s : State) (m n most : Nat), n < 8 ∧ 1 ≤ most ∧ most ≤ 64 ∧ MbxRuns s m 5 8 [n, most]) ∧
    (∃ (s : State) (m o v : Nat), o < 2 ∧ v < 2 ^ 32 ∧ MbxRuns s m 5 9 [o, v]) ∧
    (∃ (s : State) (m k v : Nat), k < 8 ∧ v < 2 ^ 64 ∧ MbxRuns s m 5 10 [k, v] ∧ spState s k ≠ 0) ∧
    (∃ (s : State) (m k v : Nat), k < 8 ∧ v < 2 ^ 64 ∧ MbxRuns s m 5 10 [k, v] ∧ spState s k = 0 ∧ fget s SPN_LINK_CFG_REFUSED k = 0 ∧ fldOf SPN_LINK_CFG_REFUSED v = 0 ∧ fldOf SPN_LINK_CFG_EN v = 0 ∧ fldOf SPN_LINK_CFG_WIDTH v ≠ 3) ∧
    (∃ (s : State) (m k v : Nat), k < 8 ∧ v < 2 ^ 64 ∧ MbxRuns s m 5 10 [k, v] ∧ spState s k = 0 ∧ fldOf SPN_LINK_CFG_REFUSED v = 0 ∧ fldOf SPN_LINK_CFG_WIDTH v = 3) ∧
    (∃ (s : State) (m k : Nat), let q := readRegs [(R_SPN_LINK_STAT, k), (R_SPN_LINK_ERR, k), (R_SPN_CAL, k)] (taken s m 5 11); k < 8 ∧ MbxRuns s m 5 11 [k]) ∧
    (∃ (s : State) (m d v : Nat), d < 1024 ∧ v < 2 ^ 32 ∧ MbxRuns s m 5 12 [d, v]) ∧
    (∃ (s : State) (m sys tick rclk : Nat), sys < 2 ^ 64 ∧ tick < 2 ^ 64 ∧ rclk < 2 ^ 32 ∧ MbxRuns s m 5 13 [sys, tick, rclk] ∧ fget s SPN_SYS_REFUSED 0 = 0 ∧ fldOf SPN_SYS_REFUSED sys = 0 ∧ (∀ k, k < 8 → spState s k = 0)) ∧
    (∃ (s : State) (m sys tick rclk : Nat), sys < 2 ^ 64 ∧ tick < 2 ^ 64 ∧ rclk < 2 ^ 32 ∧ MbxRuns s m 5 13 [sys, tick, rclk] ∧ fget s SPN_SYS_REFUSED 0 = 0 ∧ fldOf SPN_SYS_REFUSED sys = 0 ∧ (∃ k, k < 8 ∧ spState s k ≠ 0)) := by
  refine ⟨⟨fwSt [(JPT_LINK_STAT_STATE, 31, jWAIT)] {}, 15, 7, 3, 0, 0, 3, 0, by decide +kernel, by decide +kernel, by decide +kernel, by decide +kernel, by decide +kernel, by decide +kernel, by decide +kernel, by decide +kernel, by decide +kernel, ⟨by decide +kernel, by decide +kernel, by decide +kernel, by decide +kernel, by decide +kernel, by decide +kernel⟩, by decide +kernel⟩,
    ⟨fwSt [] {}, 15, 7, 3, 0, 0, 3, 0, by decide +kernel, by decide +kernel, by decide +kernel, by decide +kernel, by decide +kernel, by decide +kernel, by decide +kernel, by decide +kernel, by decide +kernel, ⟨by decide +kernel, by decide +kernel, by decide +kernel, by decide +kernel, by decide +kernel, by decide +kernel⟩, by decide +kernel, by decide +kernel, by decide +kernel, by decide +kernel, by decide +kernel⟩,
    ⟨fwSt [(JPT_LINK_CFG_L, 31, 1), (JPT_LINK_CFG_M, 31, 1), (JPT_LINK_CFG_NP, 31, 15), (JPT_LINK_CFG_N, 31, 16), (JPT_LINK_CFG_CS, 31, 0), (JPT_LINK_CFG_FM1, 31, 1), (JPT_LINK_CFG_KEM1, 31, 31)] {}, 15, 7, 3, by decide +kernel, by decide +kernel, ⟨by decide +kernel, by decide +kernel, by decide +kernel, by decide +kernel, by decide +kernel, by decide +kernel⟩, by decide +kernel, by decide +kernel, by decide +kernel, by decide +kernel, by decide +kernel⟩,
    ⟨fwSt [] {}, 15, 8, 0, 0, by decide +kernel, by decide +kernel, by decide +kernel, by decide +kernel, ⟨by decide +kernel, by decide +kernel, by decide +kernel, by decide +kernel, by decide +kernel, by decide +kernel⟩⟩,
    ⟨fwSt [] {}, 15, 7, by decide +kernel, ⟨by decide +kernel, by decide +kernel, by decide +kernel, by decide +kernel, by decide +kernel, by decide +kernel⟩⟩,
    ⟨fwSt [] {}, 15, 7, by decide +kernel, ⟨by decide +kernel, by decide +kernel, by decide +kernel, by decide +kernel, by decide +kernel, by decide +kernel⟩⟩,
    ⟨fwSt [] {}, 15, 7, 0, by decide +kernel, by decide +kernel, ⟨by decide +kernel, by decide +kernel, by decide +kernel, by decide +kernel, by decide +kernel, by decide +kernel⟩, by decide +kernel, by decide +kernel⟩,
    ⟨fwSt [] {}, 15, 7, 2 ^ 63 + 7 * 2 ^ 59, by decide +kernel, by decide +kernel, ⟨by decide +kernel, by decide +kernel, by decide +kernel, by decide +kernel, by decide +kernel, by decide +kernel⟩, by decide +kernel⟩,
    ⟨fwSt [] {}, 15, 7, by decide +kernel, ⟨by decide +kernel, by decide +kernel, by decide +kernel, by decide +kernel, by decide +kernel, by decide +kernel⟩⟩,
    ⟨fwSt [] {}, 15, 2 ^ 40 - 1, by decide +kernel, ⟨by decide +kernel, by decide +kernel, by decide +kernel, by decide +kernel, by decide +kernel, by decide +kernel⟩⟩,
    ⟨fwSt [] {}, 15, 2 ^ 64 - 1, by decide +kernel, ⟨by decide +kernel, by decide +kernel, by decide +kernel, by decide +kernel, by decide +kernel, by decide +kernel⟩⟩,
    ⟨fwSt [] {}, 15, 7, 64, by decide +kernel, by decide +kernel, by decide +kernel, ⟨by decide +kernel, by decide +kernel, by decide +kernel, by decide +kernel, by decide +kernel, by decide +kernel⟩⟩,
    ⟨fwSt [] {}, 15, 1, 0, by decide +kernel, by decide +kernel, ⟨by decide +kernel, by decide +kernel, by decide +kernel, by decide +kernel, by decide +kernel, by decide +kernel⟩⟩,
    ⟨fwSt [(SPN_LINK_STAT_STATE, 7, 3)] {}, 15, 7, 0, by decide +kernel, by decide +kernel, ⟨by decide +kernel, by decide +kernel, by decide +kernel, by decide +kernel, by decide +kernel, by decide +kernel⟩, by decide +kernel⟩,
    ⟨fwSt [] {}, 15, 7, 0, by decide +kernel, by decide +kernel, ⟨by decide +kernel, by decide +kernel, by decide +kernel, by decide +kernel, by decide +kernel, by decide +kernel⟩, by decide +kernel, by decide +kernel, by decide +kernel, by decide +kernel, by decide +kernel⟩,
    ⟨fwSt [] {}, 15, 7, 2 ^ SPN_LINK_CFG_EN.lo + 3 * 2 ^ SPN_LINK_CFG_WIDTH.lo, by decide +kernel, by decide +kernel, ⟨by decide +kernel, by decide +kernel, by decide +kernel, by decide +kernel, by decide +kernel, by decide +kernel⟩, by decide +kernel, by decide +kernel, by decide +kernel⟩,
    ⟨fwSt [] {}, 15, 7, by decide +kernel, ⟨by decide +kernel, by decide +kernel, by decide +kernel, by decide +kernel, by decide +kernel, by decide +kernel⟩⟩,
    ⟨fwSt [] {}, 15, 1023, 2 ^ 32 - 1, by decide +kernel, by decide +kernel, ⟨by decide +kernel, by decide +kernel, by decide +kernel, by decide +kernel, by decide +kernel, by decide +kernel⟩⟩,
    ⟨fwSt [] {}, 15, 0, 0, 0, by decide +kernel, by decide +kernel, by decide +kernel, ⟨by decide +kernel, by decide +kernel, by decide +kernel, by decide +kernel, by decide +kernel, by decide +kernel⟩, by decide +kernel, by decide +kernel, by decide +kernel⟩,
    ⟨fwSt [(SPN_LINK_STAT_STATE, 7, 3)] {}, 15, 0, 0, 0, by decide +kernel, by decide +kernel, by decide +kernel, ⟨by decide +kernel, by decide +kernel, by decide +kernel, by decide +kernel, by decide +kernel, by decide +kernel⟩, by decide +kernel, by decide +kernel, by decide +kernel⟩⟩

/-- Thread 4095 beside Kaluno. -/
def fwThr (l : List (Fld × Nat × Nat)) (x : Thr) : State := { fwSt l {} with ctl := { thr := [(4095, x)] } }

/-- 2,048 periodic threads. -/
def fwFull : State := { fwSt [] {} with ctl := { thr := (List.range 2048).map (fun i => (i, { valid := true, periodic := true })) } }

/-- A descriptor of a periodic thread without a budget: VALID, AFF 8, PERIODIC, PERIOD 1. -/
def desc1 : Nat := 2 ^ 255 + 8 * 2 ^ 245 + 2 ^ 244 + 2 ^ 180

theorem sch_idle {s : State} {l : List Thr} {d : List (Nat × Nat × Nat)} (h0 : d = []) (h1 : schCount l = true)
    (h2 : l.filter (fun x => x.valid && x.budget != 0) = []) : schAdmits s l d = true := by
  subst h0
  simp [schAdmits, schPairs, h1, h2, pairOk, bandOk]

theorem witness_FlowAndMemoryCommands :
    (∃ (s : State) (m op loc ent : Nat), 1 ≤ op ∧ op ≤ 6 ∧ loc < 524288 ∧ ent < 2 ^ 128 ∧ MbxRuns s m 6 1 [op, loc, ent] ∧ fget s LEX_CMD_BUSY 0 ≠ 0) ∧
    (∃ (s : State) (m op loc ent : Nat) (w : State), 1 ≤ op ∧ op ≤ 6 ∧ loc < 524288 ∧ ent < 2 ^ 128 ∧ MbxRuns s m 6 1 [op, loc, ent] ∧ fget s LEX_CMD_BUSY 0 = 0 ∧ w = lexCmd (fset (fset (taken s m 6 1) LEX_DATA_LO_DATA 0 ent) LEX_DATA_HI_DATA 0 (ent / 2 ^ 64)) op loc [] ∧ fget w LEX_CMD_BUSY 0 ≠ 0) ∧
    (∃ (s : State) (m op loc ent : Nat) (w : State), 1 ≤ op ∧ op ≤ 6 ∧ loc < 524288 ∧ ent < 2 ^ 128 ∧ MbxRuns s m 6 1 [op, loc, ent] ∧ fget s LEX_CMD_BUSY 0 = 0 ∧ w = lexCmd (fset (fset (taken s m 6 1) LEX_DATA_LO_DATA 0 ent) LEX_DATA_HI_DATA 0 (ent / 2 ^ 64)) op loc [] ∧ fget w LEX_CMD_BUSY 0 = 0 ∧ fget w LEX_CMD_STATUS 0 = 0) ∧
    (∃ (s : State) (m op loc ent : Nat) (w : State), 1 ≤ op ∧ op ≤ 6 ∧ loc < 524288 ∧ ent < 2 ^ 128 ∧ MbxRuns s m 6 1 [op, loc, ent] ∧ fget s LEX_CMD_BUSY 0 = 0 ∧ w = lexCmd (fset (fset (taken s m 6 1) LEX_DATA_LO_DATA 0 ent) LEX_DATA_HI_DATA 0 (ent / 2 ^ 64)) op loc [] ∧ fget w LEX_CMD_BUSY 0 = 0 ∧ fget w LEX_CMD_STATUS 0 = 1) ∧
    (∃ (s : State) (m i v : Nat), i < 25 ∧ v < 2 ^ 64 ∧ MbxRuns s m 6 2 [i, v] ∧ (∀ x ∈ s.lex.mir, x.kind ≠ 1) ∧ nbits v 34 12 = fget s LEX_PORT_CFG_DTENANT i) ∧
    (∃ (s : State) (m i v : Nat), i < 25 ∧ v < 2 ^ 64 ∧ MbxRuns s m 6 2 [i, v] ∧ (∀ x ∈ s.lex.mir, x.kind ≠ 1) ∧ nbits v 34 12 ≠ fget s LEX_PORT_CFG_DTENANT i) ∧
    (∃ (s : State) (m f v : Nat), f < 16384 ∧ v < 2 ^ 256 ∧ MbxRuns s m 6 3 [f, v] ∧ (flow s f).en = true) ∧
    (∃ (s : State) (m f v : Nat), f < 16384 ∧ v < 2 ^ 256 ∧ MbxRuns s m 6 3 [f, v] ∧ (flow s f).en = false ∧ (flow s f).q = []) ∧
    (∃ (s : State) (m f : Nat), f < 16384 ∧ MbxRuns s m 6 4 [f]) ∧
    (∃ (s : State) (m l v : Nat), l < 16 ∧ v < 2 ^ 64 ∧ MbxRuns s m 6 5 [l, v] ∧ fget s QMG_LINK_CFG_REFUSED l = 0 ∧ fldOf QMG_LINK_CFG_EN v = 1 ∧ tickLen s < fget s QMG_CFG_BUDGET_DL 0 + 600) ∧
    (∃ (s : State) (m l v : Nat), l < 16 ∧ v < 2 ^ 64 ∧ MbxRuns s m 6 5 [l, v] ∧ fget s QMG_LINK_CFG_REFUSED l = 0 ∧ fldOf QMG_LINK_CFG_EN v = 1 ∧ fget s QMG_CFG_BUDGET_DL 0 + 600 ≤ tickLen s) ∧
    (∃ (s : State) (m l v : Nat), l < 16 ∧ v < 2 ^ 64 ∧ MbxRuns s m 6 5 [l, v] ∧ fget s QMG_LINK_CFG_REFUSED l = 0 ∧ fldOf QMG_LINK_CFG_EN v = 0) ∧
    (∃ (s : State) (m cfg base cells : Nat), cfg < 2 ^ 64 ∧ base < 2 ^ 64 ∧ cells < 2 ^ 26 ∧ MbxRuns s m 6 6 [cfg, base, cells] ∧ fldOf QMG_POOL_BASE_BASE base ≠ fget s QMG_POOL_BASE_BASE 0 ∧ anyFlow s = true) ∧
    (∃ (s : State) (m cfg base cells : Nat), cfg < 2 ^ 64 ∧ base < 2 ^ 64 ∧ cells < 2 ^ 26 ∧ MbxRuns s m 6 6 [cfg, base, cells] ∧ anyFlow s = false ∧ (fldOf QMG_CFG_BUDGET_DL cfg < 100 ∨ tickLen s < fldOf QMG_CFG_BUDGET_DL cfg + 600)) ∧
    (∃ (s : State) (m cfg base cells : Nat), cfg < 2 ^ 64 ∧ base < 2 ^ 64 ∧ cells < 2 ^ 26 ∧ MbxRuns s m 6 6 [cfg, base, cells] ∧ anyFlow s = false ∧ 100 ≤ fldOf QMG_CFG_BUDGET_DL cfg ∧ fldOf QMG_CFG_BUDGET_DL cfg + 600 ≤ tickLen s ∧ poolOk (taken s m 6 6) (fldOf QMG_POOL_BASE_BASE base * 2 ^ 20) cells = true ∧ cells ≠ fget s QMG_POOL_CELLS 0) ∧
    (∃ (s : State) (m : Nat), let q := readRegs ([(R_GDM_STAT, 0), (R_GDM_ERR, 0), (R_GDM_LAST, 0)] ++ (List.range 5).map (fun d => (R_GDM_DEV_ERR, d))) (taken s m 7 1); MbxRuns s m 7 1 []) ∧
    (∃ (s : State) (m d : Nat), d < 5 ∧ MbxRuns s m 7 2 [d] ∧ gFailed s = none) ∧
    (∃ (s : State) (m d : Nat), 5 ≤ d ∧ d < 256 ∧ MbxRuns s m 7 2 [d]) ∧
    (∃ (s : State) (m : Nat), MbxRuns s m 7 3 [] ∧ fget s GDM_STAT_DEGRADED 0 = 0) ∧
    (∃ (s : State) (m : Nat), MbxRuns s m 7 3 [] ∧ fget s GDM_STAT_DEGRADED 0 = 1) ∧
    (∃ (s : State) (m : Nat), MbxRuns s m 7 4 [] ∧ fget s GDM_STAT_DEGRADED 0 = 0) ∧
    (∃ (s : State) (m : Nat), MbxRuns s m 7 4 [] ∧ fget s GDM_STAT_DEGRADED 0 = 1 ∧ s.gdr.retrained = true ∧ fget s GDM_STAT_LOST 0 = 0 ∧ fget s GDM_STAT_REBUILD 0 = 0) ∧
    (∃ (s : State) (m d k : Nat), d < 5 ∧ k < 2 ^ 32 ∧ MbxRuns s m 7 5 [d, k] ∧ ((smGet [] s.gdr.spare d).drop k).length ≤ 255) ∧
    (∃ (s : State) (m d b r x : Nat), d < 5 ∧ b < 2 ^ 16 ∧ r < 2 ^ 24 ∧ x < 2 ^ 24 ∧ MbxRuns s m 7 6 [d, 1, b * 2 ^ 48 + r * 2 ^ 24 + x] ∧ 64 ≤ x) ∧
    (∃ (s : State) (m d b r x : Nat), d < 5 ∧ b < 2 ^ 16 ∧ r < 2 ^ 24 ∧ x < 2 ^ 24 ∧ MbxRuns s m 7 6 [d, 1, b * 2 ^ 48 + r * 2 ^ 24 + x] ∧ x < 64 ∧ s.gdr.traffic = true) ∧
    (∃ (s : State) (m d b r x : Nat), d < 5 ∧ b < 2 ^ 16 ∧ r < 2 ^ 24 ∧ x < 2 ^ 24 ∧ MbxRuns s m 7 6 [d, 1, b * 2 ^ 48 + r * 2 ^ 24 + x] ∧ x < 64 ∧ s.gdr.traffic = false) ∧
    (∃ (s : State) (m c : Nat), let q := readRegs [(R_DMA_CH_STAT, c), (R_DMA_IDX, c)] (taken s m 7 7); c < 16 ∧ MbxRuns s m 7 7 [c]) := by
  refine ⟨⟨fwSt [(LEX_CMD_BUSY, 0, 1)] {}, 15, 6, 524287, 2 ^ 128 - 1, by decide +kernel, by decide +kernel, by decide +kernel, by decide +kernel, ⟨by decide +kernel, by decide +kernel, by decide +kernel, by decide +kernel, by decide +kernel, by decide +kernel⟩, by decide +kernel⟩,
    ⟨fwSt [] {}, 15, 2, 0, entP7, lexCmd (fset (fset (taken (fwSt [] {}) 15 6 1) LEX_DATA_LO_DATA 0 entP7) LEX_DATA_HI_DATA 0 (entP7 / 2 ^ 64)) 2 0 [], by decide +kernel, by decide +kernel, by decide +kernel, by decide +kernel, ⟨by decide +kernel, by decide +kernel, by decide +kernel, by decide +kernel, by decide +kernel, by decide +kernel⟩, by decide +kernel, rfl, by decide +kernel⟩,
    ⟨{ fwSt [] {} with lex := (lexSt []).lex }, 15, 1, 0, entP7, lexCmd (fset (fset (taken ({ fwSt [] {} with lex := (lexSt []).lex }) 15 6 1) LEX_DATA_LO_DATA 0 entP7) LEX_DATA_HI_DATA 0 (entP7 / 2 ^ 64)) 1 0 [], by decide +kernel, by decide +kernel, by decide +kernel, by decide +kernel, ⟨by decide +kernel, by decide +kernel, by decide +kernel, by decide +kernel, by decide +kernel, by decide +kernel⟩, by decide +kernel, rfl, by decide +kernel, by decide +kernel⟩,
    ⟨fwSt [] {}, 15, 1, 0, entP7, lexCmd (fset (fset (taken (fwSt [] {}) 15 6 1) LEX_DATA_LO_DATA 0 entP7) LEX_DATA_HI_DATA 0 (entP7 / 2 ^ 64)) 1 0 [], by decide +kernel, by decide +kernel, by decide +kernel, by decide +kernel, ⟨by decide +kernel, by decide +kernel, by decide +kernel, by decide +kernel, by decide +kernel, by decide +kernel⟩, by decide +kernel, rfl, by decide +kernel, by decide +kernel⟩,
    ⟨fwSt [] {}, 15, 24, 0, by decide +kernel, by decide +kernel, ⟨by decide +kernel, by decide +kernel, by decide +kernel, by decide +kernel, by decide +kernel, by decide +kernel⟩, by decide +kernel, by decide +kernel⟩,
    ⟨fwSt [] {}, 15, 24, 2 ^ 34, by decide +kernel, by decide +kernel, ⟨by decide +kernel, by decide +kernel, by decide +kernel, by decide +kernel, by decide +kernel, by decide +kernel⟩, by decide +kernel, by decide +kernel⟩,
    ⟨{ fwSt [] {} with qm := { flows := [(16383, { en := true })] } }, 15, 16383, 2 ^ 256 - 1, by decide +kernel, by decide +kernel, ⟨by decide +kernel, by decide +kernel, by decide +kernel, by decide +kernel, by decide +kernel, by decide +kernel⟩, by decide +kernel⟩,
    ⟨fwSt [] {}, 15, 16383, 2 ^ 256 - 1, by decide +kernel, by decide +kernel, ⟨by decide +kernel, by decide +kernel, by decide +kernel, by decide +kernel, by decide +kernel, by decide +kernel⟩, by decide +kernel, by decide +kernel⟩,
    ⟨fwSt [] {}, 15, 16383, by decide +kernel, ⟨by decide +kernel, by decide +kernel, by decide +kernel, by decide +kernel, by decide +kernel, by decide +kernel⟩⟩,
    ⟨fwSt [(QMG_CFG_BUDGET_DL, 0, 901)] {}, 15, 15, 2 ^ QMG_LINK_CFG_EN.lo, by decide +kernel, by decide +kernel, ⟨by decide +kernel, by decide +kernel, by decide +kernel, by decide +kernel, by decide +kernel, by decide +kernel⟩, by decide +kernel, by decide +kernel, by decide +kernel⟩,
    ⟨fwSt [(QMG_CFG_BUDGET_DL, 0, 900)] {}, 15, 15, 2 ^ QMG_LINK_CFG_EN.lo, by decide +kernel, by decide +kernel, ⟨by decide +kernel, by decide +kernel, by decide +kernel, by decide +kernel, by decide +kernel, by decide +kernel⟩, by decide +kernel, by decide +kernel, by decide +kernel⟩,
    ⟨fwSt [] {}, 15, 15, 0, by decide +kernel, by decide +kernel, ⟨by decide +kernel, by decide +kernel, by decide +kernel, by decide +kernel, by decide +kernel, by decide +kernel⟩, by decide +kernel, by decide +kernel⟩,
    ⟨{ fwSt [] {} with qm := { flows := [(16383, { en := true })] } }, 15, 0, 65536 * 2 ^ QMG_POOL_BASE_BASE.lo, 0, by decide +kernel, by decide +kernel, by decide +kernel, ⟨by decide +kernel, by decide +kernel, by decide +kernel, by decide +kernel, by decide +kernel, by decide +kernel⟩, by decide +kernel, by decide +kernel⟩,
    ⟨fwSt [] {}, 15, 99 * 2 ^ QMG_CFG_BUDGET_DL.lo, 0, 0, by decide +kernel, by decide +kernel, by decide +kernel, ⟨by decide +kernel, by decide +kernel, by decide +kernel, by decide +kernel, by decide +kernel, by decide +kernel⟩, by decide +kernel, by decide +kernel⟩,
    ⟨fwSt [(CFG_STAGE_BASE, 0, 0x1200000000)] {}, 15, 900 * 2 ^ QMG_CFG_BUDGET_DL.lo, 65536 * 2 ^ QMG_POOL_BASE_BASE.lo, 2 ^ 25, by decide +kernel, by decide +kernel, by decide +kernel, ⟨by decide +kernel, by decide +kernel, by decide +kernel, by decide +kernel, by decide +kernel, by decide +kernel⟩, by decide +kernel, by decide +kernel, by decide +kernel, by decide +kernel, by decide +kernel⟩,
    ⟨fwSt [] {}, 15, ⟨by decide +kernel, by decide +kernel, by decide +kernel, by decide +kernel, by decide +kernel, by decide +kernel⟩⟩,
    ⟨fwSt [] {}, 15, 4, by decide +kernel, ⟨by decide +kernel, by decide +kernel, by decide +kernel, by decide +kernel, by decide +kernel, by decide +kernel⟩, by decide +kernel⟩,
    ⟨fwSt [] {}, 15, 5, by decide +kernel, by decide +kernel, ⟨by decide +kernel, by decide +kernel, by decide +kernel, by decide +kernel, by decide +kernel, by decide +kernel⟩⟩,
    ⟨fwSt [] {}, 15, ⟨by decide +kernel, by decide +kernel, by decide +kernel, by decide +kernel, by decide +kernel, by decide +kernel⟩, by decide +kernel⟩,
    ⟨fwSt [(GDM_STAT_DEGRADED, 0, 1)] {}, 15, ⟨by decide +kernel, by decide +kernel, by decide +kernel, by decide +kernel, by decide +kernel, by decide +kernel⟩, by decide +kernel⟩,
    ⟨fwSt [] {}, 15, ⟨by decide +kernel, by decide +kernel, by decide +kernel, by decide +kernel, by decide +kernel, by decide +kernel⟩, by decide +kernel⟩,
    ⟨{ fwSt [(GDM_STAT_DEGRADED, 0, 1)] {} with gdr := { retrained := true } }, 15, ⟨by decide +kernel, by decide +kernel, by decide +kernel, by decide +kernel, by decide +kernel, by decide +kernel⟩, by decide +kernel, by decide +kernel, by decide +kernel, by decide +kernel⟩,
    ⟨{ fwSt [] {} with gdr := { spare := [(4, [(1, 2, 3)])] } }, 15, 4, 0, by decide +kernel, by decide +kernel, ⟨by decide +kernel, by decide +kernel, by decide +kernel, by decide +kernel, by decide +kernel, by decide +kernel⟩, by decide +kernel⟩,
    ⟨fwSt [] {}, 15, 4, 65535, 0, 64, by decide +kernel, by decide +kernel, by decide +kernel, by decide +kernel, ⟨by decide +kernel, by decide +kernel, by decide +kernel, by decide +kernel, by decide +kernel, by decide +kernel⟩, by decide +kernel⟩,
    ⟨{ fwSt [] {} with gdr := { traffic := true } }, 15, 4, 65535, 0, 63, by decide +kernel, by decide +kernel, by decide +kernel, by decide +kernel, ⟨by decide +kernel, by decide +kernel, by decide +kernel, by decide +kernel, by decide +kernel, by decide +kernel⟩, by decide +kernel, by decide +kernel⟩,
    ⟨fwSt [] {}, 15, 4, 65535, 0, 63, by decide +kernel, by decide +kernel, by decide +kernel, by decide +kernel, ⟨by decide +kernel, by decide +kernel, by decide +kernel, by decide +kernel, by decide +kernel, by decide +kernel⟩, by decide +kernel, by decide +kernel⟩,
    ⟨fwSt [] {}, 15, 15, by decide +kernel, ⟨by decide +kernel, by decide +kernel, by decide +kernel, by decide +kernel, by decide +kernel, by decide +kernel⟩⟩⟩

theorem witness_ControlCommands :
    (∃ (s : State) (m k v : Nat), k < 65536 ∧ v < 2 ^ 256 ∧ MbxRuns s m 8 1 [k, v] ∧ (4096 ≤ k ∨ thrOk (thrOf v) = false)) ∧
    (∃ (s : State) (m k v : Nat), k < 65536 ∧ v < 2 ^ 256 ∧ MbxRuns s m 8 1 [k, v] ∧ k < 4096 ∧ thrOk (thrOf v) = true ∧ (thr s k).valid = true ∧ (thr s k).st ≠ thIDLE) ∧
    (∃ (s : State) (m k v : Nat), k < 65536 ∧ v < 2 ^ 256 ∧ MbxRuns s m 8 1 [k, v] ∧ k < 4096 ∧ thrOk (thrOf v) = true ∧ ((thr s k).valid = false ∨ (thr s k).st = thIDLE) ∧ schAdmits (taken s m 8 1) (thrsWith (taken s m 8 1) k (thrOf v)) (admittedDemand (taken s m 8 1)) = true) ∧
    (∃ (s : State) (m k v : Nat), k < 65536 ∧ v < 2 ^ 256 ∧ MbxRuns s m 8 1 [k, v] ∧ k < 4096 ∧ thrOk (thrOf v) = true ∧ ((thr s k).valid = false ∨ (thr s k).st = thIDLE) ∧ schAdmits (taken s m 8 1) (thrsWith (taken s m 8 1) k (thrOf v)) (admittedDemand (taken s m 8 1)) = false) ∧
    (∃ (s : State) (m k : Nat), k < 65536 ∧ MbxRuns s m 8 2 [k] ∧ k < 4096) ∧
    (∃ (s : State) (m k : Nat), k < 65536 ∧ MbxRuns s m 8 2 [k] ∧ 4096 ≤ k) ∧
    (∃ (s : State) (m k : Nat), k < 65536 ∧ MbxRuns s m 8 3 [k] ∧ k < 4096 ∧ (thr s k).valid = true ∧ (thr s k).st = thIDLE) ∧
    (∃ (s : State) (m k : Nat), k < 65536 ∧ MbxRuns s m 8 3 [k] ∧ k < 4096 ∧ ((thr s k).valid = false ∨ (thr s k).st ≠ thIDLE)) ∧
    (∃ (s : State) (m k : Nat), k < 65536 ∧ MbxRuns s m 8 5 [k] ∧ k < 4096) ∧
    (∃ (s : State) (m : Nat) (l : List (Nat × Nat)), l.length < 256 ∧ (∀ e ∈ l, e.1 < 4096 ∧ e.2 < 2 ^ 256 ∧ thrOk (thrOf e.2) = true) ∧ (MbxRuns s m 8 4 ([l.length] ++ l.map (fun e => e.1) ++ l.map (fun e => e.2)))) ∧
    (∃ (s : State) (m : Nat), let q := readRegs ([(R_SCH_STAT, 0)] ++ (List.range 4).map (fun k => (R_SYS_PAIR_MAP, k)) ++ (List.range 5).map (fun q => (R_SYS_PAIR_STAT, q))) (taken s m 8 6); MbxRuns s m 8 6 []) ∧
    (∃ (s : State) (m k : Nat), k < 65536 ∧ MbxRuns s m 9 1 [k] ∧ 1024 < (fget s FLT_REC_IDX_PI 0 + 65536 - k) % 65536) ∧
    (∃ (s : State) (m k : Nat), k < 65536 ∧ MbxRuns s m 9 1 [k] ∧ (fget s FLT_REC_IDX_PI 0 + 65536 - k) % 65536 ≤ 126 ∧ fgetB s FLT_INJ_ACTIVE 60 = false ∧ (∀ i : Nat, i < 4096 → smGet 0 s.flt.ringChk i = chkBits (smGet 0 s.flt.ring i))) ∧
    (∃ (s : State) (m k : Nat), k < 256 ∧ MbxRuns s m 9 2 [k] ∧ 64 ≤ k) ∧
    (∃ (s : State) (m k : Nat), k < 256 ∧ MbxRuns s m 9 2 [k] ∧ k < 64) ∧
    (∃ (s : State) (m k c n : Nat), k < 64 ∧ c < 128 ∧ n < 256 ∧ MbxRuns s m 9 3 [k, c, n] ∧ n = 0xFF) ∧
    (∃ (s : State) (m k c n : Nat), k < 64 ∧ c < 128 ∧ n < 256 ∧ MbxRuns s m 9 3 [k, c, n] ∧ n ≠ 0xFF ∧ checkerOk k c = true ∧ fget s FLT_INJ_REFUSED k = 0) ∧
    (∃ (s : State) (m k c n : Nat), k < 64 ∧ c < 128 ∧ n < 256 ∧ MbxRuns s m 9 3 [k, c, n] ∧ n ≠ 0xFF ∧ checkerOk k c = false) ∧
    (∃ (s : State) (m k id : Nat), k < 256 ∧ id < 65536 ∧ MbxRuns s m 9 4 [k, id] ∧ k ≠ 1 ∧ k ≠ 10 ∧ fget s FLT_UNIT_FAULTED (unitIx k id) = 0) ∧
    (∃ (s : State) (m k id : Nat), k < 256 ∧ id < 65536 ∧ MbxRuns s m 9 4 [k, id] ∧ k = 10 ∧ fget s FLT_STATE_STATE 0 = 0) ∧
    (∃ (s : State) (m k id : Nat), k < 256 ∧ id < 65536 ∧ MbxRuns s m 9 4 [k, id] ∧ k = 8 ∧ id < 4096 ∧ fget s FLT_UNIT_FAULTED (unitIx 8 id) = 1 ∧ (thr s id).st = thFAULTED ∧ (thr s id).periodic = false) ∧
    (∃ (s : State) (m quiet mode : Nat), quiet < 2 ^ 32 ∧ mode < 2 ^ 64 ∧ MbxRuns s m 9 5 [quiet, mode]) ∧
    (∃ (s : State) (m : Nat), MbxRuns s m 10 1 []) ∧
    (∃ (s : State) (m a b c d : Nat), a < 2 ^ 32 ∧ b < 65536 ∧ c < 65536 ∧ d < 256 ∧ MbxRuns s m 10 2 [a, b, c, d] ∧ (a < 2000 ∨ 1000000 < a ∨ b < 2 ∨ 500 < b ∨ c < 1 ∨ 1 < d)) ∧
    (∃ (s : State) (m a b c d : Nat), a < 2 ^ 32 ∧ b < 65536 ∧ c < 65536 ∧ d < 256 ∧ MbxRuns s m 10 2 [a, b, c, d] ∧ 2000 ≤ a ∧ a ≤ 1000000 ∧ 2 ≤ b ∧ b ≤ 500 ∧ 1 ≤ c ∧ d ≤ 1) ∧
    (∃ (s : State) (m k id : Nat), k < 256 ∧ id < 65536 ∧ MbxRuns s m 10 3 [k, id] ∧ k = 2 ∧ id < 100) ∧
    (∃ (s : State) (m k id : Nat), k < 256 ∧ id < 65536 ∧ MbxRuns s m 10 3 [k, id] ∧ k = 3) ∧
    (∃ (s : State) (m id r : Nat), id < 100 ∧ r < 3 ∧ MbxRuns s m 10 4 [2, id] ∧ fget s CAB_STATE_FENCED id = 0) ∧
    (∃ (s : State) (m id r : Nat), id < 100 ∧ r < 3 ∧ MbxRuns s m 10 4 [2, id] ∧ fget s CAB_STATE_FENCED id = 1 ∧ (bunit s (200 + id)).run = false) := by
  refine ⟨⟨fwSt [] {}, 15, 4096, 0, by decide +kernel, by decide +kernel, ⟨by decide +kernel, by decide +kernel, by decide +kernel, by decide +kernel, by decide +kernel, by decide +kernel⟩, by decide +kernel⟩,
    ⟨fwThr [] { valid := true, st := thREADY }, 15, 4095, 0, by decide +kernel, by decide +kernel, ⟨by decide +kernel, by decide +kernel, by decide +kernel, by decide +kernel, by decide +kernel, by decide +kernel⟩, by decide +kernel, by decide +kernel, by decide +kernel, by decide +kernel⟩,
    ⟨fwThr [] { valid := true }, 15, 4095, desc1, by decide +kernel, by decide +kernel, ⟨by decide +kernel, by decide +kernel, by decide +kernel, by decide +kernel, by decide +kernel, by decide +kernel⟩, by decide +kernel, by decide +kernel, by decide +kernel, sch_idle (by decide +kernel) (by decide +kernel) (by decide +kernel)⟩,
    ⟨fwFull, 15, 4095, desc1, by decide +kernel, by decide +kernel, ⟨by decide +kernel, by decide +kernel, by decide +kernel, by decide +kernel, by decide +kernel, by decide +kernel⟩, by decide +kernel, by decide +kernel, by decide +kernel, by decide +kernel⟩,
    ⟨fwSt [] {}, 15, 4095, by decide +kernel, ⟨by decide +kernel, by decide +kernel, by decide +kernel, by decide +kernel, by decide +kernel, by decide +kernel⟩, by decide +kernel⟩,
    ⟨fwSt [] {}, 15, 4096, by decide +kernel, ⟨by decide +kernel, by decide +kernel, by decide +kernel, by decide +kernel, by decide +kernel, by decide +kernel⟩, by decide +kernel⟩,
    ⟨fwThr [] { valid := true }, 15, 4095, by decide +kernel, ⟨by decide +kernel, by decide +kernel, by decide +kernel, by decide +kernel, by decide +kernel, by decide +kernel⟩, by decide +kernel, by decide +kernel, by decide +kernel⟩,
    ⟨fwThr [] { valid := true, st := thREADY }, 15, 4095, by decide +kernel, ⟨by decide +kernel, by decide +kernel, by decide +kernel, by decide +kernel, by decide +kernel, by decide +kernel⟩, by decide +kernel, by decide +kernel⟩,
    ⟨fwSt [] {}, 15, 4095, by decide +kernel, ⟨by decide +kernel, by decide +kernel, by decide +kernel, by decide +kernel, by decide +kernel, by decide +kernel⟩, by decide +kernel⟩,
    ⟨fwSt [] {}, 15, [(4095, desc1)], by decide +kernel, by decide +kernel, ⟨by decide +kernel, by decide +kernel, by decide +kernel, by decide +kernel, by decide +kernel, by decide +kernel⟩⟩,
    ⟨fwSt [] {}, 15, ⟨by decide +kernel, by decide +kernel, by decide +kernel, by decide +kernel, by decide +kernel, by decide +kernel⟩⟩,
    ⟨fwSt [(FLT_REC_IDX_PI, 0, 1025)] {}, 15, 0, by decide +kernel, ⟨by decide +kernel, by decide +kernel, by decide +kernel, by decide +kernel, by decide +kernel, by decide +kernel⟩, by decide +kernel⟩,
    ⟨fwSt [(FLT_REC_IDX_PI, 0, 3)] {}, 15, 65413, by decide +kernel, ⟨by decide +kernel, by decide +kernel, by decide +kernel, by decide +kernel, by decide +kernel, by decide +kernel⟩, by decide +kernel, by decide +kernel, fun _ _ => show (0 : BitVec 8) = chkBits 0 by decide +kernel⟩,
    ⟨fwSt [] {}, 15, 64, by decide +kernel, ⟨by decide +kernel, by decide +kernel, by decide +kernel, by decide +kernel, by decide +kernel, by decide +kernel⟩, by decide +kernel⟩,
    ⟨fwSt [] {}, 15, 63, by decide +kernel, ⟨by decide +kernel, by decide +kernel, by decide +kernel, by decide +kernel, by decide +kernel, by decide +kernel⟩, by decide +kernel⟩,
    ⟨fwSt [] {}, 15, 63, 0, 255, by decide +kernel, by decide +kernel, by decide +kernel, ⟨by decide +kernel, by decide +kernel, by decide +kernel, by decide +kernel, by decide +kernel, by decide +kernel⟩, by decide +kernel⟩,
    ⟨fwSt [] {}, 15, 63, 2, 254, by decide +kernel, by decide +kernel, by decide +kernel, ⟨by decide +kernel, by decide +kernel, by decide +kernel, by decide +kernel, by decide +kernel, by decide +kernel⟩, by decide +kernel, by decide +kernel, by decide +kernel⟩,
    ⟨fwSt [] {}, 15, 63, 3, 0, by decide +kernel, by decide +kernel, by decide +kernel, ⟨by decide +kernel, by decide +kernel, by decide +kernel, by decide +kernel, by decide +kernel, by decide +kernel⟩, by decide +kernel, by decide +kernel⟩,
    ⟨fwSt [] {}, 15, 0, 95, by decide +kernel, by decide +kernel, ⟨by decide +kernel, by decide +kernel, by decide +kernel, by decide +kernel, by decide +kernel, by decide +kernel⟩, by decide +kernel, by decide +kernel, by decide +kernel⟩,
    ⟨fwSt [] {}, 15, 10, 0, by decide +kernel, by decide +kernel, ⟨by decide +kernel, by decide +kernel, by decide +kernel, by decide +kernel, by decide +kernel, by decide +kernel⟩, by decide +kernel, by decide +kernel⟩,
    ⟨fwThr [(FLT_UNIT_FAULTED, unitIx 8 4095, 1)] { st := thFAULTED }, 15, 8, 4095, by decide +kernel, by decide +kernel, ⟨by decide +kernel, by decide +kernel, by decide +kernel, by decide +kernel, by decide +kernel, by decide +kernel⟩, by decide +kernel, by decide +kernel, by decide +kernel, by decide +kernel, by decide +kernel⟩,
    ⟨fwSt [] {}, 15, 0, 2 ^ 64 - 1, by decide +kernel, by decide +kernel, ⟨by decide +kernel, by decide +kernel, by decide +kernel, by decide +kernel, by decide +kernel, by decide +kernel⟩⟩,
    ⟨fwSt [] {}, 15, ⟨by decide +kernel, by decide +kernel, by decide +kernel, by decide +kernel, by decide +kernel, by decide +kernel⟩⟩,
    ⟨fwSt [] {}, 15, 1999, 2, 1, 0, by decide +kernel, by decide +kernel, by decide +kernel, by decide +kernel, ⟨by decide +kernel, by decide +kernel, by decide +kernel, by decide +kernel, by decide +kernel, by decide +kernel⟩, by decide +kernel⟩,
    ⟨fwSt [] {}, 15, 1000000, 500, 65535, 1, by decide +kernel, by decide +kernel, by decide +kernel, by decide +kernel, ⟨by decide +kernel, by decide +kernel, by decide +kernel, by decide +kernel, by decide +kernel, by decide +kernel⟩, by decide +kernel, by decide +kernel, by decide +kernel, by decide +kernel, by decide +kernel, by decide +kernel⟩,
    ⟨fwSt [] {}, 15, 2, 99, by decide +kernel, by decide +kernel, ⟨by decide +kernel, by decide +kernel, by decide +kernel, by decide +kernel, by decide +kernel, by decide +kernel⟩, by decide +kernel, by decide +kernel⟩,
    ⟨fwSt [] {}, 15, 3, 0, by decide +kernel, by decide +kernel, ⟨by decide +kernel, by decide +kernel, by decide +kernel, by decide +kernel, by decide +kernel, by decide +kernel⟩, by decide +kernel⟩,
    ⟨fwSt [(CAB_STATE_FENCED, 99, 0)] {}, 15, 99, 2, by decide +kernel, by decide +kernel, ⟨by decide +kernel, by decide +kernel, by decide +kernel, by decide +kernel, by decide +kernel, by decide +kernel⟩, by decide +kernel⟩,
    ⟨fwSt [] {}, 15, 99, 2, by decide +kernel, by decide +kernel, ⟨by decide +kernel, by decide +kernel, by decide +kernel, by decide +kernel, by decide +kernel, by decide +kernel⟩, by decide +kernel, by decide +kernel⟩⟩

/-- A directory with slots A and B (R314). -/
def dirW : List Word :=
  [0x4158444900000001, 16384, 24576, 32768, 40960, 0xFFFFFFFFFFFFFFFF, 0xFFFFFFFFFFFFFFFF, 0xFFFFFFFFFFFFFFFF, 0xFFFFFFFFFFFFFFFF, 2492200554]

/-- A flash with that directory and an image in slot B. -/
def dirFlash : SMap Byte := bytesAt 0 (wordBytes dirW) ++ (bytesAt 32768 zimg ++ [])

/-- Kaluno runs over it, and the update is in state `f`. -/
def dirSt (f : FwSt) : State := { fwSt [] {} with flash := dirFlash, fw := f, otp := zotps }

/-- The boot ROM attempts slot B of it. -/
def bootB : State := { fwSt [] {} with flash := dirFlash, otp := zotps, boot := { held := false, rom := true, left := [1] } }

theorem dir_bytes : (wordBytes dirW).length = 80 ∧ bytesToWords 10 (wordBytes dirW) = dirW ∧ dirOk dirW = true := by decide +kernel

theorem dir_words {s : State} (hs : s.flash = dirFlash) : flashDir s = some dirW := by
  have h : flashBytes s 0 80 = wordBytes dirW := by
    have h := range_bytes 0xFF (bytesAt 32768 zimg ++ []) (wordBytes dirW) 0
    rw [dir_bytes.1] at h
    rw [flashBytes, hs]
    exact h
  simp only [flashDir, dirWords, h, dir_bytes]
  rfl

theorem dir_areas : (wAt dirW (1 + 2 * 0 + 0)).toNat = 16384 ∧ (wAt dirW (1 + 2 * 1 + 0)).toNat = 32768 ∧
    ((dirW.drop 1).take 8).map (fun x => x.toNat) =
      [16384, 24576, 32768, 40960, 2 ^ 64 - 1, 2 ^ 64 - 1, 2 ^ 64 - 1, 2 ^ 64 - 1] := by decide

theorem area_A {s : State} (hs : s.flash = dirFlash) : fwArea s 0 0 = some (16384, 8192) := by
  simp only [fwArea, dir_words hs, dir_areas]; decide
theorem area_B {s : State} (hs : s.flash = dirFlash) : fwArea s 1 0 = some (32768, 8192) := by
  simp only [fwArea, dir_words hs, dir_areas]; decide

theorem img_bytes {s : State} (hs : s.flash = dirFlash) : flashBytes s 32768 256 = zimg := by
  have h := range_bytes 0xFF [] zimg 32768
  rw [zimg_length] at h
  rw [flashBytes, hs]
  refine Eq.trans (List.map_congr_left fun i _ => ?_) h
  exact skip_bytes 0xFF _ _ 0 _ (by rw [dir_bytes.1]; omega)

theorem img_head {s : State} (hs : s.flash = dirFlash) : flashBytes s 32768 64 = zhdr := by
  have h : (flashBytes s 32768 256).take 64 = flashBytes s 32768 64 := by
    simp only [flashBytes, ← List.map_take, List.take_range]; rfl
  rw [← h, img_bytes hs]
  exact List.take_left' zhdr_length

theorem dir_kofs {s : State} (hs : s.flash = dirFlash) : slotKofs s 1 = some 32768 := by
  simp only [slotKofs, dir_words hs]; decide
theorem dir_image {s : State} (hs : s.flash = dirFlash) : imageAt s 32768 = some zimg := by
  simp [imageAt, img_head hs, zhdr_states, img_bytes hs]

theorem img_slotB {s : State} (hs : s.flash = dirFlash) (ho : s.otp = zotps) : slotBOk s = true := by
  simp only [slotBOk, dir_kofs hs, dir_image hs]
  exact zimg_ok ho

theorem witness_BootPhases_BootAttempts_image :
    ∃ (s : State) (n a : Nat) (r : List Nat) (b : List Byte), s.boot.rom = true ∧ fget s SYS_BOOT_STAT_PHASE 0 = 0 ∧
      s.boot.left = n :: r ∧ slotKofs s n = some a ∧ imageAt s a = some b ∧ imageOk s b = true :=
  ⟨bootB, 1, 32768, [], zimg, rfl, by decide +kernel, rfl, dir_kofs rfl, dir_image rfl, zimg_ok rfl⟩

theorem img_push : padTo 256 zimg = zimg := by
  rw [padTo]; exact List.take_left' zimg_length

/-- A trial of a second. -/
def trialSt (now : Nat) : State := { fwSt [] {} with fw := { st := 4, trial := 1 }, time := { State.reset.time with now := now } }

theorem trial_runs : trialLeft (trialSt 0) ≠ 0 := by
  have h : trialLeft (trialSt 0) = (if bootSel (trialSt 0) = 0 then 1 - 0 / (Config.aclkKHz * 1000) else 1) := by
    simp [trialLeft, trialSt]
  rw [h, Nat.zero_div]
  split <;> decide

theorem trial_over : trialLeft (trialSt 1500000000) = 0 := by
  have h0 : bootSel (trialSt 1500000000) = 0 := by decide +kernel
  have h : trialLeft (trialSt 1500000000) = 1 - 1500000000 / (Config.aclkKHz * 1000) := by
    simp only [trialLeft, h0]; simp [trialSt]
  have hk : Config.aclkKHz ≤ 1500000 := by have := Nat.mod_lt Config.aclkChoice (show 0 < 1500000 by decide); simp only [Config.aclkKHz]; omega
  have hp : 0 < Config.aclkKHz := Nat.succ_pos _
  have : 1 ≤ 1500000000 / (Config.aclkKHz * 1000) := (Nat.one_le_div_iff (by omega)).2 (by omega)
  omega

/-- A statement. -/
def stmt7 : Stmt := ⟨7, 1, 0, 0, [], 0, 1, 1500, 0, [], 1, 0, 0, []⟩

/-- An audit record. -/
def aud0 : Aud := ⟨0, 1, 0, 0, [], []⟩

theorem witness_LogAndBureauCommands :
    (∃ (s : State) (m k n : Nat), k < 2 ^ 32 ∧ n < 256 ∧ MbxRuns s m 12 1 [k, n] ∧ (n = 0 ∨ 126 < n)) ∧
    (∃ (s : State) (m k n : Nat) (l : List Event), k < 2 ^ 32 ∧ n < 256 ∧ MbxRuns s m 12 1 [k, n] ∧ 1 ≤ n ∧ n ≤ 126 ∧ (k + 2 ^ 32 - logOldest s) % 2 ^ 32 < 2 ^ 31 ∧ l = (s.evt.log.drop ((k + 2 ^ 32 - logOldest s) % 2 ^ 32)).take n) ∧
    (∃ (s : State) (m k n : Nat), k < 2 ^ 32 ∧ n < 256 ∧ MbxRuns s m 12 1 [k, n] ∧ 1 ≤ n ∧ n ≤ 126 ∧ 2 ^ 31 ≤ (k + 2 ^ 32 - logOldest s) % 2 ^ 32) ∧
    (∃ (s : State) (m : Nat), MbxRuns s m 12 2 []) ∧
    (∃ (s : State) (m : Nat), MbxRuns s m 13 1 []) ∧
    (∃ (s : State) (m k n : Nat), k < 65536 ∧ n < 256 ∧ MbxRuns s m 13 2 [k, n] ∧ (n = 0 ∨ 64 < n ∨ 4096 < k + n)) ∧
    (∃ (s : State) (m k n : Nat), k < 65536 ∧ n < 256 ∧ MbxRuns s m 13 2 [k, n] ∧ 1 ≤ n ∧ n ≤ 64 ∧ k + n ≤ 4096) ∧
    (∃ (s : State) (m k : Nat), k < 2 ^ 32 ∧ MbxRuns s m 13 3 [k] ∧ sheetAt s k = none) ∧
    (∃ (s : State) (m k : Nat) (b : List Byte), k < 2 ^ 32 ∧ MbxRuns s m 13 3 [k] ∧ sheetAt s k = some b) ∧
    (∃ (s : State) (m k n : Nat), k < 2 ^ 32 ∧ n < 256 ∧ MbxRuns s m 13 4 [k, n] ∧ s.bur.nextIdx ≤ k) ∧
    (∃ (s : State) (m k n : Nat), k < 2 ^ 32 ∧ n < 256 ∧ MbxRuns s m 13 4 [k, n] ∧ k < s.bur.nextIdx ∧ s.bur.nextIdx - s.bur.trail.length ≤ k ∧ ((s.bur.trail.filter (fun a => k ≤ a.idx)).length ≤ min n 31)) ∧
    (∃ (s : State) (m : Nat), MbxRuns s m 13 5 []) := by
  refine ⟨⟨fwSt [] {}, 15, 0, 127, by decide +kernel, by decide +kernel, ⟨by decide +kernel, by decide +kernel, by decide +kernel, by decide +kernel, by decide +kernel, by decide +kernel⟩, by decide +kernel⟩,
    ⟨{ fwSt [] {} with evt := { log := [{ ev := 4 }], next := 1 } }, 15, 0, 126, [{ ev := 4 }], by decide +kernel, by decide +kernel, ⟨by decide +kernel, by decide +kernel, by decide +kernel, by decide +kernel, by decide +kernel, by decide +kernel⟩, by decide +kernel, by decide +kernel, by decide +kernel, by decide +kernel⟩,
    ⟨fwSt [] {}, 15, 2 ^ 31, 1, by decide +kernel, by decide +kernel, ⟨by decide +kernel, by decide +kernel, by decide +kernel, by decide +kernel, by decide +kernel, by decide +kernel⟩, by decide +kernel, by decide +kernel, by decide +kernel⟩,
    ⟨fwSt [] {}, 15, ⟨by decide +kernel, by decide +kernel, by decide +kernel, by decide +kernel, by decide +kernel, by decide +kernel⟩⟩,
    ⟨fwSt [] {}, 15, ⟨by decide +kernel, by decide +kernel, by decide +kernel, by decide +kernel, by decide +kernel, by decide +kernel⟩⟩,
    ⟨fwSt [] {}, 15, 4095, 2, by decide +kernel, by decide +kernel, ⟨by decide +kernel, by decide +kernel, by decide +kernel, by decide +kernel, by decide +kernel, by decide +kernel⟩, by decide +kernel⟩,
    ⟨fwSt [] {}, 15, 4032, 64, by decide +kernel, by decide +kernel, ⟨by decide +kernel, by decide +kernel, by decide +kernel, by decide +kernel, by decide +kernel, by decide +kernel⟩, by decide +kernel, by decide +kernel, by decide +kernel⟩,
    ⟨fwSt [] {}, 15, 2 ^ 32 - 1, by decide +kernel, ⟨by decide +kernel, by decide +kernel, by decide +kernel, by decide +kernel, by decide +kernel, by decide +kernel⟩, by decide +kernel⟩,
    ⟨{ fwSt [] {} with bur := { stored := [stmt7] } }, 15, 2 ^ 32 - 1, sheetBytes stmt7 0, by decide +kernel, ⟨by decide +kernel, by decide +kernel, by decide +kernel, by decide +kernel, by decide +kernel, by decide +kernel⟩, rfl⟩,
    ⟨fwSt [] {}, 15, 0, 31, by decide +kernel, by decide +kernel, ⟨by decide +kernel, by decide +kernel, by decide +kernel, by decide +kernel, by decide +kernel, by decide +kernel⟩, by decide +kernel⟩,
    ⟨{ fwSt [] {} with bur := { trail := [aud0], nextIdx := 1 } }, 15, 0, 1, by decide +kernel, by decide +kernel, ⟨by decide +kernel, by decide +kernel, by decide +kernel, by decide +kernel, by decide +kernel, by decide +kernel⟩, by decide +kernel, by decide +kernel, by decide +kernel⟩,
    ⟨fwSt [] {}, 15, ⟨by decide +kernel, by decide +kernel, by decide +kernel, by decide +kernel, by decide +kernel, by decide +kernel⟩⟩⟩

theorem witness_FirmwareCommands :
    (∃ (s : State) (m : Nat), MbxRuns s m 11 1 []) ∧
    (∃ (s : State) (m : Nat), MbxRuns s m 11 2 [] ∧ (s.fw.st = 0 ∨ s.fw.st = 2 ∨ s.fw.st = 5)) ∧
    (∃ (s : State) (m : Nat), MbxRuns s m 11 2 [] ∧ (s.fw.st = 1 ∨ s.fw.st = 3 ∨ s.fw.st = 4)) ∧
    (∃ (s : State) (m p o : Nat) (b : List Byte), p < 256 ∧ o < 2 ^ 32 ∧ b.length < 4096 ∧ MbxRuns s m 11 3 [p, o, b.length, leNat b] ∧ s.fw.st ≠ 1) ∧
    (∃ (s : State) (m p o : Nat) (b : List Byte), p < 256 ∧ o < 2 ^ 32 ∧ b.length < 4096 ∧ MbxRuns s m 11 3 [p, o, b.length, leNat b] ∧ s.fw.st = 1 ∧ (1 < p ∨ o < smGet 0 s.fw.pos p)) ∧
    (∃ (s : State) (m p o : Nat) (b : List Byte) (a : Nat) (n : Nat), p < 256 ∧ o < 2 ^ 32 ∧ b.length < 4096 ∧ MbxRuns s m 11 3 [p, o, b.length, leNat b] ∧ s.fw.st = 1 ∧ p ≤ 1 ∧ smGet 0 s.fw.pos p ≤ o ∧ fwArea s 1 p = some (a, n) ∧ o + b.length ≤ n) ∧
    (∃ (s : State) (m p src addr o n : Nat) (ext : List Byte), p < 256 ∧ src < 256 ∧ addr < 2 ^ 64 ∧ o < 2 ^ 32 ∧ n < 2 ^ 32 ∧ MbxRuns s m 11 4 [p, src, addr, o, n] ∧ s.fw.st ≠ 1) ∧
    (∃ (s : State) (m p src addr o n : Nat) (ext : List Byte), p < 256 ∧ src < 256 ∧ addr < 2 ^ 64 ∧ o < 2 ^ 32 ∧ n < 2 ^ 32 ∧ MbxRuns s m 11 4 [p, src, addr, o, n] ∧ s.fw.st = 1 ∧ src ≠ 1 ∧ src ≠ 3) ∧
    (∃ (s : State) (m p src addr o n : Nat) (ext : List Byte) (a : Nat) (k : Nat), p < 256 ∧ src < 256 ∧ addr < 2 ^ 64 ∧ o < 2 ^ 32 ∧ n < 2 ^ 32 ∧ MbxRuns s m 11 4 [p, src, addr, o, n] ∧ s.fw.st = 1 ∧ src = 1 ∧ ext.length = n ∧ p ≤ 1 ∧ smGet 0 s.fw.pos p ≤ o ∧ fwArea s 1 p = some (a, k) ∧ o + n ≤ k) ∧
    (∃ (s : State) (m p : Nat), p < 2 ∧ MbxRuns s m 11 5 [p] ∧ s.fw.st ≠ 1) ∧
    (∃ (s : State) (m p : Nat) (a : Nat) (k : Nat) (b : Nat) (n : Nat), p < 2 ∧ MbxRuns s m 11 5 [p] ∧ s.fw.st = 1 ∧ smGet 0 s.fw.pos p = 0 ∧ fwArea s 0 p = some (a, k) ∧ fwArea s 1 p = some (b, n) ∧ k ≤ n) ∧
    (∃ (s : State) (m p n : Nat), p < 2 ∧ n < 2 ^ 32 ∧ MbxRuns s m 11 6 [p, n] ∧ s.fw.st ≠ 1) ∧
    (∃ (s : State) (m p n : Nat) (a : Nat) (k : Nat), p < 2 ∧ n < 2 ^ 32 ∧ MbxRuns s m 11 6 [p, n] ∧ s.fw.st = 1 ∧ fwArea s 1 p = some (a, k) ∧ n ≤ k ∧ ((if p = 0 then imageOk s (flashBytes s a n) else streamOk s (flashBytes s a n)) = true)) ∧
    (∃ (s : State) (m p n : Nat) (a : Nat) (k : Nat), p < 2 ∧ n < 2 ^ 32 ∧ MbxRuns s m 11 6 [p, n] ∧ s.fw.st = 1 ∧ fwArea s 1 p = some (a, k) ∧ n ≤ k ∧ ((if p = 0 then imageOk s (flashBytes s a n) else streamOk s (flashBytes s a n)) = false)) ∧
    (∃ (s : State) (m trial reset : Nat), trial < 2 ^ 32 ∧ reset < 2 ∧ MbxRuns s m 11 7 [trial, reset] ∧ bootSel s ≠ 0) ∧
    (∃ (s : State) (m trial reset : Nat), trial < 2 ^ 32 ∧ reset < 2 ∧ MbxRuns s m 11 7 [trial, reset] ∧ bootSel s = 0 ∧ (s.fw.st ≠ 2 ∨ s.fw.parts ≠ 3)) ∧
    (∃ (s : State) (m trial reset : Nat), trial < 2 ^ 32 ∧ reset < 2 ∧ MbxRuns s m 11 7 [trial, reset] ∧ bootSel s = 0 ∧ s.fw.st = 2 ∧ s.fw.parts = 3) ∧
    (∃ (s : State) (m up : Nat), up < 2 ∧ MbxRuns s m 11 8 [up] ∧ bootSel s ≠ 0) ∧
    (∃ (s : State) (m up : Nat), up < 2 ∧ MbxRuns s m 11 8 [up] ∧ bootSel s = 0 ∧ s.fw.st ≠ 4) ∧
    (∃ (s : State) (m up : Nat), up < 2 ∧ MbxRuns s m 11 8 [up] ∧ bootSel s = 0 ∧ s.fw.st = 4) ∧
    (∃ (s : State) (m : Nat), MbxRuns s m 11 9 [] ∧ bootSel s = 0 ∧ s.fw.st ≠ 0 ∧ s.fw.st ≠ 4) ∧
    (∃ (s : State) (m : Nat), MbxRuns s m 11 9 [] ∧ bootSel s = 0 ∧ (s.fw.st = 0 ∨ s.fw.st = 4) ∧ slotBOk s = false) ∧
    (∃ (s : State) (m : Nat), MbxRuns s m 11 9 [] ∧ bootSel s = 0 ∧ (s.fw.st = 0 ∨ s.fw.st = 4) ∧ slotBOk s = true) ∧
    (∃ (s : State), s.boot.fw = true ∧ bootSel s = 0 ∧ s.fw.st = 4 ∧ s.fw.trial ≠ 0 ∧ trialLeft s ≠ 0) ∧
    (∃ (s : State), s.boot.fw = true ∧ bootSel s = 0 ∧ s.fw.st = 4 ∧ s.fw.trial ≠ 0 ∧ trialLeft s = 0) ∧
    (∃ (s : State) (m n : Nat), n < 2 ^ 32 ∧ MbxRuns s m 11 10 [n] ∧ 2097152 < n) ∧
    (∃ (s : State) (m n : Nat), n < 2 ^ 32 ∧ MbxRuns s m 11 10 [n] ∧ n ≤ 2097152) ∧
    (∃ (s : State) (m o : Nat) (b : List Byte), o < 2 ^ 32 ∧ b.length < 4096 ∧ MbxRuns s m 11 11 [o, b.length, leNat b] ∧ s.boot.push = none) ∧
    (∃ (s : State) (m o : Nat) (b : List Byte) (n : Nat) (d : List Byte), o < 2 ^ 32 ∧ b.length < 4096 ∧ MbxRuns s m 11 11 [o, b.length, leNat b] ∧ s.boot.push = some (n, d) ∧ n < o + b.length) ∧
    (∃ (s : State) (m o : Nat) (b : List Byte) (n : Nat) (d : List Byte), o < 2 ^ 32 ∧ b.length < 4096 ∧ MbxRuns s m 11 11 [o, b.length, leNat b] ∧ s.boot.push = some (n, d) ∧ o + b.length ≤ n) ∧
    (∃ (s : State) (m : Nat), MbxRuns s m 11 12 [] ∧ s.boot.push = none) ∧
    (∃ (s : State) (m : Nat) (n : Nat) (d : List Byte), MbxRuns s m 11 12 [] ∧ s.boot.push = some (n, d) ∧ imageOk s (padTo n d) = false) ∧
    (∃ (s : State) (m : Nat) (n : Nat) (d : _), MbxRuns s m 11 12 [] ∧ s.boot.push = some (n, d) ∧ imageOk s (padTo n d) = true) := by
  refine ⟨⟨fwSt [] {}, 15, ⟨by decide +kernel, by decide +kernel, by decide +kernel, by decide +kernel, by decide +kernel, by decide +kernel⟩⟩,
    ⟨fwSt [] {}, 15, ⟨by decide +kernel, by decide +kernel, by decide +kernel, by decide +kernel, by decide +kernel, by decide +kernel⟩, by decide +kernel⟩,
    ⟨{ fwSt [] {} with fw := { st := 4 } }, 15, ⟨by decide +kernel, by decide +kernel, by decide +kernel, by decide +kernel, by decide +kernel, by decide +kernel⟩, by decide +kernel⟩,
    ⟨fwSt [] {}, 15, 1, 0, [1], by decide +kernel, by decide +kernel, by decide +kernel, ⟨by decide +kernel, by decide +kernel, by decide +kernel, by decide +kernel, by decide +kernel, by decide +kernel⟩, by decide +kernel⟩,
    ⟨{ fwSt [] {} with fw := { st := 1 } }, 15, 2, 0, [1], by decide +kernel, by decide +kernel, by decide +kernel, ⟨by decide +kernel, by decide +kernel, by decide +kernel, by decide +kernel, by decide +kernel, by decide +kernel⟩, by decide +kernel, by decide +kernel⟩,
    ⟨dirSt { st := 1 }, 15, 0, 8191, [1], 32768, 8192, by decide +kernel, by decide +kernel, by decide +kernel, ⟨by decide +kernel, by decide +kernel, by decide +kernel, by decide +kernel, by decide +kernel, by decide +kernel⟩, by decide +kernel, by decide +kernel, by decide +kernel, area_B rfl, by decide +kernel⟩,
    ⟨fwSt [] {}, 15, 1, 0, 0, 0, 0, [], by decide +kernel, by decide +kernel, by decide +kernel, by decide +kernel, by decide +kernel, ⟨by decide +kernel, by decide +kernel, by decide +kernel, by decide +kernel, by decide +kernel, by decide +kernel⟩, by decide +kernel⟩,
    ⟨{ fwSt [] {} with fw := { st := 1 } }, 15, 1, 2, 0, 0, 0, [], by decide +kernel, by decide +kernel, by decide +kernel, by decide +kernel, by decide +kernel, ⟨by decide +kernel, by decide +kernel, by decide +kernel, by decide +kernel, by decide +kernel, by decide +kernel⟩, by decide +kernel, by decide +kernel, by decide +kernel⟩,
    ⟨dirSt { st := 1 }, 15, 0, 1, 0, 8191, 1, [1], 32768, 8192, by decide +kernel, by decide +kernel, by decide +kernel, by decide +kernel, by decide +kernel, ⟨by decide +kernel, by decide +kernel, by decide +kernel, by decide +kernel, by decide +kernel, by decide +kernel⟩, by decide +kernel, by decide +kernel, by decide +kernel, by decide +kernel, by decide +kernel, area_B rfl, by decide +kernel⟩,
    ⟨fwSt [] {}, 15, 1, by decide +kernel, ⟨by decide +kernel, by decide +kernel, by decide +kernel, by decide +kernel, by decide +kernel, by decide +kernel⟩, by decide +kernel⟩,
    ⟨dirSt { st := 1 }, 15, 0, 16384, 8192, 32768, 8192, by decide +kernel, ⟨by decide +kernel, by decide +kernel, by decide +kernel, by decide +kernel, by decide +kernel, by decide +kernel⟩, by decide +kernel, by decide +kernel, area_A rfl, area_B rfl, by decide +kernel⟩,
    ⟨fwSt [] {}, 15, 1, 0, by decide +kernel, by decide +kernel, ⟨by decide +kernel, by decide +kernel, by decide +kernel, by decide +kernel, by decide +kernel, by decide +kernel⟩, by decide +kernel⟩,
    ⟨dirSt { st := 1 }, 15, 0, 256, 32768, 8192, by decide +kernel, by decide +kernel, ⟨by decide +kernel, by decide +kernel, by decide +kernel, by decide +kernel, by decide +kernel, by decide +kernel⟩, by decide +kernel, area_B rfl, by decide +kernel, (by rw [if_pos rfl, img_bytes rfl]; exact zimg_ok rfl)⟩,
    ⟨dirSt { st := 1 }, 15, 0, 0, 32768, 8192, by decide +kernel, by decide +kernel, ⟨by decide +kernel, by decide +kernel, by decide +kernel, by decide +kernel, by decide +kernel, by decide +kernel⟩, by decide +kernel, area_B rfl, by decide +kernel, by decide +kernel⟩,
    ⟨fwSt [(SYS_BOOT_STAT_BOOTSEL, 0, 1)] {}, 15, 0, 1, by decide +kernel, by decide +kernel, ⟨by decide +kernel, by decide +kernel, by decide +kernel, by decide +kernel, by decide +kernel, by decide +kernel⟩, by decide +kernel⟩,
    ⟨fwSt [] {}, 15, 2 ^ 32 - 1, 1, by decide +kernel, by decide +kernel, ⟨by decide +kernel, by decide +kernel, by decide +kernel, by decide +kernel, by decide +kernel, by decide +kernel⟩, by decide +kernel, by decide +kernel⟩,
    ⟨{ fwSt [] {} with fw := { st := 2, parts := 3 } }, 15, 2 ^ 32 - 1, 1, by decide +kernel, by decide +kernel, ⟨by decide +kernel, by decide +kernel, by decide +kernel, by decide +kernel, by decide +kernel, by decide +kernel⟩, by decide +kernel, by decide +kernel, by decide +kernel⟩,
    ⟨fwSt [(SYS_BOOT_STAT_BOOTSEL, 0, 1)] {}, 15, 1, by decide +kernel, ⟨by decide +kernel, by decide +kernel, by decide +kernel, by decide +kernel, by decide +kernel, by decide +kernel⟩, by decide +kernel⟩,
    ⟨fwSt [] {}, 15, 1, by decide +kernel, ⟨by decide +kernel, by decide +kernel, by decide +kernel, by decide +kernel, by decide +kernel, by decide +kernel⟩, by decide +kernel, by decide +kernel⟩,
    ⟨{ fwSt [] {} with fw := { st := 4 } }, 15, 1, by decide +kernel, ⟨by decide +kernel, by decide +kernel, by decide +kernel, by decide +kernel, by decide +kernel, by decide +kernel⟩, by decide +kernel, by decide +kernel⟩,
    ⟨{ fwSt [] {} with fw := { st := 2 } }, 15, ⟨by decide +kernel, by decide +kernel, by decide +kernel, by decide +kernel, by decide +kernel, by decide +kernel⟩, by decide +kernel, by decide +kernel, by decide +kernel⟩,
    ⟨{ fwSt [] {} with fw := { st := 4 } }, 15, ⟨by decide +kernel, by decide +kernel, by decide +kernel, by decide +kernel, by decide +kernel, by decide +kernel⟩, by decide +kernel, by decide +kernel, by decide +kernel⟩,
    ⟨dirSt {}, 15, ⟨by decide +kernel, by decide +kernel, by decide +kernel, by decide +kernel, by decide +kernel, by decide +kernel⟩, by decide +kernel, Or.inl (by decide +kernel), img_slotB rfl rfl⟩,
    ⟨trialSt 0, by decide +kernel, by decide +kernel, by decide +kernel, by decide +kernel, trial_runs⟩,
    ⟨trialSt 1500000000, by decide +kernel, by decide +kernel, by decide +kernel, by decide +kernel, trial_over⟩,
    ⟨{ fwSt [] {} with boot := { held := false, rom := true } }, 15, 2097153, by decide +kernel, ⟨by decide +kernel, by decide +kernel, by decide +kernel, by decide +kernel, by decide +kernel, by decide +kernel⟩, by decide +kernel⟩,
    ⟨{ fwSt [] {} with boot := { held := false, rom := true } }, 15, 2097152, by decide +kernel, ⟨by decide +kernel, by decide +kernel, by decide +kernel, by decide +kernel, by decide +kernel, by decide +kernel⟩, by decide +kernel⟩,
    ⟨{ fwSt [] {} with boot := { held := false, rom := true } }, 15, 0, [1], by decide +kernel, by decide +kernel, ⟨by decide +kernel, by decide +kernel, by decide +kernel, by decide +kernel, by decide +kernel, by decide +kernel⟩, by decide +kernel⟩,
    ⟨{ fwSt [] {} with boot := { held := false, rom := true, push := some (4, []) } }, 15, 4, [1], 4, [], by decide +kernel, by decide +kernel, ⟨by decide +kernel, by decide +kernel, by decide +kernel, by decide +kernel, by decide +kernel, by decide +kernel⟩, by decide +kernel, by decide +kernel⟩,
    ⟨{ fwSt [] {} with boot := { held := false, rom := true, push := some (4, []) } }, 15, 3, [1], 4, [], by decide +kernel, by decide +kernel, ⟨by decide +kernel, by decide +kernel, by decide +kernel, by decide +kernel, by decide +kernel, by decide +kernel⟩, by decide +kernel, by decide +kernel⟩,
    ⟨{ fwSt [] {} with boot := { held := false, rom := true } }, 15, ⟨by decide +kernel, by decide +kernel, by decide +kernel, by decide +kernel, by decide +kernel, by decide +kernel⟩, by decide +kernel⟩,
    ⟨{ fwSt [] {} with boot := { held := false, rom := true, push := some (4, []) } }, 15, 4, [], ⟨by decide +kernel, by decide +kernel, by decide +kernel, by decide +kernel, by decide +kernel, by decide +kernel⟩, by decide +kernel, by decide +kernel⟩,
    ⟨{ fwSt [] {} with otp := zotps, boot := { held := false, rom := true, push := some (256, zimg) } }, 15, 256, zimg, ⟨by decide +kernel, by decide +kernel, by decide +kernel, by decide +kernel, by decide +kernel, by decide +kernel⟩, rfl, (by rw [img_push]; exact zimg_ok rfl)⟩⟩

theorem planes_chi_length (a : List Word) (h : a.length = 25) : ((planes a).flatMap planeChi).length = 25 := by
  simp [planes, planeChi, planeTurn, h, List.range, List.range.loop]

theorem round_length (a : List Word) (rc : Word) : (permRound a rc).length = 25 := by
  simp only [permRound, List.length_modifyHead]
  exact planes_chi_length _ (by simp [laneMoves])

theorem keccak_length (a : List Word) : (keccakF a).length = 25 := by
  have h : ∀ (l : List Word) (x : List Word), x.length = 25 → (l.foldl permRound x).length = 25 := by
    intro l
    induction l with
    | nil => exact fun x h => h
    | cons c r ih => exact fun x _ => ih _ (round_length x c)
  have e : roundConsts 24 1 = roundConsts 1 1 ++ (roundConsts 24 1).drop 1 := by decide +kernel
  unfold keccakF
  rw [e, List.foldl_append]
  exact h _ _ (round_length _ _)

theorem absorb_length : ∀ (n : Nat) (m : List Byte) (a : List Word), a.length = 25 → (absorb n m a).length = 25
  | 0, _, _, h => h
  | n + 1, _, _, _ => absorb_length n _ _ (keccak_length _)

theorem sponge_length (x : Nat) (m : List Byte) : (sponge x m 32).length = 32 := by
  have e (l : List Word) : (l.flatMap (fun w => leBytes 8 w.toNat)).length = 8 * l.length := by
    induction l with
    | nil => rfl
    | cons w r ih => rw [List.flatMap_cons, List.length_append, ih, List.length_cons]; simp [leBytes]; omega
  unfold sponge
  simp only [show (32 + 135) / 136 = 1 from rfl, squeeze, List.append_nil, List.length_take, e]
  rw [absorb_length _ _ _ List.length_replicate]
  decide

theorem leNat_leBytes : ∀ (n v : Nat), leNat (leBytes n v) = v % 256 ^ n
  | 0, v => by simp [leBytes, leNat, Nat.mod_one]
  | n + 1, v => by
    rw [leBytes, leNat, leNat_leBytes n (v / 256), BitVec.toNat_ofNat, show 256 ^ (n + 1) = 256 * 256 ^ n from Nat.pow_succ', Nat.mod_mul]

/-- The window of a warrant (R392), signed with key 0 where it is signed. -/
def warW (order n ser : Nat) (args : List Byte) : List Byte :=
  leBytes 2 order ++ (leBytes 2 args.length ++ (leBytes 4 n ++ (leBytes 8 ser ++ (args ++ (if order = 3 then [] else zpk ++ zsig)))))

theorem war_serial (order n ser : Nat) (args : List Byte) : leAt (warW order n ser args) 8 8 = ser % 2 ^ 64 := by
  have h : ((warW order n ser args).drop 8).take 8 = leBytes 8 ser := rfl
  rw [leAt, h]
  exact leNat_leBytes 8 ser

theorem war_mine (order n : Nat) (args : List Byte) : leAt (warW order n Config.serial args) 8 8 = Config.serial := by
  rw [war_serial]
  exact Nat.mod_eq_of_lt Config.serialFuses.isLt

theorem war_other (order n : Nat) (args : List Byte) : leAt (warW order n (Config.serial + 1) args) 8 8 ≠ Config.serial := by
  have h := Config.serialFuses.isLt
  rw [war_serial, Config.serial]
  omega

theorem war_order (order n ser : Nat) (args : List Byte) : leAt (warW order n ser args) 0 2 = order % 65536 := by
  have h : ((warW order n ser args).drop 0).take 2 = leBytes 2 order := rfl
  rw [leAt, h]
  exact leNat_leBytes 2 order

theorem war_number (order n ser : Nat) (args : List Byte) : leAt (warW order n ser args) 4 4 = n % 2 ^ 32 := by
  have h : ((warW order n ser args).drop 4).take 4 = leBytes 4 n := rfl
  rw [leAt, h]
  exact leNat_leBytes 4 n

theorem war_length (order n ser : Nat) (args : List Byte) :
    (warW order n ser args).length = 16 + args.length + (if order = 3 then 0 else 171) := by
  have h : (zpk ++ zsig).length = 171 := by decide
  simp only [warW, List.length_append]
  split <;> simp [leBytes, h] <;> omega

theorem war_alen (order n ser : Nat) (args : List Byte) : leAt (warW order n ser args) 2 2 = args.length % 65536 := by
  have h : ((warW order n ser args).drop 2).take 2 = leBytes 2 args.length := rfl
  rw [leAt, h]
  exact leNat_leBytes 2 args.length

theorem war_args (order n ser : Nat) (args : List Byte) : (warW order n ser args).drop 16 = args ++ (if order = 3 then [] else zpk ++ zsig) := rfl

theorem war_layout {order n ser : Nat} {args : List Byte} (h1 : 1 ≤ order) (h2 : order ≤ 6) (h3 : args.length < 65536)
    (h4 : alenOk order args.length = true) : warLayout (warW order n ser args) = true := by
  have ho : order % 65536 = order := Nat.mod_eq_of_lt (by omega)
  have ha : args.length % 65536 = args.length := Nat.mod_eq_of_lt h3
  simp only [warLayout, war_order, war_alen, ho, ha, war_length, h4, decide_eq_true h1, decide_eq_true h2, Bool.and_true]
  simp only [Bool.and_eq_true, decide_eq_true_eq]
  exact ⟨by omega, trivial⟩

/-- Key 0 signs for the authority whose digest the Bureau holds. -/
theorem war_signed {s : State} {order n ser : Nat} {args : List Byte} (ha : s.otp.authority = zdig) (ho : order ≠ 3)
    (hl : args.length < 65536) : warSigned s (warW order n ser args) = true := by
  have hm : args.length % 65536 = args.length := Nat.mod_eq_of_lt hl
  have e : ∀ k, (warW order n ser args).drop (16 + args.length + k) = (zpk ++ zsig).drop k := by
    intro k
    rw [Nat.add_assoc, ← List.drop_drop, war_args, if_neg ho, ← List.drop_drop, List.drop_left]
  have e0 := e 0
  have e1 : (zpk ++ zsig).take 57 = zpk ∧ (zpk ++ zsig).drop 57 = zsig := by decide
  simp only [warSigned, war_alen, hm, e, Nat.add_zero, List.drop_zero, ha] at e0 ⊢
  rw [e0, e1.1, e1.2, show shake256 zpk 32 = zdig from zdigest, zverify]
  decide

/-- A state whose warrant window holds `w`; the seal is open. -/
def warSt (w : List Byte) (b : BurSt) : State :=
  { rg [(BUR_STAT_SEAL_OPEN, 0, 1)] with otp := { authority := zdig }, bur := { b with win := bytesAt 0 w ++ [] } }

theorem war_win (w : List Byte) (b : BurSt) {n : Nat} (h : n = w.length) : winBytes (warSt w b) n = w := by
  subst h
  have h := range_bytes 0 [] w 0
  simp only [Nat.zero_add] at h
  exact h

theorem war_ok {w : List Byte} {b : BurSt} {n : Nat} (hn : n = w.length) (h1 : warLayout w = true) (h2 : leAt w 8 8 = Config.serial)
    (h3 : leAt w 0 2 = 3 ∨ warSigned (warSt w b) w = true) (h4 : leAt w 4 4 = 1) (h5 : b.trail.length < 60000)
    (h6 : b.nextIdx < 60000) :
    warCheck (warSt w b) (winBytes (warSt w b) n) = 0 := by
  have e1 : fget (warSt w b) BUR_WARRANT_STAT_WNUM 0 = 0 := (rfl : _ = fget (warSt [] {}) BUR_WARRANT_STAT_WNUM 0).trans (by decide +kernel)
  have e2 : fgetB (warSt w b) BUR_STAT_SEAL_OPEN 0 = true := (rfl : _ = fgetB (warSt [] {}) BUR_STAT_SEAL_OPEN 0).trans (by decide +kernel)
  have e3 : audFull (warSt w b) = false := by
    have i1 : ¬ 65472 ≤ b.trail.length := by omega
    have i2 : ¬ 0xFFFFFF00 < b.nextIdx := by omega
    simp [audFull, audUsed, warSt, i1, i2]
  rw [war_win w b hn]
  rcases h3 with h3 | h3 <;> simp [warCheck, h1, h2, h3, h4, e1, e2, e3]

/-- The window's number of a field of a warrant. -/
theorem war_field {w v : List Byte} {i k x : Nat} (h : (w.drop i).take k = v) (hx : leNat v = x) : leAt w i k = x := by
  rw [leAt, h, hx]

/-- The arguments of the orders' witnesses. -/
def paramArgs : List Byte := leBytes 2 1 ++ leBytes 8 60
def beginArgs : List Byte := leBytes 4 9 ++ leBytes 4 2 ++ List.replicate 32 0
def dataArgs : List Byte := leBytes 4 0 ++ [7]

theorem wok {order : Nat} {args : List Byte} {b : BurSt} (h1 : 1 ≤ order) (h2 : order ≤ 6) (h4 : alenOk order args.length = true)
    (hl : args.length < 60000) (h5 : b.trail.length < 60000)
    (h6 : b.nextIdx < 60000) {n : Nat} (hn : n = (warW order 1 Config.serial args).length) :
    warCheck (warSt (warW order 1 Config.serial args) b) (winBytes (warSt (warW order 1 Config.serial args) b) n) = 0 := by
  refine war_ok hn (war_layout h1 h2 (by omega) h4) (war_mine ..) ?_ (war_number ..) h5 h6
  by_cases h : order = 3
  · subst h; exact Or.inl (war_order ..)
  · exact Or.inr (war_signed rfl h (by omega))

/-- The record that ARCHIVE names, with its MAC. -/
def audA : Aud := { aud0 with mac := audMac (List.replicate 32 0) aud0 }

theorem audA_mac : audA.mac.length = 32 := sponge_length ..

theorem archive_length : (leBytes 4 0 ++ audA.mac).length = 36 := by rw [List.length_append, audA_mac]; rfl

theorem war_unsigned {order n ser : Nat} {args : List Byte} (ho : order ≠ 3) (hl : args.length < 65536) :
    warSigned State.reset (warW order n ser args) = false := by
  have h := war_signed (s := { State.reset with otp := { authority := zdig } }) (n := n) (ser := ser) rfl ho hl
  simp only [warSigned, Bool.and_eq_true, decide_eq_true_eq] at h ⊢
  rw [h.1]
  rfl

theorem ww {order : Nat} {args : List Byte} {b : BurSt} {n : Nat} (hn : n = (warW order 1 Config.serial args).length) :
    winBytes (warSt (warW order 1 Config.serial args) b) n = warW order 1 Config.serial args := war_win _ _ hn

theorem witness_BureauCountsAndStatements :
    (∃ (s : State) (e : TapEvt) (r : List TapEvt), (∀ f ∈ s.qm.flows, flowOpen f.2 = true ∨ f.2.q = []) ∧ smGet [] s.bur.taps 0 = e :: r) ∧
    (∃ (s : State) (e : TapEvt) (r : List TapEvt), (∀ f ∈ s.qm.flows, flowOpen f.2 = true ∨ f.2.q = []) ∧ smGet [] s.bur.taps 1 = e :: r) ∧
    (∃ (s : State) (e : TapEvt) (r : List TapEvt), (∀ f ∈ s.qm.flows, flowOpen f.2 = true ∨ f.2.q = []) ∧ smGet [] s.bur.taps 2 = e :: r) ∧
    (∃ (s : State) (e : TapEvt) (r : List TapEvt) (tap : Nat), (∀ f ∈ s.qm.flows, flowOpen f.2 = true ∨ f.2.q = []) ∧ tap < 3 ∧ smGet [] s.bur.taps tap = []) ∧
    (∃ (s : State) (osc : Nat), let late := fget s BUR_CFG_STMT_S 0 * fget s BUR_CFG_ACLK_KHZ 0 * 1000 ≤ (s.time.tick - s.bur.edge) * s.bur.lastLen; s.bur.lastTick ≤ s.time.tick ∧ tickLen s = s.bur.lastLen ∧ ¬ late ∧ (s.bur.due = [] ∨ (s.bur.due = [2] ∧ s.time.tick ≤ s.bur.restartAt))) ∧
    (∃ (s : State) (osc : Nat) (r : Nat), let late := fget s BUR_CFG_STMT_S 0 * fget s BUR_CFG_ACLK_KHZ 0 * 1000 ≤ (s.time.tick - s.bur.edge) * s.bur.lastLen; s.bur.lastTick ≤ s.time.tick ∧ tickLen s = s.bur.lastLen ∧ ((late ∧ s.bur.due = [] ∧ r = 0) ∨ (¬ late ∧ s.bur.due = [r] ∧ (r = 2 → s.bur.restartAt < s.time.tick)))) ∧
    (∃ (s : State) (osc : Nat), s.bur.lastTick ≤ s.time.tick ∧ tickLen s ≠ s.bur.lastLen ∧ s.bur.due = [] ∧ (s.time.tick - s.bur.edge) * s.bur.lastLen < fget s BUR_CFG_STMT_S 0 * fget s BUR_CFG_ACLK_KHZ 0 * 1000) ∧
    (∃ (s : State) (osc : Nat), s.time.tick < s.bur.lastTick ∧ tickLen s = s.bur.lastLen ∧ s.bur.due = [] ∧ s.bur.trail.length < 65536 ∧ s.bur.nextIdx < 2 ^ 32 ∧ 0 < fget s BUR_CFG_STMT_S 0 * fget s BUR_CFG_ACLK_KHZ 0) ∧
    (∃ (s : State), s.bur.issuing = []) ∧
    (∃ (s : State) (x : Stmt) (r : List Stmt), s.bur.issuing = x :: r) := by
  refine ⟨⟨{ State.reset with bur := { taps := [(0, [⟨4095, 9600, 0⟩])] } }, ⟨4095, 9600, 0⟩, [], by decide +kernel, by decide +kernel⟩,
    ⟨{ State.reset with bur := { taps := [(1, [⟨4095, 9600, 0⟩])] } }, ⟨4095, 9600, 0⟩, [], by decide +kernel, by decide +kernel⟩,
    ⟨{ State.reset with bur := { taps := [(2, [⟨4095, 9600, 0⟩])] } }, ⟨4095, 9600, 0⟩, [], by decide +kernel, by decide +kernel⟩,
    ⟨State.reset, ⟨0, 0, 0⟩, [], 2, by decide +kernel, by decide +kernel, by decide +kernel⟩,
    ⟨State.reset, 0, by decide +kernel, by decide +kernel, by decide +kernel, by decide +kernel⟩,
    ⟨{ State.reset with time := { State.reset.time with tick := 10 ^ 14 } }, 0, 0, by decide +kernel, by decide +kernel, by decide +kernel⟩,
    ⟨{ State.reset with bur := { lastLen := 3000 } }, 0, by decide +kernel, by decide +kernel, by decide +kernel, by decide +kernel⟩,
    ⟨{ State.reset with bur := { lastTick := 1 } }, 0, by decide +kernel, by decide +kernel, by decide +kernel, by decide +kernel, by decide +kernel, by decide +kernel⟩,
    ⟨State.reset, by decide +kernel⟩,
    ⟨{ State.reset with bur := { issuing := [stmt7] } }, stmt7, [], by decide +kernel⟩⟩

theorem witness_BureauTrailAndWarrants :
    (∃ (s : State) (o : Bool), fgetB s BUR_STAT_SEAL_OPEN 0 = o) ∧
    (∃ (s : State) (o : Bool), fgetB s BUR_STAT_SEAL_OPEN 0 ≠ o) ∧
    (∃ (s : State) (len k : Nat) (c : Instr), (c, k) ∈ [(.warrantParam len, 1), (.warrantTratyBegin len, 2), (.warrantTratyData len, 3), (.warrantClearTamper len, 4), (.warrantArchive len, 5), (.warrantStatementNow len, 6)] ∧ leAt (winBytes s (len % 4096)) 0 2 = k ∧ fgetB s BUR_WARRANT_STAT_BUSY 0 = true) ∧
    (∃ (s : State) (len k : Nat) (c : Instr) (r : Nat), (c, k) ∈ [(.warrantParam len, 1), (.warrantTratyBegin len, 2), (.warrantTratyData len, 3), (.warrantClearTamper len, 4), (.warrantArchive len, 5), (.warrantStatementNow len, 6)] ∧ leAt (winBytes s (len % 4096)) 0 2 = k ∧ fgetB s BUR_WARRANT_STAT_BUSY 0 = false ∧ warCheck s (winBytes s (len % 4096)) = r ∧ r ≠ 0) ∧
    (∃ (s : State) (w : List Byte), warLayout w = false) ∧
    (∃ (s : State) (w : List Byte), warLayout w = true ∧ leAt w 8 8 ≠ Config.serial) ∧
    (∃ (s : State) (w : List Byte), warLayout w = true ∧ leAt w 8 8 = Config.serial ∧ leAt w 0 2 ≠ 3 ∧ warSigned s w = false) ∧
    (∃ (s : State) (w : List Byte), warLayout w = true ∧ leAt w 8 8 = Config.serial ∧ (leAt w 0 2 = 3 ∨ warSigned s w = true) ∧ leAt w 4 4 ≤ fget s BUR_WARRANT_STAT_WNUM 0) ∧
    (∃ (s : State) (w : List Byte), warLayout w = true ∧ leAt w 8 8 = Config.serial ∧ (leAt w 0 2 = 3 ∨ warSigned s w = true) ∧ fget s BUR_WARRANT_STAT_WNUM 0 < leAt w 4 4 ∧ leAt w 0 2 ≤ 4 ∧ fget s BUR_STAT_SEAL_OPEN 0 = 0) ∧
    (∃ (s : State) (w : List Byte), warLayout w = true ∧ leAt w 8 8 = Config.serial ∧ (leAt w 0 2 = 3 ∨ warSigned s w = true) ∧ fget s BUR_WARRANT_STAT_WNUM 0 < leAt w 4 4 ∧ leAt w 0 2 ≤ 4 ∧ fget s BUR_STAT_SEAL_OPEN 0 ≠ 0 ∧ audFull s = true) ∧
    (∃ (s : State) (w : List Byte), warLayout w = true ∧ leAt w 8 8 = Config.serial ∧ (leAt w 0 2 = 3 ∨ warSigned s w = true) ∧ fget s BUR_WARRANT_STAT_WNUM 0 < leAt w 4 4 ∧ (5 ≤ leAt w 0 2 ∨ (fget s BUR_STAT_SEAL_OPEN 0 ≠ 0 ∧ audFull s = false))) ∧
    (∃ (s : State) (len : Nat), let w := winBytes s (len % 4096); let n := leAt w 4 4; fgetB s BUR_WARRANT_STAT_BUSY 0 = false ∧ warCheck s (winBytes s (len % 4096)) = 0 ∧ leAt w 0 2 = 1 ∧ paramOk (leAt w 16 2) (leAt w 18 8) = true ∧ s.bur.trail.length < 65471 ∧ s.bur.nextIdx < 0xFFFFFF00) ∧
    (∃ (s : State) (len : Nat), let w := winBytes s (len % 4096); let n := leAt w 4 4; fgetB s BUR_WARRANT_STAT_BUSY 0 = false ∧ warCheck s (winBytes s (len % 4096)) = 0 ∧ leAt w 0 2 = 2) ∧
    (∃ (s : State) (len : Nat) (d : TrDl) (x : List Byte), let w := winBytes s (len % 4096); let n := leAt w 4 4; fgetB s BUR_WARRANT_STAT_BUSY 0 = false ∧ warCheck s (winBytes s (len % 4096)) = 0 ∧ leAt w 0 2 = 3 ∧ x = (w.take (16 + leAt w 2 2)).drop 20 ∧ s.bur.dl = some d ∧ leAt w 16 4 = d.data.length ∧ d.data.length + x.length < d.size) ∧
    (∃ (s : State) (len : Nat) (d : TrDl) (x : List Byte), let w := winBytes s (len % 4096); let n := leAt w 4 4; fgetB s BUR_WARRANT_STAT_BUSY 0 = false ∧ warCheck s (winBytes s (len % 4096)) = 0 ∧ leAt w 0 2 = 3 ∧ x = (w.take (16 + leAt w 2 2)).drop 20 ∧ s.bur.dl = some d ∧ leAt w 16 4 = d.data.length ∧ d.data.length + x.length = d.size) ∧
    (∃ (s : State) (len : Nat), let w := winBytes s (len % 4096); let n := leAt w 4 4; fgetB s BUR_WARRANT_STAT_BUSY 0 = false ∧ warCheck s (winBytes s (len % 4096)) = 0 ∧ leAt w 0 2 = 4 ∧ s.bur.trail.length < 65471 ∧ s.bur.nextIdx < 0xFFFFFF00) ∧
    (∃ (s : State) (len : Nat) (old keep : List Aud) (a : Aud), let w := winBytes s (len % 4096); let n := leAt w 4 4; fgetB s BUR_WARRANT_STAT_BUSY 0 = false ∧ warCheck s (winBytes s (len % 4096)) = 0 ∧ leAt w 0 2 = 5 ∧ s.bur.trail = old ++ [a] ++ keep ∧ (∀ x ∈ old, x.idx ≤ leAt w 16 4) ∧ (∀ x ∈ keep, leAt w 16 4 < x.idx) ∧ a.idx = leAt w 16 4 ∧ leAt w 16 4 < s.bur.nextIdx ∧ (a.mac ≠ (w.drop 20).take 32 ∨ chainOk s.bur.baseMac (old ++ [a]) = false)) ∧
    (∃ (s : State) (len : Nat) (old keep : List Aud) (a : Aud), let w := winBytes s (len % 4096); let n := leAt w 4 4; fgetB s BUR_WARRANT_STAT_BUSY 0 = false ∧ warCheck s (winBytes s (len % 4096)) = 0 ∧ leAt w 0 2 = 5 ∧ s.bur.trail = old ++ [a] ++ keep ∧ (∀ x ∈ old, x.idx ≤ leAt w 16 4) ∧ (∀ x ∈ keep, leAt w 16 4 < x.idx) ∧ a.idx = leAt w 16 4 ∧ leAt w 16 4 < s.bur.nextIdx ∧ a.mac = (w.drop 20).take 32 ∧ chainOk s.bur.baseMac (old ++ [a]) = true ∧ s.bur.trail.length < 65536 ∧ keep.length < 65471 ∧ s.bur.nextIdx < 0xFFFFFF00) ∧
    (∃ (s : State) (len : Nat), let w := winBytes s (len % 4096); let n := leAt w 4 4; fgetB s BUR_WARRANT_STAT_BUSY 0 = false ∧ warCheck s (winBytes s (len % 4096)) = 0 ∧ leAt w 0 2 = 6) := by
  refine ⟨⟨State.reset, false, by decide +kernel⟩,
    ⟨State.reset, true, by decide +kernel⟩,
    ⟨{ rg [(BUR_WARRANT_STAT_BUSY, 0, 1)] with bur := { win := [(0, 1)] } }, 2, 1, .warrantParam 2, (by simp), by decide +kernel, by decide +kernel⟩,
    ⟨{ State.reset with bur := { win := [(0, 1)] } }, 2, 1, .warrantParam 2, 1, (by simp), by decide +kernel, by decide +kernel, by decide +kernel, by decide⟩,
    ⟨State.reset, [], by decide +kernel⟩,
    ⟨State.reset, warW 6 1 (Config.serial + 1) [], war_layout (by decide) (by decide) (by decide) (by decide), war_other _ _ _⟩,
    ⟨State.reset, warW 6 1 Config.serial [], war_layout (by decide) (by decide) (by decide) (by decide), war_mine .., (by rw [war_order]; decide), war_unsigned (by decide) (by decide)⟩,
    ⟨rg [(BUR_WARRANT_STAT_WNUM, 0, 1)], warW 3 1 Config.serial [0, 0, 0, 0], war_layout (by decide) (by decide) (by decide) (by decide), war_mine .., Or.inl (war_order ..), (by rw [war_number]; decide +kernel)⟩,
    ⟨State.reset, warW 3 1 Config.serial [0, 0, 0, 0], war_layout (by decide) (by decide) (by decide) (by decide), war_mine .., Or.inl (war_order ..), (by rw [war_number]; decide +kernel), (by rw [war_order]; decide), by decide +kernel⟩,
    ⟨{ rg [(BUR_STAT_SEAL_OPEN, 0, 1)] with bur := { trail := List.replicate 65472 aud0 } }, warW 3 1 Config.serial [0, 0, 0, 0], war_layout (by decide) (by decide) (by decide) (by decide), war_mine .., Or.inl (war_order ..), (by rw [war_number]; decide +kernel), (by rw [war_order]; decide), by decide +kernel, (by show (decide (65472 ≤ (List.replicate 65472 aud0).length) || _) = true; rw [List.length_replicate]; rfl)⟩,
    ⟨warSt (warW 6 1 Config.serial []) {}, warW 6 1 Config.serial [], war_layout (by decide) (by decide) (by decide) (by decide), war_mine .., Or.inr (war_signed rfl (by decide) (by decide)), (by rw [war_number]; decide +kernel), Or.inl (by rw [war_order]; decide)⟩,
    ⟨warSt (warW 1 1 Config.serial paramArgs) {}, 197, by decide +kernel, wok (by decide) (by decide) (by decide +kernel) (by decide +kernel) (by decide) (by decide) (by rw [war_length]; decide +kernel), (by rw [ww (by rw [war_length]; decide +kernel)]; exact war_order ..), (by rw [ww (by rw [war_length]; decide +kernel)]; decide +kernel), by decide +kernel, by decide +kernel⟩,
    ⟨warSt (warW 2 1 Config.serial beginArgs) {}, 227, by decide +kernel, wok (by decide) (by decide) (by decide +kernel) (by decide +kernel) (by decide) (by decide) (by rw [war_length]; decide +kernel), (by rw [ww (by rw [war_length]; decide +kernel)]; exact war_order ..)⟩,
    ⟨warSt (warW 3 1 Config.serial dataArgs) { dl := some ⟨9, 2, [], []⟩ }, 21, ⟨9, 2, [], []⟩, [7], by decide +kernel, wok (by decide) (by decide) (by decide +kernel) (by decide +kernel) (by decide) (by decide) (by rw [war_length]; decide +kernel), (by rw [ww (by rw [war_length]; decide +kernel)]; exact war_order ..), (by rw [ww (by rw [war_length]; decide +kernel)]; decide +kernel), rfl, (by rw [ww (by rw [war_length]; decide +kernel)]; decide +kernel), by decide⟩,
    ⟨warSt (warW 3 1 Config.serial dataArgs) { dl := some ⟨9, 1, [], []⟩ }, 21, ⟨9, 1, [], []⟩, [7], by decide +kernel, wok (by decide) (by decide) (by decide +kernel) (by decide +kernel) (by decide) (by decide) (by rw [war_length]; decide +kernel), (by rw [ww (by rw [war_length]; decide +kernel)]; exact war_order ..), (by rw [ww (by rw [war_length]; decide +kernel)]; decide +kernel), rfl, (by rw [ww (by rw [war_length]; decide +kernel)]; decide +kernel), by decide⟩,
    ⟨warSt (warW 4 1 Config.serial []) {}, 187, by decide +kernel, wok (by decide) (by decide) (by decide +kernel) (by decide +kernel) (by decide) (by decide) (by rw [war_length]; decide +kernel), (by rw [ww (by rw [war_length]; decide +kernel)]; exact war_order ..), by decide +kernel, by decide +kernel⟩,
    ⟨warSt (warW 5 1 Config.serial (leBytes 4 0 ++ List.replicate 32 0)) { trail := [aud0], nextIdx := 1 }, 223, [], [], aud0, by decide +kernel, wok (by decide) (by decide) (by decide +kernel) (by decide +kernel) (by decide) (by decide) (by rw [war_length]; decide +kernel), (by rw [ww (by rw [war_length]; decide +kernel)]; exact war_order ..), rfl, by simp, by simp, (by rw [ww (by rw [war_length]; decide +kernel)]; decide +kernel), (by rw [ww (by rw [war_length]; decide +kernel)]; decide +kernel), Or.inl (by rw [ww (by rw [war_length]; decide +kernel)]; decide +kernel)⟩,
    ⟨warSt (warW 5 1 Config.serial (leBytes 4 0 ++ audA.mac)) { trail := [audA], nextIdx := 1 }, 223, [], [], audA, by decide +kernel, wok (by decide) (by decide) (by rw [archive_length]; decide) (by rw [archive_length]; decide) (by decide) (by decide) (by rw [war_length, archive_length]; rfl), (by rw [ww (by rw [war_length, archive_length]; rfl)]; exact war_order ..), rfl, by simp, by simp, (by rw [ww (by rw [war_length, archive_length]; rfl)]; exact (war_field (v := leBytes 4 0) (x := 0) rfl rfl).symm), (by rw [ww (by rw [war_length, archive_length]; rfl)]; exact Nat.lt_of_le_of_lt (Nat.le_of_eq (war_field (v := leBytes 4 0) (x := 0) rfl rfl)) (by decide)), (by rw [ww (by rw [war_length, archive_length]; rfl)]; exact (List.take_left' audA_mac).symm), (by simp [chainOk, audA, warSt, aud0]), by decide, by decide, by decide +kernel⟩,
    ⟨warSt (warW 6 1 Config.serial []) {}, 187, by decide +kernel, wok (by decide) (by decide) (by decide +kernel) (by decide +kernel) (by decide) (by decide) (by rw [war_length]; decide +kernel), (by rw [ww (by rw [war_length]; decide +kernel)]; exact war_order ..)⟩⟩

/-- One event on the error lines. -/
def fltSt (l : List (Fld × Nat × Nat)) (e : FaultEvt) : State := { rg l with flt := { raised := [e] } }

theorem witness_FaultCycles :
    (∃ (s : State), s.flt.raised = [] ∧ fgetB s FLT_INJ_ACTIVE 60 = false) ∧
    (∃ (s : State), s.flt.raised = [] ∧ fgetB s FLT_INJ_ACTIVE 60 = true ∧ fget s FLT_INJ_CHECKER 60 = 2) ∧
    (∃ (s : State) (e : FaultEvt) (r : List FaultEvt), s.flt.raised = e :: r ∧ e.src < 64 ∧ (∀ x ∈ r, x.tick ≠ e.tick ∨ x.ofs ≠ e.ofs) ∧ e.cls = 0 ∧ fget s FLT_SRC_PEND_C e.src = 0) ∧
    (∃ (s : State) (e : FaultEvt) (r : List FaultEvt), s.flt.raised = e :: r ∧ e.src < 64 ∧ (∀ x ∈ r, x.tick ≠ e.tick ∨ x.ofs ≠ e.ofs) ∧ e.cls = 1 ∧ e.src ≠ 63 ∧ fget s FLT_SRC_PEND_U e.src = 0) ∧
    (∃ (s : State) (e : FaultEvt) (r : List FaultEvt), s.flt.raised = e :: r ∧ e.src < 64 ∧ (∀ x ∈ r, x.tick ≠ e.tick ∨ x.ofs ≠ e.ofs) ∧ ((e.cls = 2 ∧ fget s FLT_SRC_PEND_F e.src = 0) ∨ (e.cls = 1 ∧ fget s FLT_SRC_PEND_U e.src = 1)) ∧ fget s FLT_STATE_STATE 0 = 0) ∧
    (∃ (s : State) (e : FaultEvt) (r : List FaultEvt), s.flt.raised = e :: r ∧ e.src < 64 ∧ (∀ x ∈ r, x.tick ≠ e.tick ∨ x.ofs ≠ e.ofs) ∧ (e.cls = 3 ∨ (e.cls = 2 ∧ fget s FLT_SRC_PEND_F e.src = 1))) ∧
    (∃ (s : State) (e : FaultEvt) (r : List FaultEvt), s.flt.raised = e :: r ∧ e.src < 64 ∧ (∀ x ∈ r, x.tick ≠ e.tick ∨ x.ofs ≠ e.ofs) ∧ e.cls = 0 ∧ fget s FLT_SRC_PEND_C e.src = 1 ∧ e.ukind = 0 ∧ e.uid < 96 ∧ physOf s e.uid < 100 ∧ (cabState s (physOf s e.uid) = stRUNNING ∨ cabState s (physOf s e.uid) = stHELD)) ∧
    (∃ (s : State) (src v : Nat), src < 64 ∧ v < 2 ^ 64) ∧
    (∃ (s : State) (v : Nat), v < 65536 ∧ (v + 65536 - fget s FLT_REC_IDX_CI 0) % 65536 ≤ recUsed s) ∧
    (∃ (s : State) (v : Nat), v < 65536 ∧ recUsed s < (v + 65536 - fget s FLT_REC_IDX_CI 0) % 65536) ∧
    (∃ (s : State), fget s FLT_STATE_STATE 0 ≠ 0) ∧
    (∃ (s : State) (f : _) (src : Nat), f ∈ [FLT_SRC_PEND_U, FLT_SRC_PEND_F, FLT_SRC_PEND_HALT] ∧ src < 64 ∧ fget s f src ≠ 0) ∧
    (∃ (s : State) (f : _) (k id : Nat), f ∈ [FLT_UNIT_FAULTED, FLT_UNIT_LATCHED] ∧ unitOk k id = true ∧ fget s f (unitIx k id) ≠ 0) ∧
    (∃ (s : State), (∀ f ∈ [FLT_SRC_PEND_U, FLT_SRC_PEND_F, FLT_SRC_PEND_HALT, FLT_UNIT_FAULTED, FLT_UNIT_LATCHED], setInstances s f = []) ∧ fget s FLT_STATE_STATE 0 = 0) := by
  refine ⟨⟨State.reset, by decide +kernel, by decide +kernel⟩,
    ⟨rg [(FLT_INJ_ACTIVE, 60, 1), (FLT_INJ_CHECKER, 60, 2)], by decide +kernel, by decide +kernel, by decide +kernel⟩,
    ⟨fltSt [] { src := 63, cls := 0 }, { src := 63, cls := 0 }, [], by decide +kernel, by decide +kernel, by decide +kernel, by decide +kernel, by decide +kernel⟩,
    ⟨fltSt [] { src := 62, cls := 1 }, { src := 62, cls := 1 }, [], by decide +kernel, by decide +kernel, by decide +kernel, by decide +kernel, by decide +kernel, by decide +kernel⟩,
    ⟨fltSt [] { src := 63, cls := 2 }, { src := 63, cls := 2 }, [], by decide +kernel, by decide +kernel, by decide +kernel, by decide +kernel, by decide +kernel⟩,
    ⟨fltSt [] { src := 63, cls := 3 }, { src := 63, cls := 3 }, [], by decide +kernel, by decide +kernel, by decide +kernel, by decide +kernel⟩,
    ⟨fltSt [(FLT_SRC_PEND_C, 0, 1), (CAB_STATE_STATE, 99, stRUNNING)] { src := 0, cls := 0, ukind := 0, uid := 95 }, { src := 0, cls := 0, ukind := 0, uid := 95 }, [], by decide +kernel, by decide +kernel, by decide +kernel, by decide +kernel, by decide +kernel, by decide +kernel, by decide +kernel, by decide +kernel, by decide +kernel⟩,
    ⟨State.reset, 63, 2 ^ 64 - 1, by decide +kernel, by decide +kernel⟩,
    ⟨rg [(FLT_REC_IDX_PI, 0, 3), (FLT_REC_IDX_CI, 0, 65535)], 3, by decide +kernel, by decide +kernel⟩,
    ⟨rg [(FLT_REC_IDX_PI, 0, 3), (FLT_REC_IDX_CI, 0, 65535)], 4, by decide +kernel, by decide +kernel⟩,
    ⟨rg [(FLT_STATE_STATE, 0, 2)], by decide +kernel⟩,
    ⟨rg [(FLT_SRC_PEND_HALT, 63, 1)], FLT_SRC_PEND_HALT, 63, by decide +kernel, by decide +kernel, by decide +kernel⟩,
    ⟨rg [(FLT_UNIT_LATCHED, unitIx 8 4095, 1)], FLT_UNIT_LATCHED, 8, 4095, by decide +kernel, by decide +kernel, by decide +kernel⟩,
    ⟨State.reset, by decide +kernel, by decide +kernel⟩⟩

theorem witness_FaultRecovery :
    (∃ (s : State), faultedUnits s = [] ∧ fget s FLT_STATE_STATE 0 = 0) ∧
    (∃ (s : State) (k id : Nat), k ≠ 10 ∧ unitOk k id = true ∧ faultedUnits s = [unitIx k id] ∧ fget s FLT_STATE_STATE 0 = 0 ∧ smGet 0 s.flt.inv (unitIx k id) ≠ 0 ∧ srcQuiet s (smGet 0 s.flt.inv (unitIx k id) - 1) = false) ∧
    (∃ (s : State) (k id : Nat), k ≠ 10 ∧ unitOk k id = true ∧ faultedUnits s = [unitIx k id] ∧ fget s FLT_STATE_STATE 0 = 0 ∧ (smGet 0 s.flt.inv (unitIx k id) = 0 ∨ srcQuiet s (smGet 0 s.flt.inv (unitIx k id) - 1) = true) ∧ 8 ≤ (recent s (unitIx k id)).length) ∧
    (∃ (s : State) (k id : Nat), k ≠ 10 ∧ unitOk k id = true ∧ faultedUnits s = [unitIx k id] ∧ fget s FLT_STATE_STATE 0 = 0 ∧ (smGet 0 s.flt.inv (unitIx k id) = 0 ∨ srcQuiet s (smGet 0 s.flt.inv (unitIx k id) - 1) = true) ∧ (recent s (unitIx k id)).length < 8) ∧
    (∃ (s : State) (x : Nat), faultedUnits s = [] ∧ fget s FLT_STATE_STATE 0 = 1 ∧ fget s FLT_STATE_LATCHED 0 = 0 ∧ x ∈ s.flt.safeSrc ∧ srcQuiet s x = false) ∧
    (∃ (s : State), faultedUnits s = [] ∧ fget s FLT_STATE_STATE 0 = 1 ∧ fget s FLT_STATE_LATCHED 0 = 0 ∧ (∀ x ∈ s.flt.safeSrc, srcQuiet s x = true) ∧ 8 ≤ (recent s (unitIx 10 0)).length) ∧
    (∃ (s : State), faultedUnits s = [] ∧ fget s FLT_STATE_STATE 0 = 1 ∧ fget s FLT_STATE_LATCHED 0 = 0 ∧ (∀ x ∈ s.flt.safeSrc, srcQuiet s x = true) ∧ (recent s (unitIx 10 0)).length < 8) ∧
    (∃ (s : State) (src chk n : Nat) (cont dbl : Bool), src < 64 ∧ chk < 128 ∧ n < 256 ∧ checkerOk src chk = true ∧ (n ≠ 0 ∨ cont = true)) ∧
    (∃ (s : State) (src chk n : Nat) (cont dbl : Bool), src < 64 ∧ chk < 128 ∧ n < 256 ∧ (checkerOk src chk = false ∨ (n = 0 ∧ cont = false))) ∧
    (∃ (s : State) (k v : Nat), k < 4 ∧ v < 2 ^ 64) := by
  refine ⟨⟨State.reset, by decide +kernel, by decide +kernel⟩,
    ⟨{ rg [(FLT_UNIT_FAULTED, unitIx 0 95, 1)] with flt := { inv := [(unitIx 0 95, 64)], last := [(63, 1)] } }, 0, 95, by decide +kernel, by decide +kernel, by decide +kernel, by decide +kernel, by decide +kernel, by decide +kernel⟩,
    ⟨{ rg [(FLT_UNIT_FAULTED, unitIx 0 95, 1)] with flt := { recs := [(unitIx 0 95, List.replicate 8 0)] } }, 0, 95, by decide +kernel, by decide +kernel, by decide +kernel, by decide +kernel, by decide +kernel, by decide +kernel⟩,
    ⟨rg [(FLT_UNIT_FAULTED, unitIx 0 95, 1)], 0, 95, by decide +kernel, by decide +kernel, by decide +kernel, by decide +kernel, by decide +kernel, by decide +kernel⟩,
    ⟨{ rg [(FLT_STATE_STATE, 0, 1)] with flt := { safeSrc := [63], last := [(63, 1)] } }, 63, by decide +kernel, by decide +kernel, by decide +kernel, by decide +kernel, by decide +kernel⟩,
    ⟨{ rg [(FLT_STATE_STATE, 0, 1)] with flt := { recs := [(unitIx 10 0, List.replicate 8 0)] } }, by decide +kernel, by decide +kernel, by decide +kernel, by decide +kernel, by decide +kernel⟩,
    ⟨rg [(FLT_STATE_STATE, 0, 1)], by decide +kernel, by decide +kernel, by decide +kernel, by decide +kernel, by decide +kernel⟩,
    ⟨State.reset, 63, 2, 0, true, true, by decide +kernel, by decide +kernel, by decide +kernel, by decide +kernel, by decide +kernel⟩,
    ⟨State.reset, 63, 3, 255, true, true, by decide +kernel, by decide +kernel, by decide +kernel, by decide +kernel⟩,
    ⟨State.reset, 3, 2 ^ 64 - 1, by decide +kernel, by decide +kernel⟩⟩

/-- The gap column of cabinet 99 is at 0, its content `x`. -/
def gapSt (l : List (Fld × Nat × Nat)) (x : Cab) : State :=
  { rg ((BST_CFG_GAP_EN, 0, 1) :: (CAB_GAP_POS, 99, 0) :: l) with array := { State.reset.array with cabs := [(99, x)] }, time := { State.reset.time with edges := 2 ^ 40 } }

theorem ram_clean {s : State} (h : s.array.cells = []) (k a : Nat) : ∃ d, eccJudge (ramCode (cell s k) a) = .clean d :=
  ⟨0, by rw [show ramCode (cell s k) a = 0 from by simp [ramCode, cell, h, smGet]]; decide⟩

/-- Unit `u` runs a slice in cabinet 99's gap column. -/
def bistSt (u done : Nat) : State :=
  { gapSt [(CAB_STATE_STATE, 99, stHELD)] { gapPh := 4 } with bst := { units := [(u, { run := true, done := done })] } }

theorem beats (n : Nat) : 4096 * n ≤ (4096 * n - 0) * 1000000 := by omega

theorem witness_Scrubbing :
    (∃ (s : State), fget s SCR_STAT_STOPPED 0 = 0 ∧ s.scr.walking = false ∧ s.time.pllA.testBit 2 = true ∧ s.scr.next ≤ nowUs s) ∧
    (∃ (s : State), (fget s SCR_STAT_STOPPED 0 ≠ 0 ∨ s.scr.walking = true ∨ s.time.pllA.testBit 2 = false ∨ nowUs s < s.scr.next)) ∧
    (∃ (s : State) (err : Code), (s.scr.walking = false ∨ fget s SCR_STAT_STOPPED 0 ≠ 0)) ∧
    (∃ (s : State) (err : Code), s.scr.walking = true ∧ fget s SCR_STAT_STOPPED 0 = 0 ∧ s.scr.p < 100 ∧ s.scr.w < 7752 ∧ fget s FLT_INJ_ACTIVE (cabSrc s.scr.p) = 0 ∧ cabState s s.scr.p ≠ stOFF ∧ cabState s s.scr.p ≠ stLOADING ∧ s.scr.w = 0 ∧ s.scr.copy ≠ fget s SCR_CFG_CYCLE_US 0) ∧
    (∃ (s : State) (err : Code), s.scr.walking = true ∧ fget s SCR_STAT_STOPPED 0 = 0 ∧ s.scr.p < 100 ∧ s.scr.w < 7752 ∧ fget s FLT_INJ_ACTIVE (cabSrc s.scr.p) = 0 ∧ cabState s s.scr.p ≠ stOFF ∧ cabState s s.scr.p ≠ stLOADING ∧ (s.scr.w ≠ 0 ∨ s.scr.copy = fget s SCR_CFG_CYCLE_US 0)) ∧
    (∃ (s : State) (err : Code), (s.scr.queue = [] ∨ fget s SCR_STAT_STOPPED 0 ≠ 0)) ∧
    (∃ (s : State) (err : Code) (k : Nat) (w : Nat) (r : List (Nat × Nat)), s.scr.queue = (k, w) :: r ∧ k < 13600 ∧ w < 57 ∧ fget s SCR_STAT_STOPPED 0 = 0 ∧ cabState s (k / 136) = stOFF) ∧
    (∃ (s : State) (err : Code) (k : Nat) (w : Nat) (r : List (Nat × Nat)), s.scr.queue = (k, w) :: r ∧ k < 13600 ∧ w < 57 ∧ fget s SCR_STAT_STOPPED 0 = 0 ∧ cabState s (k / 136) ≠ stOFF ∧ fget s FLT_INJ_ACTIVE (cabSrc (k / 136)) = 0) ∧
    (∃ (s : State), takeoverDue s = false) ∧
    (∃ (s : State), s.scr.copy ≠ fget s SCR_CFG_CYCLE_US 0) ∧
    (∃ (s : State), s.time.pllA.testBit 2 = true ∧ 4096 * Config.aclkKHz ≤ (s.time.now - s.scr.beatAt) * 1000000) ∧
    (∃ (s : State) (c : Instr), ((c = .scrubTakeover ∧ takeoverDue s = true) ∨ (∃ p : Nat, p < 100 ∧ c = .voteDisagreement 2 p)) ∧ fget s SCR_STAT_STOPPED 0 ≠ 0) ∧
    (∃ (s : State) (c : Instr), ((c = .scrubTakeover ∧ takeoverDue s = true) ∨ (∃ p : Nat, p < 100 ∧ c = .voteDisagreement 2 p)) ∧ fget s SCR_STAT_STOPPED 0 = 0 ∧ fget s SCR_STAT_STANDBY_OK 0 ≠ 0 ∧ s.scr.testing = false) ∧
    (∃ (s : State) (c : Instr), ((c = .scrubTakeover ∧ takeoverDue s = true) ∨ (∃ p : Nat, p < 100 ∧ c = .voteDisagreement 2 p)) ∧ fget s SCR_STAT_STOPPED 0 = 0 ∧ (fget s SCR_STAT_STANDBY_OK 0 = 0 ∨ s.scr.testing = true)) ∧
    (∃ (s : State) (p : Nat), p < 100 ∧ (cabState s p = stRUNNING ∨ cabState s p = stHELD)) ∧
    (∃ (s : State) (v : Nat), 2000 ≤ v % 2 ^ 20 ∧ v % 2 ^ 20 ≤ 1000000) ∧
    (∃ (s : State) (v : Nat), (v % 2 ^ 20 < 2000 ∨ 1000000 < v % 2 ^ 20)) := by
  refine ⟨⟨{ State.reset with time := { State.reset.time with pllA := 4 } }, by decide +kernel, by decide +kernel, by decide +kernel, Nat.zero_le _⟩,
    ⟨{ State.reset with scr := { walking := true } }, Or.inr (Or.inl rfl)⟩,
    ⟨State.reset, 1, Or.inl rfl⟩,
    ⟨{ State.reset with scr := { walking := true, p := 99, copy := 0 } }, 1, by decide +kernel, by decide +kernel, by decide +kernel, by decide +kernel, by decide +kernel, by decide +kernel, by decide +kernel, by decide +kernel, by decide +kernel⟩,
    ⟨{ State.reset with scr := { walking := true, p := 99, w := 7751 } }, 1, by decide +kernel, by decide +kernel, by decide +kernel, by decide +kernel, by decide +kernel, by decide +kernel, by decide +kernel, by decide +kernel⟩,
    ⟨State.reset, 1, Or.inl rfl⟩,
    ⟨{ rg [(CAB_STATE_STATE, 99, stOFF)] with scr := { queue := [(13599, 56)] } }, 1, 13599, 56, [], by decide +kernel, by decide +kernel, by decide +kernel, by decide +kernel, by decide +kernel⟩,
    ⟨{ State.reset with scr := { queue := [(13599, 56)] } }, 1, 13599, 56, [], by decide +kernel, by decide +kernel, by decide +kernel, by decide +kernel, by decide +kernel, by decide +kernel⟩,
    ⟨State.reset, by decide +kernel⟩,
    ⟨{ State.reset with scr := { copy := 9999 } }, by decide +kernel⟩,
    ⟨{ State.reset with time := { State.reset.time with pllA := 4, now := 4096 * Config.aclkKHz } }, by decide +kernel, beats _⟩,
    ⟨{ rg [(SCR_STAT_STOPPED, 0, 1)] with scr := { copy := 9999 } }, .scrubTakeover, Or.inl ⟨rfl, by decide +kernel⟩, by decide +kernel⟩,
    ⟨{ rg [(SCR_STAT_STANDBY_OK, 0, 1)] with scr := { copy := 9999 } }, .scrubTakeover, Or.inl ⟨rfl, by decide +kernel⟩, by decide +kernel, by decide +kernel, by decide +kernel⟩,
    ⟨rg [(SCR_STAT_STANDBY_OK, 0, 0)], .voteDisagreement 2 99, Or.inr ⟨99, by decide, rfl⟩, by decide +kernel, by decide +kernel⟩,
    ⟨rg [(CAB_STATE_STATE, 99, stHELD)], 99, by decide +kernel, by decide +kernel⟩,
    ⟨State.reset, 2 ^ 20 + 2000, by decide +kernel, by decide +kernel⟩,
    ⟨State.reset, 1999, by decide +kernel⟩⟩

/-- No unit but the fenced routers of `l` is to be tested. -/
def bistQuiet (l : List Nat) : State :=
  { (List.range 100).foldl (fun s p => if l.contains p then s else fset s CAB_STATE_FENCED p 0)
      (rg [(SCR_STAT_STANDBY_OK, 0, 0), (CAB_STATE_STATE, 44, stOFF), (CAB_STATE_STATE, 45, stOFF), (CAB_STATE_STATE, 54, stOFF),
        (CAB_STATE_STATE, 55, stOFF), (SYS_PAIR_STAT_STATE, 4, 0)]) with bst := { bring := false } }

theorem witness_GapStepsAndSelfTest_GapSteps :
    (∃ (s : State) (p : Nat), p < 100 ∧ gapMay s p = false) ∧
    (∃ (s : State) (p : Nat), p < 100 ∧ (fget s BST_CFG_GAP_EN 0 = 0 ∨ fget s CAB_GAP_PARKED p ≠ 0 ∨ fget s CAB_CAPTURE_CTL_ARMED p ≠ 0 ∨ (cab s p).gapPh ≠ 0 ∨ s.time.edges < (cab s p).gapStart + fget s BST_CFG_STEP_TICKS 0)) ∧
    (∃ (s : State) (p : Nat) (l : Nat), p < 100 ∧ gapMay s p = true ∧ fget s BST_CAB_SUSPECT_V p = 0 ∧ gapPos s p ≤ 16 ∧ (l = (if gapPos s p = 0 then 0 else if gapPos s p = 16 then 15 else if fget s BST_CAB_DIR p = 0 then gapPos s p - 1 else gapPos s p)) ∧ cabState s p = stEMPTY) ∧
    (∃ (s : State) (p : Nat) (l : Nat), p < 100 ∧ gapMay s p = true ∧ fget s BST_CAB_SUSPECT_V p = 0 ∧ gapPos s p ≤ 16 ∧ (l = (if gapPos s p = 0 then 0 else if gapPos s p = 16 then 15 else if fget s BST_CAB_DIR p = 0 then gapPos s p - 1 else gapPos s p)) ∧ cabState s p ≠ stEMPTY) ∧
    (∃ (s : State) (p : Nat), p < 100 ∧ gapMay s p = true ∧ fget s BST_CAB_SUSPECT_V p ≠ 0 ∧ fget s BST_CAB_SUSPECT p = gapPos s p) ∧
    (∃ (s : State) (p : Nat), p < 100 ∧ (cab s p).gapPh ≠ 1) ∧
    (∃ (s : State) (p : Nat), p < 100 ∧ (cab s p).gapPh = 1 ∧ (cab s p).gapCol < 16 ∧ gapPos s p ≤ 16 ∧ fget s FLT_INJ_ACTIVE (cabSrc p) = 0 ∧ (∀ r a, r < 8 → a < 512 → ∃ d, eccJudge (ramCode (cell s (cid p (pcolOf s p (cab s p).gapCol) r)) a) = .clean d)) ∧
    (∃ (s : State) (p : Nat), p < 100 ∧ (cab s p).gapPh ≠ 3) ∧
    (∃ (s : State) (p : Nat), p < 100 ∧ (cab s p).gapPh = 3 ∧ (cab s p).gapSecond = false) ∧
    (∃ (s : State) (p : Nat), p < 100 ∧ (cab s p).gapPh = 3 ∧ (cab s p).gapSecond = true ∧ (cabState s p = stRUNNING ∨ cabState s p = stHELD)) ∧
    (∃ (s : State) (v : Nat), v < 2 ^ 64) ∧
    (∃ (s m : State), m = bistUnits.foldl unitMark s ∧ 16 ≤ slicesRunning m) ∧
    (∃ (s m : State), m = bistUnits.foldl unitMark s ∧ slicesRunning m < 16 ∧ (bestUnit m (bistUnits.filter (fun u => (bunit m u).want && !(bunit m u).run && cabSliceFree m u)) = none)) ∧
    (∃ (s m : State) (u : Nat), m = bistUnits.foldl unitMark s ∧ slicesRunning m < 16 ∧ (bestUnit m (bistUnits.filter (fun u => (bunit m u).want && !(bunit m u).run && cabSliceFree m u)) = some u) ∧ (u < 200 ∨ 300 ≤ u ∨ rtrState s (u - 200) = rtTEST)) ∧
    (∃ (s m : State) (u : Nat), m = bistUnits.foldl unitMark s ∧ slicesRunning m < 16 ∧ (bestUnit m (bistUnits.filter (fun u => (bunit m u).want && !(bunit m u).run && cabSliceFree m u)) = some u) ∧ 200 ≤ u ∧ u < 300 ∧ rtrState s (u - 200) = rtNORMAL ∧ ringBusy s (u - 200) = false) := by
  refine ⟨⟨rg [(BST_CFG_GAP_EN, 0, 0)], 99, by decide +kernel, by decide +kernel⟩,
    ⟨rg [(BST_CFG_GAP_EN, 0, 0)], 99, by decide +kernel, by decide +kernel⟩,
    ⟨gapSt [] {}, 99, 0, by decide +kernel, by decide +kernel, by decide +kernel, by decide +kernel, by decide +kernel, by decide +kernel⟩,
    ⟨gapSt [(CAB_STATE_STATE, 99, stHELD)] {}, 99, 0, by decide +kernel, by decide +kernel, by decide +kernel, by decide +kernel, by decide +kernel, by decide +kernel⟩,
    ⟨gapSt [(BST_CAB_SUSPECT_V, 99, 1)] {}, 99, by decide +kernel, by decide +kernel, by decide +kernel, by decide +kernel⟩,
    ⟨State.reset, 99, by decide +kernel, by decide +kernel⟩,
    ⟨gapSt [] { gapPh := 1, gapCol := 15 }, 99, by decide +kernel, by decide +kernel, by decide +kernel, by decide +kernel, by decide +kernel, fun r a _ _ => ram_clean rfl _ _⟩,
    ⟨State.reset, 99, by decide +kernel, by decide +kernel⟩,
    ⟨gapSt [] { gapPh := 3 }, 99, by decide +kernel, by decide +kernel, by decide +kernel⟩,
    ⟨gapSt [(CAB_STATE_STATE, 99, stHELD)] { gapPh := 3, gapSecond := true }, 99, by decide +kernel, by decide +kernel, by decide +kernel, by decide +kernel⟩,
    ⟨State.reset, 2 ^ 64 - 1, by decide +kernel⟩,
    ⟨{ bistQuiet [] with bst := { bring := false, units := (List.range 16).map (fun u => (u, { run := true })) } }, bistUnits.foldl unitMark { bistQuiet [] with bst := { bring := false, units := (List.range 16).map (fun u => (u, { run := true })) } }, rfl, by decide +kernel⟩,
    ⟨bistQuiet [], bistUnits.foldl unitMark (bistQuiet []), rfl, by decide +kernel, by decide +kernel⟩,
    ⟨{ bistQuiet [] with bst := {} }, bistUnits.foldl unitMark { bistQuiet [] with bst := {} }, 320, rfl, by decide +kernel, by decide +kernel, by decide +kernel⟩,
    ⟨bistQuiet [7], bistUnits.foldl unitMark (bistQuiet [7]), 207, rfl, by decide +kernel, by decide +kernel, by decide +kernel, by decide +kernel, by decide +kernel, by decide +kernel⟩⟩

theorem witness_GapStepsAndSelfTest_SelfTestSlices :
    (∃ (s : State) (u : Nat) (full sig : Bool), u ∈ bistUnits ∧ (bunit s u).run = false) ∧
    (∃ (s : State) (u : Nat) (full sig : Bool), u ∈ bistUnits ∧ (bunit s u).run = true ∧ (full = false ∨ unitDue s u = false ∨ inBudget s u = false)) ∧
    (∃ (s : State) (u : Nat) (full sig : Bool), u ∈ bistUnits ∧ (bunit s u).run = true ∧ unitDue s u = true ∧ inBudget s u = true ∧ full = true ∧ sig = true ∧ (bunit s u).done + 1 < unitSlices u) ∧
    (∃ (s : State) (u : Nat) (full sig : Bool), u ∈ bistUnits ∧ (bunit s u).run = true ∧ unitDue s u = true ∧ inBudget s u = true ∧ full = true ∧ sig = true ∧ unitSlices u ≤ (bunit s u).done + 1) ∧
    (∃ (s : State) (u : Nat) (full sig : Bool), u ∈ bistUnits ∧ (bunit s u).run = true ∧ unitDue s u = true ∧ inBudget s u = true ∧ full = true ∧ sig = false) ∧
    (∃ (s : State) (u k row : Nat), u < 100 ∧ k < 8 ∧ row < 128 ∧ gapPos s u ≤ 16 ∧ (bunit s u).run = true ∧ unitDue s u = true ∧ inBudget s u = true ∧ (bunit s u).done + 1 < unitSlices u ∧ (cell s (cid u (gapPos s u) k)).rep = []) ∧
    (∃ (s : State) (u f b : Nat), 100 ≤ u ∧ u < 200 ∧ f < 16 ∧ b < 2 ∧ (bunit s u).run = true ∧ unitDue s u = true ∧ inBudget s u = true ∧ (bunit s u).done + 1 < unitSlices u ∧ (fget s (if b = 0 then FIFO_SPARE_BANK0 else FIFO_SPARE_BANK1) (cabFifo (u - 100) f) < 4)) ∧
    (∃ (s : State) (u : Nat), u ∈ bistUnits ∧ (u < 100 ∨ (bunit s u).run = false)) ∧
    (∃ (s : State) (u : Nat), u ∈ bistUnits ∧ 100 ≤ u ∧ (bunit s u).run = true) := by
  refine ⟨⟨State.reset, 320, true, true, by decide +kernel, by decide +kernel⟩,
    ⟨bistSt 99 0, 99, false, true, by decide +kernel, by decide +kernel, by decide +kernel⟩,
    ⟨bistSt 99 14, 99, true, true, by decide +kernel, by decide +kernel, by decide +kernel, decide_eq_true (Nat.zero_le _), by decide +kernel, by decide +kernel, by decide +kernel⟩,
    ⟨bistSt 99 15, 99, true, true, by decide +kernel, by decide +kernel, by decide +kernel, decide_eq_true (Nat.zero_le _), by decide +kernel, by decide +kernel, by decide +kernel⟩,
    ⟨bistSt 99 14, 99, true, false, by decide +kernel, by decide +kernel, by decide +kernel, decide_eq_true (Nat.zero_le _), by decide +kernel, by decide +kernel⟩,
    ⟨bistSt 99 14, 99, 7, 127, by decide +kernel, by decide +kernel, by decide +kernel, by decide +kernel, by decide +kernel, by decide +kernel, decide_eq_true (Nat.zero_le _), by decide +kernel, by decide +kernel⟩,
    ⟨bistSt 144 0, 144, 15, 1, by decide +kernel, by decide +kernel, by decide +kernel, by decide +kernel, by decide +kernel, by decide +kernel, decide_eq_true (Nat.zero_le _), by decide +kernel, by decide +kernel⟩,
    ⟨State.reset, 99, by decide +kernel, by decide +kernel⟩,
    ⟨bistSt 320 0, 320, by decide +kernel, by decide +kernel, by decide +kernel⟩⟩

theorem witness_TestAccessAndPcie_TestAccess :
    (∃ (s : State) (pk sig : List Byte), (s.env.chal = none ∨ s.otp.testRevoked = true ∨ s.otp.testKey = [] ∨ shake256 pk 32 ≠ s.otp.testKey ∨ (∃ c, s.env.chal = some c ∧ edVerify false (strBytes "AXRID-TST") pk c sig = false) ∨ (∃ p, p < 100 ∧ (cabState s p = stRUNNING ∨ cabState s p = stDRAINING)))) ∧
    (∃ (s : State) (pk sig : List Byte) (c : List Byte), s.env.chal = some c ∧ s.otp.testRevoked = false ∧ s.otp.testKey ≠ [] ∧ shake256 pk 32 = s.otp.testKey ∧ edVerify false (strBytes "AXRID-TST") pk c sig = true ∧ (∀ p, p < 100 → cabState s p ≠ stRUNNING ∧ cabState s p ≠ stDRAINING)) := by
  refine ⟨⟨State.reset, [], [], Or.inl rfl⟩,
    ⟨{ State.reset with env := { State.reset.env with chal := some [1] }, otp := { testKey := zdig } }, zpk, zsig, [1], rfl, rfl, by decide, zdigest, zverify _ _ _, by decide +kernel⟩⟩

/-- The endpoint is out of reset. -/
def upSt (l : List (Fld × Nat × Nat)) : State := { rg l with boot := { held := false } }

theorem witness_TestAccessAndPcie_PcieWindows :
    (∃ (s : State) (o n : Nat) (wr : Option (List Byte)), pcieUp s = false) ∧
    (∃ (s : State) (o n : Nat), pcieUp s = true ∧ o < 0x1F00000 ∧ n ≤ 64) ∧
    (∃ (s : State) (o n v : Nat), pcieUp s = true ∧ o < 0x1F00000 ∧ n ≤ 64 ∧ v < 2 ^ (8 * n)) ∧
    (∃ (s : State) (o n : Nat) (b : List Byte), pcieUp s = true ∧ (0x2000000 ≤ o ∧ o < 0x3000000 ∧ fget s PCI_WIN0_EN 0 = 0 ∨ 0x3000000 ≤ o ∧ o < 0x4000000 ∧ fget s PCI_WIN1_EN 0 = 0)) ∧
    (∃ (s : State) (o n r : Nat), pcieUp s = true ∧ n ≤ 64 ∧ r < 0x30000000 ∧ 0x2000000 ≤ o ∧ o < 0x3000000 ∧ fget s PCI_WIN0_EN 0 ≠ 0 ∧ fget s PCI_WIN0_BASE 0 * 2 ^ 24 + (o - 0x2000000) = 0x100000000 + r) ∧
    (∃ (s : State) (o n d r : Nat), pcieUp s = true ∧ 0x2000000 ≤ o ∧ o < 0x3000000 ∧ fget s PCI_WIN0_EN 0 ≠ 0 ∧ d < 1024 ∧ r < 2 ^ 36 ∧ d ≠ ownDev s ∧ fget s PCI_WIN0_BASE 0 * 2 ^ 24 + (o - 0x2000000) = 0x8000000000 + d * 2 ^ 36 + r ∧ 1 ≤ n ∧ r % 256 + n ≤ 256) := by
  refine ⟨⟨State.reset, 0, 64, none, by decide +kernel⟩,
    ⟨upSt [], 0x1EFFFFF, 64, by decide +kernel, by decide +kernel, by decide +kernel⟩,
    ⟨upSt [], 0x1EFFFFF, 64, 2 ^ 512 - 1, by decide +kernel, by decide +kernel, by decide +kernel, by decide +kernel⟩,
    ⟨upSt [], 0x3000000, 4096, [1], by decide +kernel, by decide +kernel⟩,
    ⟨upSt [(PCI_WIN0_EN, 0, 1), (PCI_WIN0_BASE, 0, 0x100)], 0x2FFFFFF, 64, 0xFFFFFF, by decide +kernel, by decide +kernel, by decide +kernel, by decide +kernel, by decide +kernel, by decide +kernel, by decide +kernel⟩,
    ⟨upSt [(PCI_WIN0_EN, 0, 1), (PCI_WIN0_BASE, 0, 53248)], 0x2000010, 8, 5, 16, by decide +kernel, by decide +kernel, by decide +kernel, by decide +kernel, by decide +kernel, by decide +kernel, by decide +kernel, by decide +kernel, by decide +kernel, by decide +kernel⟩⟩

/-- The places of EveryCommandCompletes; the state is any. -/
theorem witness_EveryCommandCompletes :
    (∃ (m a n v : Nat), m < 10) ∧
    (∃ (st mode : Nat), st < 100) ∧
    (∃ (w v : Nat), w < 2) ∧
    (∃ (k : Nat), k < 3) ∧
    (∃ (m : Nat), m < 16) ∧
    (∃ (p : Nat), p < 100) ∧
    (∃ (p pcol row : Nat) (e0 e1 e2 : Code), cellOk p pcol row) ∧
    (∃ (p port : Nat), p < 100 && port < 12) ∧
    (∃ (p i : Nat), p < 100 && i < 16) ∧
    (∃ (r : CellRef), cellRefOk r) ∧
    (∃ (k : Nat) (w : Word) (st en : Bool) (len prio : Nat) (poison : Bool), fifoExists k) ∧
    (∃ (st : Nat) (x : InjSrc) (errs : List Code), injOk st x) ∧
    (∃ (net st port ln : Nat), net < 2 && hasAgent st && port < 5 && ln < 6) ∧
    (∃ (k : Nat), keyOk k) ∧
    (∃ (st : Nat), hasAgent st) ∧
    (∃ (st ddev dstop code : Nat) (data : List Word), hasAgent st && hasAgent dstop) ∧
    (∃ (net st out : Nat) (errs : List Code) (sbErr : Nat), (net < 2 && st < 140 && 1 ≤ out && out ≤ 4 && (if out ≤ 2 then onH st else onV st))) ∧
    (∃ (net st port : Nat), net < 2 && st < 140 && port < 5) ∧
    (∃ (j n v : Nat), jnOk j n) ∧
    (∃ (j n lane : Nat), jnOk j n && lane < 8) ∧
    (∃ (j : Nat), j < 8) ∧
    (∃ (j p : Nat) (smp : List (List Nat)) (hdr crc : Nat), j < 8 && p < 2) ∧
    (∃ (n v : Nat), n < 8) ∧
    (∃ (i v : Nat), i < 25) ∧
    (∃ (k d : Nat), k < 4 && (d < 4 || (d = 4 && k = 0))) ∧
    (∃ (k : Nat), k < 4) ∧
    (∃ (span : Bool) (id : Nat) (ue : List Nat), (if span then id < 1024 else id < 8)) ∧
    (∃ (l : Nat) (en : Bool) (maxb : Nat), l < 16) ∧
    (∃ (tap : Nat), tap < 3) ∧
    (∃ (line : Nat) (ws : List (Word × Bool)) (edc : List Nat), ws.length = 16) ∧
    (∃ (line off : Nat) (b : List Byte) (pois : Bool) (up : List (Nat × Code)) (edc : List Nat), off + b.length ≤ 128) ∧
    (∃ (c v : Nat), c < 16) ∧
    (∃ (k v : Nat), k < 8) ∧
    (∃ (net o : Nat), net < 2 && o < 10) ∧
    (∃ (n v : Nat), n < 96) ∧
    (∃ (q : Nat), q < 5) ∧
    (∃ (t : Nat) (w : Word) (mm : Bool), t < 4096) ∧
    (∃ (e : Nat), e < 64) ∧
    (∃ (k t cc : Nat), k < 4 && t < 4096) ∧
    (∃ (kind p : Nat), kind < 3 && p < 100) ∧
    (∃ (u : Nat) (full sig : Bool) (rows fifos : List (Nat × Nat)), bistUnits.contains u) ∧
    (∃ (m a : Nat) (b : List Byte), m < 16 && a + b.length ≤ 4096) ∧
    (∃ (kind : Nat), kind < 3) ∧
    (∃ (src v : Nat), src < 64) ∧
    (∃ (k id n : Nat), unitOk k id) := by
  refine ⟨⟨9, 0, 4, 0, by decide +kernel⟩,
    ⟨99, 0, by decide +kernel⟩,
    ⟨1, 0, by decide +kernel⟩,
    ⟨2, by decide +kernel⟩,
    ⟨15, by decide +kernel⟩,
    ⟨99, by decide +kernel⟩,
    ⟨99, 16, 7, 0, 0, 0, by decide +kernel⟩,
    ⟨99, 11, by decide +kernel⟩,
    ⟨99, 15, by decide +kernel⟩,
    ⟨ref0, by decide +kernel⟩,
    ⟨32783, 0, true, true, 1, 0, false, by decide +kernel⟩,
    ⟨138, .rsp, [], by decide +kernel⟩,
    ⟨1, 138, 4, 5, by decide +kernel⟩,
    ⟨0, by decide +kernel⟩,
    ⟨138, by decide +kernel⟩,
    ⟨138, 0, 100, 0, [], by decide +kernel⟩,
    ⟨1, 139, 4, [], 0, by decide +kernel⟩,
    ⟨1, 139, 4, by decide +kernel⟩,
    ⟨7, 3, 0, by decide +kernel⟩,
    ⟨7, 3, 7, by decide +kernel⟩,
    ⟨7, by decide +kernel⟩,
    ⟨7, 1, [], 0, 0, by decide +kernel⟩,
    ⟨7, 0, by decide +kernel⟩,
    ⟨24, 0, by decide +kernel⟩,
    ⟨0, 4, by decide +kernel⟩,
    ⟨3, by decide +kernel⟩,
    ⟨true, 1023, [], by decide +kernel⟩,
    ⟨15, true, 0, by decide +kernel⟩,
    ⟨2, by decide +kernel⟩,
    ⟨0, List.replicate 16 (0, false), [], by decide +kernel⟩,
    ⟨0, 127, [0], false, [], [], by decide +kernel⟩,
    ⟨15, 0, by decide +kernel⟩,
    ⟨7, 0, by decide +kernel⟩,
    ⟨1, 9, by decide +kernel⟩,
    ⟨95, 0, by decide +kernel⟩,
    ⟨4, by decide +kernel⟩,
    ⟨4095, 0, true, by decide +kernel⟩,
    ⟨63, by decide +kernel⟩,
    ⟨3, 4095, 0, by decide +kernel⟩,
    ⟨2, 99, by decide +kernel⟩,
    ⟨320, true, true, [], [], by decide +kernel⟩,
    ⟨15, 4095, [0], by decide +kernel⟩,
    ⟨2, by decide +kernel⟩,
    ⟨63, 0, by decide +kernel⟩,
    ⟨8, 4095, 0, by decide +kernel⟩⟩

end Tests
end Sys2Proof
end

section
/-!
PROOF. The SEC-DED code of R467. Parity, the check bits and the syndrome are linear over XOR, so the syndrome of a
codeword with inverted bits is the XOR of those bits' own syndromes; the 72 bits' syndromes are distinct and all hold
bit 7.
-/

namespace Sys2Proof
namespace Machine

/-! ### Linearity -/

theorem bne_eq_bxor (p q : Bool) : (p != q) = (p ^^ q) := by cases p <;> cases q <;> rfl

theorem parityN_xor {w : Nat} (x y : BitVec w) (n : Nat) : parityN (x ^^^ y) n = (parityN x n ^^ parityN y n) := by
  induction n with
  | zero => rfl
  | succ n ih =>
    simp only [parityN, BitVec.getLsbD_xor, ih, bne_eq_bxor, Bool.xor_assoc, Bool.xor_left_comm]

@[simp] theorem parity_xor {w : Nat} (x y : BitVec w) : parity (x ^^^ y) = (parity x ^^ parity y) := parityN_xor x y w

theorem parityN_append_low {v w : Nat} (x : BitVec v) (y : BitVec w) (n : Nat) (h : n ≤ w) :
    parityN (x ++ y) n = parityN y n := by
  induction n with
  | zero => rfl
  | succ n ih => simp [parityN, BitVec.getLsbD_append, ih (by omega), show n < w by omega]

theorem parityN_append_high {v w : Nat} (x : BitVec v) (y : BitVec w) (n : Nat) :
    parityN (x ++ y) (n + w) = (parityN x n ^^ parityN y w) := by
  induction n with
  | zero => simpa [parityN] using parityN_append_low x y w (Nat.le_refl w)
  | succ n ih =>
    rw [Nat.add_right_comm]
    simp [parityN, BitVec.getLsbD_append, ih]

@[simp] theorem parity_append {v w : Nat} (x : BitVec v) (y : BitVec w) : parity (x ++ y) = (parity x ^^ parity y) :=
  parityN_append_high x y v

/-- The number whose bits below `n` are those of `p`. -/
def bitsNat (p : Nat → Bool) : Nat → Nat
  | 0 => 0
  | n + 1 => bitsNat p n + 2 ^ n * (p n).toNat

theorem bitsNat_lt (p : Nat → Bool) (n : Nat) : bitsNat p n < 2 ^ n := by
  induction n with
  | zero => exact Nat.one_pos
  | succ n ih =>
    have top : 2 ^ n * (p n).toNat ≤ 2 ^ n * 1 := Nat.mul_le_mul_left _ (Bool.toNat_le (p n))
    rw [bitsNat, Nat.pow_succ]
    omega

theorem testBit_bitsNat (p : Nat → Bool) (n k : Nat) : (bitsNat p n).testBit k = (decide (k < n) && p k) := by
  induction n with
  | zero => simp only [bitsNat, Nat.zero_testBit, Nat.not_lt_zero, decide_false, Bool.false_and]
  | succ n ih =>
    rw [bitsNat, Nat.add_comm, Nat.testBit_two_pow_mul_add _ (bitsNat_lt p n)]
    rcases Nat.lt_trichotomy k n with h | rfl | h
    · rw [if_pos h, ih, decide_eq_true h, decide_eq_true (show k < n + 1 by omega)]
    · rw [if_neg (Nat.lt_irrefl k), Nat.sub_self, decide_eq_true (Nat.lt_succ_self k)]
      cases p k <;> rfl
    · obtain ⟨j, rfl⟩ := Nat.exists_eq_add_of_lt h
      rw [if_neg (show ¬n + j + 1 < n by omega), decide_eq_false (show ¬n + j + 1 < n + 1 by omega),
        show n + j + 1 - n = j + 1 by omega]
      cases p n <;> simp [Nat.testBit_succ]

/-- Check bit c[k] is the parity of the data bits under mask `k`. -/
theorem eccLow_eq_bitsNat (d : BitVec 64) : eccLow d = bitsNat (fun k => parity (d &&& eccMask k)) 7 := by
  have add_bit (p : Bool) (a k : Nat) : (if p = true then a + 2 ^ k else a) = a + 2 ^ k * p.toNat := by cases p <;> simp
  have masks : eccMasks.zipIdx = [(eccMask 0, 0), (eccMask 1, 1), (eccMask 2, 2), (eccMask 3, 3), (eccMask 4, 4),
    (eccMask 5, 5), (eccMask 6, 6)] := rfl
  simp only [eccLow, masks, List.foldl_cons, List.foldl_nil, add_bit, bitsNat]

theorem eccLow_lt (d : BitVec 64) : eccLow d < 128 := eccLow_eq_bitsNat d ▸ bitsNat_lt _ 7

theorem parity_and_xor (d e m : BitVec 64) : parity ((d ^^^ e) &&& m) = (parity (d &&& m) ^^ parity (e &&& m)) := by
  rw [← parity_xor]
  congr 1
  ext i
  simp [Bool.and_xor_distrib_right]

theorem eccLow_xor (d e : BitVec 64) : eccLow (d ^^^ e) = eccLow d ^^^ eccLow e := by
  refine Nat.eq_of_testBit_eq fun k => ?_
  simp only [eccLow_eq_bitsNat, Nat.testBit_xor, testBit_bitsNat, parity_and_xor]
  cases decide (k < 7)
  · rfl
  · simp only [Bool.true_and]

@[simp] theorem eccData_xor (c e : Code) : eccData (c ^^^ e) = eccData c ^^^ eccData e := BitVec.extractLsb'_xor

/-- The syndrome with its overall bit s[7] joined by XOR. -/
theorem eccSyn_eq_xor (c : Code) :
    eccSyn c = eccLow (eccData c) ^^^ (c.extractLsb' 64 7).toNat ^^^ (parity c).toNat * 128 := by
  have add_top : ∀ x < 128, x + 128 = x ^^^ 128 := by decide
  have low : eccLow (eccData c) ^^^ (c.extractLsb' 64 7).toNat < 128 :=
    Nat.xor_lt_two_pow (n := 7) (eccLow_lt _) (BitVec.isLt _)
  unfold eccSyn
  cases parity c
  · simp
  · simpa using add_top _ low

theorem eccSyn_xor (c e : Code) : eccSyn (c ^^^ e) = eccSyn c ^^^ eccSyn e := by
  have top (p q : Bool) : (p ^^ q).toNat * 128 = p.toNat * 128 ^^^ q.toNat * 128 := by cases p <;> cases q <;> rfl
  simp only [eccSyn_eq_xor, eccData_xor, eccLow_xor, BitVec.extractLsb'_xor, BitVec.toNat_xor, parity_xor, top]
  ac_rfl

/-! ### What a write stores -/

@[simp] theorem eccData_eccEnc (w : Word) : eccData (eccEnc w) = w := BitVec.extractLsb'_append_eq_right

theorem eccEnc_checkBits (w : Word) : (eccEnc w).extractLsb' 64 7 = BitVec.ofNat 7 (eccLow w) :=
  (BitVec.extractLsb'_append_eq_of_le (Nat.le_refl 64)).trans BitVec.extractLsb'_append_eq_right

theorem parity_eccEnc (w : Word) : parity (eccEnc w) = false := by
  have parity_ofBool (b : Bool) : parity (BitVec.ofBool b) = b := by cases b <;> rfl
  have split : parity (eccEnc w) = _ := parity_append (_ : BitVec 8) w
  rw [split, parity_append (_ : BitVec 1) (_ : BitVec 7), parity_ofBool]
  simp [bne_eq_bxor]

/-- A word as written has syndrome 0. -/
theorem eccSyn_eccEnc (w : Word) : eccSyn (eccEnc w) = 0 := by
  simp [eccSyn_eq_xor, parity_eccEnc, eccEnc_checkBits, Nat.mod_eq_of_lt (eccLow_lt w)]

/-! ### The 72 bits -/

/-- The syndromes of the bits of a codeword, from bit 0: of data bit d[i] the column h(i), of check bit c[k] bit `k`,
each with s[7], and of c[7] s[7] alone (R467). -/
def eccBitSyns : List Nat := eccCols.map (fun h => h + 128) ++ [129, 130, 132, 136, 144, 160, 192, 128]

theorem eccSyn_bit : ∀ i < 72, eccSyn (1#72 <<< i) = eccBitSyns.getD i 0 := by decide +kernel

theorem eccBitSyns_length : eccBitSyns.length = 72 := by decide +kernel

theorem eccBitSyns_nodup : eccBitSyns.Nodup := by decide +kernel

theorem eccBitSyns_range : ∀ s ∈ eccBitSyns, 128 ≤ s ∧ s < 255 := by decide +kernel

theorem eccBitSyns_getD {i : Nat} (h : i < 72) : eccBitSyns.getD i 0 = eccBitSyns[i]'(eccBitSyns_length ▸ h) := by
  rw [List.getD_eq_getElem?_getD, List.getElem?_eq_getElem (eccBitSyns_length ▸ h), Option.getD_some]

theorem eccBitSyns_getD_mem {i : Nat} (h : i < 72) : eccBitSyns.getD i 0 ∈ eccBitSyns :=
  eccBitSyns_getD h ▸ List.getElem_mem _

theorem eccBitSyns_getD_ne {i j : Nat} (hij : i < j) (hj : j < 72) : eccBitSyns.getD i 0 ≠ eccBitSyns.getD j 0 := by
  rw [eccBitSyns_getD (Nat.lt_trans hij hj), eccBitSyns_getD hj]
  exact List.pairwise_iff_getElem.1 eccBitSyns_nodup i j _ _ hij

/-- A data bit's syndrome is found in the columns, at the bit's own place. -/
theorem findIdx_eccBitSyns_data : ∀ i < 64, eccCols.findIdx? (fun h => h = eccBitSyns.getD i 0 - 128) = some i := by
  decide +kernel

/-- A check bit's syndrome is no column's: a lone bit, or s[7] alone. -/
theorem findIdx_eccBitSyns_check : ∀ k < 8, eccCols.findIdx? (fun h => h = eccBitSyns.getD (64 + k) 0 - 128) = none ∧
    eccBitSyns.getD (64 + k) 0 ∈ [128, 129, 130, 132, 136, 144, 160, 192] := by
  decide +kernel

theorem eccData_dataBit : ∀ i < 64, eccData (1#72 <<< i) = 1#64 <<< i := by decide +kernel

theorem eccData_checkBit : ∀ k < 8, eccData (1#72 <<< (64 + k)) = 0#64 := by decide +kernel

/-! ### The judgement -/

/-- Errors in an even number of bits leave s[7] clear: uncorrectable. -/
theorem eccJudge_of_lt {c : Code} (h0 : eccSyn c ≠ 0) (h : eccSyn c < 128) : eccJudge c = .bad := by
  have hp : eccSyn c ≠ 255 := by omega
  simp only [eccJudge, h0, hp, h, if_true, if_false]

theorem eccJudge_of_column {c : Code} {i : Nat} (hl : 128 ≤ eccSyn c) (hu : eccSyn c < 255)
    (hi : eccCols.findIdx? (fun h => h = eccSyn c - 128) = some i) : eccJudge c = .fixed (eccData c ^^^ (1#64 <<< i)) := by
  have h0 : eccSyn c ≠ 0 := by omega
  have hp : eccSyn c ≠ 255 := by omega
  simp only [eccJudge, h0, hp, Nat.not_lt.2 hl, if_false, hi]

theorem eccJudge_of_checkBit {c : Code} (hi : eccCols.findIdx? (fun h => h = eccSyn c - 128) = none)
    (hs : eccSyn c ∈ [128, 129, 130, 132, 136, 144, 160, 192]) : eccJudge c = .fixed (eccData c) := by
  simp only [List.mem_cons, List.not_mem_nil, or_false] at hs
  have h0 : eccSyn c ≠ 0 := by omega
  have hp : eccSyn c ≠ 255 := by omega
  have hl : ¬eccSyn c < 128 := by omega
  simp only [eccJudge, h0, hp, hl, if_false, hi, hs, if_true]

theorem eccJudge_eccEnc (w : Word) : eccJudge (eccEnc w) = .clean w := by
  simp [eccJudge, eccSyn_eccEnc]

theorem eccSyn_eccEnc_flip (w : Word) {i : Nat} (hi : i < 72) :
    eccSyn (eccEnc w ^^^ (1#72 <<< i)) = eccBitSyns.getD i 0 := by
  rw [eccSyn_xor, eccSyn_eccEnc, Nat.zero_xor, eccSyn_bit i hi]

/-- One inverted bit, of the data or of the check bits, is corrected. -/
theorem eccJudge_eccEnc_flip (w : Word) {i : Nat} (hi : i < 72) : eccJudge (eccEnc w ^^^ (1#72 <<< i)) = .fixed w := by
  have hs := eccSyn_eccEnc_flip w hi
  obtain ⟨hl, hu⟩ := eccBitSyns_range _ (eccBitSyns_getD_mem hi)
  by_cases hd : i < 64
  · rw [eccJudge_of_column (hs ▸ hl) (hs ▸ hu) (hs ▸ findIdx_eccBitSyns_data i hd), eccData_xor, eccData_eccEnc,
      eccData_dataBit i hd, BitVec.xor_assoc, BitVec.xor_self, BitVec.xor_zero]
  · obtain ⟨k, rfl⟩ := Nat.exists_eq_add_of_le (Nat.not_lt.1 hd)
    have hk : k < 8 := by omega
    obtain ⟨hn, hm⟩ := findIdx_eccBitSyns_check k hk
    rw [eccJudge_of_checkBit (hs ▸ hn) (hs ▸ hm), eccData_xor, eccData_eccEnc, eccData_checkBit k hk, BitVec.xor_zero]

/-- Two numbers that agree in bit 7 and above differ by XOR below it. -/
theorem xor_lt_of_bit7 {x y : Nat} (hx : 128 ≤ x ∧ x < 255) (hy : 128 ≤ y ∧ y < 255) : x ^^^ y < 128 := by
  have h : (x ^^^ y) / 2 ^ 7 = 0 := by
    rw [Nat.xor_div_two_pow, show x / 2 ^ 7 = 1 by omega, show y / 2 ^ 7 = 1 by omega]
    rfl
  omega

theorem eq_of_xor_eq_zero {x y : Nat} (h : x ^^^ y = 0) : x = y := by
  calc x = x ^^^ y ^^^ y := by rw [Nat.xor_assoc, Nat.xor_self, Nat.xor_zero]
    _ = y := by rw [h, Nat.zero_xor]

/-- Two inverted bits cancel in s[7] and leave a syndrome that is not zero. -/
theorem eccJudge_eccEnc_flip_flip (w : Word) {i j : Nat} (hij : i < j) (hj : j < 72) :
    eccJudge (eccEnc w ^^^ (1#72 <<< i) ^^^ (1#72 <<< j)) = .bad := by
  have hi : i < 72 := by omega
  have hs : eccSyn (eccEnc w ^^^ (1#72 <<< i) ^^^ (1#72 <<< j)) = eccBitSyns.getD i 0 ^^^ eccBitSyns.getD j 0 := by
    rw [eccSyn_xor, eccSyn_eccEnc_flip w hi, eccSyn_bit j hj]
  have hlt := xor_lt_of_bit7 (eccBitSyns_range _ (eccBitSyns_getD_mem hi)) (eccBitSyns_range _ (eccBitSyns_getD_mem hj))
  exact eccJudge_of_lt (hs ▸ fun h => eccBitSyns_getD_ne hij hj (eq_of_xor_eq_zero h)) (hs ▸ hlt)

/-- Settles O8: the syndrome is linear, a single bit's lies among the 72 distinct ones of R467's columns and check bits,
and two of those never cancel. -/
theorem secDedCorrectsOneFindsTwo : Obligations.SecDedCorrectsOneFindsTwo := fun w =>
  ⟨eccJudge_eccEnc w, fun _ hi => eccJudge_eccEnc_flip w hi, fun _ _ hij hj => eccJudge_eccEnc_flip_flip w hij hj⟩

end Machine
end Sys2Proof
end

section
/-!
PROOF. Accesses to register space (R5, R8, R9, R448): the register table's fields are distinct and do not overlap, so a
write or a read of a whole register is one of each of its fields.
-/

namespace Sys2Proof
namespace Machine

/-! ### The register table -/

theorem allFlds_ids : allFlds.map (fun f => f.id) = List.range allFlds.length := by decide +kernel

theorem allFlds_fit : ∀ f ∈ allFlds, f.lo + f.width ≤ regBits f.reg := by decide +kernel

theorem allFlds_width_pos : ∀ f ∈ allFlds, 0 < f.width := by decide +kernel

/-- The fields of a register are listed from the highest down, and none overlaps the next. -/
theorem allFlds_descend : allFlds.Pairwise (fun f g => f.reg = g.reg → g.lo + g.width ≤ f.lo) := by decide +kernel

theorem mem_fldsOf {r : Nat} {f : Fld} : f ∈ fldsOf r ↔ f ∈ allFlds ∧ f.reg = r := by simp [fldsOf]

theorem fldsOf_fit {r : Nat} {f : Fld} (h : f ∈ fldsOf r) : f.lo + f.width ≤ regBits r := by
  obtain ⟨hf, rfl⟩ := mem_fldsOf.1 h
  exact allFlds_fit f hf

theorem fldsOf_descend (r : Nat) : (fldsOf r).Pairwise (fun f g => g.lo + g.width ≤ f.lo) := by
  refine (allFlds_descend.filter _).imp_of_mem fun {f g} hf hg h => h ?_
  rw [(mem_fldsOf.1 hf).2, (mem_fldsOf.1 hg).2]

theorem fldsOf_keys (r i : Nat) : (fldsOf r).Pairwise (fun f g => fkey f i ≠ fkey g i) := by
  have ids : (allFlds.map (fun f => f.id)).Nodup := allFlds_ids ▸ List.nodup_range
  refine ((List.pairwise_map.1 ids).filter _).imp fun {f g} h => ?_
  unfold fkey
  omega

/-! ### What differs: chains of field writes -/

theorem onlyRegs_refl (l : List (Fld × Nat)) (s : State) : OnlyRegs l s s := ⟨rfl, fun _ _ _ => rfl⟩

theorem onlyRegs_trans {l k : List (Fld × Nat)} {s t u : State} (h : OnlyRegs l s t) (h' : OnlyRegs k t u) :
    OnlyRegs (l ++ k) s u := by
  obtain ⟨ht, hf⟩ := h
  obtain ⟨hu, hg⟩ := h'
  refine ⟨by rw [hu, ht], fun f i hk => ?_⟩
  rw [hg f i fun e he => hk e (List.mem_append_right l he), hf f i fun e he => hk e (List.mem_append_left k he)]

theorem onlyRegs_fset (s : State) (f : Fld) (i v : Nat) : OnlyRegs [(f, i)] s (fset s f i v) :=
  ⟨rfl, fun g j h => fget_fset_other s f g i j v (h (f, i) (List.mem_singleton.2 rfl)).symm⟩

theorem onlyRegs_foldl {put : State → Fld → State} {i : Nat} (h : ∀ s f, OnlyRegs [(f, i)] s (put s f)) (l : List Fld)
    (s : State) : OnlyRegs (l.map (fun f => (f, i))) s (l.foldl put s) := by
  induction l generalizing s with
  | nil => exact onlyRegs_refl [] s
  | cons f l ih => exact onlyRegs_trans (h s f) (ih (put s f))

/-- In a chain of writes of distinct fields, each field is written once, from the value it began with. -/
theorem fget_foldl_put {put : State → Fld → State} {i : Nat} (h : ∀ s f, OnlyRegs [(f, i)] s (put s f))
    (hv : ∀ s t f, fget s f i = fget t f i → fget (put s f) f i = fget (put t f) f i) {l : List Fld}
    (hl : l.Pairwise (fun f g => fkey f i ≠ fkey g i)) (s : State) {f : Fld} (hf : f ∈ l) :
    fget (l.foldl put s) f i = fget (put s f) f i := by
  induction l generalizing s with
  | nil => cases hf
  | cons g l ih =>
    obtain ⟨hg, hl⟩ := List.pairwise_cons.1 hl
    rw [List.foldl_cons]
    rcases List.mem_cons.1 hf with rfl | hf
    · refine (onlyRegs_foldl h l (put s f)).2 f i fun e he => ?_
      obtain ⟨x, hx, rfl⟩ := List.mem_map.1 he
      exact (hg x hx).symm
    · rw [ih hl (put s g) hf]
      refine hv _ _ f ((h s g).2 f i fun e he => ?_)
      rw [List.mem_singleton.1 he]
      exact hg f hf

/-! ### Writes by access code -/

theorem onlyRegs_fldPut (s : State) (f : Fld) (i v : Nat) : OnlyRegs [(f, i)] s (fldPut s f i v) := by
  unfold fldPut
  cases f.acc with
  | rw | rws | w1c | w1s => exact onlyRegs_fset ..
  | ro | rc | wo => exact onlyRegs_refl ..

theorem fldPut_of_unwritten {s : State} {f : Fld} {i v : Nat} (h : f.acc = .ro ∨ f.acc = .rc ∨ f.acc = .wo) :
    fldPut s f i v = s := by
  rcases h with h | h | h <;> simp only [fldPut, h]

theorem fget_fldPut_rw {s : State} {f : Fld} {i v : Nat} (h : f.acc = .rw ∨ f.acc = .rws) :
    fget (fldPut s f i v) f i = v % 2 ^ f.width := by
  rcases h with h | h <;> simp only [fldPut, h, fget_fset_same]

theorem testBit_fldPut_w1c {s : State} {f : Fld} {i v b : Nat} (h : f.acc = .w1c) (hb : b < f.width) :
    (fget (fldPut s f i v) f i).testBit b = ((fget s f i).testBit b && !v.testBit b) := by
  simp only [fldPut, h, fget_fset_same, Nat.testBit_mod_two_pow, hb, Nat.testBit_xor, Nat.testBit_and]
  cases (fget s f i).testBit b <;> simp

theorem testBit_fldPut_w1s {s : State} {f : Fld} {i v b : Nat} (h : f.acc = .w1s) (hb : b < f.width) :
    (fget (fldPut s f i v) f i).testBit b = ((fget s f i).testBit b || v.testBit b) := by
  simp [fldPut, h, fget_fset_same, Nat.testBit_mod_two_pow, hb]

theorem fget_fldPut_congr (s t : State) (f : Fld) (i v : Nat) (h : fget s f i = fget t f i) :
    fget (fldPut s f i v) f i = fget (fldPut t f i v) f i := by
  unfold fldPut
  cases f.acc <;> simp [h]

theorem onlyRegs_regPutPlain (s : State) (r i v : Nat) :
    OnlyRegs ((fldsOf r).map (fun f => (f, i))) s (regPutPlain s r i v) :=
  onlyRegs_foldl (fun s f => onlyRegs_fldPut s f i (fldOf f v)) (fldsOf r) s

theorem fget_regPutPlain (s : State) {r : Nat} (i v : Nat) {f : Fld} (hf : f ∈ fldsOf r) :
    fget (regPutPlain s r i v) f i = fget (fldPut s f i (fldOf f v)) f i :=
  fget_foldl_put (fun s f => onlyRegs_fldPut s f i (fldOf f v)) (fun s t f => fget_fldPut_congr s t f i (fldOf f v))
    (fldsOf_keys r i) s hf

theorem testBit_fldOf (f : Fld) (v : Nat) {b : Nat} (hb : b < f.width) : (fldOf f v).testBit b = v.testBit (f.lo + b) := by
  simp [fldOf, Nat.testBit_mod_two_pow, Nat.testBit_div_two_pow, hb, Nat.add_comm]

/-- A field within the low `n` bits sees those bits alone. -/
theorem fldOf_mod {f : Fld} {n : Nat} (h : f.lo + f.width ≤ n) (v : Nat) : fldOf f (v % 2 ^ n) = fldOf f v := by
  refine Nat.eq_of_testBit_eq fun b => ?_
  by_cases hb : b < f.width
  · simp [testBit_fldOf f _ hb, Nat.testBit_mod_two_pow, show f.lo + b < n by omega]
  · simp [fldOf, Nat.testBit_mod_two_pow, hb]

theorem regPutPlain_congr {s : State} {r i v w : Nat} (h : ∀ f ∈ fldsOf r, fldOf f v = fldOf f w) :
    regPutPlain s r i v = regPutPlain s r i w :=
  List.foldl_rel rfl fun f hf s t hst => by rw [hst, h f hf]

/-! ### Writes of a whole register -/

theorem regPutCab_isNone (s s' : State) (m m' r i i' v v' : Nat) :
    (regPutCab s m r i v).isNone = (regPutCab s' m' r i' v').isNone := by
  simp only [regPutCab, apply_ite Option.isNone, Option.isNone_some, Option.isNone_none]

theorem regPutPort_isNone (s s' : State) (r i i' v v' : Nat) :
    (regPutPort s r i v).isNone = (regPutPort s' r i' v').isNone := by
  simp only [regPutPort, apply_ite Option.isNone, Option.isNone_some, Option.isNone_none]

theorem regPutCtl_isNone (s s' : State) (m m' r i i' v v' : Nat) :
    (regPutCtl s m r i v).isNone = (regPutCtl s' m' r i' v').isNone := by
  simp only [regPutCtl, apply_ite Option.isNone, Option.isNone_some, Option.isNone_none]

theorem plainWrites_lt {r : Nat} (h : plainWrites r = true) : r < 200 := by
  simp only [plainWrites, Bool.and_eq_true, decide_eq_true_eq] at h
  exact h.1.1.1

/-- Whether a register's writes follow the access codes alone depends on the register alone. -/
theorem regPut_plain {r : Nat} (h : plainWrites r = true) (s : State) (m i v : Nat) :
    regPut s m r i v = regPutPlain s r i v := by
  simp only [plainWrites, Bool.and_eq_true] at h
  obtain ⟨⟨⟨-, hcab⟩, hport⟩, hctl⟩ := h
  rw [regPutCab_isNone _ s _ m r _ i _ v, Option.isNone_iff_eq_none] at hcab
  rw [regPutPort_isNone _ s r _ i _ v, Option.isNone_iff_eq_none] at hport
  rw [regPutCtl_isNone _ s _ m r _ i _ v, Option.isNone_iff_eq_none] at hctl
  simp only [regPut, hcab, hport, hctl, Option.getD_none]

/-- A write of a whole register takes every field from what is written. -/
theorem fldOf_regMerge_whole (s : State) {r : Nat} (i v : Nat) {f : Fld} (hf : f ∈ fldsOf r) :
    fldOf f (regMerge s r i 0 (regBits r) v) = fldOf f v := by
  rw [← fldOf_mod (fldsOf_fit hf) (regMerge ..), ← fldOf_mod (fldsOf_fit hf) v]
  simp [regMerge, Nat.mod_one]

/-- A register of which no field acts is written with nothing. -/
theorem regPutPlain_of_not_acts {s : State} {r i v : Nat} (h : regActs r 0 (regBits r) = false) :
    regPutPlain s r i v = s := by
  have ro : ∀ f ∈ fldsOf r, f.acc = .ro ∨ f.acc = .rc := by
    intro f hf
    have hpos := allFlds_width_pos f (mem_fldsOf.1 hf).1
    have hfit := fldsOf_fit hf
    have idle := List.any_eq_false.1 h f hf
    simp only [Bool.and_eq_true, bne_iff_ne, decide_eq_true_eq] at idle
    exact Decidable.byContradiction fun hacc => idle ⟨⟨⟨fun e => hacc (.inl e), fun e => hacc (.inr e)⟩, by omega⟩, by omega⟩
  exact List.foldlRecOn (motive := fun t => t = s) (fldsOf r) _ rfl fun t ht f hf => by
    rw [fldPut_of_unwritten ((ro f hf).imp id .inl), ht]

theorem regWrite_plain {r : Nat} (h : plainWrites r = true) (s : State) (m i v : Nat) :
    regWrite s m r i 0 (regBits r) v = regPutPlain s r i v := by
  have hr : ¬200 ≤ r := Nat.not_le.2 (plainWrites_lt h)
  rw [regWrite, if_neg hr]
  split
  · rw [regPut_plain h]
    exact regPutPlain_congr fun f hf => fldOf_regMerge_whole s i v hf
  · rename_i hacts
    exact (regPutPlain_of_not_acts (Bool.eq_false_iff.2 hacts)).symm

/-! ### Reads of a whole register -/

theorem onlyRegs_rcClear_whole (s : State) (r i : Nat) :
    OnlyRegs (((fldsOf r).filter (fun f => f.acc = .rc)).map (fun f => (f, i))) s (rcClear s r i 0 (regBits r)) := by
  have whole : (fldsOf r).filter (fun f => f.acc = .rc && 0 ≤ f.lo && f.lo + f.width ≤ 0 + regBits r) =
      (fldsOf r).filter (fun f => f.acc = .rc) :=
    List.filter_congr fun f hf => by simp [fldsOf_fit hf]
  rw [rcClear, whole]
  exact onlyRegs_foldl (fun s f => onlyRegs_fset s f i 0) _ s

theorem fget_rcClear_whole (s : State) {r : Nat} (i : Nat) {f : Fld} (hf : f ∈ fldsOf r) (hrc : f.acc = .rc) :
    fget (rcClear s r i 0 (regBits r)) f i = 0 := by
  have mem : f ∈ (fldsOf r).filter (fun f => f.acc = .rc && 0 ≤ f.lo && f.lo + f.width ≤ 0 + regBits r) := by
    simp [hf, hrc, fldsOf_fit hf]
  rw [rcClear, fget_foldl_put (fun s f => onlyRegs_fset s f i 0) (fun s t f _ => by simp) ((fldsOf_keys r i).filter _) s mem]
  simp

/-- The sum of the values `x` of fields at their places. -/
def placed (x : Fld → Nat) (l : List Fld) : Nat := (l.map (fun f => x f % 2 ^ f.width * 2 ^ f.lo)).sum

theorem regView_eq_placed (s : State) (r i : Nat) : regView s r i = placed (fun f => fview s f i) (fldsOf r) := by
  rw [placed, List.sum_eq_foldl, List.foldl_map, regView]

theorem placed_lt {x : Fld → Nat} {l : List Fld} {n : Nat} (hl : l.Pairwise (fun f g => g.lo + g.width ≤ f.lo))
    (hn : ∀ f ∈ l, f.lo + f.width ≤ n) : placed x l < 2 ^ n := by
  induction l generalizing n with
  | nil => exact Nat.two_pow_pos n
  | cons f l ih =>
    obtain ⟨hf, hl⟩ := List.pairwise_cons.1 hl
    have low : placed x l < 2 ^ f.lo := ih hl hf
    have top : x f % 2 ^ f.width < 2 ^ f.width := Nat.mod_lt _ (Nat.two_pow_pos _)
    calc placed x (f :: l) = x f % 2 ^ f.width * 2 ^ f.lo + placed x l := by simp [placed]
      _ < (x f % 2 ^ f.width + 1) * 2 ^ f.lo := by rw [Nat.add_mul, Nat.one_mul]; omega
      _ ≤ 2 ^ f.width * 2 ^ f.lo := Nat.mul_le_mul_right _ top
      _ = 2 ^ (f.lo + f.width) := by rw [Nat.pow_add, Nat.mul_comm]
      _ ≤ 2 ^ n := Nat.pow_le_pow_right (by decide) (hn f List.mem_cons_self)

/-- Fields that do not overlap read back from their sum. -/
theorem fldOf_placed {x : Fld → Nat} {l : List Fld} (hl : l.Pairwise (fun f g => g.lo + g.width ≤ f.lo)) {g : Fld}
    (hg : g ∈ l) : fldOf g (placed x l) = x g % 2 ^ g.width := by
  induction l with
  | nil => cases hg
  | cons f l ih =>
    obtain ⟨hf, hl'⟩ := List.pairwise_cons.1 hl
    have split : placed x (f :: l) = placed x l + 2 ^ f.lo * (x f % 2 ^ f.width) := by
      simp [placed, Nat.add_comm, Nat.mul_comm]
    rcases List.mem_cons.1 hg with rfl | hg
    · have low : placed x l / 2 ^ g.lo = 0 := Nat.div_eq_of_lt (placed_lt hl' hf)
      rw [fldOf, split, Nat.add_mul_div_left _ _ (Nat.two_pow_pos _), low, Nat.zero_add,
        Nat.mod_mod]
    · rw [← ih hl' hg, ← fldOf_mod (hf g hg), split, Nat.add_mul_mod_self_left, fldOf_mod (hf g hg)]

theorem plainReads_lt {r : Nat} (h : plainReads r = true) : r < 200 := by
  simp only [plainReads, Bool.and_eq_true, decide_eq_true_eq] at h
  exact h.1

theorem regRead_plain {r : Nat} (h : plainReads r = true) (s : State) (i : Nat) :
    regRead s r i 0 (regBits r) = (rcClear s r i 0 (regBits r), regView s r i % 2 ^ regBits r) := by
  have hr := plainReads_lt h
  simp only [plainReads, List.contains_cons, List.contains_nil, Bool.and_eq_true, Bool.not_eq_true', Bool.or_eq_false_iff,
    beq_eq_false_iff_ne] at h
  obtain ⟨-, hsrc, htick, htod, htxts, hpeak, hpin, -⟩ := h
  have hrec : r ≠ pREC := by unfold pREC; omega
  have hfirst : r ≠ pFIRST := by unfold pFIRST; omega
  simp [regRead, hrec, hfirst, Nat.not_le.2 hr, hsrc, htick, htod, htxts, hpeak, hpin]

/-! ### Accesses by address -/

theorem inRegs_iff {a : Nat} : inRegs a = true ↔ regBase ≤ a ∧ a < regBase + 0x30000000 := by simp [inRegs]

theorem regAt_before {a : Nat} (h : a < regBase) : regAt a = some none := by
  have : a - regBase = 0 := Nat.sub_eq_zero_of_le (Nat.le_of_lt h)
  rw [regAt, this]
  decide +kernel

theorem regAt_beyond {a : Nat} (h : regBase + 0x30000000 ≤ a) : regAt a = none := by
  have hb : 768 ≤ (a - regBase) / 0x100000 := by omega
  have : blockAt ((a - regBase) / 0x100000) ((a - regBase) % 0x100000) = none := by
    generalize (a - regBase) / 0x100000 = b at hb
    unfold blockAt
    simp (disch := omega) only [if_neg]
  simp [regAt, this]

/-- Only addresses of register space hold registers. -/
theorem inRegs_of_regAt {a : Nat} {x : RegAt} (h : regAt a = some (some x)) : inRegs a = true := by
  have hlo : ¬a < regBase := fun hl => by simp [regAt_before hl] at h
  have hhi : ¬regBase + 0x30000000 ≤ a := fun hl => by simp [regAt_beyond hl] at h
  rw [inRegs_iff]
  omega

/-- No remote window covers register space. -/
theorem localAddr_of_inRegs (s : State) {a : Nat} (h : inRegs a = true) : localAddr s a = a := by
  have far : ¬0x8000000000 ≤ a := by
    have := (inRegs_iff.1 h).2
    unfold regBase at this
    omega
  simp [localAddr, far]

theorem regSizeOk_iff {a n : Nat} : regSizeOk a n = true ↔ (n = 4 ∨ n = 8) ∧ a % n = 0 := by
  simp [regSizeOk]

/-- An access of a whole register has one part. -/
theorem regParts_whole {a n r i : Nat} (hn : n = 4 ∨ n = 8) (ha : regAt a = some (some ⟨r, i, 0⟩)) (hr : r < 200)
    (hb : regBits r = 8 * n) : regParts a n = [(some (⟨r, i, 0⟩, regBits r), 0)] := by
  have whole : rowBytes r = 8 ∨ n = 4 := by
    have : rowBytes r = regBits r / 8 := if_pos hr
    omega
  -- Unfolded as a function: applied to `a`, the kernel would evaluate `a - regBase` for a variable `a`.
  generalize hp : regParts = parts
  delta regParts at hp
  simp only [← hp, ha, Option.getD_some, if_pos whole, hb]

theorem spaceWrite_whole (s : State) {m a n v r i : Nat} (hn : n = 4 ∨ n = 8) (hal : a % n = 0)
    (ha : regAt a = some (some ⟨r, i, 0⟩)) (hb : regBits r = 8 * n) (hp : plainWrites r = true) :
    spaceWrite s m a n v = (regPutPlain s r i v, 0) := by
  have low : regPutPlain s r i (v % 2 ^ regBits r) = regPutPlain s r i v :=
    regPutPlain_congr fun f hf => fldOf_mod (fldsOf_fit hf) v
  simp [spaceWrite, regSizeOk_iff.2 ⟨hn, hal⟩, ha, regParts_whole hn ha (plainWrites_lt hp) hb, partWrite,
    regWrite_plain hp, low]

theorem spaceRead_whole (s : State) {a n r i : Nat} (hn : n = 4 ∨ n = 8) (hal : a % n = 0)
    (ha : regAt a = some (some ⟨r, i, 0⟩)) (hb : regBits r = 8 * n) (hp : plainReads r = true) :
    spaceRead s a n = (rcClear s r i 0 (regBits r), 0, regView s r i % 2 ^ regBits r) := by
  simp [spaceRead, regSizeOk_iff.2 ⟨hn, hal⟩, ha, regParts_whole hn ha (plainReads_lt hp) hb, partsRead, partRead,
    regRead_plain hp]

theorem regSizeOk_of_misfit {a n : Nat} (h : n ≠ 4 ∧ n ≠ 8 ∨ a % n ≠ 0) : regSizeOk a n = false := by
  rw [Bool.eq_false_iff, Ne, regSizeOk_iff]
  omega

theorem spaceWrite_misfit (s : State) {m a n v : Nat} (h : n ≠ 4 ∧ n ≠ 8 ∨ a % n ≠ 0) :
    spaceWrite s m a n v = (s, esBAD_REQUEST) := by simp [spaceWrite, regSizeOk_of_misfit h]

theorem spaceRead_misfit (s : State) {a n : Nat} (h : n ≠ 4 ∧ n ≠ 8 ∨ a % n ≠ 0) :
    spaceRead s a n = (s, esBAD_REQUEST, 0) := by simp [spaceRead, regSizeOk_of_misfit h]

theorem spaceWrite_unlisted (s : State) {m a n v : Nat} (hn : n = 4 ∨ n = 8) (hal : a % n = 0) (ha : regAt a = none) :
    spaceWrite s m a n v = (s, esNO_TARGET) := by simp [spaceWrite, regSizeOk_iff.2 ⟨hn, hal⟩, ha]

theorem spaceRead_unlisted (s : State) {a n : Nat} (hn : n = 4 ∨ n = 8) (hal : a % n = 0) (ha : regAt a = none) :
    spaceRead s a n = (s, esNO_TARGET, 0) := by simp [spaceRead, regSizeOk_iff.2 ⟨hn, hal⟩, ha]

/-! ### The commands -/

/-- An access that raises no event leaves no requester to name. -/
theorem accessBy_of_none_raised {s t : State} (h : t.flt = s.flt) (master : Nat) :
    accessBy s.flt.raised.length master t = t := by
  simp [accessBy, ← h]

/-- GENERIC_REGISTER_WRITE by what `spaceWrite` answers, where it raises no event. -/
theorem exec_genericRegisterWrite {s t : State} {m a n v e : Nat} (hm : m < 10) (h : spaceWrite s m a n v = (t, e))
    (hf : t.flt = s.flt) : exec (.genericRegisterWrite m a n v) s = .next (busAnswer t e []) := by
  have named : accessBy s.flt.raised.length (masterField s m) (busAnswer t e []) = busAnswer t e [] :=
    accessBy_of_none_raised (t := busAnswer t e []) hf _
  simp [exec, execGenericRegisterWrite, run, hm, h, named]

/-- RC_FIELD_READ by what `spaceRead` answers, where it raises no event. -/
theorem exec_rcFieldRead {s t : State} {m a n e d : Nat} (hm : m < 10) (ha : inRegs a = true)
    (h : spaceRead s a n = (t, e, d)) (hf : t.flt = s.flt) :
    exec (.rcFieldRead m a n) s = .next (busAnswer t e (leBytes n d)) := by
  have named : accessBy s.flt.raised.length (masterField s m) (busAnswer t e (leBytes n d)) = busAnswer t e (leBytes n d) :=
    accessBy_of_none_raised (t := busAnswer t e (leBytes n d)) hf _
  simp [exec, execRcFieldRead, run, hm, busReadCmd, busRead, localAddr_of_inRegs s ha, ha, h, named]

theorem leBytes_length (n d : Nat) : (leBytes n d).length = n := by
  induction n generalizing d with
  | zero => rfl
  | succ n ih => simp [leBytes, ih]

theorem leNat_leBytes_eq_mod (n d : Nat) : leNat (leBytes n d) = d % 2 ^ (8 * n) := by
  induction n generalizing d with
  | zero => simp [leBytes, leNat, Nat.mod_one]
  | succ n ih =>
    have step : 2 ^ (8 * (n + 1)) = 256 * 2 ^ (8 * n) := by rw [Nat.mul_succ, Nat.pow_add, Nat.mul_comm]
    rw [leBytes, leNat, ih, BitVec.toNat_ofNat, step, Nat.mod_mul]

/-- The data of a read of up to eight bytes. -/
theorem busAnswer_data {n : Nat} (hn : n ≤ 8) (s : State) (e d : Nat) :
    (busAnswer s e (leBytes n d)).bus.data.toNat = d % 2 ^ (8 * n) := by
  have all : (leBytes n d).take 8 = leBytes n d := List.take_of_length_le (by rw [leBytes_length]; exact hn)
  have fits : d % 2 ^ (8 * n) < 2 ^ 64 :=
    Nat.lt_of_lt_of_le (Nat.mod_lt _ (Nat.two_pow_pos _)) (Nat.pow_le_pow_right (by decide) (by omega))
  simp only [busAnswer, all, leNat_leBytes_eq_mod, BitVec.toNat_ofNat, Nat.mod_eq_of_lt fits]

/-- A read of a whole register (R8): its fields in the answer, its RC fields cleared. -/
theorem rcFieldRead_whole (s : State) {m a n r i : Nat} (hm : m < 10) (hn : n = 4 ∨ n = 8) (hal : a % n = 0)
    (ha : regAt a = some (some ⟨r, i, 0⟩)) (hb : regBits r = 8 * n) (hp : plainReads r = true) :
    ∃ t, exec (.rcFieldRead m a n) s = .next t ∧ t = { s with regs := t.regs, bus := t.bus } ∧ t.bus.status = 0 ∧
      OnlyFields (((fldsOf r).filter (fun f => f.acc = .rc)).map (fun f => (f, i))) s t ∧
      ∀ f ∈ fldsOf r, (f.acc = .rc → fget t f i = 0) ∧ fldOf f t.bus.data.toNat = fview s f i % 2 ^ f.width := by
  obtain ⟨hregs, honly⟩ := onlyRegs_rcClear_whole s r i
  have hflt : (rcClear s r i 0 (regBits r)).flt = s.flt := by rw [hregs]
  refine ⟨_, exec_rcFieldRead hm (inRegs_of_regAt ha) (spaceRead_whole s hn hal ha hb hp) hflt, ?_, rfl, honly,
    fun f hf => ⟨fget_rcClear_whole s i hf, ?_⟩⟩
  · unfold busAnswer
    rw [hregs]
  · rw [busAnswer_data (by omega), ← hb, fldOf_mod (fldsOf_fit hf), fldOf_mod (fldsOf_fit hf), regView_eq_placed,
      fldOf_placed (fldsOf_descend r) hf]

/-- A write of a whole register (R5): each field by its access code. -/
theorem genericRegisterWrite_whole (s : State) {m a n r i : Nat} (v : Nat) (hm : m < 10) (hn : n = 4 ∨ n = 8) (hal : a % n = 0)
    (ha : regAt a = some (some ⟨r, i, 0⟩)) (hb : regBits r = 8 * n) (hp : plainWrites r = true) :
    ∃ t, exec (.genericRegisterWrite m a n v) s = .next t ∧ t = { s with regs := t.regs, bus := t.bus } ∧ t.bus.status = 0 ∧
      OnlyFields ((fldsOf r).map (fun f => (f, i))) s t ∧
      ∀ f ∈ fldsOf r, fget t f i = fget (fldPut s f i (fldOf f v)) f i := by
  obtain ⟨hregs, honly⟩ := onlyRegs_regPutPlain s r i v
  have hflt : (regPutPlain s r i v).flt = s.flt := by rw [hregs]
  refine ⟨_, exec_genericRegisterWrite hm (spaceWrite_whole s hn hal ha hb hp) hflt, ?_, rfl, honly,
    fun f hf => fget_regPutPlain s i v hf⟩
  unfold busAnswer
  rw [hregs]

/-- A read of SYS_TICK_STAT answers MISSED and clears it, its only RC field. -/
theorem rcFieldRead_tickStat (s : State) {m : Nat} (hm : m < 10) (hmissed : fget s SYS_TICK_STAT_MISSED 0 < 2 ^ 16) :
    ∃ t, exec (.rcFieldRead m 0x100000118 4) s = .next t ∧ t.bus.status = 0 ∧ OnlyFields [(SYS_TICK_STAT_MISSED, 0)] s t ∧
      fget t SYS_TICK_STAT_MISSED 0 = 0 ∧ t.bus.data.toNat % 2 ^ 16 = fget s SYS_TICK_STAT_MISSED 0 := by
  have missed : SYS_TICK_STAT_MISSED ∈ fldsOf R_SYS_TICK_STAT := by decide +kernel
  have rcs : (fldsOf R_SYS_TICK_STAT).filter (fun f => f.acc = .rc) = [SYS_TICK_STAT_MISSED] := by decide +kernel
  have place : regAt 0x100000118 = some (some ⟨R_SYS_TICK_STAT, 0, 0⟩) := by decide +kernel
  obtain ⟨t, hx, -, hst, honly, hflds⟩ := rcFieldRead_whole s hm (.inl rfl) rfl place rfl (by decide +kernel)
  obtain ⟨hrc, hdata⟩ := hflds _ missed
  rw [rcs] at honly
  refine ⟨t, hx, hst, honly, hrc rfl, ?_⟩
  calc t.bus.data.toNat % 2 ^ 16 = fldOf SYS_TICK_STAT_MISSED t.bus.data.toNat := by
        rw [fldOf, show SYS_TICK_STAT_MISSED.lo = 0 from rfl, Nat.pow_zero, Nat.div_one]; rfl
    _ = fget s SYS_TICK_STAT_MISSED 0 % 2 ^ 16 := hdata
    _ = fget s SYS_TICK_STAT_MISSED 0 := Nat.mod_eq_of_lt hmissed

/-- Settles O14: a whole register's fields are written and read one by one, and a refused access changes nothing. -/
theorem accessCodes : Obligations.AccessCodes := by
  refine ⟨fun s m a n v r i hm hn hal ha hb hp => ?_, fun s m a n r i hm hn hal ha hb hp => ?_,
    fun s m a n v hm hlo hhi h => ?_, fun s m a n v hm hlo hhi hn hal ha => ?_, fun s m hm => rcFieldRead_tickStat s hm⟩
  · obtain ⟨t, hx, hframe, hst, honly, hflds⟩ := genericRegisterWrite_whole s v hm hn hal ha hb hp
    refine ⟨t, hx, hframe, hst, honly, fun f hf => ?_⟩
    rw [hflds f hf]
    refine ⟨fun h => ?_, fun h b hb => ?_, fun h b hb => ?_, fun h => by rw [fldPut_of_unwritten h]⟩
    · rw [fget_fldPut_rw h, fldOf, Nat.mod_mod]
    · rw [testBit_fldPut_w1c h hb, testBit_fldOf f v hb]
    · rw [testBit_fldPut_w1s h hb, testBit_fldOf f v hb]
  · exact rcFieldRead_whole s hm hn hal ha hb hp
  · have hin : inRegs a = true := inRegs_iff.2 ⟨hlo, hhi⟩
    exact ⟨⟨_, exec_genericRegisterWrite hm (spaceWrite_misfit s h) rfl, rfl, rfl⟩,
      ⟨_, exec_rcFieldRead hm hin (spaceRead_misfit s h) rfl, rfl, rfl⟩⟩
  · have hin : inRegs a = true := inRegs_iff.2 ⟨hlo, hhi⟩
    exact ⟨⟨_, exec_genericRegisterWrite hm (spaceWrite_unlisted s hn hal ha) rfl, rfl, rfl⟩,
      ⟨_, exec_rcFieldRead hm hin (spaceRead_unlisted s hn hal ha) rfl, rfl, rfl⟩⟩

end Machine
end Sys2Proof
end

section
/-!
PROOF. The RAM of a cell: what a word reads after a write at its own or another address, the port, the shadow cell of
a gap step, and a read that finds no error (R74, R75, R77, R427).
-/

namespace Sys2Proof
namespace Machine

/-! ### RAM words -/

/-- A codeword stored at one address leaves every other address alone (R78). -/
theorem ramCode_ramPutCode (c : Cell) {a b : Nat} (w : Code) (ha : a < 512) (hb : b < 512) :
    ramCode (ramPutCode c a w) b = if b = a then w else ramCode c b := by
  change smGet 0 (smSet 0 (ramPhys c a) w c.ram) (ramPhys c b) = _
  split
  · next h => rw [h, smGet_smSet_same]
  · next h => exact smGet_smSet_other _ _ _ _ _ fun e => h (ramPhys_inj c b a hb ha e)

/-- A codeword stored where it already stands changes no word, whatever the address. -/
theorem ramCode_ramPutCode_self (c : Cell) (a b : Nat) : ramCode (ramPutCode c a (ramCode c a)) b = ramCode c b := by
  change smGet 0 (smSet 0 (ramPhys c a) (ramCode c a) c.ram) (ramPhys c b) = _
  by_cases h : ramPhys c b = ramPhys c a
  · rw [h, smGet_smSet_same, ramCode, ramCode, h]
  · exact smGet_smSet_other _ _ _ _ _ h

/-- A write through the write port drops what waits for its address (R75). -/
theorem wb_ramWrite_ne (c : Cell) (a : Nat) (w : Word) : ∀ e ∈ (ramWrite c a w).wb, e.1 ≠ a := fun _ he =>
  bne_iff_ne.1 (List.mem_filter.1 he).2

/-- Cells of one row in different columns are different cells. -/
theorem cid_ne_of_pcol_ne {q q' : Nat} (p r : Nat) (h : q ≠ q') : cid p q r ≠ cid p q' r := by
  unfold cid
  omega

/-- Once a cell is replaced, nothing but that one of the stored cells differs. -/
theorem setCell_frame (s : State) (n : Nat) (c : Cell) :
    setCell s n c = { s with array := { s.array with cells := (setCell s n c).array.cells } } ∧
      ∀ k, k ≠ n → cell (setCell s n c) k = cell s k :=
  ⟨rfl, fun k hk => cell_setCell_other s n c k hk⟩

/-! ### A read without an error -/

theorem eccCheck_of_uninjected {s : State} {src : Nat} (chk : Nat) (c : Code) (h : fgetB s FLT_INJ_ACTIVE src = false) :
    eccCheck s src chk c = (s, ⟨eccJudge c, eccSyn c, false, false⟩) := by
  simp [eccCheck, injTake, h, eccCheckWith]

/-- A read that finds no error delivers the word and leaves the codeword as read (R65, R76). -/
theorem ramRead_clean {s : State} {p q r a : Nat} (access : Nat) {d : Word} (hi : fgetB s FLT_INJ_ACTIVE (cabSrc p) = false)
    (hd : eccJudge (ramCode (cell s (cid p q r)) a) = .clean d) :
    ramRead s p q r a access 0 =
      (setCell s (cid p q r) (ramPutCode (cell s (cid p q r)) a (ramCode (cell s (cid p q r)) a)), ⟨d, false⟩) := by
  simp [ramRead, eccCheck_of_uninjected _ _ hi, hd]

/-! ### The shadow cell of a gap step -/

theorem mirrorWrite_of_no_step {s : State} {p : Nat} (lcol r a : Nat) (w : Word) (h : (cab s p).gapPh = 0) :
    mirrorWrite s p lcol r a w = s := by
  simp [mirrorWrite, h]

/-- While a gap step copies or compares a column, its writes go to the shadow too (R427). -/
theorem mirrorWrite_of_step {s : State} {p lcol : Nat} (r a : Nat) (w : Word) (hc : (cab s p).gapCol = lcol)
    (hg : (cab s p).gapPh = 1 ∨ (cab s p).gapPh = 2 ∨ (cab s p).gapPh = 3) :
    mirrorWrite s p lcol r a w =
      setCell s (cid p (gapPos s p) r) (ramWrite (cell s (cid p (gapPos s p) r)) a w) := by
  simp [mirrorWrite, hc, hg]

/-! ### The three commands -/

theorem run_of_ok {ok : Bool} (h : ok = true) (t : State) : run ok t = .next t := by rw [h, run_true]

theorem exec_ramWriteBack {s t : State} {p q r : Nat} (h : cellOk p q r = true) (ht : ramWriteBack p q r s = t) :
    exec (.ramWriteBack p q r) s = .next t := ht ▸ run_of_ok h _

theorem exec_ramPatrolRead {s t : State} {p q r : Nat} {err : Code} (h : cellOk p q r = true) (ht : ramPatrol p q r err s = t) :
    exec (.ramPatrolRead p q r err) s = .next t := ht ▸ run_of_ok h _

theorem exec_configPortRamAccess {s t : State} {p q r a : Nat} {wr : Bool} {w : Word} {err : Code} (h : cellOk p q r = true)
    (ha : a < 512) (ht : cfgPortRam p q r a wr w err s = t) : exec (.configPortRamAccess p q r a wr w err) s = .next t := by
  rw [← Nat.mod_eq_of_lt ha] at ht
  exact ht ▸ run_of_ok h _

theorem ramWriteBack_nil {s : State} {p q r : Nat} (h : (cell s (cid p q r)).wb = []) : ramWriteBack p q r s = s := by
  simp [ramWriteBack, h]

theorem ramWriteBack_cons {s : State} {p q r a : Nat} {w : Word} {l : List (Nat × Word)}
    (h : (cell s (cid p q r)).wb = (a, w) :: l) :
    ramWriteBack p q r s = setCell s (cid p q r) (ramPutCode { cell s (cid p q r) with wb := l } a (eccEnc w)) := by
  simp [ramWriteBack, h]

/-- A write through the port outside a gap step stores in the cell alone. -/
theorem cfgPortRam_write_of_no_step {s : State} {p : Nat} (q r a : Nat) (w : Word) (err : Code) (h : (cab s p).gapPh = 0) :
    cfgPortRam p q r a true w err s = setCell s (cid p q r) (ramWrite (cell s (cid p q r)) a w) := by
  have hm (lcol : Nat) := mirrorWrite_of_no_step (s := setCell s (cid p q r) (ramWrite (cell s (cid p q r)) a w)) lcol r a w h
  cases hl : lcolOf s p q <;> simp [cfgPortRam, hl, hm]

/-- A write through the port during a gap step of its column stores in the shadow cell too (R427). -/
theorem cfgPortRam_write_of_step {s : State} {p q c : Nat} (r a : Nat) (w : Word) (err : Code) (hq : q ≠ gapPos s p)
    (hl : lcolOf s p q = some c) (hc : (cab s p).gapCol = c)
    (hg : (cab s p).gapPh = 1 ∨ (cab s p).gapPh = 2 ∨ (cab s p).gapPh = 3) :
    cfgPortRam p q r a true w err s =
      setCell (setCell s (cid p q r) (ramWrite (cell s (cid p q r)) a w)) (cid p (gapPos s p) r)
        (ramWrite (cell s (cid p (gapPos s p) r)) a w) := by
  have hm := mirrorWrite_of_step (s := setCell s (cid p q r) (ramWrite (cell s (cid p q r)) a w)) r a w hc hg
  have hgap : gapPos (setCell s (cid p q r) (ramWrite (cell s (cid p q r)) a w)) p = gapPos s p := rfl
  rw [hgap, cell_setCell_other _ _ _ _ (cid_ne_of_pcol_ne p r hq.symm)] at hm
  simp [cfgPortRam, hq, hl, hm]

theorem cfgPortRam_read_clean {s : State} {p q r a : Nat} (w : Word) {d : Word} (hi : fgetB s FLT_INJ_ACTIVE (cabSrc p) = false)
    (hd : eccJudge (ramCode (cell s (cid p q r)) a) = .clean d) :
    cfgPortRam p q r a false w 0 s =
      { setCell s (cid p q r) (ramPutCode (cell s (cid p q r)) a (ramCode (cell s (cid p q r)) a)) with
        bus := { s.bus with data := d, status := 0 } } := by
  have hread := ramRead_clean 1 hi hd
  rw [cfgPortRam, if_neg Bool.false_ne_true]
  dsimp only
  rw [hread]
  rfl

/-- A patrol read in its turn moves to the next address, and reads the one that it leaves (R77). -/
theorem ramPatrol_in_turn {s : State} {p q r : Nat} (err : Code) (hr : patrolRuns s p q = true)
    (ht : (cell s (cid p q r)).patTick ≠ s.time.edges + 1) :
    ∃ c : Cell, ramPatrol p q r err s = (ramRead (setCell s (cid p q r) c) p q r (cell s (cid p q r)).pat 4 err).1 ∧
      c.pat = ((cell s (cid p q r)).pat + 1) % 512 ∧ c.patTick = s.time.edges + 1 ∧
      ∀ b, ramCode c b = ramCode (cell s (cid p q r)) b := by
  refine ⟨{ cell s (cid p q r) with pat := ((cell s (cid p q r)).pat + 1) % 512, patTick := s.time.edges + 1 },
    ?_, rfl, rfl, fun _ => rfl⟩
  simp [ramPatrol, hr, ht]

theorem ramPatrol_out_of_turn {s : State} {p q r : Nat} (err : Code)
    (h : (cell s (cid p q r)).patTick = s.time.edges + 1 ∨ patrolRuns s p q = false) : ramPatrol p q r err s = s := by
  rcases h with h | h <;> simp [ramPatrol, h]

/-- A patrol read that finds no error moves the address and the tick of the cell, and no word (R77). -/
theorem ramPatrol_clean {s : State} {p q r : Nat} {d : Word} (hr : patrolRuns s p q = true)
    (ht : (cell s (cid p q r)).patTick ≠ s.time.edges + 1) (hi : fgetB s FLT_INJ_ACTIVE (cabSrc p) = false)
    (hd : eccJudge (ramCode (cell s (cid p q r)) (cell s (cid p q r)).pat) = .clean d) :
    ∃ u c, ramPatrol p q r 0 s = setCell u (cid p q r) c ∧ u.flt = s.flt ∧ u.regs = s.regs ∧
      c.pat = ((cell s (cid p q r)).pat + 1) % 512 ∧ c.patTick = s.time.edges + 1 := by
  obtain ⟨c, hx, hpat, htick, hcode⟩ := ramPatrol_in_turn 0 hr ht
  have hread := ramRead_clean (s := setCell s (cid p q r) c) 4 hi (by rw [cell_setCell_same, hcode]; exact hd)
  rw [cell_setCell_same] at hread
  exact ⟨_, _, hx.trans (congrArg Prod.fst hread), rfl, rfl, hpat, htick⟩

/-- Settles O21: write-back, port and patrol each end in a cell whose one word is replaced or kept. -/
theorem cellRam : Obligations.CellRam := by
  refine ⟨fun s p q r a w l hk ha hwb => ?_, fun s p q r hk hwb => ?_, fun s p q r a c w err hk ha hq hl hc hg => ?_,
    fun s p q r a w err hk ha hg => ?_, fun s p q r a w d hk ha hi hd => ?_, fun s p q r d hk hr ht hi hd => ?_,
    fun s p q r err hk h => ?_⟩
  · -- the oldest corrected word goes back
    obtain ⟨hframe, hother⟩ := setCell_frame s (cid p q r) (ramPutCode { cell s (cid p q r) with wb := l } a (eccEnc w))
    refine ⟨_, exec_ramWriteBack hk (ramWriteBack_cons hwb), hframe, hother, ?_, fun b hb => ?_⟩ <;>
      rw [cell_setCell_same]
    · rfl
    · exact ramCode_ramPutCode _ _ ha hb
  · exact exec_ramWriteBack hk (ramWriteBack_nil hwb)
  · -- a port write while a gap step copies or compares the column
    refine ⟨_, exec_configPortRamAccess hk ha (cfgPortRam_write_of_step r a w err hq hl hc hg), ?_, ?_⟩
    · rw [cell_setCell_other _ _ _ _ (cid_ne_of_pcol_ne p r hq), cell_setCell_same, ramCode_ramWrite _ _ _ _ ha ha, if_pos rfl]
    · rw [cell_setCell_same, ramCode_ramWrite _ _ _ _ ha ha, if_pos rfl]
  · -- a port write outside a gap step
    obtain ⟨hframe, hother⟩ := setCell_frame s (cid p q r) (ramWrite (cell s (cid p q r)) a w)
    refine ⟨_, exec_configPortRamAccess hk ha (cfgPortRam_write_of_no_step q r a w err hg), hframe, hother, ?_,
      fun b hb => ?_⟩ <;> rw [cell_setCell_same]
    · exact wb_ramWrite_ne _ a w
    · exact ramCode_ramWrite _ _ _ _ hb ha
  · -- a port read without an error
    refine ⟨_, exec_configPortRamAccess hk ha (cfgPortRam_read_clean w hi hd), rfl, rfl, rfl, rfl, fun b _ => ?_⟩
    change ramCode (cell (setCell s _ _) _) b = _
    rw [cell_setCell_same, ramCode_ramPutCode_self]
  · -- a patrol read without an error
    obtain ⟨u, c, hx, hflt, hregs, hpat, htick⟩ := ramPatrol_clean hr ht hi hd
    refine ⟨_, exec_ramPatrolRead hk hx, hflt, hregs, ?_, ?_⟩ <;> rw [cell_setCell_same]
    · exact hpat
    · exact htick
  · exact exec_ramPatrolRead hk (ramPatrol_out_of_turn err h)

end Machine
end Sys2Proof
end

section
/-!
PROOF. Doors (R102, R104, R124): the first word of an item passes from a door buffer into its FIFO, and a border word enters
the border register or is counted at the closed door.
-/

namespace Sys2Proof
namespace Machine

/-! ### A FIFO takes the first word of an item -/

theorem fifoFreeSwap_of_not_due {s : State} {k : Nat} (h : swapDue s k = false) : fifoFreeSwap s k = s := by
  refine if_neg fun ⟨hfree, hr, hw, ho⟩ => ?_
  simp [swapDue, hfree, hr, hw, ho] at h

/-- What a stored FIFO's write changes: that FIFO, and its PEAK (R127). -/
theorem fifoPut_frame (s : State) (k : Nat) (f : Fifo) :
    fifo (fifoPut s k f) k = f ∧ (∀ j, j ≠ k → fifo (fifoPut s k f) j = fifo s j) ∧
      (∀ p, cab (fifoPut s k f) p = cab s p) ∧ (fifoPut s k f).flt = s.flt ∧ OnlyFields [(FIFO_PEAK_PEAK, k)] s (fifoPut s k f) := by
  have hsame : fifo (setFifo s k f) k = f := fifo_setFifo_same s k f
  have hother : ∀ j, j ≠ k → fifo (setFifo s k f) j = fifo s j := fifo_setFifo_other s k f
  unfold fifoPut
  dsimp only
  split
  · exact ⟨hsame, hother, fun _ => rfl, rfl, (onlyRegs_fset (setFifo s k f) FIFO_PEAK_PEAK k _).2⟩
  · exact ⟨hsame, hother, fun _ => rfl, rfl, fun _ _ _ => rfl⟩

/-- A FIFO in which item `i` has begun (R123). -/
def fifoOpened (f : Fifo) (i : FItem) : Fifo :=
  { f with wopen := some i, ovr := false, disc := false, skip := false, skipLeft := 0 }

/-- The start word of an item of more than one word, where the FIFO is between items and has room for it (R119, R123). -/
theorem fifoWrite_start {s : State} {k len : Nat} (d : Code) (prio : Nat) (poison : Bool) (tag : Nat)
    (hswap : swapDue s k = false) (hopen : (fifo s k).wopen = none) (hskip : (fifo s k).skip = false)
    (hdisc : (fifo s k).disc = false) (hovr : (fifo s k).ovr = false) (hroom : fifoWBank (fifo s k) + len + 1 ≤ 512)
    (hlen : 0 < len) :
    fifoWrite s k d true false len prio poison tag =
      fifoPut s k (fifoOpened (fifo s k) { prio := prio, poison := poison, tag := tag, decl := len, words := [d] }) := by
  have hready : fifoWReady (fifo s k) true len = true := by simpa [fifoWReady] using hroom
  simp [fifoWrite, fifoFreeSwap_of_not_due hswap, hready, hskip, hdisc, hopen, fifoBegin, fifoClose, fifoSettle, fifoOpened, hovr,
    Nat.ne_of_gt hlen]

/-! ### Door buffers (R102, R124) -/

theorem exec_doorBufferDrain {s : State} {p port : Nat} (hp : p < 100) (hport : port < 12) :
    exec (.doorBufferDrain p port) s = .next (doorDrain s p port) := run_of_ok (by simp [hp, hport]) _

theorem doorDrain_of_nothing {s : State} {p port : Nat} (h : portFifo p port = none ∨ smGet [] (cab s p).dbuf port = []) :
    doorDrain s p port = s := by
  rcases h with h | h
  · simp [doorDrain, h]
  · cases hk : portFifo p port <;> simp [doorDrain, h, hk]

/-- Cabinet `p` once the oldest word of the buffer of `port` has left it as the first of an item. -/
def doorFirstOut (s : State) (p port : Nat) (l : List DWord) : State :=
  setCab s p { cab s p with dbuf := smSet [] port l (cab s p).dbuf, dfrm := smSet 0 port 1 (cab s p).dfrm }

theorem dbuf_doorFirstOut (s : State) (p port : Nat) (l : List DWord) :
    smGet [] (cab (doorFirstOut s p port l) p).dbuf port = l := by
  rw [doorFirstOut, cab_setCab_same, smGet_smSet_same]

/-- The item that door word `d` begins in FIFO `k`, framed by FIFO_WFRAME (R124, R180). -/
def doorItem (s : State) (k : Nat) (d : DWord) : FItem :=
  { prio := fget s FIFO_WFRAME_PRIO k, poison := false, tag := d.tick % 256, decl := fget s FIFO_WFRAME_ILENM1 k,
    words := [eccEnc d.w] }

/-- The first word of an item of more than one word begins the item in the FIFO (R124). -/
theorem doorDrain_first {s : State} {p port k : Nat} {d : DWord} {l : List DWord} (hk : portFifo p port = some k)
    (hb : smGet [] (cab s p).dbuf port = d :: l) (hopen : (fifo s k).wopen = none) (hskip : (fifo s k).skip = false)
    (hdisc : (fifo s k).disc = false) (hovr : (fifo s k).ovr = false) (hswap : swapDue s k = false)
    (hroom : fifoWBank (fifo s k) + fget s FIFO_WFRAME_ILENM1 k + 1 ≤ 512) (hen : d.en = false)
    (hlen : 0 < fget s FIFO_WFRAME_ILENM1 k) :
    doorDrain s p port = fifoPut (doorFirstOut s p port l) k (fifoOpened (fifo s k) (doorItem s k d)) := by
  have hready : fifoWReady (fifo s k) true (fget s FIFO_WFRAME_ILENM1 k) = true := by simpa [fifoWReady] using hroom
  have hout : doorDrain s p port = fifoWrite (doorFirstOut s p port l) k (eccEnc d.w) true false
      (fget s FIFO_WFRAME_ILENM1 k) (fget s FIFO_WFRAME_PRIO k) false (d.tick % 256) := by
    simp [doorDrain, hk, hb, hopen, hready, hen, Nat.ne_of_lt hlen, doorFirstOut]
  exact hout.trans (fifoWrite_start (s := doorFirstOut s p port l) _ _ _ _ hswap hopen hskip hdisc hovr hroom hlen)

/-- A word waits in the buffer while the FIFO does not take it (R102). -/
theorem doorDrain_of_not_ready {s : State} {p port k : Nat} (hk : portFifo p port = some k)
    (hready : fifoWReady (fifo s k) (decide ((fifo s k).wopen = none)) (fget s FIFO_WFRAME_ILENM1 k) = false)
    (hmid : ∀ i : FItem, (fifo s k).wopen = some i → smGet 0 (cab s p).dfrm port ≠ 0) : doorDrain s p port = s := by
  cases hb : smGet [] (cab s p).dbuf port with
  | nil => exact doorDrain_of_nothing (.inr hb)
  | cons d l =>
    cases ho : (fifo s k).wopen with
    | none =>
      have hno : fifoWReady (fifo s k) true (fget s FIFO_WFRAME_ILENM1 k) = false := by simpa [ho] using hready
      simp [doorDrain, hk, hb, ho, hno]
    | some i =>
      have hno : fifoWReady (fifo s k) false (fget s FIFO_WFRAME_ILENM1 k) = false := by simpa [ho] using hready
      simp [doorDrain, hk, hb, ho, hmid i ho, hno]

/-! ### Border channels (R104) -/

theorem exec_borderWordArrival {s : State} {p i : Nat} (hp : p < 100) (hi : i < 16) :
    exec (.borderWordArrival p i) s = .next (borderArrive s p i) := run_of_ok (by simp [hp, hi]) _

theorem borderArrive_of_off {s : State} {p i : Nat} (h : borderOn s p i = false) : borderArrive s p i = s := by
  cases hq : borderPeer p i <;> simp [borderArrive, hq, h]

/-- The edge cell of the joined cabinet at channel `n`. -/
abbrev peerCell (s : State) (q n : Nat) : Nat := cid q (pcolOf s q (borderCell n).1) (borderCell n).2.1

/-- What that cell presents in its cycle. -/
abbrev peerWire (s : State) (q n : Nat) : Word × Bool :=
  outWire s (peerCell s q n) (borderCell n).2.2 (cell s (peerCell s q n)).t

theorem borderArrive_closed {s : State} {p i q n : Nat} (hq : borderPeer p i = some (q, n)) (hc : convChan p i = none)
    (hon : borderOn s p i = true) (hopen : doorsOpen s q = true) (hclosed : doorsOpen s p = false)
    (hv : (peerWire s q n).2 = true) :
    borderArrive s p i = finc (advanceTo s (cell s (peerCell s q n)).t) CAB_DOOR_STAT_CLOSED_DROP p := by
  simp [borderArrive, hq, hc, hon, hopen, hclosed, hv]

theorem borderArrive_open {s : State} {p i q n : Nat} (hq : borderPeer p i = some (q, n)) (hc : convChan p i = none)
    (hon : borderOn s p i = true) (hopen : doorsOpen s q = true) (hin : doorsOpen s p = true) :
    borderArrive s p i = setCab (advanceTo s (cell s (peerCell s q n)).t) p { cab s p with
      bin := smSet {} i ((smGet ({} : OutReg) (cab s p).bin i).put (cell s (peerCell s q n)).t
        (peerWire s q n).1 (peerWire s q n).2) (cab s p).bin } := by
  have hcab : cab (advanceTo s (cell s (peerCell s q n)).t) p = cab s p := by
    rw [cab, (advanceTo_parts s _).2.1, cab]
  simp [borderArrive, hq, hc, hon, hopen, hin, hcab]

/-! ### Counters -/

theorem onlyRegs_finc (s : State) (f : Fld) (i : Nat) : OnlyRegs [(f, i)] s (finc s f i) := onlyRegs_fset s f i _

theorem fget_finc_same (s : State) (f : Fld) (i : Nat) : fget (finc s f i) f i = min (fget s f i + 1) (2 ^ f.width - 1) := by
  have hpos : 0 < 2 ^ f.width := Nat.two_pow_pos _
  refine (fget_fset_same s f i _).trans (Nat.mod_eq_of_lt ?_)
  omega

theorem fget_advanceTo (s : State) (n : Nat) (f : Fld) (i : Nat) : fget (advanceTo s n) f i = fget s f i := by
  rw [fget, (advanceTo_parts s n).1, fget]

/-- Settles O23: the buffer's oldest word opens the FIFO's next item, and a border word is stored or counted. -/
theorem doorsAndBorders : Obligations.DoorsAndBorders := by
  refine ⟨fun s p port k d l hp hport hk hb hopen hskip hdisc hovr hswap hroom hen hlen => ?_,
    fun s p port k hp hport hk hready hmid => ?_, fun s p port hp hport h => ?_,
    fun s p i q n hp hi hq hc hon hopen hclosed hv => ?_, fun s p i q n hp hi hq hc hon hopen hin => ?_,
    fun s p i hp hi hoff => ?_⟩
  · -- the first word of an item leaves the buffer
    obtain ⟨hsame, hother, hcab, hflt, hregs⟩ :=
      fifoPut_frame (doorFirstOut s p port l) k (fifoOpened (fifo s k) (doorItem s k d))
    refine ⟨_, (exec_doorBufferDrain hp hport).trans
      (congrArg _ (doorDrain_first hk hb hopen hskip hdisc hovr hswap hroom hen hlen)), ?_, hflt, hregs, ?_, ?_, hother⟩
    · rw [hcab, dbuf_doorFirstOut]
    · rw [hsame, fifoOpened]
    · rw [hsame, fifoOpened, doorItem]
  · rw [exec_doorBufferDrain hp hport, doorDrain_of_not_ready hk hready hmid]
  · rw [exec_doorBufferDrain hp hport, doorDrain_of_nothing h]
  · -- a word at a closed door is counted
    obtain ⟨-, harray, -⟩ := advanceTo_parts s (cell s (peerCell s q n)).t
    refine ⟨_, (exec_borderWordArrival hp hi).trans (congrArg _ (borderArrive_closed hq hc hon hopen hclosed hv)),
      fun f j hf => ?_, harray, ?_⟩
    · rw [(onlyRegs_finc _ _ p).2 f j hf, fget_advanceTo]
    · rw [fget_finc_same, fget_advanceTo]
  · -- a word at an open door enters the border register
    obtain ⟨hregs, harray, -⟩ := advanceTo_parts s (cell s (peerCell s q n)).t
    have hcells : (advanceTo s (cell s (peerCell s q n)).t).array.cells = s.array.cells := by rw [harray]
    refine ⟨_, (exec_borderWordArrival hp hi).trans (congrArg _ (borderArrive_open hq hc hon hopen hin)), hregs, hcells, ?_⟩
    rw [cab_setCab_same, smGet_smSet_same]
  · rw [exec_borderWordArrival hp hi, borderArrive_of_off hoff]

end Machine
end Sys2Proof
end

section
/-!
PROOF. The end of a drain window (R106, R169) in a state whose FENCED lists more than its one bit: the guard, stage by
stage.
-/

namespace Sys2Proof
namespace Machine

theorem exec_drainWindowEnd {s : State} {p : Nat} (hp : p < 100) :
    exec (.drainWindowEnd p) s = .next (drainWindowEnd s p) := run_of_ok (decide_eq_true hp) _

/-- ACLK stands still at a cycle that has come. -/
theorem advanceTo_of_reached {s : State} {n : Nat} (h : n ≤ s.time.now) : advanceTo s n = s := if_neg (Nat.not_lt.2 h)

/-- The reserve cabinet 44 drains, its window is over in the last cycle of a tick whose guard has not run, and the store
lists 2 for its one-bit FENCED. -/
def wideFenceDraining : State :=
  { regs := [(fkey CAB_STATE_FENCED 44, 2), (fkey CAB_STATE_STATE 44, stDRAINING)], time := { running := true, now := 1499 } }

/-- The same with the cabinet EMPTY. -/
def wideFenceEmpty : State := { wideFenceDraining with regs := [(fkey CAB_STATE_FENCED 44, 2)] }

/-- The cabinet goes EMPTY at guard cycle 7; a fence that stands is left as it is (`fenceSet`). -/
theorem guardCabs_wideFence : eachCab guardCab wideFenceDraining = wideFenceEmpty := by decide +kernel

theorem guardSwitch_wideFence : guardSwitch wideFenceDraining = wideFenceEmpty := by
  have hnow (n : Nat) (h : n ≤ 1499) : advanceTo wideFenceDraining n = wideFenceDraining := advanceTo_of_reached h
  have hat : guardAt wideFenceDraining = 1476 := by decide +kernel
  have hcaps : eachCab (offsetCapture 1476 1481) wideFenceDraining = wideFenceDraining := by decide +kernel
  have hgaps : eachCab gapSwap wideFenceDraining = wideFenceDraining := by decide +kernel
  have hdoors : eachCab doorLatch wideFenceEmpty = wideFenceEmpty := by decide +kernel
  have hend : advanceTo wideFenceEmpty 1484 = wideFenceEmpty := advanceTo_of_reached (by decide)
  have hswap : setInstances wideFenceDraining FIFO_MODE_SWAP = [] := by decide
  have horder : setInstances wideFenceDraining FIFO_MODE_ORDER_PEND = [] := by decide
  simp [guardSwitch, hat, hnow, hswap, horder, hcaps, hgaps, guardCabs_wideFence, hend, hdoors]

theorem tickGuard_wideFence : tickGuard wideFenceDraining = setTime wideFenceEmpty { wideFenceEmpty.time with guarded := true } := by
  have hat : guardAt wideFenceDraining = 1476 := by decide +kernel
  have hstatus : guardStatus wideFenceDraining = wideFenceDraining := by decide +kernel
  have hcaps : eachCab (offsetCapture 1482 1499) wideFenceEmpty = wideFenceEmpty := by decide +kernel
  have hend : eachCab gapTransfer (eachCab guardCapture wideFenceEmpty) = wideFenceEmpty := by decide +kernel
  have hnow : advanceTo wideFenceEmpty 1499 = wideFenceEmpty := advanceTo_of_reached (by decide)
  have hrun : wideFenceDraining.time.guarded = false ∧ wideFenceDraining.time.running = true := ⟨rfl, rfl⟩
  simp [tickGuard, hrun, hat, hstatus, guardSwitch_wideFence, hcaps, hnow, hend]

/-- Refutes O24: its drain clause takes any state, also one whose store holds a value that FENCED's one bit cannot. The
guard sets a fence only where FENCED reads 0 (R169), and so leaves 2 where the clause asks for 1. -/
theorem not_captureAndDrain : ¬ Obligations.CaptureAndDrain := by
  rintro ⟨-, -, hdrain, -⟩
  obtain ⟨t, ht, -, hfenced, -⟩ := hdrain wideFenceDraining 44 (by decide) (by decide) (by decide) rfl rfl (by decide) rfl
  have hend : drainWindowEnd wideFenceDraining 44 = setTime wideFenceEmpty { wideFenceEmpty.time with guarded := true } :=
    (if_pos (by decide)).trans tickGuard_wideFence
  rw [exec_drainWindowEnd (by decide), Host.Outcome.next.injEq, hend] at ht
  rw [← ht] at hfenced
  exact absurd hfenced (by decide)

end Machine
end Sys2Proof
end

section
/-!
PROOF. Stream FIFOs (chapter 05): each command of the write side, the read side and the register side, in each case that the
statement tells apart, is one replacement of the FIFO beside PEAK, the counts, a record or the answer.
-/

namespace Sys2Proof
namespace Machine

/-! ### Which fields differ -/

theorem fkey_ne_of_id_ne {f g : Fld} (i : Nat) (h : f.id ≠ g.id) : fkey f i ≠ fkey g i := by
  unfold fkey
  omega

theorem onlyFields_trans {l m : List (Fld × Nat)} {s t u : State} (h : OnlyFields l s t) (h' : OnlyFields m t u) :
    OnlyFields (l ++ m) s u := fun f i hk => by
  rw [h' f i fun e he => hk e (List.mem_append_right l he), h f i fun e he => hk e (List.mem_append_left m he)]

theorem onlyRegs_mono {l m : List (Fld × Nat)} {s t : State} (hlm : l ⊆ m) (h : OnlyRegs l s t) : OnlyRegs m s t :=
  ⟨h.1, fun f i hk => h.2 f i fun e he => hk e (hlm he)⟩

/-- Where one field of a place may differ, its other fields keep their values. -/
theorem fget_of_onlyFields {g : Fld} {s t : State} {f : Fld} {i : Nat} (h : OnlyFields [(g, i)] s t) (hg : g.id ≠ f.id) :
    fget t f i = fget s f i :=
  h f i fun e he => by
    rw [List.mem_singleton.1 he]
    exact fkey_ne_of_id_ne i hg

theorem onlyRegs_finc_if (c : Prop) [Decidable c] (s : State) (f : Fld) (i : Nat) :
    OnlyRegs [(f, i)] s (if c then finc s f i else s) := by
  split
  · exact onlyRegs_finc s f i
  · exact onlyRegs_mono (List.nil_subset _) (onlyRegs_refl [] s)

/-! ### The write side (R119, R123) -/

theorem exec_fifoWrite {s t : State} {k len prio : Nat} {w : Word} {st en pois : Bool} (hk : fifoExists k = true)
    (ht : fifoWrite s k (eccEnc w) st en (len % 64) (prio % 8) pois (s.time.tick % 256) = t) :
    exec (.fifoWrite k w st en len prio pois) s = .next t := ht ▸ run_of_ok hk _

/-- No swap takes place while an item is open (R121). -/
theorem swapDue_of_open {s : State} {k : Nat} {i : FItem} (h : (fifo s k).wopen = some i) : swapDue s k = false := by
  simp [swapDue, h]

theorem fifoWReady_start {f : Fifo} {len : Nat} : fifoWReady f true len = decide (fifoWBank f + len + 1 ≤ 512) := by
  simp [fifoWReady]

theorem fifoWReady_later {f : Fifo} {len : Nat} (h : f.skip = false) : fifoWReady f false len = decide (fifoWBank f < 512) := by
  simp [fifoWReady, h]

/-- A word that finds WREADY low waits (R119). -/
theorem fifoWrite_of_not_ready {s : State} {k len : Nat} {st : Bool} (d : Code) (en : Bool) (prio : Nat) (poison : Bool)
    (tag : Nat) (hswap : swapDue s k = false) (h : fifoWReady (fifo s k) st len = false) :
    fifoWrite s k d st en len prio poison tag = s := by
  simp [fifoWrite, fifoFreeSwap_of_not_due hswap, h]

/-- The item that FIFO_WRITE begins in state `s` with word `w` (R118, R123). -/
def itemBegun (s : State) (w : Word) (len prio : Nat) (pois : Bool) : FItem :=
  { prio := prio % 8, poison := pois, tag := s.time.tick % 256, decl := len % 64, words := [eccEnc w] }

/-- A FIFO with item `i` written last and complete, and none open (R123). -/
def fifoEnded (f : Fifo) (i : FItem) : Fifo :=
  { f with w := f.w ++ [i], wopen := none, ovr := false, disc := false, skip := false }

/-- An item of one word begins and ends with it (R123). -/
theorem fifoWrite_single {s : State} {k len : Nat} (d : Code) (prio : Nat) (poison : Bool) (tag : Nat)
    (hswap : swapDue s k = false) (hopen : (fifo s k).wopen = none) (hskip : (fifo s k).skip = false)
    (hdisc : (fifo s k).disc = false) (hovr : (fifo s k).ovr = false) (hroom : fifoWBank (fifo s k) + len + 1 ≤ 512) :
    fifoWrite s k d true true len prio poison tag =
      fifoPut s k { fifoEnded (fifo s k) { prio := prio, poison := poison, tag := tag, decl := len, words := [d] } with
        skipLeft := 0 } := by
  have hready : fifoWReady (fifo s k) true len = true := fifoWReady_start.trans (decide_eq_true hroom)
  simp [fifoWrite, fifoFreeSwap_of_not_due hswap, hready, hskip, hdisc, hopen, hovr, fifoBegin, fifoClose, fifoSettle,
    fifoEnded]

/-- The word with WEND completes the open item (R123). -/
theorem fifoWrite_last {s : State} {k : Nat} {i : FItem} (d : Code) (len prio : Nat) (poison : Bool) (tag : Nat)
    (hopen : (fifo s k).wopen = some i) (hovr : i.ovr = false) (hskip : (fifo s k).skip = false)
    (hdisc : (fifo s k).disc = false) (hroom : fifoWBank (fifo s k) < 512) :
    fifoWrite s k d false true len prio poison tag =
      fifoPut s k (fifoEnded (fifo s k) { i with words := i.words ++ [d], poison := i.poison || poison }) := by
  have hready : fifoWReady (fifo s k) false len = true := (fifoWReady_later hskip).trans (decide_eq_true hroom)
  simp [fifoWrite, fifoFreeSwap_of_not_due (swapDue_of_open hopen), hready, hskip, hdisc, hopen, hovr, fifoEnded]

/-- A FIFO in which item `j` has begun while item `i` was open, which ends poisoned (R123, second row). -/
def fifoRestarted (f : Fifo) (i j : FItem) : Fifo := fifoOpened { f with w := f.w ++ [{ i with poison := true }] } j

/-- A start word while an item is open poisons that item, begins its own and is a protocol error (R123, second row). -/
theorem fifoWrite_start_of_open {s : State} {k len : Nat} {i : FItem} (d : Code) (prio : Nat) (poison : Bool) (tag : Nat)
    (hopen : (fifo s k).wopen = some i) (hovr : (fifo s k).ovr = false) (hroom : fifoWBank (fifo s k) + len + 1 ≤ 512)
    (hlen : len ≠ 0) :
    fifoWrite s k d true false len prio poison tag =
      fifoProto (fifoPut s k (fifoRestarted (fifo s k) i
        { prio := prio, poison := poison, tag := tag, decl := len, words := [d] })) k := by
  have hready : fifoWReady (fifo s k) true len = true := fifoWReady_start.trans (decide_eq_true hroom)
  simp [fifoWrite, fifoFreeSwap_of_not_due (swapDue_of_open hopen), hready, hopen, hovr, hlen, fifoBegin, fifoClose, fifoSettle,
    fifoRestarted, fifoOpened]

/-- A word beyond an item's declared length poisons the item and is a protocol error (R123, third row). -/
theorem fifoWrite_overrun {s : State} {k : Nat} (d : Code) (en : Bool) (len prio : Nat) (poison : Bool) (tag : Nat)
    (hswap : swapDue s k = false) (hopen : (fifo s k).wopen = none) (hovr : (fifo s k).ovr = true)
    (hskip : (fifo s k).skip = false) (hdisc : (fifo s k).disc = false) (hroom : fifoWBank (fifo s k) < 512) :
    fifoWrite s k d false en len prio poison tag =
      fifoProto (setFifo s k { poisonLast (fifo s k) with ovr := false, disc := !en }) k := by
  have hready : fifoWReady (fifo s k) false len = true := (fifoWReady_later hskip).trans (decide_eq_true hroom)
  simp [fifoWrite, fifoFreeSwap_of_not_due hswap, hready, hskip, hdisc, hopen, hovr]

/-- Only the item that its words overran is poisoned. -/
theorem map_overrun_of_last {l : List FItem} {i : FItem} (hl : ∀ x ∈ l, x.ovr = false) (hi : i.ovr = true) :
    (l ++ [i]).map FItem.overrun = l ++ [{ i with poison := true, ovr := false }] := by
  have hsame : ∀ x ∈ l, x.overrun = id x := fun x hx => if_neg (Bool.eq_false_iff.1 (hl x hx))
  have hkeep : l.map FItem.overrun = l := (List.map_congr_left hsame).trans (List.map_id l)
  simp [hkeep, FItem.overrun, hi]

/-- What a protocol error changes: PROTO counts it, and one U-class event names the FIFO (R123). -/
theorem fifoProto_frame (s : State) (k : Nat) :
    (∀ j, fifo (fifoProto s k) j = fifo s j) ∧ OnlyFields [(FIFO_ERR_PROTO, k)] s (fifoProto s k) ∧
      fget (fifoProto s k) FIFO_ERR_PROTO k = min (fget s FIFO_ERR_PROTO k + 1) (2 ^ FIFO_ERR_PROTO.width - 1) ∧
      ∃ e : FaultEvt, (fifoProto s k).flt.raised = s.flt.raised ++ [e] ∧ e.cls = clsU ∧ e.addr = k ∧ e.src = fifoSrc k :=
  ⟨fun _ => rfl, (onlyRegs_finc s FIFO_ERR_PROTO k).2, fget_finc_same s FIFO_ERR_PROTO k, _, rfl, rfl, rfl, rfl⟩

/-! ### The read side (R118, R125, R131) -/

theorem exec_fifoRead {s : State} {k : Nat} (err : Code) (hk : fifoExists k = true) :
    exec (.fifoRead k err) s = .next (fifoReadCmd s k err) := run_of_ok hk _

/-- A FIFO whose reader has taken the first word of item `i`, before the items `r`, and has the words `l` of it left. -/
def fifoFirstTaken (f : Fifo) (i : FItem) (r : List FItem) (l : List Code) : Fifo :=
  { f with r := r, rpois := false, cur := if l = [] then none else some { i with words := l } }

/-- In ARRIVAL order the next word is the first of the oldest item (R125). -/
theorem fifoHead_arrival {s : State} {k : Nat} {i : FItem} {r : List FItem} {c : Code} {l : List Code}
    (hcur : (fifo s k).cur = none) (hr : (fifo s k).r = i :: r) (hw : i.words = c :: l) (hord : fget s FIFO_MODE_ORDER k = 0) :
    fifoHead s k = some (c, true, i, fifoFirstTaken (fifo s k) i r l) := by
  simp [fifoHead, hcur, hr, hw, hord, pickItem, fifoFirstTaken]

theorem fifoHead_of_empty {s : State} {k : Nat} (hcur : (fifo s k).cur = none) (hr : (fifo s k).r = []) :
    fifoHead s k = none := by
  simp [fifoHead, hcur, hr, pickItem, pickPrio]

/-- The first word of an item is delivered as it was written where its check finds no error (R118, R130). -/
theorem fifoReadCmd_clean {s : State} {k : Nat} {c : Code} {d : Word} {i : FItem} {r : List FItem} {l : List Code}
    (hhead : fifoHead s k = some (c, true, i, fifoFirstTaken (fifo s k) i r l)) (hpois : i.poison = false)
    (hd : eccJudge c = .clean d) (hi : fgetB s FLT_INJ_ACTIVE (fifoSrc k) = false) :
    fifoReadCmd s k 0 = { setFifo s k (fifoFirstTaken (fifo s k) i r l) with
      bus := { data := d, status := 0, bytes := [1, if l = [] then 1 else 0, BitVec.ofNat 8 i.prio, 0] } } := by
  have hread : fifoRead s k 0 = (setFifo s k (fifoFirstTaken (fifo s k) i r l),
      some ⟨d, true, decide (l = []), i.prio, false, i.tag⟩) := by
    by_cases hl : l = [] <;>
      simp [fifoRead, hhead, eccCheck_of_uninjected _ _ hi, hd, hpois, fifoFirstTaken, hl]
  rw [fifoReadCmd, hread]
  simp [readMarks, flagByte]

/-- An empty reading bank gives no word; RCUT is told once (R118, R128). -/
theorem fifoReadCmd_of_empty {s : State} {k : Nat} (err : Code) (h : fifoHead s k = none) :
    fifoReadCmd s k err = { setFifo s k { fifo s k with rcut := false } with
      bus := { data := 0, status := if (fifo s k).rcut then 3 else 1, bytes := [] } } := by
  simp [fifoReadCmd, fifoRead, h]

/-! ### Swap and flush (R121, R128, R129) -/

theorem exec_fifoFreeSwap {s : State} {k : Nat} (hk : fifoExists k = true) :
    exec (.fifoFreeSwap k) s = .next (fifoFreeSwap s k) := run_of_ok hk _

theorem fifoFreeSwap_of_due {s : State} {k : Nat} (h : swapDue s k = true) :
    fifoFreeSwap s k = setFifo s k (fifoSwap (fifo s k)) := by
  refine if_pos ?_
  simpa [swapDue, and_assoc] using h

theorem exec_fifoFlush {s : State} {k : Nat} (hk : fifoExists k = true) :
    exec (.fifoFlush k) s = .next (fifoFlush s k) := run_of_ok hk _

/-- A FIFO after a flush: no word, the rest of an open item to be skipped, an item being read cut (R128, R129). -/
def fifoFlushed (f : Fifo) : Fifo :=
  { f with w := [], wopen := none, ovr := false, disc := false, r := [], cur := none, rpois := false, rcut := f.cur.isSome,
           skip := f.skip || f.wopen.isSome,
           skipLeft := match f.wopen with | none => f.skipLeft | some i => i.decl + 1 - i.words.length }

/-- A flush empties the FIFO, its stream's order is unsynchronised (R153), and two counts may rise. -/
theorem fifoFlush_onlyRegs (s : State) (k : Nat) :
    OnlyRegs [(FIFO_EVT_READ_CUT, k), (FIFO_EVT_FLUSH_PARTIAL, k)]
      (setFifo { s with noc := { s.noc with seqr := smErase k s.noc.seqr } } k (fifoFlushed (fifo s k))) (fifoFlush s k) :=
  onlyRegs_trans (onlyRegs_finc_if _ _ FIFO_EVT_READ_CUT k) (onlyRegs_finc_if _ _ FIFO_EVT_FLUSH_PARTIAL k)

theorem fifoFlush_frame (s : State) (k : Nat) :
    fifo (fifoFlush s k) k = fifoFlushed (fifo s k) ∧ (∀ j, j ≠ k → fifo (fifoFlush s k) j = fifo s j) ∧
      OnlyFields [(FIFO_EVT_READ_CUT, k), (FIFO_EVT_FLUSH_PARTIAL, k)] s (fifoFlush s k) ∧ (fifoFlush s k).flt = s.flt := by
  obtain ⟨heq, hfields⟩ := fifoFlush_onlyRegs s k
  have hfifo := congrArg State.fifo heq
  have hflt := congrArg State.flt heq
  refine ⟨?_, fun j hj => ?_, hfields, hflt⟩
  · rw [fifo, hfifo]
    exact fifo_setFifo_same ..
  · rw [fifo, hfifo]
    exact fifo_setFifo_other _ k _ j hj

/-! ### The register commands (R127, R133) -/

theorem exec_fifoModeWrite {s : State} {k : Nat} (swap : Nat) (hk : fifoExists k = true) :
    exec (.fifoModeWrite k (swap, none)) s = .next (fifoModeSwap s k (swap % 2)) := congrArg Host.Outcome.next (if_pos hk)

theorem exec_fifoModeWrite_framing {s : State} {k : Nat} (swap prio ilen : Nat) (hk : fifoExists k = true) :
    exec (.fifoModeWrite k (swap, some (prio, ilen))) s = .next (fifoFrame (fifoModeSwap s k (swap % 2)) k prio ilen) :=
  congrArg Host.Outcome.next (if_pos hk)

theorem exec_fifoModeWrite_of_none {s : State} {k : Nat} (v : Nat × Option (Nat × Nat)) (hk : fifoExists k = false) :
    exec (.fifoModeWrite k v) s = .next s := congrArg Host.Outcome.next (if_neg (Bool.eq_false_iff.1 hk))

/-- SWAP is written while the FIFO is empty (R133). -/
theorem fifoModeSwap_of_empty {s : State} {k : Nat} (v : Nat) (h : fifoWords (fifo s k) = 0 ∧ (fifo s k).wopen = none) :
    fifoModeSwap s k v = fset s FIFO_MODE_SWAP k v := if_pos h

/-- A write of SWAP is refused while the FIFO holds a word or an open item (R133). -/
theorem fifoModeSwap_of_held {s : State} {k : Nat} (v : Nat) (h : ¬ (fifoWords (fifo s k) = 0 ∧ (fifo s k).wopen = none)) :
    fifoModeSwap s k v = fset s FIFO_MODE_REFUSED k 1 := if_neg h

theorem onlyRegs_fifoModeSwap (s : State) (k v : Nat) :
    OnlyRegs [(FIFO_MODE_SWAP, k), (FIFO_MODE_REFUSED, k)] s (fifoModeSwap s k v) := by
  by_cases h : fifoWords (fifo s k) = 0 ∧ (fifo s k).wopen = none
  · rw [fifoModeSwap_of_empty v h]
    exact onlyRegs_mono (by simp) (onlyRegs_fset s FIFO_MODE_SWAP k v)
  · rw [fifoModeSwap_of_held v h]
    exact onlyRegs_mono (by simp) (onlyRegs_fset s FIFO_MODE_REFUSED k 1)

/-- Of the framing fields, EN is written last and at most. -/
theorem fifoFrame_enable (s : State) (k prio ilen : Nat) :
    OnlyRegs [(FIFO_WFRAME_EN, k)] (fset (fset s FIFO_WFRAME_PRIO k prio) FIFO_WFRAME_ILENM1 k ilen)
      (fifoFrame s k prio ilen) := by
  unfold fifoFrame
  dsimp only
  split
  · exact onlyRegs_fset _ FIFO_WFRAME_EN k 1
  · exact onlyRegs_mono (List.nil_subset _) (onlyRegs_refl [] _)

theorem onlyRegs_fifoFrame (s : State) (k prio ilen : Nat) :
    OnlyRegs [(FIFO_WFRAME_PRIO, k), (FIFO_WFRAME_ILENM1, k), (FIFO_WFRAME_EN, k)] s (fifoFrame s k prio ilen) :=
  onlyRegs_trans (onlyRegs_fset s FIFO_WFRAME_PRIO k prio)
    (onlyRegs_trans (onlyRegs_fset _ FIFO_WFRAME_ILENM1 k ilen) (fifoFrame_enable s k prio ilen))

theorem fget_fifoFrame_ilenm1 (s : State) (k prio ilen : Nat) :
    fget (fifoFrame s k prio ilen) FIFO_WFRAME_ILENM1 k = ilen % 64 := by
  rw [fget_of_onlyFields (fifoFrame_enable s k prio ilen).2 (by decide), fget_fset_same]
  rfl

theorem fget_fifoFrame_prio (s : State) (k prio ilen : Nat) :
    fget (fifoFrame s k prio ilen) FIFO_WFRAME_PRIO k = prio % 8 := by
  rw [fget_of_onlyFields (fifoFrame_enable s k prio ilen).2 (by decide),
    fget_of_onlyFields (onlyRegs_fset _ FIFO_WFRAME_ILENM1 k ilen).2 (by decide), fget_fset_same]
  rfl

theorem exec_fifoPeakRead {s : State} {k : Nat} (hk : fifoExists k = true) :
    exec (.fifoPeakRead k) s = .next (fifoPeakCmd s k) := (run_true _).trans (congrArg Host.Outcome.next (if_pos hk))

/-! ### The statement -/

/-- Settles O25: each clause is one of the equations above and what the replacement of the FIFO leaves alone. -/
theorem streamFifos : Obligations.StreamFifos := by
  refine ⟨⟨fun s k w len prio pois hk hlen hswap hopen hskip hdisc hovr hroom => ?_,
      fun s k w len prio pois hk hswap hopen hskip hdisc hovr hroom => ?_,
      fun s k w len prio pois i hk hopen hovr hskip hdisc hroom => ?_, fun s k w en len prio pois hk hswap hfull => ?_,
      fun s k w en len prio pois hk hswap hskip hfull => ?_,
      fun s k w len prio pois i hk hlen hopen hovr _ _ hroom => ?_,
      fun s k w en len prio pois i l hk hswap hopen hovr hskip hdisc hroom hw hi hl => ?_⟩,
    fun s k d i r c l hk hcur hr hw hpois hord hd hi => ?_, fun s k err hk hcur hr => ?_, fun s k hk hdue => ?_,
    fun s k hk hdue => ?_, fun s k hk => ?_, fun s k swap hk => ?_, fun s k swap prio ilen hk => ?_,
    fun s k v hk => exec_fifoModeWrite_of_none v hk, fun s k hk => ?_⟩
  · -- the first word of an item of several
    obtain ⟨hsame, hother, -, hflt, hregs⟩ := fifoPut_frame s k (fifoOpened (fifo s k) (itemBegun s w len prio pois))
    exact ⟨_, exec_fifoWrite hk (fifoWrite_start _ _ _ _ hswap hopen hskip hdisc hovr hroom (Nat.pos_of_ne_zero hlen)),
      hregs, hflt, hother, (congrArg Fifo.w hsame :), (congrArg Fifo.r hsame :), congrArg Fifo.wopen hsame⟩
  · -- an item of one word
    obtain ⟨hsame, hother, -, hflt, hregs⟩ := fifoPut_frame s k
      { fifoEnded (fifo s k) (itemBegun s w len prio pois) with skipLeft := 0 }
    exact ⟨_, exec_fifoWrite hk (fifoWrite_single _ _ _ _ hswap hopen hskip hdisc hovr hroom), hregs, hflt, hother,
      congrArg Fifo.wopen hsame, (congrArg Fifo.r hsame :), congrArg Fifo.w hsame⟩
  · -- the end word of the open item
    obtain ⟨hsame, hother, -, hflt, hregs⟩ := fifoPut_frame s k (fifoEnded (fifo s k)
      { i with words := i.words ++ [eccEnc w], poison := i.poison || pois })
    exact ⟨_, exec_fifoWrite hk (fifoWrite_last _ _ _ _ _ hopen hovr hskip hdisc hroom), hregs, hflt, hother,
      congrArg Fifo.wopen hsame, congrArg Fifo.w hsame⟩
  · -- a start word without room for its item
    exact exec_fifoWrite hk (fifoWrite_of_not_ready _ _ _ _ _ hswap (fifoWReady_start.trans (decide_eq_false (by omega))))
  · -- a later word at a full bank
    exact exec_fifoWrite hk
      (fifoWrite_of_not_ready _ _ _ _ _ hswap ((fifoWReady_later hskip).trans (decide_eq_false (by omega))))
  · -- a start word while an item is open
    obtain ⟨hsame, -, -, hflt, hregs⟩ := fifoPut_frame s k (fifoRestarted (fifo s k) i (itemBegun s w len prio pois))
    refine ⟨_, exec_fifoWrite hk (fifoWrite_start_of_open _ _ _ _ hopen hovr hroom hlen), ?_⟩
    obtain ⟨hfifo, hfields, hcount, hevent⟩ := fifoProto_frame
      (fifoPut s k (fifoRestarted (fifo s k) i (itemBegun s w len prio pois))) k
    rw [fget_of_onlyFields hregs (by decide)] at hcount
    exact ⟨congrArg Fifo.w ((hfifo k).trans hsame), hcount, onlyFields_trans hregs hfields, hflt ▸ hevent⟩
  · -- a word beyond the item's length
    refine ⟨_, exec_fifoWrite hk (fifoWrite_overrun _ _ _ _ _ _ hswap hopen hovr hskip hdisc hroom), ?_⟩
    obtain ⟨hfifo, hfields, -, hevent⟩ := fifoProto_frame
      (setFifo s k { poisonLast (fifo s k) with ovr := false, disc := !en }) k
    have hsame := (hfifo k).trans (fifo_setFifo_same s k _)
    refine ⟨?_, congrArg Fifo.disc hsame, fun j hj => (hfifo j).trans (fifo_setFifo_other s k _ j hj), hfields, hevent⟩
    refine (congrArg Fifo.w hsame).trans ((congrArg (List.map FItem.overrun) hw).trans ?_)
    exact map_overrun_of_last hl hi
  · -- the first word of the oldest item
    refine ⟨_, (exec_fifoRead 0 hk).trans
      (congrArg _ (fifoReadCmd_clean (fifoHead_arrival hcur hr hw hord) hpois hd hi)), rfl, rfl, rfl, rfl, rfl, ?_⟩
    have hsame := fifo_setFifo_same s k (fifoFirstTaken (fifo s k) i r l)
    exact ⟨congrArg Fifo.r hsame, congrArg Fifo.cur hsame, (congrArg Fifo.w hsame :), fifo_setFifo_other s k _⟩
  · -- an empty reading bank
    exact ⟨_, (exec_fifoRead err hk).trans (congrArg _ (fifoReadCmd_of_empty err (fifoHead_of_empty hcur hr))), rfl, rfl, rfl,
      fifo_setFifo_same s k _, fifo_setFifo_other s k _⟩
  · -- a swap cycle
    have hsame := fifo_setFifo_same s k (fifoSwap (fifo s k))
    exact ⟨_, (exec_fifoFreeSwap hk).trans (congrArg _ (fifoFreeSwap_of_due hdue)), rfl, congrArg Fifo.r hsame,
      congrArg Fifo.w hsame, congrArg Fifo.rbank hsame, fifo_setFifo_other s k _⟩
  · rw [exec_fifoFreeSwap hk, fifoFreeSwap_of_not_due hdue]
  · -- a flush
    obtain ⟨hsame, hother, hfields, hflt⟩ := fifoFlush_frame s k
    exact ⟨_, exec_fifoFlush hk, congrArg fifoWords hsame, congrArg fifoItems hsame, congrArg Fifo.wopen hsame,
      congrArg Fifo.rcut hsame, congrArg Fifo.skip hsame, hother, hfields, hflt⟩
  · -- a write of SWAP
    refine ⟨_, exec_fifoModeWrite swap hk, ?_⟩
    split
    case isTrue hempty =>
      rw [fifoModeSwap_of_empty _ hempty]
      exact ⟨onlyRegs_fset s FIFO_MODE_SWAP k _, (fget_fset_same s FIFO_MODE_SWAP k _).trans (Nat.mod_mod swap 2)⟩
    case isFalse hheld =>
      rw [fifoModeSwap_of_held _ hheld]
      exact ⟨onlyRegs_fset s FIFO_MODE_REFUSED k 1, fget_fset_same s FIFO_MODE_REFUSED k 1⟩
  · -- a write of SWAP and the framing
    exact ⟨_, exec_fifoModeWrite_framing swap prio ilen hk,
      onlyRegs_trans (onlyRegs_fifoModeSwap s k _) (onlyRegs_fifoFrame _ k prio ilen), fget_fifoFrame_prio _ k prio ilen,
      fget_fifoFrame_ilenm1 _ k prio ilen⟩
  · -- a read of PEAK
    exact ⟨_, exec_fifoPeakRead hk, (onlyRegs_fset s FIFO_PEAK_PEAK k _).2, rfl, rfl,
      fget_fset_same s FIFO_PEAK_PEAK k _⟩

end Machine
end Sys2Proof
end
